-- ==== Sys2Proof/Word.lean ====
section
/-!
DEFINITION. The word types of the IX4096 model, the register-field descriptor, and the sparse table that holds
every replicated piece of state (registers by BAR0 address, per-lane and per-cell records, memories).
-/
namespace Sys2Proof

/-- A register word: all registers are 32 bits wide (R2). -/
abbrev W32 := BitVec 32

/-- One byte of a frame, an image, a buffer or a memory. -/
abbrev Byte := BitVec 8

/-- A sparse table by key: keys strictly rising, and no entry equal to what an unlisted key reads as. -/
abbrev Tab (α : Type) := List (Nat × α)

/-- A byte memory: the sparse table of bytes (the host's cells). An unlisted byte reads 0 (log 3). -/
abbrev Mem := Tab Byte

/-- A register field, as R2 names it: the byte address of its register and its bit range. -/
structure Fld where
  /-- BAR0 byte address of the register -/
  addr : Nat
  /-- least bit -/
  lo : Nat
  /-- number of bits -/
  width : Nat
  deriving DecidableEq, Repr

/-- The same field `off` bytes further on (a replicated register). -/
def Fld.at (f : Fld) (off : Nat) : Fld := { f with addr := f.addr + off }

/-- One register, or one run of equal registers, of a field map: where it stands, its reset word, and which of its bits a
write stores (RW), clears by a one (W1C and RS), keeps through a block reset (RS), or takes as an action (WO), by R3. -/
structure RegRow where
  base : Nat
  stride : Nat
  count : Nat
  reset : Nat
  rw : Nat
  w1c : Nat
  rs : Nat
  wo : Nat
  deriving DecidableEq, Repr

end Sys2Proof
end

