-- ==== Sys2Proof/Syntax.lean ====
section
/-!
DEFINITION. The commands the IX4096 block takes, one constructor per row of the opcode table. An operand carries what arrives
from outside with the command: sampled pins, words, bytes, measured values, elapsed counts.
An operand with a value written at it stands for that value where a sender does not name it: every byte enabled, no time gone by, no
samples or blocks beyond the ones given.
-/
namespace Sys2Proof

/-- The path a register access takes: PCI Express or the SPI target in the hub (R442), a management message in the cell
(R10). -/
inductive Path where
  | pcie
  | spi
  | mgmt
  deriving DecidableEq, Repr

/-- Who asks for an MRAM commit (R499, R500). -/
inductive CommitKind where
  | thermal
  | wear
  | strata
  | flush
  | refresh
  deriving DecidableEq, Repr

/-- A burst as it came over a lane: the 32 bits where its delimiter stands, the first of them `at_` UI after T_p of the slot, and the three
blocks that follow, as received (R91, R128). -/
structure BurstRx where
  at_ : Int
  delim : BitVec 32
  blks : List (BitVec 66)
  deriving DecidableEq, Repr

/-- What the hub's burst receiver saw in one slot (R85, R91, R93 to R95, R103, R130, R134). -/
structure BurstObs where
  /-- bursts in the order of their arrival -/
  rx : List BurstRx := []
  /-- unframed bits received during the slot, the first in bit 0, in raw mode -/
  rawLen : Nat := 0
  rawBits : Nat := 0
  /-- amplitude detector, and level of the LSD pin -/
  sd : Bool := true
  lsd : Bool := true
  /-- ns since the last period boundary -/
  sinceP : Nat := 0
  /-- S_1 to S_8, and the signed sum of amplitude errors -/
  sumDfe : List Int := []
  sumVga : Int := 0
  /-- codes the receiver ended the burst with -/
  phEnd : Nat := 32
  dfeEnd : Nat := 0
  vgaEnd : Nat := 0
  deriving DecidableEq, Repr

/-- A frame, or a protocol exception, that a CAN controller sees on its bus (R459, R467). -/
structure CanObs where
  /-- bytes 0 to 3 of a silt buffer: [28:0] ID, [29] XTD, [30] RTR, [31] FDF -/
  ident : Nat := 0
  dlc : Nat := 0
  brs : Bool := false
  esi : Bool := false
  data : List (BitVec 8) := []
  /-- CAN-clock cycles from the last write of the timestamp prescaler to the sample point of the start of frame -/
  cyc : Nat := 0
  /-- it ends in an error instead; further counts of 8 that the error takes under ISO 11898-1 -/
  err : Bool := false
  more : Nat := 0
  /-- it is a protocol exception, not a frame -/
  pxe : Bool := false
  deriving DecidableEq, Repr

/-- How an attempt of a CAN controller ends (R463). -/
inductive CanEnd where
  | sent
  | lost
  | error
  deriving DecidableEq, Repr

/-- The commands of the IX4096 block: one constructor per row of the opcode table. -/
inductive Instr where
  /-- R11. Rising edge of PORST_N samples the ROLE, LVL1 and BOOTSRC straps, resets the device and starts the role's clods and loader. -/
  | porstNRise (role : Fin 4) (lvl1 : Bool) (bootsrc : Fin 4)
  /-- R492. A monitored rail falls below its threshold and forces an internal reset with cause 0x03. -/
  | railBelowThreshold (rail : Fin 5)
  /-- R493. The device leaves internal reset once PORST_N is high, PGOOD has gone high and every monitored rail is above its threshold. -/
  | internalResetRelease (railsLow : Fin 32)
  /-- R493. The supply controller starts VDD with a soft start after VDDA has been above 1.70 V for 1 ms. -/
  | vddStart (cfgd active : Fin 64) (mv vin : Nat)
  /-- R485. A VSEL value unchanged for 2 µs is accepted and becomes a new target. -/
  | vselAccept (vsel : Fin 16) (dt : Nat)
  /-- R484. A write to the selected VSETn, to VSW or to TSRC sets a new target, and slewing starts. -/
  | vrcTargetWrite (p : Path) (reg : Fin 19) (w : W32) (dt : Nat)
  /-- R485. The output has been within ±PG_WIN of the reached target for SETTLE µs, and power-good is unmasked. -/
  | pgUnmask (mv dt : Nat)
  /-- R485. The output rises above target plus OV_MV and raises OV. -/
  | vrcOv (mv dt : Nat)
  /-- R491. The output stays below target minus PG_WIN for 10 µs while power-good is unmasked, which raises UV. -/
  | vrcUv (mv : Nat)
  /-- R486. The total current exceeds n × I_ADD, and one shed phase is added at the next cycle. -/
  | phaseAdd (i : Nat) (k : Fin 6)
  /-- R486. The total current stays below (n − 1) × I_SHED for SHED_T, and one phase is shed. -/
  | phaseShed (i : Nat) (k : Fin 6) (us : Nat := 0)
  /-- R487. HIC_N consecutive cycles reach ILIM, so all phases stop, HICCUP is raised and PGOOD goes low. -/
  | hiccup (n : Nat := 0)
  /-- R487. The hiccup off time ends and the controller retries with a soft start from the measured voltage. -/
  | hiccupRetry (mv : Nat) (ms : Nat := 0)
  /-- R489. The sync source is absent for two of its periods, so switching continues at FSW and SYNC_LOST is set. -/
  | syncLost
  /-- R489. A sync edge returns and the controller resynchronises with a phase step of at most one cycle. -/
  | syncEdgeResync
  /-- R490. VRC_VIN stays below PFW_MV for 1 µs and the power-fail warning is raised to the loess domain, the strata recorder and the wear commit. -/
  | pfw (vin vhold : Nat)
  /-- R480. A PLL loses its reference or its lock, and the device gates clocks, moves to the fallback oscillator and blocks by role. -/
  | pllLoss (k : Fin 3) (dt : Nat := 0)
  /-- R481. The lost PLL has stayed locked for 1 ms, and the device restarts internally with cause 0x04. -/
  | clockLossRestart
  /-- R477. A write to CLK.REF_CFG is checked and relocks PLL0 and PLL1. -/
  | refCfgWrite (p : Path) (w : W32)
  /-- R477. The clocks of a commanded relock restart within 200 µs. -/
  | pllRelockDone
  /-- R478. PLL0 of a cell has been outside TRACK for 1 ms and changes to the selected input. -/
  | cellRecFallback
  /-- R478. TRACK returns and PLL0 of a cell changes back to the recovered clock. -/
  | cellRecReturn
  /-- R482. A write to CLK.OUTn_CFG stops the output, applies the change and restarts it. -/
  | clkoutCfgWrite (p : Path) (k : Fin 4) (w : W32)
  /-- R494. VBAK or VDDA returns after both were absent, so the loess registers reset and LOST sets. -/
  | loessPowerOn (vdda : Bool)
  /-- R494. The 250 ms loess sample measures VBAK and the hold-up store and samples the tamper inputs. -/
  | loessSample (vbak vhold : Nat) (low : Fin 4) (vdda cool : Bool)
  /-- R496. A write of one to a tamper LATCH clears it only while the input is high. -/
  | tamperLatchClear (p : Path) (w : W32)
  /-- R495. A write of SET loads the RTC seconds, zeroes the fraction and sets RTC_VALID. -/
  | rtcSet (p : Path) (ticks : Nat)
  /-- R500. An MRAM commit asks for an energy reservation and is granted, or is refused with a truncation marker. -/
  | commitRequest (kind : CommitKind) (n vhold : Nat)
  /-- R500. A granted commit ends, its reservation is released and the marker reserve may be taken again. -/
  | commitEnd (kind : CommitKind) (vhold : Nat)
  /-- R76. The loader starts from the strapped source after reset, or fails at once with ERR 0x01 in the hub role with BOOTSRC 0b11. -/
  | loadStart
  /-- R78. A write of IMG.CTRL.RELOAD reloads from the strapped source, or is refused with 0x16 while deblocked. -/
  | reload (p : Path)
  /-- R78. A write of IMG.CTRL.HOST_START starts a host load through IMG.DATA, or is refused while deblocked. -/
  | hostStart (p : Path)
  /-- R80. A host write of the next image word to IMG.DATA enters the load FIFO, or fails the load with 0x15 when FREE is zero. -/
  | imgDataWrite (p : Path) (w : W32)
  /-- R76. Image bytes arrive from the source and the header, section-table and CRC checks run in order. -/
  | imageBytesIn (n : Nat) (bs : List Byte)
  /-- R76. The source delivers no byte for 100 ms, or 1 s in host loading, and the load ends with a stall error. -/
  | loadStall
  /-- R79. The last image byte enters, and key and signature verification, content checks and application begin. -/
  | lastImageByte
  /-- R66. Application of the sections completes, the loader reads DONE and the control clod and lanes are released. -/
  | imageApplied (dt t : Nat) (vhold : Nat := 0)
  /-- R73. A write to the cell-table window is discarded for the live bank, or stored and marked dirty in the shadow bank. -/
  | ctWindowWrite (p : Path) (entry : Fin 4096) (k : Fin 16) (be : Fin 16) (w : W32)
  /-- R97. A host read of EQ_PRESET bytes of an entry loads or empties the path's EQ_PRESET latch. -/
  | ctEqPresetRead (p : Path) (entry : Fin 4096) (which : Fin 3) (be : Fin 16 := 15)
  /-- R74. A write of IMG.CT_CTRL.COMMIT sets COMMIT_PEND and starts the commit checks. -/
  | ctCommit (p : Path) (bank : Bool)
  /-- R74. The commit checks finish and record success or CT_ERR and ERR_ENTRY. -/
  | ctCommitChecksDone
  /-- R75. A write of IMG.CT_CTRL.DISCARD clears all dirty marks. -/
  | ctDiscard (p : Path) (bank : Bool)
  /-- R67. IMG.OTP_CMD with OP program writes the hash into a key slot, or is ignored with CMD_ERR. -/
  | otpProgram (p : Path) (slot : Fin 4)
  /-- R67. IMG.OTP_CMD with OP revoke revokes a key slot, or is ignored with CMD_ERR. -/
  | otpRevoke (p : Path) (slot : Fin 4)
  /-- R80. The OTP program operation completes within 2 ms and PROG shows the result. -/
  | otpProgramDone
  /-- R17. A write to SYS.CLOD_PWR or SYS.QUAD_PWR gates or powers clods, or is discarded while deblocked for an active unit. -/
  | clodGateWrite (p : Path) (quad : Bool) (w : W32)
  /-- R18. An enabled lane quad becomes ready for lane training and QUAD_STAT shows it. -/
  | quadReady (q : Fin 32) (dt : Nat := 0)
  /-- R45. A write to SYS.PERIOD_CFG is accepted to take effect at the next boundary, or is discarded while deblocked. -/
  | periodCfgWrite (p : Path) (w : W32)
  /-- R46. A read of SYS.PCNT_LO returns the low counter bits and latches the high bits into PCNT_HI. -/
  | pcntLoRead (p : Path) (be : Fin 16 := 15)
  /-- R21. At period boundary P the counter increments, the sample set is released and the period's evaluation, modulation, selection, command assembly and framing run. -/
  | periodBoundary (ref : Nat) (conv : List (List Int)) (ops : List (Fin 6))
  /-- R44. 1,024 consecutive periods with |PHASE_ERR| ≤ 2 ns set LOCKED. -/
  | alignLocked (ptp : Nat)
  /-- R44. PTP reports not locked, or 1.5 s passes without a 1PPS edge, so the hub enters holdover. -/
  | holdoverEnter
  /-- R456. A rising 1PPS edge is timestamped and its time crosses S-STC for period discipline. -/
  | ppsInEdge (ticks : Nat)
  /-- R243. At V_n = P_n + 340 ns checkpoint K_n becomes valid unless a mismatch fell in its window. -/
  | checkpointValidate
  /-- R122. An upstream cycle boundary advances n, changes slot assignments and runs the stale, unresponsive and accounting checks. -/
  | upstreamCycleBoundary
  /-- R100. Setting LNK.CTRL.DS_EN on a ready quad starts the downstream transmitter in RUN. -/
  | laneDsEnable (p : Path) (lane : Fin 128) (w : W32) (dt : Nat := 0)
  /-- R100. Clearing DS_EN puts the transmitter in electrical idle (OFF) and releases the lane's cells. -/
  | laneDsDisable (p : Path) (lane : Fin 128) (w : W32) (dt : Nat := 0)
  /-- R100. Setting DS_SLEEP puts the transmitter to sleep, or records an access error. -/
  | laneDsSleep (p : Path) (lane : Fin 128) (w : W32) (dt : Nat := 0)
  /-- R100. Clearing DS_SLEEP or opening admission sends the training burst and enters WAKE. -/
  | laneDsWake (p : Path) (lane : Fin 128) (w : W32) (dt : Nat := 0)
  /-- R100. 64 blocks after the training burst the lane returns to RUN at the next frame start. -/
  | laneWakeDone (lane : Fin 128) (dt : Nat := 0)
  /-- R107. A write of LNK.CTRL.LOOPBACK starts a loopback, or is discarded when its conditions fail. -/
  | loopbackRequest (p : Path) (lane : Fin 128) (w : W32) (dt : Nat := 0)
  /-- R108. 1 s without renewal ends a cell's far-end loopback and sets FE_TIMEOUT. -/
  | feLoopbackTimeout
  /-- R85. SD rises in ACQUIRE and the cell receiver locks its CDR and sweeps and adapts its equaliser. -/
  | rxSignalDetect (amp : Bool := true) (lsd : Bool := true)
  /-- R85. Adaptation ends 38 µs after CDR lock and the receiver enters BLOCK_SEARCH. -/
  | rxAdaptDone (eq0 eq1 : W32)
  /-- R85. 64 consecutive valid sync headers set BLOCK_LOCK, and the receiver enters TRACK. -/
  | blockLock (t : Nat := 0) (blks : List (BitVec 66) := [])
  /-- R85. No block lock within 200 µs returns the receiver to ACQUIRE. -/
  | blockSearchTimeout
  /-- R85. 16 invalid sync headers within 64 blocks in TRACK clear BLOCK_LOCK. -/
  | lockLost (blks : List (BitVec 66))
  /-- R85. SD low for 100 ns freezes the codes and enters HOLD. -/
  | los (amp : Bool := false) (lsd : Bool := false)
  /-- R85. SD returns within 1 ms of LOS and the receiver relocks on the training burst. -/
  | holdResume (amp : Bool := true) (lsd : Bool := true)
  /-- R85. 1 ms of LOS discards the frozen codes and returns to ACQUIRE. -/
  | holdTimeout
  /-- R90. For each slot the hub pulses LRX_RST and loads the burst receiver's preset. -/
  | upstreamSlot (lane : Fin 128) (slot : Fin 36)
  /-- R101. A sleeping hub burst receiver wakes 200 ns before the LRX_RST pulse of the next slot it must hear. -/
  | usRxWake (lane : Fin 128)
  /-- R130. The search window of a slot closes and the hub accepts, counts as an error or counts as missing the burst, updating the cell table and grading. -/
  | burstReceived (lane : Fin 128) (slot : Fin 36) (b : BurstObs)
  /-- R149. A rank-array operation leaves the arm queue and completes 12 cycles later. -/
  | rankQueueOp (a : Fin 6)
  /-- R134. At the boundary after a valid announcement the hub runs decide and sends RANGE_ADMIT or REFUSE. -/
  | admissionDecide (lane : Fin 128)
  /-- R136. No confirming report arrives within JOIN_CYC cycles, so the slot is freed and REFUSE 0x0B or 0x0C is sent. -/
  | joinTimeout (lane : Fin 128) (slot : Fin 32)
  /-- R138. RELEASE_MISS consecutive expected bursts are missing and the hub releases the cell with 0x0D. -/
  | releaseMiss (lane : Fin 128) (slot : Fin 32)
  /-- R138. Q cycles after a release the slot leaves quarantine. -/
  | quarantineEnd (lane : Fin 128) (slot : Fin 32)
  /-- R139. After 256 bursts whose mean arrival offset exceeds ±8 UI the hub sends TIMING_ADJ. -/
  | timingAdjTrigger (lane : Fin 128) (slot : Fin 32)
  /-- R138. A write of CLT.LCTRL.RELEASE releases the cell of RELEASE_SLOT with 0x0E. -/
  | laneRelease (p : Path) (lane : Fin 128) (w : W32)
  /-- R127. Setting or clearing CLT.LCTRL.ADM_OPEN starts or ends quiet runs and announcements on the lane. -/
  | admOpenWrite (p : Path) (lane : Fin 128) (w : W32) (dt : Nat := 0)
  /-- R145. A write of CLT.LCTRL.LEVEL is applied, or is discarded while a cell of the lane is joining or admitted. -/
  | laneLevelWrite (p : Path) (lane : Fin 128) (w : W32)
  /-- R122. A write of CLT.DREF moves the upstream anchor, or is discarded while cells are joining or admitted. -/
  | cltDrefWrite (p : Path) (w : W32)
  /-- R144. A write of CLT.MCTRL.SEND queues the lane's mailbox message. -/
  | mailboxSend (p : Path) (lane : Fin 128) (w : W32)
  /-- R144. MGMT_TO cycles pass without a reply, so the message is resent or ends with a timeout. -/
  | mgmtTimeout (lane : Fin 128)
  /-- R145. A write of CLT.REFLOG_POP removes the head entry of the refusal log. -/
  | reflogPop (p : Path)
  /-- R118. A cell receives a downstream frame, checks the header and its own word, and updates its admission and hold state. -/
  | cellFrameReceived (start : Nat) (blks : List (BitVec 66)) (lms : List Int)
  /-- R328. At the apply instant of a received frame the cell resolves its state under R329 and schedules its gate edges. -/
  | applyInstant
  /-- R323. A scheduled gate, Miller-clamp or dead-time-delayed turn-on edge falls due at the pins. -/
  | gateEdgeDue (fb : Fin 16)
  /-- R332. The expected apply instant of a missing frame passes and m rises; at the H-th the cell blocks and sets HOLD_OUT. -/
  | holdMissingFrame
  /-- R37. A cell recognises a stop symbol, blocks, discards pending frames and latches STOP_LATCHED. -/
  | stopSymbolRx (t : Nat) (blks : List (BitVec 66) := [])
  /-- R34. A cell recognises an abort block and discards the frame's commands or its management field by position. -/
  | abortBlockRx (blks : List (BitVec 66))
  /-- R131. 64 periods without RANGE_ADMIT or REFUSE return an announced cell to WAIT with a larger backoff. -/
  | announceTimeout
  /-- R131. JOIN_CYC + 5 non-quiet cycles pass without the own word, so the joining cell returns to WAIT. -/
  | joiningTimeout
  /-- R131. The 1 s timer of a refused cell ends and the cell returns to LISTEN. -/
  | refusedTimerEnd
  /-- R131. The receiver has been out of TRACK for more than 1 ms, so the cell stops reporting and returns to LISTEN. -/
  | trackLost1ms
  /-- R124. At its scheduled instant the cell latches its report and sends its burst with LTX_EN. -/
  | cellBurstTx (cyc : Fin 256) (slot : Fin 36) (ahead : Nat)
  /-- R102. A sleeping cell upstream serialiser wakes 500 ns before its next burst. -/
  | cellUsWake
  /-- R142. An announced cell takes its index, slot, level, E_c, A_c and JOIN_CYC and enters JOINING. -/
  | rangeAdmit
  /-- R131. A cell refused by the hub backs off and redraws, or enters REFUSED. -/
  | refuse
  /-- R131. A released cell stops reporting and returns to LISTEN. -/
  | release
  /-- R139. A cell adds the signed adjustment to A_c from its next burst. -/
  | timingAdj
  /-- R142. A cell reads up to three register words and queues a reply. -/
  | regRead (dt ticks : Nat)
  /-- R142. A cell writes up to 26 register words of the permitted blocks. -/
  | regWrite (dt : Nat)
  /-- R142. LINK_TEST operation 0 ends the cell's loopback or PRBS test. -/
  | linkTestEnd
  /-- R108. LINK_TEST operation 1 starts or renews the cell's far-end loopback. -/
  | linkTestFarEnd
  /-- R103. LINK_TEST operation 2 puts the cell in raw PRBS mode. -/
  | linkTestRawPrbs
  /-- R104. LINK_TEST operation 3 makes the cell send one test burst in its next granted slot. -/
  | linkTestTestBurst
  /-- R137. A cell in loader mode stores 104 image bytes at the given offset. -/
  | imgChunk
  /-- R137. A cell checks the transferred image's CRC and completeness, then loads it or reports the missing offset. -/
  | imgEnd
  /-- R142. A cell reads up to three strata words and queues a reply. -/
  | strataRead
  /-- R103. A write of LNK.PRBS_CTRL.MODE enters raw or service PRBS mode, or is discarded. -/
  | prbsModeSet (p : Path) (lane : Fin 128) (w : W32) (dt : Nat := 0)
  /-- R105. A write of PRBS_CTRL.CLR zeroes the three PRBS counters. -/
  | prbsClr (p : Path) (lane : Fin 128) (w : W32)
  /-- R106. A write of PRBS_INJ.SHOT injects one error into the pattern, a command-word CRC-8 or a frame CRC-32. -/
  | prbsInjShot (p : Path) (lane : Fin 128)
  /-- R106. 2^INJ_EXP pattern bits pass and one pattern bit is inverted. -/
  | prbsPeriodicInject (lane : Fin 128) (dt : Nat := 0)
  /-- R105. A read of PRBS_BITS_LO returns the low count and latches the high bits. -/
  | prbsBitsLoRead (p : Path) (be : Fin 16) (lane : Fin 128 := 0)
  /-- R154. The countdown of a refresh-pending cell ends with REFRESH_DUE still set and the cell becomes must-bypass. -/
  | refreshCountdownEnd (cell : Fin 4096)
  /-- R157. MAX_PER × 1,024 periods in recharge abandon the recharge with 0x52 and raise RECH_FAIL. -/
  | rechargeTimeout (cell : Fin 4096)
  /-- R179. A write of GRD.ARM_RECH_CLR ends exclusion 0x52 for every cell of the arm. -/
  | armRechClr (p : Path) (a : Fin 6)
  /-- R163. A write of MOD.CTRL.CARRY_CLR zeroes every carry at the next period boundary. -/
  | carryClr (p : Path)
  /-- R179. A write of GRD.RSNAP.TAKE copies the arm's next selection snapshot into the buffer. -/
  | rsnapTake (p : Path) (arm : Fin 8)
  /-- R173. A window of 2^STAT_EXP periods ends and SWCNT and SWRATE are written. -/
  | statWindowEnd
  /-- R197. A host write to a tile parameter, TPRESET, SLOAD or constant word goes to the pending bank and marks it dirty, or is discarded. -/
  | paramWrite (p : Path) (word : Fin 262144) (be : Fin 16) (w : W32)
  /-- R213. A write through the FUN tile window to a macro tile goes to the pending bank, or is discarded. -/
  | funParamWrite (p : Path) (tile : Fin 96) (off : Fin 512) (w : W32)
  /-- R198. A write of CEN.PCOMMIT.GO starts a parameter commit at the next boundary or outer boundary. -/
  | pcommitGo (p : Path) (align : Bool)
  /-- R199. A write of GO with AT_PCNT schedules the commit for the named boundary, or refuses it. -/
  | pcommitGoAtPcnt (p : Path) (align : Bool)
  /-- R204. A write of INJ_CTRL.START runs the injection source from the next boundary. -/
  | injStart (p : Path) (k : Fin 4) (w : W32)
  /-- R204. A write of INJ_CTRL.STOP stops the source at once or at its next phase wrap. -/
  | injStop (p : Path) (k : Fin 4) (w : W32)
  /-- R204. DUR periods pass and the injection source stops. -/
  | injDurEnd (k : Fin 4)
  /-- R206. A write of CAP_CTRL.ARM starts recording and clears DONE. -/
  | capArm (p : Path) (w : W32)
  /-- R206. A write of CAP_CTRL.ABORT returns the capture unit to idle without DONE. -/
  | capAbort (p : Path) (w : W32)
  /-- R206. A write of CAP_CTRL.FORCE triggers the capture. -/
  | capForce (p : Path) (w : W32)
  /-- R206. 8,192 − PRE samples after the trigger, STATE reads done and CAP_DONE is raised. -/
  | captureDone
  /-- R208. A write of CORR_CTRL.START starts a correlator, or sets ERR. -/
  | corrStart (p : Path) (c : Fin 4) (w : W32)
  /-- R208. The NCYC-th reference wrap ends accumulation and I, Q and N are written, or OVF stops it. -/
  | corrDone (c : Fin 4)
  /-- R217. The grid synchroniser's RELOCK command clears the lock latch and restarts the count of 1,024. -/
  | relock (p : Path) (j : Fin 32)
  /-- R217. 1,024 consecutive samples with tile 6's y1 false set MSTAT.LOCK. -/
  | gridSyncLock (j : Fin 32)
  /-- R227. The fault ride-through CLR command clears the fault-seen latch at the boundary. -/
  | clr (p : Path) (j : Fin 32)
  /-- R233. The islanding RESYNC command returns to grid-following operation when the angle difference is within MARG. -/
  | resync (p : Path) (j : Fin 32)
  /-- R234. The tracker's RESTART command loads Vref with V_start at the boundary. -/
  | restart (p : Path) (j : Fin 32)
  /-- R248. The copies' outputs differ, so the frame is cancelled, an abort is placed and a restore starts. -/
  | loamMismatch (point index : Fin 256) (offs : Nat)
  /-- R248. Load, rebuild and replay are complete, the pair reads locked, and evaluation resumes at P_r. -/
  | loamRestoreReady (ecc : Fin 3)
  /-- R257. A write of LMP.CTRL.FORCE_MM inverts copy B's next tile output bit, or is discarded while deblocked. -/
  | forceMm (p : Path)
  /-- R256. A write of LMP.CTRL.ESC_CLR clears the escalation while blocked and locked. -/
  | escClr (p : Path)
  /-- R265. A write of LMP.CTRL.CNT_CLR zeroes MM_CNT and RST_CNT. -/
  | cntClr (p : Path)
  /-- R258. A write of LMP.SH_CTRL.SPLIT splits the pair at the next boundary, or is discarded. -/
  | split (p : Path) (w : W32)
  /-- R262. A write of LMP.SH_CTRL.HANDOVER requests hand-over at SH_PCNT, or is refused. -/
  | handover (p : Path) (w : W32)
  /-- R263. At L_(h−1) copy B's snapshot is latched, copy A is loaded, and at P_h the pair relocks. -/
  | handoverExecute
  /-- R264. A write of LMP.SH_CTRL.ABANDON relocks the pair on copy A at the second boundary. -/
  | abandon (p : Path) (w : W32)
  /-- R264. A split lasting MAX_U × 2^20 periods relocks on copy A and sets SPLIT_TIMEOUT. -/
  | splitTimeout
  /-- R271. At a cell acquisition window end the cell updates VC, stages, LOW_ENERGY, bootstrap, temperature and wear. -/
  | cellWindowEnd (conv : List Int) (t vhold : Nat)
  /-- R273. A write to ACQ.CORE_CFG, ACQ.SEQ or a FIR coefficient is accepted or discarded while deblocked. -/
  | acqCoreCfgWrite (p : Path) (c : Fin 4) (off : Fin 128) (w : W32) (dt : Nat)
  /-- R277. A write to ACQ.IN_GAIN is held until the next IN_OFFS write of the input. -/
  | acqInGainWrite (p : Path) (i : Fin 32) (w : W32)
  /-- R277. A write to ACQ.IN_OFFS applies the gain and offset pair from the boundary at least 1 µs later. -/
  | acqInOffsWrite (p : Path) (i : Fin 32) (w : W32) (dt : Nat)
  /-- R280. 2^(CAL_EXP + 2) calibration conversions per slice set EST_SETTLED. -/
  | estSettled (c : Fin 4)
  /-- R283. SCAL_CTRL OP 1 averages r with zero at the sensor to give r_z. -/
  | scalZeroCapture (p : Path) (i : Fin 32)
  /-- R283. SCAL_CTRL OP 2 averages r with the reference applied to give r_f. -/
  | scalRefCapture (p : Path) (i : Fin 32)
  /-- R283. SCAL_CTRL OP 3 computes and applies GAIN and OFFS. -/
  | scalCompute (p : Path) (i : Fin 32)
  /-- R283. A system-calibration operation completes in state done or failed. -/
  | scalDone (dt : Nat)
  /-- R285. A comparator's filtered output changes, and the latch sets with the filtered output. -/
  | comparatorCrossing (c : Fin 32) (vs : List Int) (t : Nat) (pin : Option (Fin 8) := none)
  /-- R286. A write of one to CMP.CSTAT.LATCH clears the latch only while the filtered output is deasserted. -/
  | cmpLatchClear (p : Path) (c : Fin 32) (w : W32)
  /-- R287. A write to CMP.CCFG that enables the comparator or changes MODE, SRC or FILT restarts it under the power-up rule. -/
  | cmpCfgWrite (p : Path) (c : Fin 32) (w : W32)
  /-- R290. A write setting CCFG.TEST switches the input to the internal test level, or is discarded while deblocked. -/
  | cmpTestSet (p : Path) (c : Fin 32) (w : W32)
  /-- R288. A chatter window of 2^CHAT_EXP µs ends and WIN is compared with CHAT_TH. -/
  | chatterWindowEnd (dt : Nat := 0)
  /-- R292. A write of CCTL.CNT_CLR zeroes WIN and TOTAL. -/
  | cmpCntClr (p : Path) (c : Fin 32)
  /-- R295. An asserted source with a clear fired latch fires and the router takes its mapped actions. -/
  | eventFire (k : Fin 128) (dt : Nat := 0)
  /-- R295. A write of one to a FIRED bit clears it only while the source is deasserted. -/
  | firedClear (p : Path) (i : Fin 4) (w : W32)
  /-- R302. A write to EVR.MAP is applied, or is discarded while deblocked for protected fields. -/
  | evrMapWrite (p : Path) (k : Fin 128) (w : W32)
  /-- R299. A write to EVR.TRIP_CLR releases a TRIP_OUT, holds the clear until MIN_MS, or is rejected. -/
  | tripClr (p : Path) (m : Fin 16)
  /-- R299. MIN_MS runs out with a held clear, and the TRIP_OUT pin is released. -/
  | tripMinMsExpire (k : Fin 4) (dt : Nat := 0)
  /-- R317. A write of EVR.SOFT.SET asserts source 127. -/
  | softSet (p : Path)
  /-- R317. A write of EVR.SOFT.CLR deasserts source 127. -/
  | softClr (p : Path)
  /-- R317. A write to EVR.FCNT j zeroes its four firing counts. -/
  | fcntClear (p : Path) (j : Fin 32)
  /-- R300. A write of EVR.CONV_CTRL.DEBLOCK requests deblock at the next boundary, or is refused with a code. -/
  | deblock (p : Path) (dt : Nat)
  /-- R301. A write of EVR.CONV_CTRL.BLOCK blocks the converter from the next frame assembled. -/
  | block (p : Path)
  /-- R354. A write to EVR.DBLK_CFG is accepted only while the converter is blocked. -/
  | dblkCfgWrite (p : Path) (w : W32)
  /-- R304. At a PWM period start S the pair's request is formed, the minimum-pulse rule applied and edges scheduled. -/
  | pwmPeriodStart (g : Fin 4)
  /-- R304. A write of PWM.GRP_CFG.EN enables the group with its anchor at the next boundary, or disables it. -/
  | pwmGrpEnWrite (p : Path) (g : Fin 4) (w : W32)
  /-- R310. A write of PWM.GCTRL.COMMIT applies the group's shadow values at its next period start, or is torn or refused. -/
  | pwmCommit (p : Path) (m : Fin 16)
  /-- R312. A write of PAIR_CFG.OVR_MODE or FORCE disables, forces or releases the pair. -/
  | pwmOverrideWrite (p : Path) (pair : Fin 12) (w : W32)
  /-- R314. A filtered fault input asserts outside blanking, sets LATCH and puts groups in high impedance. -/
  | pwmFault (k : Fin 4) (pins : List Bool := []) (dt : Nat := 0)
  /-- R314. A write of one to FLT_STAT.LATCH clears it only while the filtered input is deasserted. -/
  | pwmFltLatchClear (p : Path) (k : Fin 4)
  /-- R315. A write of PWM.GCTRL.HIZ_CLR takes a group out of high impedance, or is rejected. -/
  | hizClr (p : Path) (m : Fin 16)
  /-- R333. DSAT exceeds its threshold on four samples, so a soft turn-off and bypass or permanent bypass follow. -/
  | desatDetect (k : Fin 4) (above : List Bool) (t : Nat := 0)
  /-- R325. STO_T × 20 ns after GD_STO rises, GD_ON and GD_STO fall together. -/
  | softTurnoffEnd (k : Fin 4) (t : Nat)
  /-- R327. GD_FB fails to follow GD_ON within FB_TMO and fault 0x85, 0x86 or 0x8C is put in force. -/
  | gateFbTimeout (k : Fin 4) (high : Bool) (t : Nat)
  /-- R333. BYP_FB is still low BYP_TMO ms after BYP_CMD rose, so fault 0x87 is put in force. -/
  | bypTimeout (t : Nat)
  /-- R335. BYP_FB reads high, so all gates go off and the state becomes permanent bypass. -/
  | bypFbHigh (t : Nat)
  /-- R334. A write of GDC.FLT_CLR.CLR clears latching faults whose cause has gone, or is answered 0x02. -/
  | fltClr (p : Path)
  /-- R336. A write of GDC.SELFTEST.GO starts the comparator and detector self-test, or is refused. -/
  | selftestGo (p : Path) (w : W32)
  /-- R336. A self-test item passes or fails on its timeout, and the next item starts. -/
  | selftestItemDone (vs : List Int) (up : List Bool := []) (dn : List Bool := []) (t : Nat := 0)
  /-- R350. A write of GDC.OVR is accepted only while the last header carried CONV_BLK. -/
  | gdcOvrWrite (p : Path) (w : W32)
  /-- R343. 2^24 µs of powered time pass and the cell commits its wear record. -/
  | wearCommitTimer (t : Nat) (vhold : Nat := 0)
  /-- R505. Every 10 ms the protection clod reads the sensors and threshold read-backs and evaluates limits, rates, band and shutdown. -/
  | housekeepingRound (die : List Int) (dt t : Nat)
  /-- R512. The shutdown record and granted commits complete, and every clod except the loess domain and islands is held in reset. -/
  | thermalSdReset
  /-- R513. A write of THM.SD.CLR restarts the cooled hub with cause 0x05. -/
  | thmSdClr (p : Path)
  /-- R517. An event enters the strata intake, or is dropped when the intake is full. -/
  | strataEvent (code : Fin 65536) (data : BitVec 64)
  /-- R517. Intake events are committed to the ring in a group of up to 64 writes. -/
  | strataGroupCommit (vhold : Nat)
  /-- R516. The ring scan at image application completes and the head is found. -/
  | strataScanDone
  /-- R519. A freeze action or STR.CTRL.FREEZE write takes the oldest unlocked slot or records only event 0x0040. -/
  | strataFreeze (p : Path) (w : W32)
  /-- R520. POST sets after the trigger are recorded and the slot flush starts in chunks. -/
  | strataPostDone
  /-- R520. A flush chunk of at most 256 writes is requested and written, or is retried at the next loess sample. -/
  | strataFlushChunk (vhold : Nat)
  /-- R519. A write of STR.CTRL.SLOT_REL unlocks a slot and re-arms the recorder. -/
  | slotRel (p : Path) (w : W32)
  /-- R521. Every 17.12 h of powered time one MRAM block is rewritten, or is retried an hour later. -/
  | strataRefresh (hours : Fin 65536) (vhold : Nat) (cent : Fin 100 := 0)
  /-- R391. The Kaolin island powers up from VDDM and loads its newer valid record. -/
  | kaoPowerUp (sealLow : Bool)
  /-- R376. Every 31.25 µs the island corrects six channels and adds the sample energy to the block sums. -/
  | kaoSample (codes : List Int) (late : List (Nat × Int × Int) := [])
  /-- R378. A 3,200-sample block ends; it registers or counts no-load, and totals, segments, direction and commit update. -/
  | kaoBlockEnd (warn : Bool)
  /-- R382. An interval ends, the books are checked and an interval record is written. -/
  | kaoIntervalEnd
  /-- R390. VDDM falls through 1.70 V and the island makes a warning commit. -/
  | kaoVddmWarn (done off : Bool)
  /-- R395. A write of SYS.KAO_CMD with KEY 0xA5 and UNSEAL sends the unseal command with the offer buffer. -/
  | kaoUnsealCommand (p : Path)
  /-- R394. The island takes an unseal command, unseals if SEAL_N is asserted, and evaluates the argument. -/
  | kaoUnseal
  /-- R394. SEAL_N low for 10 ms counts as asserted. -/
  | sealNAssert
  /-- R394. SEAL_N high for 10 ms counts as released and seals the island or returns it to BLANK. -/
  | sealNRelease
  /-- R385. A pulse output emits its next backlogged pulse after its off time. -/
  | kaoPulseOut (k : Fin 2) (since : Nat := 0)
  /-- R386. A debounced S0 input entry is counted or rejected as over rate. -/
  | kaoS0Input (k : Fin 4) (since : Nat)
  /-- R386. An S0 input active longer than STUCK_S sets SI_STUCK. -/
  | kaoS0Stuck (k : Fin 4) (held : Nat := 0)
  /-- R400. The verification port command ID returns identity, state, check value, counter and time. -/
  | kaoVportId
  /-- R400. The verification port command TOT returns the totals and residues. -/
  | kaoVportTot
  /-- R400. The verification port command SET returns the set in force and its check value. -/
  | kaoVportSet
  /-- R400. The verification port command REC n returns the MRAM record with SEQ n or NONE. -/
  | kaoVportRec (n : Nat)
  /-- R389. The verification port command TIME t sets island time or refuses it. -/
  | kaoVportTime (t : Nat)
  /-- R400. Any other verification-port line is answered ERR. -/
  | kaoVportOther
  /-- R436. The Marl island powers up from VDDF, loads its records and compares check values across channels. -/
  | marlPowerOn
  /-- R406. Each Marl channel's 1 ms tick samples, evaluates inputs, pairs, connections, resets, terms and outputs and drives its pins. -/
  | marlTick (b : Bool) (c1 c2 : Fin 65536) (rb : Fin 256) (code0 code1 : Fin 4096)
  /-- R409. An input's discrepancy count reaches DISC_MS and a discrepancy fault latches. -/
  | marlDiscFault (k : Fin 16)
  /-- R415. A channel opens a test window on an output every TP_INT and checks the readback. -/
  | marlTestWindow (b : Bool) (k : Fin 8) (rb ends : Bool)
  /-- R427. TX_MS ticks pass and a connection builds, cross-checks and sends a telegram. -/
  | marlTelegramSend (n : Fin 4)
  /-- R428. A received telegram is accepted, dropped as a duplicate, or counted as a sequence or CRC error. -/
  | marlTelegramRx
  /-- R429. WD_MS ticks without an accepted telegram return the connection to SYNC with its terms at 0. -/
  | connTimeout (c : Fin 4)
  /-- R424. A routed event number arrives over S-PRM and sets the notify latch if selected. -/
  | marlNotify (k : Fin 128)
  /-- R433. The loader hands over MRLPROP, and the island refuses, discards, ignores or holds it. -/
  | marlProposal
  /-- R434. A write to MRL.CONFIRM is evaluated by both channels and accepted or refused. -/
  | mrlConfirm (p : Path) (w : W32)
  /-- R435. The accepted set has been stored, and at the next tick it comes into force with outputs awaiting restart. -/
  | marlConfirmStored
  /-- R438. Every 10 s each channel self-tests its state memory. -/
  | marlSelfTest (ok : Bool)
  /-- R438. An internal fault is found, so INT_FAULT is written and the channels halt in FAULT. -/
  | marlInternalFault
  /-- R444. PCIE_PERST_N, a hot reset, a link-down or D3hot resets or disables only the endpoint. -/
  | pcieReset (kind : Fin 4)
  /-- R445. Unmasking a vector sends one coalesced message for its pending bit. -/
  | msixUnmask (mask : BitVec 64) (func : Bool) (table : List (Fin 64 × BitVec 64 × BitVec 32) := [])
  /-- R447. SPI target command 0x0B reads words from the address until CS rises. -/
  | spiRead (a : W32) (n : Nat) (dt ticks : Nat)
  /-- R447. SPI target command 0x02 writes complete words from the address. -/
  | spiWrite (a : W32) (ws : List W32) (rest : Fin 4) (dt ticks : Nat)
  /-- R447. SPI target command 0x05 returns the status byte. -/
  | spiStatus
  /-- R447. Any other SPI target command is ignored until CS rises. -/
  | spiOther
  /-- R449. A write of HST.SPIC_CMD.GO runs a flash command, or is discarded while busy or fetching. -/
  | spicGo (p : Path) (w : W32)
  /-- R449. A flash command completes and BUSY clears. -/
  | spicDone (data : List Byte)
  /-- R451. A received Ethernet frame is dropped, passed to the Marl channels as a telegram, or written to the receive ring. -/
  | ethFrameRx (q : Fin 2) (bytes : List Byte) (ticks : Nat)
  /-- R451. A host write of ETH.RX_RD consumes ring entries, or is discarded if misaligned. -/
  | ethRxRdWrite (p : Path) (port : Fin 2) (w : W32)
  /-- R452. A write of ETH.TX_CTRL.SEND pads, appends the FCS and transmits the buffer. -/
  | ethTxSend (p : Path) (port : Fin 2) (w : W32) (ticks : Nat)
  /-- R452. The last bit of a frame leaves, BUSY clears and the timestamp is stored. -/
  | ethTxDone (q : Fin 2) (ticks : Nat)
  /-- R455. A port's link changes, clearing LOCKED when it is the PTP port. -/
  | ethLinkChange (q : Fin 2) (up anDone : Bool)
  /-- R453. A write of PTP_CTRL.STEP adds the signed step to the PTP clock and clears LOCKED. -/
  | ptpStep (p : Path) (w : W32) (ticks : Nat)
  /-- R455. A write of PTP_CTRL sets or clears LOCKED by its LOCK bit. -/
  | ptpLockWrite (p : Path) (w : W32) (ticks : Nat)
  /-- R455. LOCK_TO seconds without renewal clear LOCKED. -/
  | ptpLockTimeout (ticks : Nat := 0)
  /-- R472. A read of ETH.PTP_NS returns nanoseconds and latches the seconds. -/
  | ptpNsRead (p : Path) (be : Fin 16) (ticks : Nat := 0)
  /-- R472. A read of ETH.PPS_NS returns the edge nanoseconds and latches its seconds. -/
  | ppsNsRead (p : Path) (be : Fin 16 := 15)
  /-- R456. At each whole PTP second PPS_OUT rises for WIDTH ms. -/
  | ppsOutSecond
  /-- R503. A read of LSS.RTC_SUB returns the fraction and latches the RTC seconds. -/
  | rtcSubRead (p : Path) (be : Fin 16) (ticks : Nat := 0)
  /-- R462. A write of CAN.TXSLOTk with REQ submits a buffer to the slot, or is discarded. -/
  | canTxslotSubmit (p : Path) (n : Fin 4) (k : Fin 3) (w : W32)
  /-- R462. At the start of an arbitration attempt the controller picks the next pending slot. -/
  | canTxAttempt (n : Fin 4) (cyc : Nat)
  /-- R463. An attempt succeeds or fails, counting ATTEMPTS, and may complete the slot. -/
  | canTxAttemptEnd (n : Fin 4) (how : CanEnd) (more exempt : Nat)
  /-- R465. A write of CAN.CMD.CANCEL cancels the slot according to its situation. -/
  | cancel (p : Path) (n : Fin 4) (m : Fin 8)
  /-- R466. TEC passes 255, the controller goes bus-off, holds its slots and may start recovery. -/
  | canBusOff (n : Fin 4) (more : Nat)
  /-- R466. A write of CAN.CMD.RECOVER starts bus-off recovery. -/
  | recover (p : Path) (n : Fin 4)
  /-- R466. 128 occurrences of 11 recessive bits end recovery and raise RECOVERED. -/
  | canRecoveryDone (n : Fin 4)
  /-- R459. Clearing CTRL.EN takes the controller off the bus and cancels every pending slot. -/
  | canDisable (p : Path) (n : Fin 4) (w : W32)
  /-- R467. A received frame is filtered into the FIFO, a mailbox, or dropped. -/
  | canFrameRx (n : Fin 4) (o : CanObs)
  /-- R467. Enabling or disabling a filter with MB moves its buffer into or out of mailbox ownership. -/
  | canFilterWrite (p : Path) (n : Fin 4) (j : Fin 32) (part : Fin 3) (w : W32)
  /-- R467. A write of CAN.RXPOP makes the FIFO head buffer host-owned. -/
  | rxpop (p : Path) (n : Fin 4)
  /-- R464. A write of CAN.TXEVT_POP removes the head transmit event. -/
  | txevtPop (p : Path) (n : Fin 4)
  /-- R468. A write of CAN.TS_SNAP captures the timestamp counter and PTP time. -/
  | tsSnap (p : Path) (dt ticks : Nat)
  /-- R461. A read of SLT.ALLOC makes the lowest free buffer host-owned, or sets ALLOC_FAIL. -/
  | sltAlloc (p : Path) (be : Fin 16 := 15)
  /-- R461. A write of SLT.FREE frees a host-owned buffer, or sets FREE_ERR. -/
  | sltFree (p : Path) (b : Fin 512)
  /-- R469. A write of SLT.ND_CLR clears a mailbox's ND when its SEQ matches. -/
  | ndClr (p : Path) (b : Fin 512) (seq : Fin 16)
  /-- R7. A write to a register with no row of its own stores fields or is discarded and recorded as an access error. -/
  | registerWrite (p : Path) (word : Fin 8388608) (be : Fin 16) (w : W32) (dt ticks : Nat)
  /-- R367. VDDF is lost after MRL_PWR has read one, so MRL_PWR reads zero and source 124 is asserted until the next PORST_N, blocking the converter. -/
  | vddfLoss (doneA doneB : Bool)
  /-- R490. VRC_VIN crosses UVLO_MV, so the supply controller stops switching below it and may switch again above it, and VIN_OK follows. -/
  | vrcVinUvlo (vin : Nat)
  /-- R105. After seeding, the PRBS checker sees 256 further error-free bits, declares lock, sets PRBS_LOCK and starts counting. -/
  | prbsCheckerLock (lane : Fin 128)
  /-- R105. The locked PRBS checker sees 64 errors within 256 bits, so it loses lock, sets PRBS_LOST and reseeds. -/
  | prbsCheckerLockLost (lane : Fin 128) (n w : Nat)
  /-- R386. An S0 input leaves the active state, which clears SI_STUCK and makes the input ready to count its next entry. -/
  | kaoS0Release (k : Fin 4)
  /-- R327. A GD_FB input falls, and a turn-on edge of the other switch of the leg that was held back while it read high is placed. -/
  | gdFbFall (k : Fin 4) (t : Nat)
  /-- R306. A scheduled PWMH or PWML edge falls due within a PWM period; it opens fault blanking windows, and a FORCE_AT 0 force takes its place. -/
  | pwmEdge (p : Fin 12) (dt : Nat)
  /-- R444. The PCI Express endpoint's link comes up again after a reset or link-down, LINK_UP and the live fields update, and MSI-X messages can be sent again. -/
  | pcieLinkUp (lanes speed : Fin 3) (msixEn : Bool)
  deriving DecidableEq, Repr

end Sys2Proof
end

