-- ==== Sys2Proof/Decode.lean ====
section
/-!
DEFINITION. The command a word spells. The opcode table gives none of its rows any bits: commands are register accesses, frames,
pins and instants, not encoded words, so no word spells one (log 6).
-/
namespace Sys2Proof

/-- No row of the table has bits. -/
def decodeTableWord (_nbits _w : Nat) : Option Instr := none

end Sys2Proof
end

