-- ==== Sys2Proof/Machine/Fields.lean ====
section
/-!
DEFINITION. The register fields of the spec's field maps, under the manual's own names BLOCK.REGISTER.FIELD (R2). For a
replicated register the address is that of the first one; Fld.at moves a field to another.
-/
namespace Sys2Proof.Machine

/-! ## SYS -/
/-- R46. Address of SYS.ID. -/
def SYS.ID.addr : Nat := 0x0
def SYS.ID.PART : Fld := ⟨0x0, 16, 16⟩
def SYS.ID.DIE_REV : Fld := ⟨0x0, 8, 8⟩
/-- R46. Address of SYS.STRAP. -/
def SYS.STRAP.addr : Nat := 0x4
def SYS.STRAP.BOOTSRC : Fld := ⟨0x4, 3, 2⟩
def SYS.STRAP.LVL1 : Fld := ⟨0x4, 2, 1⟩
def SYS.STRAP.ROLE : Fld := ⟨0x4, 0, 2⟩
/-- R46. Address of SYS.CLOD_PWR. -/
def SYS.CLOD_PWR.addr : Nat := 0x10
def SYS.CLOD_PWR.STN_EN : Fld := ⟨0x10, 4, 1⟩
def SYS.CLOD_PWR.ACQ_EN : Fld := ⟨0x10, 0, 4⟩
/-- R46. Address of SYS.QUAD_PWR. -/
def SYS.QUAD_PWR.addr : Nat := 0x14
def SYS.QUAD_PWR.QUAD_EN : Fld := ⟨0x14, 0, 32⟩
/-- R46. Address of SYS.CLOD_STAT. -/
def SYS.CLOD_STAT.addr : Nat := 0x18
def SYS.CLOD_STAT.MRL_PWR : Fld := ⟨0x18, 9, 1⟩
def SYS.CLOD_STAT.KAO_PWR : Fld := ⟨0x18, 8, 1⟩
def SYS.CLOD_STAT.ACQ_RUN : Fld := ⟨0x18, 4, 4⟩
def SYS.CLOD_STAT.STN_RUN : Fld := ⟨0x18, 3, 1⟩
def SYS.CLOD_STAT.HOST_RUN : Fld := ⟨0x18, 2, 1⟩
def SYS.CLOD_STAT.PROT_RUN : Fld := ⟨0x18, 1, 1⟩
def SYS.CLOD_STAT.CTRL_RUN : Fld := ⟨0x18, 0, 1⟩
/-- R46. Address of SYS.QUAD_STAT. -/
def SYS.QUAD_STAT.addr : Nat := 0x1C
def SYS.QUAD_STAT.QUAD_RDY : Fld := ⟨0x1C, 0, 32⟩
/-- R46. Address of SYS.PERIOD_CFG. -/
def SYS.PERIOD_CFG.addr : Nat := 0x20
def SYS.PERIOD_CFG.SLEW_EXP : Fld := ⟨0x20, 20, 4⟩
def SYS.PERIOD_CFG.SYNC_MODE : Fld := ⟨0x20, 16, 2⟩
def SYS.PERIOD_CFG.OUTER_KM1 : Fld := ⟨0x20, 8, 6⟩
def SYS.PERIOD_CFG.TC : Fld := ⟨0x20, 0, 2⟩
/-- R46. Address of SYS.PERIOD_OFFS. -/
def SYS.PERIOD_OFFS.addr : Nat := 0x24
def SYS.PERIOD_OFFS.OFFSET_NS : Fld := ⟨0x24, 0, 13⟩
/-- R46. Address of SYS.PCNT_LO. -/
def SYS.PCNT_LO.addr : Nat := 0x28
def SYS.PCNT_LO.PCNT_LO : Fld := ⟨0x28, 0, 32⟩
/-- R46. Address of SYS.PCNT_HI. -/
def SYS.PCNT_HI.addr : Nat := 0x2C
def SYS.PCNT_HI.PCNT_HI : Fld := ⟨0x2C, 0, 16⟩
/-- R46. Address of SYS.ALIGN_STAT. -/
def SYS.ALIGN_STAT.addr : Nat := 0x30
def SYS.ALIGN_STAT.PHASE_ERR : Fld := ⟨0x30, 16, 16⟩
def SYS.ALIGN_STAT.HOLDOVER : Fld := ⟨0x30, 1, 1⟩
def SYS.ALIGN_STAT.LOCKED : Fld := ⟨0x30, 0, 1⟩
/-- R46. Address of SYS.ALIGN_FLAG. -/
def SYS.ALIGN_FLAG.addr : Nat := 0x34
def SYS.ALIGN_FLAG.WRAP : Fld := ⟨0x34, 2, 1⟩
def SYS.ALIGN_FLAG.HOLDOVER_SEEN : Fld := ⟨0x34, 1, 1⟩
def SYS.ALIGN_FLAG.STEPPED : Fld := ⟨0x34, 0, 1⟩
/-- R403. Address of SYS.KAO_CMD. -/
def SYS.KAO_CMD.addr : Nat := 0x80
def SYS.KAO_CMD.KEY : Fld := ⟨0x80, 24, 8⟩
def SYS.KAO_CMD.UNSEAL : Fld := ⟨0x80, 0, 1⟩
/-- R403. Address of SYS.KAO_EVT. -/
def SYS.KAO_EVT.addr : Nat := 0x84
def SYS.KAO_EVT.CMD_BUSY : Fld := ⟨0x84, 2, 1⟩
def SYS.KAO_EVT.OFFER_HELD : Fld := ⟨0x84, 1, 1⟩
def SYS.KAO_EVT.PEND : Fld := ⟨0x84, 0, 1⟩
/-- R441. Address of SYS.MRL_EVT. -/
def SYS.MRL_EVT.addr : Nat := 0x88
def SYS.MRL_EVT.PEND : Fld := ⟨0x88, 0, 1⟩
/-! ## IMG -/
/-- R80. Address of IMG.CTRL. -/
def IMG.CTRL.addr : Nat := 0x10000
def IMG.CTRL.HOST_START : Fld := ⟨0x10000, 1, 1⟩
def IMG.CTRL.RELOAD : Fld := ⟨0x10000, 0, 1⟩
/-- R80. Address of IMG.STAT. -/
def IMG.STAT.addr : Nat := 0x10004
def IMG.STAT.ERR : Fld := ⟨0x10004, 24, 8⟩
def IMG.STAT.STATE : Fld := ⟨0x10004, 20, 4⟩
def IMG.STAT.MRL_PROP : Fld := ⟨0x10004, 8, 3⟩
def IMG.STAT.KAO_PROP : Fld := ⟨0x10004, 4, 3⟩
def IMG.STAT.VALID : Fld := ⟨0x10004, 0, 1⟩
/-- R80. Address of IMG.ERR_OFFS. -/
def IMG.ERR_OFFS.addr : Nat := 0x10008
def IMG.ERR_OFFS.OFFS : Fld := ⟨0x10008, 0, 32⟩
/-- R80. Address of IMG.CAP. -/
def IMG.CAP.addr : Nat := 0x1000C
def IMG.CAP.BEH_MAX : Fld := ⟨0x1000C, 8, 8⟩
def IMG.CAP.BEH_MIN : Fld := ⟨0x1000C, 0, 8⟩
/-- R80. Address of IMG.DATA. -/
def IMG.DATA.addr : Nat := 0x10010
def IMG.DATA.WORD : Fld := ⟨0x10010, 0, 32⟩
/-- R80. Address of IMG.FIFO. -/
def IMG.FIFO.addr : Nat := 0x10014
def IMG.FIFO.FREE : Fld := ⟨0x10014, 0, 11⟩
/-- R80. Address of IMG.INFO_VER. -/
def IMG.INFO_VER.addr : Nat := 0x10018
def IMG.INFO_VER.MAJOR : Fld := ⟨0x10018, 16, 16⟩
def IMG.INFO_VER.MINOR : Fld := ⟨0x10018, 0, 16⟩
/-- R80. Address of IMG.INFO_BUILD. -/
def IMG.INFO_BUILD.addr : Nat := 0x1001C
def IMG.INFO_BUILD.BUILD : Fld := ⟨0x1001C, 0, 32⟩
/-- R80. Address of IMG.INFO_LVL. -/
def IMG.INFO_LVL.addr : Nat := 0x10020
def IMG.INFO_LVL.KEY_SLOT : Fld := ⟨0x10020, 24, 8⟩
def IMG.INFO_LVL.COMPAT_MAX : Fld := ⟨0x10020, 16, 8⟩
def IMG.INFO_LVL.COMPAT_MIN : Fld := ⟨0x10020, 8, 8⟩
def IMG.INFO_LVL.BEH_LEVEL : Fld := ⟨0x10020, 0, 8⟩
/-- R80. Address of IMG.CT_CTRL. -/
def IMG.CT_CTRL.addr : Nat := 0x10040
def IMG.CT_CTRL.DISCARD : Fld := ⟨0x10040, 2, 1⟩
def IMG.CT_CTRL.COMMIT : Fld := ⟨0x10040, 1, 1⟩
def IMG.CT_CTRL.BANK : Fld := ⟨0x10040, 0, 1⟩
/-- R80. Address of IMG.CT_STAT. -/
def IMG.CT_STAT.addr : Nat := 0x10044
def IMG.CT_STAT.CT_ERR : Fld := ⟨0x10044, 24, 8⟩
def IMG.CT_STAT.ERR_ENTRY : Fld := ⟨0x10044, 12, 12⟩
def IMG.CT_STAT.COMMIT_PEND : Fld := ⟨0x10044, 0, 1⟩
/-- R80. Address of IMG.CT_DIRTY. -/
def IMG.CT_DIRTY.addr : Nat := 0x10048
def IMG.CT_DIRTY.COUNT : Fld := ⟨0x10048, 0, 13⟩
/-- R80. Address of IMG.CT_COMMIT_PCNT. -/
def IMG.CT_COMMIT_PCNT.addr : Nat := 0x1004C
def IMG.CT_COMMIT_PCNT.PCNT : Fld := ⟨0x1004C, 0, 32⟩
/-- R80. Address of IMG.OTP_STAT. -/
def IMG.OTP_STAT.addr : Nat := 0x10060
def IMG.OTP_STAT.CMD_ERR : Fld := ⟨0x10060, 8, 1⟩
def IMG.OTP_STAT.REVOKED : Fld := ⟨0x10060, 4, 4⟩
def IMG.OTP_STAT.PROG : Fld := ⟨0x10060, 0, 4⟩
/-- R80. Address of IMG.OTP_CMD. -/
def IMG.OTP_CMD.addr : Nat := 0x10064
def IMG.OTP_CMD.UNLOCK : Fld := ⟨0x10064, 24, 8⟩
def IMG.OTP_CMD.OP : Fld := ⟨0x10064, 4, 2⟩
def IMG.OTP_CMD.SLOT : Fld := ⟨0x10064, 0, 2⟩
/-- R80. Address of IMG.OTP_HASH. -/
def IMG.OTP_HASH.addr : Nat := 0x10080
def IMG.OTP_HASH.HASH : Fld := ⟨0x10080, 0, 32⟩
/-! ## CLK -/
/-- R501. Address of CLK.REF_CFG. -/
def CLK.REF_CFG.addr : Nat := 0x20000
def CLK.REF_CFG.PLL1_MUL : Fld := ⟨0x20000, 6, 2⟩
def CLK.REF_CFG.PLL0_MUL : Fld := ⟨0x20000, 4, 2⟩
def CLK.REF_CFG.CELL_REC : Fld := ⟨0x20000, 1, 1⟩
def CLK.REF_CFG.SRC : Fld := ⟨0x20000, 0, 1⟩
/-- R501. Address of CLK.STAT. -/
def CLK.STAT.addr : Nat := 0x20004
def CLK.STAT.FALLBACK : Fld := ⟨0x20004, 8, 1⟩
def CLK.STAT.CELL_SRC : Fld := ⟨0x20004, 7, 1⟩
def CLK.STAT.HOLDOVER : Fld := ⟨0x20004, 6, 1⟩
def CLK.STAT.REF_OK : Fld := ⟨0x20004, 4, 2⟩
def CLK.STAT.LOCKED : Fld := ⟨0x20004, 0, 3⟩
/-- R501. Address of CLK.EVT. -/
def CLK.EVT.addr : Nat := 0x20008
def CLK.EVT.LOSS : Fld := ⟨0x20008, 0, 3⟩
/-- R501. Address of CLK.OUT_CFG. -/
def CLK.OUT_CFG.addr : Nat := 0x20010
def CLK.OUT_CFG.EN : Fld := ⟨0x20010, 31, 1⟩
def CLK.OUT_CFG.FMT : Fld := ⟨0x20010, 29, 2⟩
def CLK.OUT_CFG.SRC : Fld := ⟨0x20010, 27, 2⟩
def CLK.OUT_CFG.DIV : Fld := ⟨0x20010, 0, 12⟩
/-! ## VRC -/
/-- R502. Address of VRC.CFG. -/
def VRC.CFG.addr : Nat := 0x30000
def VRC.CFG.MIN_PH : Fld := ⟨0x30000, 24, 4⟩
def VRC.CFG.TSRC : Fld := ⟨0x30000, 22, 2⟩
def VRC.CFG.FSW_KHZ : Fld := ⟨0x30000, 4, 12⟩
/-- R502. Address of VRC.VSW. -/
def VRC.VSW.addr : Nat := 0x30004
def VRC.VSW.CODE : Fld := ⟨0x30004, 0, 7⟩
/-- R502. Address of VRC.VMAX. -/
def VRC.VMAX.addr : Nat := 0x30008
def VRC.VMAX.CODE : Fld := ⟨0x30008, 0, 7⟩
/-- R502. Address of VRC.VSET. -/
def VRC.VSET.addr : Nat := 0x30010
def VRC.VSET.CODE : Fld := ⟨0x30010, 0, 7⟩
/-- R502. Address of VRC.SLEW. -/
def VRC.SLEW.addr : Nat := 0x30050
def VRC.SLEW.SS_RATE : Fld := ⟨0x30050, 8, 8⟩
def VRC.SLEW.SLEW : Fld := ⟨0x30050, 0, 8⟩
/-- R502. Address of VRC.PG. -/
def VRC.PG.addr : Nat := 0x30054
def VRC.PG.SETTLE : Fld := ⟨0x30054, 24, 8⟩
def VRC.PG.OV_MV : Fld := ⟨0x30054, 8, 8⟩
def VRC.PG.PG_WIN : Fld := ⟨0x30054, 0, 8⟩
/-- R502. Address of VRC.ILIM. -/
def VRC.ILIM.addr : Nat := 0x30058
def VRC.ILIM.ILIM : Fld := ⟨0x30058, 0, 7⟩
/-- R502. Address of VRC.HICCUP. -/
def VRC.HICCUP.addr : Nat := 0x3005C
def VRC.HICCUP.HIC_N : Fld := ⟨0x3005C, 8, 8⟩
def VRC.HICCUP.HIC_OFF : Fld := ⟨0x3005C, 0, 6⟩
/-- R502. Address of VRC.SHED. -/
def VRC.SHED.addr : Nat := 0x30060
def VRC.SHED.SHED_T : Fld := ⟨0x30060, 24, 8⟩
def VRC.SHED.I_ADD : Fld := ⟨0x30060, 8, 8⟩
def VRC.SHED.I_SHED : Fld := ⟨0x30060, 0, 8⟩
/-- R502. Address of VRC.SYNC. -/
def VRC.SYNC.addr : Nat := 0x30064
def VRC.SYNC.SRC : Fld := ⟨0x30064, 8, 2⟩
def VRC.SYNC.PHASE : Fld := ⟨0x30064, 0, 8⟩
/-- R502. Address of VRC.PFW. -/
def VRC.PFW.addr : Nat := 0x30068
def VRC.PFW.UVLO_MV : Fld := ⟨0x30068, 16, 12⟩
def VRC.PFW.PFW_MV : Fld := ⟨0x30068, 0, 12⟩
/-- R502. Address of VRC.STAT. -/
def VRC.STAT.addr : Nat := 0x3006C
def VRC.STAT.ACTIVE : Fld := ⟨0x3006C, 29, 3⟩
def VRC.STAT.NPH : Fld := ⟨0x3006C, 26, 3⟩
def VRC.STAT.PH_EN : Fld := ⟨0x3006C, 20, 6⟩
def VRC.STAT.TARGET : Fld := ⟨0x3006C, 13, 7⟩
def VRC.STAT.SLEWED : Fld := ⟨0x3006C, 6, 7⟩
def VRC.STAT.PGOOD : Fld := ⟨0x3006C, 5, 1⟩
def VRC.STAT.SLEWING : Fld := ⟨0x3006C, 4, 1⟩
def VRC.STAT.HIC_OFF : Fld := ⟨0x3006C, 3, 1⟩
def VRC.STAT.SYNC_LOCK : Fld := ⟨0x3006C, 2, 1⟩
def VRC.STAT.VIN_OK : Fld := ⟨0x3006C, 1, 1⟩
def VRC.STAT.RUN : Fld := ⟨0x3006C, 0, 1⟩
/-- R502. Address of VRC.VOUT. -/
def VRC.VOUT.addr : Nat := 0x30070
def VRC.VOUT.VIN : Fld := ⟨0x30070, 16, 16⟩
def VRC.VOUT.VDD : Fld := ⟨0x30070, 0, 16⟩
/-- R502. Address of VRC.IOUT. -/
def VRC.IOUT.addr : Nat := 0x30074
def VRC.IOUT.I : Fld := ⟨0x30074, 0, 16⟩
/-- R502. Address of VRC.EVT. -/
def VRC.EVT.addr : Nat := 0x30078
def VRC.EVT.CFG_ERR : Fld := ⟨0x30078, 6, 1⟩
def VRC.EVT.VMAX_CLAMP : Fld := ⟨0x30078, 5, 1⟩
def VRC.EVT.PFW : Fld := ⟨0x30078, 4, 1⟩
def VRC.EVT.UV : Fld := ⟨0x30078, 3, 1⟩
def VRC.EVT.OV : Fld := ⟨0x30078, 2, 1⟩
def VRC.EVT.HICCUP : Fld := ⟨0x30078, 1, 1⟩
def VRC.EVT.SYNC_LOST : Fld := ⟨0x30078, 0, 1⟩
/-- R502. Address of VRC.CNT. -/
def VRC.CNT.addr : Nat := 0x3007C
def VRC.CNT.HICCUPS : Fld := ⟨0x3007C, 16, 16⟩
def VRC.CNT.PH_CHG : Fld := ⟨0x3007C, 0, 16⟩
/-! ## LSS -/
/-- R503. Address of LSS.STAT. -/
def LSS.STAT.addr : Nat := 0x40000
def LSS.STAT.LOST : Fld := ⟨0x40000, 31, 1⟩
def LSS.STAT.ON_VBAK : Fld := ⟨0x40000, 30, 1⟩
def LSS.STAT.TAMPER_OFF : Fld := ⟨0x40000, 29, 1⟩
def LSS.STAT.RTC_VALID : Fld := ⟨0x40000, 28, 1⟩
def LSS.STAT.NO_MARK : Fld := ⟨0x40000, 27, 1⟩
def LSS.STAT.LOW : Fld := ⟨0x40000, 26, 1⟩
/-- R503. Address of LSS.EVT. -/
def LSS.EVT.addr : Nat := 0x40004
def LSS.EVT.REFUSED : Fld := ⟨0x40004, 3, 1⟩
def LSS.EVT.TAMPER : Fld := ⟨0x40004, 2, 1⟩
def LSS.EVT.CUT : Fld := ⟨0x40004, 1, 1⟩
def LSS.EVT.LOW : Fld := ⟨0x40004, 0, 1⟩
/-- R503. Address of LSS.VBAK_TH0. -/
def LSS.VBAK_TH0.addr : Nat := 0x40008
def LSS.VBAK_TH0.WARN : Fld := ⟨0x40008, 16, 12⟩
def LSS.VBAK_TH0.CUT1 : Fld := ⟨0x40008, 0, 12⟩
/-- R503. Address of LSS.VBAK_TH1. -/
def LSS.VBAK_TH1.addr : Nat := 0x4000C
def LSS.VBAK_TH1.CUT2 : Fld := ⟨0x4000C, 16, 12⟩
def LSS.VBAK_TH1.HYS : Fld := ⟨0x4000C, 0, 8⟩
/-- R503. Address of LSS.VBAK. -/
def LSS.VBAK.addr : Nat := 0x40010
def LSS.VBAK.MV : Fld := ⟨0x40010, 0, 12⟩
/-- R503. Address of LSS.RTC_SUB. -/
def LSS.RTC_SUB.addr : Nat := 0x40014
def LSS.RTC_SUB.SUB : Fld := ⟨0x40014, 0, 15⟩
/-- R503. Address of LSS.RTC_SEC_LO. -/
def LSS.RTC_SEC_LO.addr : Nat := 0x40018
def LSS.RTC_SEC_LO.SEC : Fld := ⟨0x40018, 0, 32⟩
/-- R503. Address of LSS.RTC_SEC_HI. -/
def LSS.RTC_SEC_HI.addr : Nat := 0x4001C
def LSS.RTC_SEC_HI.SEC : Fld := ⟨0x4001C, 0, 16⟩
/-- R503. Address of LSS.RTC_SET_LO. -/
def LSS.RTC_SET_LO.addr : Nat := 0x40020
def LSS.RTC_SET_LO.SEC : Fld := ⟨0x40020, 0, 32⟩
/-- R503. Address of LSS.RTC_SET_HI. -/
def LSS.RTC_SET_HI.addr : Nat := 0x40024
def LSS.RTC_SET_HI.SEC : Fld := ⟨0x40024, 0, 16⟩
/-- R503. Address of LSS.RTC_CTRL. -/
def LSS.RTC_CTRL.addr : Nat := 0x40028
def LSS.RTC_CTRL.SET : Fld := ⟨0x40028, 0, 1⟩
/-- R503. Address of LSS.TAMPER. -/
def LSS.TAMPER.addr : Nat := 0x4002C
def LSS.TAMPER.EN : Fld := ⟨0x4002C, 4, 2⟩
def LSS.TAMPER.PIN : Fld := ⟨0x4002C, 2, 2⟩
def LSS.TAMPER.LATCH : Fld := ⟨0x4002C, 0, 2⟩
/-- R503. Address of LSS.TAMPER_SEC. -/
def LSS.TAMPER_SEC.addr : Nat := 0x40030
def LSS.TAMPER_SEC.SEC : Fld := ⟨0x40030, 0, 32⟩
/-- R503. Address of LSS.SEAL_MIR. -/
def LSS.SEAL_MIR.addr : Nat := 0x40034
def LSS.SEAL_MIR.UNSEAL_CNT : Fld := ⟨0x40034, 0, 32⟩
/-- R503. Address of LSS.SEAL_MIR_ST. -/
def LSS.SEAL_MIR_ST.addr : Nat := 0x40038
def LSS.SEAL_MIR_ST.VALID : Fld := ⟨0x40038, 31, 1⟩
def LSS.SEAL_MIR_ST.STATE : Fld := ⟨0x40038, 0, 2⟩
/-- R503. Address of LSS.HOLD_CFG. -/
def LSS.HOLD_CFG.addr : Nat := 0x4003C
def LSS.HOLD_CFG.C_UF : Fld := ⟨0x4003C, 0, 8⟩
/-- R503. Address of LSS.HOLD. -/
def LSS.HOLD.addr : Nat := 0x40040
def LSS.HOLD.MV : Fld := ⟨0x40040, 0, 12⟩
/-- R503. Address of LSS.E_EST. -/
def LSS.E_EST.addr : Nat := 0x40044
def LSS.E_EST.E : Fld := ⟨0x40044, 0, 24⟩
/-- R503. Address of LSS.E_RES. -/
def LSS.E_RES.addr : Nat := 0x40048
def LSS.E_RES.E : Fld := ⟨0x40048, 0, 24⟩
/-- R503. Address of LSS.E_AVAIL. -/
def LSS.E_AVAIL.addr : Nat := 0x4004C
def LSS.E_AVAIL.E : Fld := ⟨0x4004C, 0, 24⟩
/-- R503. Address of LSS.REFUSE. -/
def LSS.REFUSE.addr : Nat := 0x40050
def LSS.REFUSE.REFUSALS : Fld := ⟨0x40050, 16, 16⟩
def LSS.REFUSE.MARKERS : Fld := ⟨0x40050, 0, 16⟩
/-- R503. Address of LSS.RST_CAUSE. -/
def LSS.RST_CAUSE.addr : Nat := 0x40054
def LSS.RST_CAUSE.RAILS : Fld := ⟨0x40054, 8, 8⟩
def LSS.RST_CAUSE.CAUSE : Fld := ⟨0x40054, 0, 8⟩
/-! ## THM -/
/-- R523. Address of THM.CFG. -/
def THM.CFG.addr : Nat := 0x50000
def THM.CFG.BAND_HYS : Fld := ⟨0x50000, 8, 8⟩
def THM.CFG.RATE_WIN : Fld := ⟨0x50000, 0, 8⟩
/-- R523. Address of THM.STAT. -/
def THM.STAT.addr : Nat := 0x50004
def THM.STAT.TJ : Fld := ⟨0x50004, 16, 12⟩
def THM.STAT.BAND : Fld := ⟨0x50004, 12, 2⟩
def THM.STAT.VALID_DIE : Fld := ⟨0x50004, 0, 4⟩
/-- R523. Address of THM.DIE_LIM. -/
def THM.DIE_LIM.addr : Nat := 0x50008
def THM.DIE_LIM.HI : Fld := ⟨0x50008, 16, 12⟩
def THM.DIE_LIM.RATE : Fld := ⟨0x50008, 0, 12⟩
/-- R523. Address of THM.EVT. -/
def THM.EVT.addr : Nat := 0x5000C
def THM.EVT.BROKEN : Fld := ⟨0x5000C, 3, 1⟩
def THM.EVT.RATE : Fld := ⟨0x5000C, 2, 1⟩
def THM.EVT.LIMIT : Fld := ⟨0x5000C, 1, 1⟩
def THM.EVT.SD : Fld := ⟨0x5000C, 0, 1⟩
/-- R523. Address of THM.SD. -/
def THM.SD.addr : Nat := 0x50010
def THM.SD.CLR : Fld := ⟨0x50010, 31, 1⟩
def THM.SD.COOL : Fld := ⟨0x50010, 1, 1⟩
def THM.SD.ACTIVE : Fld := ⟨0x50010, 0, 1⟩
/-- R523. Address of THM.BROKEN_MAP. -/
def THM.BROKEN_MAP.addr : Nat := 0x50014
def THM.BROKEN_MAP.MAP : Fld := ⟨0x50014, 0, 28⟩
/-- R523. Address of THM.LIM_MAP. -/
def THM.LIM_MAP.addr : Nat := 0x50018
def THM.LIM_MAP.MAP : Fld := ⟨0x50018, 0, 28⟩
/-- R523. Address of THM.DIE_T. -/
def THM.DIE_T.addr : Nat := 0x50020
def THM.DIE_T.T : Fld := ⟨0x50020, 0, 12⟩
/-- R523. Address of THM.EXT_CFG. -/
def THM.EXT_CFG.addr : Nat := 0x50080
def THM.EXT_CFG.EN : Fld := ⟨0x50080, 31, 1⟩
def THM.EXT_CFG.SRC : Fld := ⟨0x50080, 0, 5⟩
/-- R523. Address of THM.EXT_GAIN. -/
def THM.EXT_GAIN.addr : Nat := 0x50084
def THM.EXT_GAIN.GAIN : Fld := ⟨0x50084, 0, 32⟩
/-- R523. Address of THM.EXT_LIM. -/
def THM.EXT_LIM.addr : Nat := 0x50088
def THM.EXT_LIM.HI : Fld := ⟨0x50088, 16, 12⟩
def THM.EXT_LIM.LO : Fld := ⟨0x50088, 0, 12⟩
/-- R523. Address of THM.EXT_OFS. -/
def THM.EXT_OFS.addr : Nat := 0x5008C
def THM.EXT_OFS.RATE : Fld := ⟨0x5008C, 16, 12⟩
def THM.EXT_OFS.OFFS : Fld := ⟨0x5008C, 0, 12⟩
/-- R523. Address of THM.EXT_T. -/
def THM.EXT_T.addr : Nat := 0x50180
def THM.EXT_T.T : Fld := ⟨0x50180, 0, 12⟩
/-! ## STR -/
/-- R524. Address of STR.CTRL. -/
def STR.CTRL.addr : Nat := 0x60000
def STR.CTRL.FREEZE : Fld := ⟨0x60000, 31, 1⟩
def STR.CTRL.SLOT_REL : Fld := ⟨0x60000, 4, 4⟩
def STR.CTRL.WAVE_EN : Fld := ⟨0x60000, 0, 1⟩
/-- R524. Address of STR.CFG. -/
def STR.CFG.addr : Nat := 0x60004
def STR.CFG.POST : Fld := ⟨0x60004, 0, 12⟩
/-- R524. Address of STR.STAT. -/
def STR.STAT.addr : Nat := 0x60008
def STR.STAT.STATE : Fld := ⟨0x60008, 30, 2⟩
def STR.STAT.PRE_READY : Fld := ⟨0x60008, 29, 1⟩
def STR.STAT.LOCKED : Fld := ⟨0x60008, 4, 4⟩
def STR.STAT.COMPLETE : Fld := ⟨0x60008, 0, 4⟩
/-- R524. Address of STR.HEAD. -/
def STR.HEAD.addr : Nat := 0x6000C
def STR.HEAD.IDX : Fld := ⟨0x6000C, 0, 15⟩
/-- R524. Address of STR.SEQ. -/
def STR.SEQ.addr : Nat := 0x60010
def STR.SEQ.SEQ : Fld := ⟨0x60010, 0, 32⟩
/-- R524. Address of STR.LOST. -/
def STR.LOST.addr : Nat := 0x60014
def STR.LOST.DROPPED : Fld := ⟨0x60014, 16, 16⟩
def STR.LOST.TRUNC : Fld := ⟨0x60014, 0, 4⟩
/-- R524. Address of STR.REFRESH. -/
def STR.REFRESH.addr : Nat := 0x60018
def STR.REFRESH.BLOCK : Fld := ⟨0x60018, 16, 9⟩
def STR.REFRESH.HOURS : Fld := ⟨0x60018, 0, 16⟩
/-- R524. Address of STR.WCH_SEL. -/
def STR.WCH_SEL.addr : Nat := 0x60020
def STR.WCH_SEL.SRC : Fld := ⟨0x60020, 28, 3⟩
def STR.WCH_SEL.INDEX : Fld := ⟨0x60020, 8, 7⟩
def STR.WCH_SEL.PORT : Fld := ⟨0x60020, 0, 3⟩
/-! ## EVR -/
/-- R317. Address of EVR.CONV_CTRL. -/
def EVR.CONV_CTRL.addr : Nat := 0x70000
def EVR.CONV_CTRL.BLOCK : Fld := ⟨0x70000, 1, 1⟩
def EVR.CONV_CTRL.DEBLOCK : Fld := ⟨0x70000, 0, 1⟩
/-- R317. Address of EVR.CONV_STAT. -/
def EVR.CONV_STAT.addr : Nat := 0x70004
def EVR.CONV_STAT.REFUSE : Fld := ⟨0x70004, 24, 8⟩
def EVR.CONV_STAT.DEBLOCK_PEND : Fld := ⟨0x70004, 1, 1⟩
def EVR.CONV_STAT.BLOCKED : Fld := ⟨0x70004, 0, 1⟩
/-- R317. Address of EVR.GCFG. -/
def EVR.GCFG.addr : Nat := 0x70008
def EVR.GCFG.STOP_REPEAT : Fld := ⟨0x70008, 0, 1⟩
/-- R317. Address of EVR.TRIP_CFG. -/
def EVR.TRIP_CFG.addr : Nat := 0x7000C
def EVR.TRIP_CFG.MIN_MS : Fld := ⟨0x7000C, 16, 8⟩
def EVR.TRIP_CFG.POL : Fld := ⟨0x7000C, 0, 4⟩
/-- R317. Address of EVR.TRIP_STAT. -/
def EVR.TRIP_STAT.addr : Nat := 0x70010
def EVR.TRIP_STAT.CLR_REJ : Fld := ⟨0x70010, 8, 1⟩
def EVR.TRIP_STAT.CLR_PEND : Fld := ⟨0x70010, 4, 4⟩
def EVR.TRIP_STAT.ACTIVE : Fld := ⟨0x70010, 0, 4⟩
/-- R317. Address of EVR.TRIP_CLR. -/
def EVR.TRIP_CLR.addr : Nat := 0x70014
def EVR.TRIP_CLR.CLR : Fld := ⟨0x70014, 0, 4⟩
/-- R317. Address of EVR.SOFT. -/
def EVR.SOFT.addr : Nat := 0x70018
def EVR.SOFT.CLR : Fld := ⟨0x70018, 1, 1⟩
def EVR.SOFT.SET : Fld := ⟨0x70018, 0, 1⟩
/-- R317. Address of EVR.FIRST. -/
def EVR.FIRST.addr : Nat := 0x7001C
def EVR.FIRST.VALID : Fld := ⟨0x7001C, 31, 1⟩
def EVR.FIRST.SRC : Fld := ⟨0x7001C, 0, 7⟩
/-- R317. Address of EVR.FIRST_PCNT. -/
def EVR.FIRST_PCNT.addr : Nat := 0x70020
def EVR.FIRST_PCNT.PCNT : Fld := ⟨0x70020, 0, 32⟩
/-- R317. Address of EVR.ASSERT. -/
def EVR.ASSERT.addr : Nat := 0x70030
def EVR.ASSERT.BITS : Fld := ⟨0x70030, 0, 32⟩
/-- R317. Address of EVR.FIRED. -/
def EVR.FIRED.addr : Nat := 0x70040
def EVR.FIRED.BITS : Fld := ⟨0x70040, 0, 32⟩
/-- R317. Address of EVR.MAP. -/
def EVR.MAP.addr : Nat := 0x70100
def EVR.MAP.PWM_GROUPS : Fld := ⟨0x70100, 24, 4⟩
def EVR.MAP.VECTOR : Fld := ⟨0x70100, 16, 8⟩
def EVR.MAP.ACTIONS : Fld := ⟨0x70100, 0, 16⟩
/-- R317. Address of EVR.FCNT. -/
def EVR.FCNT.addr : Nat := 0x70300
def EVR.FCNT.CNT3 : Fld := ⟨0x70300, 24, 8⟩
def EVR.FCNT.CNT2 : Fld := ⟨0x70300, 16, 8⟩
def EVR.FCNT.CNT1 : Fld := ⟨0x70300, 8, 8⟩
def EVR.FCNT.CNT0 : Fld := ⟨0x70300, 0, 8⟩
/-- R370. Address of EVR.DBLK_CFG. -/
def EVR.DBLK_CFG.addr : Nat := 0x70024
def EVR.DBLK_CFG.VMIN : Fld := ⟨0x70024, 16, 16⟩
def EVR.DBLK_CFG.REARM_MS : Fld := ⟨0x70024, 8, 8⟩
def EVR.DBLK_CFG.REQ_ALIGN : Fld := ⟨0x70024, 1, 1⟩
def EVR.DBLK_CFG.REQ_SYNC : Fld := ⟨0x70024, 0, 1⟩
/-- R370. Address of EVR.DBLK_STAT. -/
def EVR.DBLK_STAT.addr : Nat := 0x70028
def EVR.DBLK_STAT.COND : Fld := ⟨0x70028, 1, 15⟩
/-! ## ACQ -/
/-- R291. Address of ACQ.GCFG. -/
def ACQ.GCFG.addr : Nat := 0x80000
def ACQ.GCFG.CAL_EXP : Fld := ⟨0x80000, 0, 4⟩
/-- R291. Address of ACQ.EVT. -/
def ACQ.EVT.addr : Nat := 0x80004
def ACQ.EVT.EST_LIM : Fld := ⟨0x80004, 8, 4⟩
def ACQ.EVT.CFG_ERR : Fld := ⟨0x80004, 4, 4⟩
def ACQ.EVT.OVR : Fld := ⟨0x80004, 0, 4⟩
/-- R291. Address of ACQ.SCAL_CTRL. -/
def ACQ.SCAL_CTRL.addr : Nat := 0x80010
def ACQ.SCAL_CTRL.OP : Fld := ⟨0x80010, 6, 2⟩
def ACQ.SCAL_CTRL.INPUT : Fld := ⟨0x80010, 0, 5⟩
/-- R291. Address of ACQ.SCAL_CFG. -/
def ACQ.SCAL_CFG.addr : Nat := 0x80014
def ACQ.SCAL_CFG.AVG_EXP : Fld := ⟨0x80014, 0, 5⟩
/-- R291. Address of ACQ.SCAL_REF. -/
def ACQ.SCAL_REF.addr : Nat := 0x80018
def ACQ.SCAL_REF.X : Fld := ⟨0x80018, 0, 32⟩
/-- R291. Address of ACQ.SCAL_STAT. -/
def ACQ.SCAL_STAT.addr : Nat := 0x8001C
def ACQ.SCAL_STAT.ERR : Fld := ⟨0x8001C, 24, 8⟩
def ACQ.SCAL_STAT.REF_OK : Fld := ⟨0x8001C, 3, 1⟩
def ACQ.SCAL_STAT.ZERO_OK : Fld := ⟨0x8001C, 2, 1⟩
def ACQ.SCAL_STAT.STATE : Fld := ⟨0x8001C, 0, 2⟩
/-- R291. Address of ACQ.SCAL_RZ. -/
def ACQ.SCAL_RZ.addr : Nat := 0x80020
def ACQ.SCAL_RZ.RZ : Fld := ⟨0x80020, 0, 32⟩
/-- R291. Address of ACQ.SCAL_RF. -/
def ACQ.SCAL_RF.addr : Nat := 0x80024
def ACQ.SCAL_RF.RF : Fld := ⟨0x80024, 0, 32⟩
/-- R291. Address of ACQ.CORE_CFG. -/
def ACQ.CORE_CFG.addr : Nat := 0x81000
def ACQ.CORE_CFG.RATE_DIV : Fld := ⟨0x81000, 8, 3⟩
def ACQ.CORE_CFG.SEQ_LEN : Fld := ⟨0x81000, 4, 3⟩
def ACQ.CORE_CFG.CAL_FREEZE : Fld := ⟨0x81000, 3, 1⟩
def ACQ.CORE_CFG.DEC : Fld := ⟨0x81000, 0, 2⟩
/-- R291. Address of ACQ.SEQ. -/
def ACQ.SEQ.addr : Nat := 0x81004
def ACQ.SEQ.POS : Fld := ⟨0x81004, 0, 32⟩
/-- R291. Address of ACQ.CORE_STAT. -/
def ACQ.CORE_STAT.addr : Nat := 0x81008
def ACQ.CORE_STAT.ALIGN_NS : Fld := ⟨0x81008, 24, 8⟩
def ACQ.CORE_STAT.SLICE_PD : Fld := ⟨0x81008, 4, 1⟩
def ACQ.CORE_STAT.CFG_ERR : Fld := ⟨0x81008, 3, 1⟩
def ACQ.CORE_STAT.EST_SETTLED : Fld := ⟨0x81008, 2, 1⟩
def ACQ.CORE_STAT.DELIVER : Fld := ⟨0x81008, 1, 1⟩
def ACQ.CORE_STAT.RUN : Fld := ⟨0x81008, 0, 1⟩
/-- R291. Address of ACQ.CAL_CNT. -/
def ACQ.CAL_CNT.addr : Nat := 0x8100C
def ACQ.CAL_CNT.COUNT : Fld := ⟨0x8100C, 0, 32⟩
/-- R291. Address of ACQ.SL_OFFS. -/
def ACQ.SL_OFFS.addr : Nat := 0x81040
def ACQ.SL_OFFS.OFFS : Fld := ⟨0x81040, 0, 16⟩
/-- R291. Address of ACQ.SL_GAIN. -/
def ACQ.SL_GAIN.addr : Nat := 0x81044
def ACQ.SL_GAIN.GAIN : Fld := ⟨0x81044, 0, 18⟩
/-- R291. Address of ACQ.SL_SKEW. -/
def ACQ.SL_SKEW.addr : Nat := 0x81048
def ACQ.SL_SKEW.SKEW : Fld := ⟨0x81048, 0, 10⟩
/-- R291. Address of ACQ.SL_FLAG. -/
def ACQ.SL_FLAG.addr : Nat := 0x8104C
def ACQ.SL_FLAG.LIMIT : Fld := ⟨0x8104C, 0, 1⟩
/-- R291. Address of ACQ.FIR_H. -/
def ACQ.FIR_H.addr : Nat := 0x81100
def ACQ.FIR_H.H : Fld := ⟨0x81100, 0, 18⟩
/-- R291. Address of ACQ.IN_GAIN. -/
def ACQ.IN_GAIN.addr : Nat := 0x84000
def ACQ.IN_GAIN.GAIN : Fld := ⟨0x84000, 0, 32⟩
/-- R291. Address of ACQ.IN_OFFS. -/
def ACQ.IN_OFFS.addr : Nat := 0x84004
def ACQ.IN_OFFS.OFFS : Fld := ⟨0x84004, 0, 32⟩
/-- R291. Address of ACQ.IN_RAW. -/
def ACQ.IN_RAW.addr : Nat := 0x84008
def ACQ.IN_RAW.R : Fld := ⟨0x84008, 0, 32⟩
/-- R291. Address of ACQ.IN_CAL. -/
def ACQ.IN_CAL.addr : Nat := 0x8400C
def ACQ.IN_CAL.C : Fld := ⟨0x8400C, 0, 32⟩
/-- R291. Address of ACQ.IN_STAT. -/
def ACQ.IN_STAT.addr : Nat := 0x84010
def ACQ.IN_STAT.TG : Fld := ⟨0x84010, 16, 16⟩
def ACQ.IN_STAT.OVR : Fld := ⟨0x84010, 2, 1⟩
def ACQ.IN_STAT.INSEQ : Fld := ⟨0x84010, 1, 1⟩
def ACQ.IN_STAT.VALID : Fld := ⟨0x84010, 0, 1⟩
/-! ## CMP -/
/-- R292. Address of CMP.GCFG. -/
def CMP.GCFG.addr : Nat := 0x90000
def CMP.GCFG.CHAT_EXP : Fld := ⟨0x90000, 8, 5⟩
def CMP.GCFG.DAC_TOL : Fld := ⟨0x90000, 0, 8⟩
/-- R292. Address of CMP.LATSUM. -/
def CMP.LATSUM.addr : Nat := 0x90004
def CMP.LATSUM.LATCH : Fld := ⟨0x90004, 0, 32⟩
/-- R292. Address of CMP.FILTSUM. -/
def CMP.FILTSUM.addr : Nat := 0x90008
def CMP.FILTSUM.FILT : Fld := ⟨0x90008, 0, 32⟩
/-- R292. Address of CMP.CCFG. -/
def CMP.CCFG.addr : Nat := 0x90100
def CMP.CCFG.EN : Fld := ⟨0x90100, 31, 1⟩
def CMP.CCFG.TEST : Fld := ⟨0x90100, 30, 1⟩
def CMP.CCFG.MODE : Fld := ⟨0x90100, 28, 2⟩
def CMP.CCFG.FILT : Fld := ⟨0x90100, 26, 2⟩
def CMP.CCFG.HYST : Fld := ⟨0x90100, 24, 2⟩
def CMP.CCFG.CLR_MODE : Fld := ⟨0x90100, 23, 1⟩
def CMP.CCFG.SRC : Fld := ⟨0x90100, 20, 3⟩
def CMP.CCFG.CHAT_TH : Fld := ⟨0x90100, 0, 8⟩
/-- R292. Address of CMP.CTH. -/
def CMP.CTH.addr : Nat := 0x90104
def CMP.CTH.CODE : Fld := ⟨0x90104, 0, 12⟩
/-- R292. Address of CMP.CSTAT. -/
def CMP.CSTAT.addr : Nat := 0x90108
def CMP.CSTAT.LATCH : Fld := ⟨0x90108, 31, 1⟩
def CMP.CSTAT.FILT : Fld := ⟨0x90108, 30, 1⟩
def CMP.CSTAT.RAW : Fld := ⟨0x90108, 29, 1⟩
def CMP.CSTAT.PUP : Fld := ⟨0x90108, 28, 1⟩
def CMP.CSTAT.CHATTER : Fld := ⟨0x90108, 1, 1⟩
def CMP.CSTAT.DAC_ERR : Fld := ⟨0x90108, 0, 1⟩
/-- R292. Address of CMP.CTRANS. -/
def CMP.CTRANS.addr : Nat := 0x9010C
def CMP.CTRANS.WIN : Fld := ⟨0x9010C, 16, 16⟩
def CMP.CTRANS.TOTAL : Fld := ⟨0x9010C, 0, 16⟩
/-- R292. Address of CMP.CCTL. -/
def CMP.CCTL.addr : Nat := 0x90110
def CMP.CCTL.CNT_CLR : Fld := ⟨0x90110, 0, 1⟩
/-- R292. Address of CMP.CDACRB. -/
def CMP.CDACRB.addr : Nat := 0x90114
def CMP.CDACRB.VALID : Fld := ⟨0x90114, 31, 1⟩
def CMP.CDACRB.CODE : Fld := ⟨0x90114, 0, 16⟩
/-! ## PWM -/
/-- R318. Address of PWM.GCTRL. -/
def PWM.GCTRL.addr : Nat := 0xA0000
def PWM.GCTRL.HIZ_CLR : Fld := ⟨0xA0000, 4, 4⟩
def PWM.GCTRL.COMMIT : Fld := ⟨0xA0000, 0, 4⟩
/-- R318. Address of PWM.GSTAT. -/
def PWM.GSTAT.addr : Nat := 0xA0004
def PWM.GSTAT.HIZ_REJ : Fld := ⟨0xA0004, 18, 1⟩
def PWM.GSTAT.CFG_REJ : Fld := ⟨0xA0004, 17, 1⟩
def PWM.GSTAT.MINP : Fld := ⟨0xA0004, 16, 1⟩
def PWM.GSTAT.TORN : Fld := ⟨0xA0004, 12, 4⟩
def PWM.GSTAT.HIZ : Fld := ⟨0xA0004, 8, 4⟩
def PWM.GSTAT.PEND : Fld := ⟨0xA0004, 0, 4⟩
/-- R318. Address of PWM.GRP_CFG. -/
def PWM.GRP_CFG.addr : Nat := 0xA0100
def PWM.GRP_CFG.TORN_CHK : Fld := ⟨0xA0100, 1, 1⟩
def PWM.GRP_CFG.EN : Fld := ⟨0xA0100, 0, 1⟩
/-- R318. Address of PWM.GRP_PER. -/
def PWM.GRP_PER.addr : Nat := 0xA0104
def PWM.GRP_PER.PER_TCM1 : Fld := ⟨0xA0104, 0, 16⟩
/-- R318. Address of PWM.GRP_ACT. -/
def PWM.GRP_ACT.addr : Nat := 0xA0108
def PWM.GRP_ACT.PER_W : Fld := ⟨0xA0108, 31, 1⟩
def PWM.GRP_ACT.PER_TCM1 : Fld := ⟨0xA0108, 0, 16⟩
/-- R318. Address of PWM.GRP_ANCHOR. -/
def PWM.GRP_ANCHOR.addr : Nat := 0xA010C
def PWM.GRP_ANCHOR.PCNT : Fld := ⟨0xA010C, 0, 32⟩
/-- R318. Address of PWM.FLT_CFG. -/
def PWM.FLT_CFG.addr : Nat := 0xA0200
def PWM.FLT_CFG.EN : Fld := ⟨0xA0200, 31, 1⟩
def PWM.FLT_CFG.POL : Fld := ⟨0xA0200, 30, 1⟩
def PWM.FLT_CFG.BLANK_GRP : Fld := ⟨0xA0200, 16, 4⟩
def PWM.FLT_CFG.HIZ_GRP : Fld := ⟨0xA0200, 12, 4⟩
def PWM.FLT_CFG.BLANK : Fld := ⟨0xA0200, 0, 8⟩
/-- R318. Address of PWM.FLT_STAT. -/
def PWM.FLT_STAT.addr : Nat := 0xA0204
def PWM.FLT_STAT.BLANKED : Fld := ⟨0xA0204, 2, 1⟩
def PWM.FLT_STAT.FILT : Fld := ⟨0xA0204, 1, 1⟩
def PWM.FLT_STAT.LATCH : Fld := ⟨0xA0204, 0, 1⟩
/-- R318. Address of PWM.PAIR_CFG. -/
def PWM.PAIR_CFG.addr : Nat := 0xA0400
def PWM.PAIR_CFG.FORCE : Fld := ⟨0xA0400, 6, 2⟩
def PWM.PAIR_CFG.FORCE_AT : Fld := ⟨0xA0400, 5, 1⟩
def PWM.PAIR_CFG.OVR_MODE : Fld := ⟨0xA0400, 3, 2⟩
def PWM.PAIR_CFG.BLOCK_OFF : Fld := ⟨0xA0400, 2, 1⟩
def PWM.PAIR_CFG.GROUP : Fld := ⟨0xA0400, 0, 2⟩
/-- R318. Address of PWM.PAIR_SHD. -/
def PWM.PAIR_SHD.addr : Nat := 0xA0404
def PWM.PAIR_SHD.SRC : Fld := ⟨0xA0404, 3, 1⟩
def PWM.PAIR_SHD.MINP_MODE : Fld := ⟨0xA0404, 1, 1⟩
def PWM.PAIR_SHD.ALIGN : Fld := ⟨0xA0404, 0, 1⟩
/-- R318. Address of PWM.PAIR_DUTY. -/
def PWM.PAIR_DUTY.addr : Nat := 0xA0408
def PWM.PAIR_DUTY.DUTY : Fld := ⟨0xA0408, 0, 32⟩
/-- R318. Address of PWM.PAIR_MINP. -/
def PWM.PAIR_MINP.addr : Nat := 0xA040C
def PWM.PAIR_MINP.CNT : Fld := ⟨0xA040C, 16, 16⟩
def PWM.PAIR_MINP.MIN : Fld := ⟨0xA040C, 0, 16⟩
/-- R318. Address of PWM.PAIR_TON. -/
def PWM.PAIR_TON.addr : Nat := 0xA0410
def PWM.PAIR_TON.T : Fld := ⟨0xA0410, 0, 32⟩
/-- R318. Address of PWM.PAIR_CARRY. -/
def PWM.PAIR_CARRY.addr : Nat := 0xA0414
def PWM.PAIR_CARRY.C : Fld := ⟨0xA0414, 0, 32⟩
/-- R318. Address of PWM.PAIR_STAT. -/
def PWM.PAIR_STAT.addr : Nat := 0xA0418
def PWM.PAIR_STAT.DUTY_W : Fld := ⟨0xA0418, 31, 1⟩
def PWM.PAIR_STAT.ALIGN : Fld := ⟨0xA0418, 30, 1⟩
def PWM.PAIR_STAT.MINP_MODE : Fld := ⟨0xA0418, 29, 1⟩
def PWM.PAIR_STAT.FORCE_ERR : Fld := ⟨0xA0418, 19, 1⟩
def PWM.PAIR_STAT.TCLAMP : Fld := ⟨0xA0418, 18, 1⟩
def PWM.PAIR_STAT.DCLAMP : Fld := ⟨0xA0418, 17, 1⟩
def PWM.PAIR_STAT.DT : Fld := ⟨0xA0418, 0, 16⟩
/-- R318. Address of PWM.PAIR_DACT. -/
def PWM.PAIR_DACT.addr : Nat := 0xA041C
def PWM.PAIR_DACT.DUTY : Fld := ⟨0xA041C, 0, 32⟩
/-! ## GDC -/
/-- R351. Address of GDC.CFG. -/
def GDC.CFG.addr : Nat := 0xB0000
def GDC.CFG.STO_T : Fld := ⟨0xB0000, 24, 8⟩
def GDC.CFG.FB_TMO : Fld := ⟨0xB0000, 16, 8⟩
def GDC.CFG.MC_DLY : Fld := ⟨0xB0000, 8, 8⟩
def GDC.CFG.FB_EN : Fld := ⟨0xB0000, 1, 1⟩
def GDC.CFG.TYPE : Fld := ⟨0xB0000, 0, 1⟩
/-- R351. Address of GDC.DSAT_CFG. -/
def GDC.DSAT_CFG.addr : Nat := 0xB0004
def GDC.DSAT_CFG.BLANK : Fld := ⟨0xB0004, 8, 8⟩
def GDC.DSAT_CFG.EN : Fld := ⟨0xB0004, 0, 4⟩
/-- R351. Address of GDC.BYP_CFG. -/
def GDC.BYP_CFG.addr : Nat := 0xB0008
def GDC.BYP_CFG.BYP_TMO : Fld := ⟨0xB0008, 0, 8⟩
/-- R351. Address of GDC.STAT. -/
def GDC.STAT.addr : Nat := 0xB000C
def GDC.STAT.STATE : Fld := ⟨0xB000C, 24, 3⟩
def GDC.STAT.FB : Fld := ⟨0xB000C, 20, 4⟩
def GDC.STAT.DSAT : Fld := ⟨0xB000C, 16, 4⟩
def GDC.STAT.STO : Fld := ⟨0xB000C, 12, 4⟩
def GDC.STAT.MC : Fld := ⟨0xB000C, 8, 4⟩
def GDC.STAT.ON : Fld := ⟨0xB000C, 4, 4⟩
def GDC.STAT.BYP_FB : Fld := ⟨0xB000C, 3, 1⟩
def GDC.STAT.BYP_CMD : Fld := ⟨0xB000C, 2, 1⟩
def GDC.STAT.OVR_ACT : Fld := ⟨0xB000C, 1, 1⟩
def GDC.STAT.ST_BUSY : Fld := ⟨0xB000C, 0, 1⟩
/-- R351. Address of GDC.FLT. -/
def GDC.FLT.addr : Nat := 0xB0010
def GDC.FLT.STUCK_ON : Fld := ⟨0xB0010, 11, 1⟩
def GDC.FLT.BYP_FAIL : Fld := ⟨0xB0010, 10, 1⟩
def GDC.FLT.FB_UPPER : Fld := ⟨0xB0010, 9, 1⟩
def GDC.FLT.FB_LOWER : Fld := ⟨0xB0010, 8, 1⟩
def GDC.FLT.DESAT : Fld := ⟨0xB0010, 4, 4⟩
def GDC.FLT.ST_FAIL : Fld := ⟨0xB0010, 3, 1⟩
def GDC.FLT.INTERLOCK : Fld := ⟨0xB0010, 2, 1⟩
def GDC.FLT.VC_OV : Fld := ⟨0xB0010, 1, 1⟩
def GDC.FLT.PERM : Fld := ⟨0xB0010, 0, 1⟩
/-- R351. Address of GDC.FLT_CLR. -/
def GDC.FLT_CLR.addr : Nat := 0xB0014
def GDC.FLT_CLR.CLR : Fld := ⟨0xB0014, 0, 1⟩
/-- R351. Address of GDC.CNT. -/
def GDC.CNT.addr : Nat := 0xB0018
def GDC.CNT.INTERLOCK : Fld := ⟨0xB0018, 16, 16⟩
def GDC.CNT.DESAT : Fld := ⟨0xB0018, 0, 16⟩
/-- R351. Address of GDC.OVR. -/
def GDC.OVR.addr : Nat := 0xB001C
def GDC.OVR.EN : Fld := ⟨0xB001C, 31, 1⟩
def GDC.OVR.ON : Fld := ⟨0xB001C, 0, 4⟩
/-- R351. Address of GDC.SELFTEST. -/
def GDC.SELFTEST.addr : Nat := 0xB0020
def GDC.SELFTEST.GO : Fld := ⟨0xB0020, 31, 1⟩
def GDC.SELFTEST.DSAT_MASK : Fld := ⟨0xB0020, 8, 4⟩
def GDC.SELFTEST.CMP_MASK : Fld := ⟨0xB0020, 0, 8⟩
/-- R351. Address of GDC.ST_RES. -/
def GDC.ST_RES.addr : Nat := 0xB0024
def GDC.ST_RES.STATE : Fld := ⟨0xB0024, 30, 2⟩
def GDC.ST_RES.DSAT_FAIL : Fld := ⟨0xB0024, 8, 4⟩
def GDC.ST_RES.CMP_FAIL : Fld := ⟨0xB0024, 0, 8⟩
/-- R351. Address of GDC.EVT. -/
def GDC.EVT.addr : Nat := 0xB0028
def GDC.EVT.SELFTEST : Fld := ⟨0xB0028, 5, 1⟩
def GDC.EVT.BYPASS_FAIL : Fld := ⟨0xB0028, 4, 1⟩
def GDC.EVT.BOOT_UV : Fld := ⟨0xB0028, 3, 1⟩
def GDC.EVT.BOOT_WARN : Fld := ⟨0xB0028, 2, 1⟩
def GDC.EVT.INTERLOCK : Fld := ⟨0xB0028, 1, 1⟩
def GDC.EVT.DESAT : Fld := ⟨0xB0028, 0, 1⟩
/-! ## CEL -/
/-- R352. Address of CEL.CFG. -/
def CEL.CFG.addr : Nat := 0xC0000
def CEL.CFG.ISENS : Fld := ⟨0xC0000, 15, 1⟩
def CEL.CFG.HOLD_H : Fld := ⟨0xC0000, 8, 4⟩
/-- R352. Address of CEL.VLIM0. -/
def CEL.VLIM0.addr : Nat := 0xC0004
def CEL.VLIM0.SHED1 : Fld := ⟨0xC0004, 16, 16⟩
def CEL.VLIM0.SWMIN : Fld := ⟨0xC0004, 0, 16⟩
/-- R352. Address of CEL.VLIM1. -/
def CEL.VLIM1.addr : Nat := 0xC0008
def CEL.VLIM1.SHED2 : Fld := ⟨0xC0008, 16, 16⟩
def CEL.VLIM1.DORM : Fld := ⟨0xC0008, 0, 16⟩
/-- R352. Address of CEL.VLIM2. -/
def CEL.VLIM2.addr : Nat := 0xC000C
def CEL.VLIM2.HYS : Fld := ⟨0xC000C, 0, 16⟩
/-- R352. Address of CEL.BOOT. -/
def CEL.BOOT.addr : Nat := 0xC0010
def CEL.BOOT.HYS : Fld := ⟨0xC0010, 8, 8⟩
def CEL.BOOT.WARN : Fld := ⟨0xC0010, 0, 8⟩
/-- R352. Address of CEL.TJ0. -/
def CEL.TJ0.addr : Nat := 0xC0014
def CEL.TJ0.KA : Fld := ⟨0xC0014, 16, 16⟩
def CEL.TJ0.KB : Fld := ⟨0xC0014, 0, 16⟩
/-- R352. Address of CEL.TJ1. -/
def CEL.TJ1.addr : Nat := 0xC0018
def CEL.TJ1.KS : Fld := ⟨0xC0018, 16, 16⟩
def CEL.TJ1.TJ_HYS : Fld := ⟨0xC0018, 8, 8⟩
def CEL.TJ1.TAU_EXP : Fld := ⟨0xC0018, 0, 5⟩
/-- R352. Address of CEL.NTC_LIM. -/
def CEL.NTC_LIM.addr : Nat := 0xC001C
def CEL.NTC_LIM.MAX : Fld := ⟨0xC001C, 16, 16⟩
def CEL.NTC_LIM.MIN : Fld := ⟨0xC001C, 0, 16⟩
/-- R352. Address of CEL.STAT. -/
def CEL.STAT.addr : Nat := 0xC0020
def CEL.STAT.STAGE : Fld := ⟨0xC0020, 30, 2⟩
def CEL.STAT.CFG_ERR : Fld := ⟨0xC0020, 29, 1⟩
def CEL.STAT.LOW_ENERGY : Fld := ⟨0xC0020, 28, 1⟩
def CEL.STAT.REFRESH_DUE : Fld := ⟨0xC0020, 27, 1⟩
def CEL.STAT.BOOT_UV : Fld := ⟨0xC0020, 26, 1⟩
def CEL.STAT.HOLD_OUT : Fld := ⟨0xC0020, 25, 1⟩
def CEL.STAT.STOP_LATCHED : Fld := ⟨0xC0020, 24, 1⟩
def CEL.STAT.REASON : Fld := ⟨0xC0020, 16, 8⟩
def CEL.STAT.MISS : Fld := ⟨0xC0020, 8, 4⟩
/-- R352. Address of CEL.VC. -/
def CEL.VC.addr : Nat := 0xC0024
def CEL.VC.C : Fld := ⟨0xC0024, 0, 32⟩
/-- R352. Address of CEL.TEMP. -/
def CEL.TEMP.addr : Nat := 0xC0028
def CEL.TEMP.NTC_BAD : Fld := ⟨0xC0028, 30, 2⟩
def CEL.TEMP.TJ : Fld := ⟨0xC0028, 16, 12⟩
def CEL.TEMP.TNTC : Fld := ⟨0xC0028, 0, 12⟩
/-- R352. Address of CEL.WEAR. -/
def CEL.WEAR.addr : Nat := 0xC002C
def CEL.WEAR.WEAR : Fld := ⟨0xC002C, 0, 32⟩
/-- R352. Address of CEL.WEAR_REC. -/
def CEL.WEAR_REC.addr : Nat := 0xC0030
def CEL.WEAR_REC.BAD : Fld := ⟨0xC0030, 31, 1⟩
def CEL.WEAR_REC.COMMITS : Fld := ⟨0xC0030, 0, 16⟩
/-- R352. Address of CEL.BOOT_CNT. -/
def CEL.BOOT_CNT.addr : Nat := 0xC0034
def CEL.BOOT_CNT.UV : Fld := ⟨0xC0034, 16, 16⟩
def CEL.BOOT_CNT.WARN : Fld := ⟨0xC0034, 0, 16⟩
/-- R352. Address of CEL.WTAB. -/
def CEL.WTAB.addr : Nat := 0xC0040
def CEL.WTAB.W : Fld := ⟨0xC0040, 0, 16⟩
/-- R352. Address of CEL.TTAB. -/
def CEL.TTAB.addr : Nat := 0xC0080
def CEL.TTAB.F : Fld := ⟨0xC0080, 0, 16⟩
/-- R352. Address of CEL.NTC_TAB. -/
def CEL.NTC_TAB.addr : Nat := 0xC00C0
def CEL.NTC_TAB.T : Fld := ⟨0xC00C0, 0, 12⟩
/-! ## LMP -/
/-- R265. Address of LMP.CTRL. -/
def LMP.CTRL.addr : Nat := 0xD0000
def LMP.CTRL.FORCE_MM : Fld := ⟨0xD0000, 2, 1⟩
def LMP.CTRL.CNT_CLR : Fld := ⟨0xD0000, 1, 1⟩
def LMP.CTRL.ESC_CLR : Fld := ⟨0xD0000, 0, 1⟩
/-- R265. Address of LMP.STAT. -/
def LMP.STAT.addr : Nat := 0xD0004
def LMP.STAT.RECENT : Fld := ⟨0xD0004, 10, 2⟩
def LMP.STAT.CK_BUF : Fld := ⟨0xD0004, 9, 1⟩
def LMP.STAT.ESCALATED : Fld := ⟨0xD0004, 8, 1⟩
def LMP.STAT.STATE : Fld := ⟨0xD0004, 0, 3⟩
/-- R265. Address of LMP.EVT. -/
def LMP.EVT.addr : Nat := 0xD0008
def LMP.EVT.SPLIT_TIMEOUT : Fld := ⟨0xD0008, 8, 1⟩
def LMP.EVT.HO_REJ : Fld := ⟨0xD0008, 7, 1⟩
def LMP.EVT.HO_DONE : Fld := ⟨0xD0008, 6, 1⟩
def LMP.EVT.SPLIT : Fld := ⟨0xD0008, 5, 1⟩
def LMP.EVT.CK_ECC_UNCORR : Fld := ⟨0xD0008, 4, 1⟩
def LMP.EVT.CK_ECC_CORR : Fld := ⟨0xD0008, 3, 1⟩
def LMP.EVT.ESCALATED : Fld := ⟨0xD0008, 2, 1⟩
def LMP.EVT.RESTORED : Fld := ⟨0xD0008, 1, 1⟩
def LMP.EVT.MISMATCH : Fld := ⟨0xD0008, 0, 1⟩
/-- R265. Address of LMP.MM_CNT. -/
def LMP.MM_CNT.addr : Nat := 0xD000C
def LMP.MM_CNT.COUNT : Fld := ⟨0xD000C, 0, 32⟩
/-- R265. Address of LMP.RST_CNT. -/
def LMP.RST_CNT.addr : Nat := 0xD0010
def LMP.RST_CNT.COUNT : Fld := ⟨0xD0010, 0, 32⟩
/-- R265. Address of LMP.MM_INFO. -/
def LMP.MM_INFO.addr : Nat := 0xD0014
def LMP.MM_INFO.OFFS : Fld := ⟨0xD0014, 10, 12⟩
def LMP.MM_INFO.INDEX : Fld := ⟨0xD0014, 4, 4⟩
def LMP.MM_INFO.POINT : Fld := ⟨0xD0014, 0, 4⟩
/-- R265. Address of LMP.MM_PCNT. -/
def LMP.MM_PCNT.addr : Nat := 0xD0018
def LMP.MM_PCNT.PCNT : Fld := ⟨0xD0018, 0, 32⟩
/-- R265. Address of LMP.CK_PCNT. -/
def LMP.CK_PCNT.addr : Nat := 0xD001C
def LMP.CK_PCNT.PCNT : Fld := ⟨0xD001C, 0, 32⟩
/-- R265. Address of LMP.RESTORE_PCNT. -/
def LMP.RESTORE_PCNT.addr : Nat := 0xD0020
def LMP.RESTORE_PCNT.PCNT : Fld := ⟨0xD0020, 0, 32⟩
/-- R265. Address of LMP.RESTORE_LAT. -/
def LMP.RESTORE_LAT.addr : Nat := 0xD0024
def LMP.RESTORE_LAT.LAT : Fld := ⟨0xD0024, 0, 8⟩
/-- R265. Address of LMP.MM_IDX. -/
def LMP.MM_IDX.addr : Nat := 0xD0028
def LMP.MM_IDX.INDEX : Fld := ⟨0xD0028, 8, 8⟩
def LMP.MM_IDX.POINT : Fld := ⟨0xD0028, 0, 8⟩
/-- R265. Address of LMP.SH_CTRL. -/
def LMP.SH_CTRL.addr : Nat := 0xD0040
def LMP.SH_CTRL.RD_B : Fld := ⟨0xD0040, 3, 1⟩
def LMP.SH_CTRL.ABANDON : Fld := ⟨0xD0040, 2, 1⟩
def LMP.SH_CTRL.HANDOVER : Fld := ⟨0xD0040, 1, 1⟩
def LMP.SH_CTRL.SPLIT : Fld := ⟨0xD0040, 0, 1⟩
/-- R265. Address of LMP.SH_PCNT. -/
def LMP.SH_PCNT.addr : Nat := 0xD0044
def LMP.SH_PCNT.PCNT : Fld := ⟨0xD0044, 0, 32⟩
/-- R265. Address of LMP.SH_CFG. -/
def LMP.SH_CFG.addr : Nat := 0xD0048
def LMP.SH_CFG.MAX_U : Fld := ⟨0xD0048, 0, 16⟩
/-- R265. Address of LMP.SH_SPLIT_PCNT. -/
def LMP.SH_SPLIT_PCNT.addr : Nat := 0xD004C
def LMP.SH_SPLIT_PCNT.PCNT : Fld := ⟨0xD004C, 0, 32⟩
/-- R265. Address of LMP.SH_HO_PCNT. -/
def LMP.SH_HO_PCNT.addr : Nat := 0xD0050
def LMP.SH_HO_PCNT.PCNT : Fld := ⟨0xD0050, 0, 32⟩
/-- R265. Address of LMP.SH_STAT. -/
def LMP.SH_STAT.addr : Nat := 0xD0054
def LMP.SH_STAT.REJ : Fld := ⟨0xD0054, 0, 8⟩
/-! ## MOD -/
/-- R178. Address of MOD.CTRL. -/
def MOD.CTRL.addr : Nat := 0xE0000
def MOD.CTRL.CARRY_CLR : Fld := ⟨0xE0000, 0, 1⟩
/-- R178. Address of MOD.ARM_CFG. -/
def MOD.ARM_CFG.addr : Nat := 0xE0100
def MOD.ARM_CFG.FRAC_EN : Fld := ⟨0xE0100, 14, 1⟩
def MOD.ARM_CFG.NORM : Fld := ⟨0xE0100, 13, 1⟩
def MOD.ARM_CFG.ISIGN : Fld := ⟨0xE0100, 12, 1⟩
def MOD.ARM_CFG.ISRC : Fld := ⟨0xE0100, 0, 5⟩
/-- R178. Address of MOD.ARM_IDB. -/
def MOD.ARM_IDB.addr : Nat := 0xE0104
def MOD.ARM_IDB.IDB : Fld := ⟨0xE0104, 0, 31⟩
/-- R178. Address of MOD.ARM_LEVEL. -/
def MOD.ARM_LEVEL.addr : Nat := 0xE0108
def MOD.ARM_LEVEL.L : Fld := ⟨0xE0108, 0, 32⟩
/-- R178. Address of MOD.ARM_OUT. -/
def MOD.ARM_OUT.addr : Nat := 0xE010C
def MOD.ARM_OUT.POL : Fld := ⟨0xE010C, 31, 1⟩
def MOD.ARM_OUT.M : Fld := ⟨0xE010C, 20, 11⟩
def MOD.ARM_OUT.EDGE : Fld := ⟨0xE010C, 18, 2⟩
def MOD.ARM_OUT.U : Fld := ⟨0xE010C, 0, 13⟩
/-- R178. Address of MOD.ARM_CARRY. -/
def MOD.ARM_CARRY.addr : Nat := 0xE0110
def MOD.ARM_CARRY.CARRY : Fld := ⟨0xE0110, 0, 16⟩
/-- R178. Address of MOD.ARM_DIR. -/
def MOD.ARM_DIR.addr : Nat := 0xE0114
def MOD.ARM_DIR.HELD : Fld := ⟨0xE0114, 1, 1⟩
def MOD.ARM_DIR.DIR : Fld := ⟨0xE0114, 0, 1⟩
/-- R178. Address of MOD.ARM_ISAMP. -/
def MOD.ARM_ISAMP.addr : Nat := 0xE0118
def MOD.ARM_ISAMP.I : Fld := ⟨0xE0118, 0, 32⟩
/-- R178. Address of MOD.ARM_FLAG. -/
def MOD.ARM_FLAG.addr : Nat := 0xE011C
def MOD.ARM_FLAG.CARRY_SAT : Fld := ⟨0xE011C, 3, 1⟩
def MOD.ARM_FLAG.NEG_HB : Fld := ⟨0xE011C, 2, 1⟩
def MOD.ARM_FLAG.VMEAN_LOW : Fld := ⟨0xE011C, 1, 1⟩
def MOD.ARM_FLAG.SAT : Fld := ⟨0xE011C, 0, 1⟩
/-! ## GRD -/
/-- R179. Address of GRD.CTRL. -/
def GRD.CTRL.addr : Nat := 0xF0000
def GRD.CTRL.SWAP_MAX : Fld := ⟨0xF0000, 28, 4⟩
def GRD.CTRL.SWAP_BAND : Fld := ⟨0xF0000, 0, 24⟩
/-- R179. Address of GRD.GCFG. -/
def GRD.GCFG.addr : Nat := 0xF0004
def GRD.GCFG.STALE_CYC : Fld := ⟨0xF0004, 16, 8⟩
def GRD.GCFG.STAT_EXP : Fld := ⟨0xF0004, 8, 5⟩
def GRD.GCFG.AUTO_BASE : Fld := ⟨0xF0004, 0, 1⟩
/-- R179. Address of GRD.RSNAP. -/
def GRD.RSNAP.addr : Nat := 0xF0008
def GRD.RSNAP.TAKE : Fld := ⟨0xF0008, 3, 1⟩
def GRD.RSNAP.ARM : Fld := ⟨0xF0008, 0, 3⟩
/-- R179. Address of GRD.RSNAP_STAT. -/
def GRD.RSNAP_STAT.addr : Nat := 0xF000C
def GRD.RSNAP_STAT.PCNT : Fld := ⟨0xF000C, 16, 16⟩
def GRD.RSNAP_STAT.ARM : Fld := ⟨0xF000C, 13, 3⟩
def GRD.RSNAP_STAT.COUNT : Fld := ⟨0xF000C, 2, 11⟩
def GRD.RSNAP_STAT.BUSY : Fld := ⟨0xF000C, 1, 1⟩
def GRD.RSNAP_STAT.DONE : Fld := ⟨0xF000C, 0, 1⟩
/-- R179. Address of GRD.ARM_WEAR. -/
def GRD.ARM_WEAR.addr : Nat := 0xF0100
def GRD.ARM_WEAR.CAP : Fld := ⟨0xF0100, 16, 16⟩
def GRD.ARM_WEAR.WEIGHT : Fld := ⟨0xF0100, 0, 16⟩
/-- R179. Address of GRD.ARM_WBASE. -/
def GRD.ARM_WBASE.addr : Nat := 0xF0104
def GRD.ARM_WBASE.BASE : Fld := ⟨0xF0104, 0, 32⟩
/-- R179. Address of GRD.ARM_WMIN. -/
def GRD.ARM_WMIN.addr : Nat := 0xF0108
def GRD.ARM_WMIN.WMIN : Fld := ⟨0xF0108, 0, 32⟩
/-- R179. Address of GRD.ARM_WMAX. -/
def GRD.ARM_WMAX.addr : Nat := 0xF010C
def GRD.ARM_WMAX.WMAX : Fld := ⟨0xF010C, 0, 32⟩
/-- R179. Address of GRD.ARM_REFRESH. -/
def GRD.ARM_REFRESH.addr : Nat := 0xF0110
def GRD.ARM_REFRESH.REFRESH_PER : Fld := ⟨0xF0110, 0, 8⟩
/-- R179. Address of GRD.ARM_RECH. -/
def GRD.ARM_RECH.addr : Nat := 0xF0114
def GRD.ARM_RECH.EN : Fld := ⟨0xF0114, 31, 1⟩
def GRD.ARM_RECH.MAX : Fld := ⟨0xF0114, 28, 3⟩
def GRD.ARM_RECH.MAX_PER : Fld := ⟨0xF0114, 16, 12⟩
def GRD.ARM_RECH.TARGET : Fld := ⟨0xF0114, 0, 16⟩
/-- R179. Address of GRD.ARM_RECH_CLR. -/
def GRD.ARM_RECH_CLR.addr : Nat := 0xF0118
def GRD.ARM_RECH_CLR.CLR : Fld := ⟨0xF0118, 0, 1⟩
/-- R179. Address of GRD.ARM_REDUND. -/
def GRD.ARM_REDUND.addr : Nat := 0xF011C
def GRD.ARM_REDUND.WARN : Fld := ⟨0xF011C, 0, 11⟩
/-- R179. Address of GRD.ARM_RANKED. -/
def GRD.ARM_RANKED.addr : Nat := 0xF0120
def GRD.ARM_RANKED.ELIGIBLE : Fld := ⟨0xF0120, 16, 11⟩
def GRD.ARM_RANKED.RANKED : Fld := ⟨0xF0120, 0, 11⟩
/-- R179. Address of GRD.ARM_CONF0. -/
def GRD.ARM_CONF0.addr : Nat := 0xF0124
def GRD.ARM_CONF0.BYPASSED : Fld := ⟨0xF0124, 16, 11⟩
def GRD.ARM_CONF0.INSERTED : Fld := ⟨0xF0124, 0, 11⟩
/-- R179. Address of GRD.ARM_CONF1. -/
def GRD.ARM_CONF1.addr : Nat := 0xF0128
def GRD.ARM_CONF1.DORMANT : Fld := ⟨0xF0128, 16, 11⟩
def GRD.ARM_CONF1.BLOCKED : Fld := ⟨0xF0128, 0, 11⟩
/-- R179. Address of GRD.ARM_CONF2. -/
def GRD.ARM_CONF2.addr : Nat := 0xF012C
def GRD.ARM_CONF2.ABSENT : Fld := ⟨0xF012C, 16, 11⟩
def GRD.ARM_CONF2.PERM : Fld := ⟨0xF012C, 0, 11⟩
/-- R179. Address of GRD.ARM_CMD0. -/
def GRD.ARM_CMD0.addr : Nat := 0xF0130
def GRD.ARM_CMD0.BYPASSED : Fld := ⟨0xF0130, 16, 11⟩
def GRD.ARM_CMD0.INSERTED : Fld := ⟨0xF0130, 0, 11⟩
/-- R179. Address of GRD.ARM_CMD1. -/
def GRD.ARM_CMD1.addr : Nat := 0xF0134
def GRD.ARM_CMD1.RECHARGING : Fld := ⟨0xF0134, 16, 11⟩
def GRD.ARM_CMD1.BLOCKED : Fld := ⟨0xF0134, 0, 11⟩
/-- R179. Address of GRD.ARM_SWCNT. -/
def GRD.ARM_SWCNT.addr : Nat := 0xF0138
def GRD.ARM_SWCNT.COUNT : Fld := ⟨0xF0138, 0, 32⟩
/-- R179. Address of GRD.ARM_SWRATE. -/
def GRD.ARM_SWRATE.addr : Nat := 0xF013C
def GRD.ARM_SWRATE.RATE : Fld := ⟨0xF013C, 0, 32⟩
/-- R179. Address of GRD.ARM_SWAPS. -/
def GRD.ARM_SWAPS.addr : Nat := 0xF0140
def GRD.ARM_SWAPS.COUNT : Fld := ⟨0xF0140, 0, 32⟩
/-- R179. Address of GRD.ARM_REFRESHES. -/
def GRD.ARM_REFRESHES.addr : Nat := 0xF0144
def GRD.ARM_REFRESHES.COUNT : Fld := ⟨0xF0144, 0, 32⟩
/-- R179. Address of GRD.ARM_EVT. -/
def GRD.ARM_EVT.addr : Nat := 0xF0148
def GRD.ARM_EVT.RECH_FAIL : Fld := ⟨0xF0148, 5, 1⟩
def GRD.ARM_EVT.UNRESP : Fld := ⟨0xF0148, 4, 1⟩
def GRD.ARM_EVT.BOOKS : Fld := ⟨0xF0148, 3, 1⟩
def GRD.ARM_EVT.SHORT : Fld := ⟨0xF0148, 2, 1⟩
def GRD.ARM_EVT.REDUND_LOST : Fld := ⟨0xF0148, 1, 1⟩
def GRD.ARM_EVT.REDUND_WARN : Fld := ⟨0xF0148, 0, 1⟩
/-! ## LNK -/
/-- R109. Address of LNK.CTRL. -/
def LNK.CTRL.addr : Nat := 0x100000
def LNK.CTRL.SD_PIN_EN : Fld := ⟨0x100000, 11, 1⟩
def LNK.CTRL.EQ_FREEZE : Fld := ⟨0x100000, 10, 1⟩
def LNK.CTRL.LOOPBACK : Fld := ⟨0x100000, 7, 3⟩
def LNK.CTRL.US_SLEEP_EN : Fld := ⟨0x100000, 6, 1⟩
def LNK.CTRL.DS_SLEEP : Fld := ⟨0x100000, 5, 1⟩
def LNK.CTRL.DS_EN : Fld := ⟨0x100000, 0, 1⟩
/-- R109. Address of LNK.STAT. -/
def LNK.STAT.addr : Nat := 0x100004
def LNK.STAT.RX_STATE : Fld := ⟨0x100004, 8, 3⟩
def LNK.STAT.DS_STATE : Fld := ⟨0x100004, 6, 2⟩
def LNK.STAT.US_AWAKE : Fld := ⟨0x100004, 5, 1⟩
def LNK.STAT.LB_ACTIVE : Fld := ⟨0x100004, 4, 1⟩
def LNK.STAT.PRBS_LOCK : Fld := ⟨0x100004, 3, 1⟩
def LNK.STAT.BLOCK_LOCK : Fld := ⟨0x100004, 2, 1⟩
def LNK.STAT.CDR_LOCK : Fld := ⟨0x100004, 1, 1⟩
def LNK.STAT.SD : Fld := ⟨0x100004, 0, 1⟩
/-- R109. Address of LNK.EVT. -/
def LNK.EVT.addr : Nat := 0x100008
def LNK.EVT.FE_TIMEOUT : Fld := ⟨0x100008, 4, 1⟩
def LNK.EVT.PRBS_LOST : Fld := ⟨0x100008, 3, 1⟩
def LNK.EVT.BURST_MISS : Fld := ⟨0x100008, 2, 1⟩
def LNK.EVT.LOCK_LOST : Fld := ⟨0x100008, 1, 1⟩
def LNK.EVT.LOS : Fld := ⟨0x100008, 0, 1⟩
/-- R109. Address of LNK.TXCFG. -/
def LNK.TXCFG.addr : Nat := 0x10000C
def LNK.TXCFG.POST : Fld := ⟨0x10000C, 12, 4⟩
def LNK.TXCFG.PRE : Fld := ⟨0x10000C, 8, 4⟩
def LNK.TXCFG.SWING : Fld := ⟨0x10000C, 0, 8⟩
/-- R109. Address of LNK.ADM_PRESET_LO. -/
def LNK.ADM_PRESET_LO.addr : Nat := 0x100010
def LNK.ADM_PRESET_LO.DFE_LO : Fld := ⟨0x100010, 0, 32⟩
/-- R109. Address of LNK.ADM_PRESET_HI. -/
def LNK.ADM_PRESET_HI.addr : Nat := 0x100014
def LNK.ADM_PRESET_HI.PRESET_HI : Fld := ⟨0x100014, 0, 32⟩
/-- R109. Address of LNK.EQ_ADAPT. -/
def LNK.EQ_ADAPT.addr : Nat := 0x100018
def LNK.EQ_ADAPT.REFINE_EN : Fld := ⟨0x100018, 8, 1⟩
def LNK.EQ_ADAPT.MU_TH : Fld := ⟨0x100018, 0, 8⟩
/-- R109. Address of LNK.RX_EQ0. -/
def LNK.RX_EQ0.addr : Nat := 0x10001C
def LNK.RX_EQ0.DFE_LO : Fld := ⟨0x10001C, 0, 32⟩
/-- R109. Address of LNK.RX_EQ1. -/
def LNK.RX_EQ1.addr : Nat := 0x100020
def LNK.RX_EQ1.EQ_HI : Fld := ⟨0x100020, 0, 32⟩
/-- R109. Address of LNK.PRBS_CTRL. -/
def LNK.PRBS_CTRL.addr : Nat := 0x100024
def LNK.PRBS_CTRL.INJ_WORD : Fld := ⟨0x100024, 19, 5⟩
def LNK.PRBS_CTRL.INJ_TGT : Fld := ⟨0x100024, 17, 2⟩
def LNK.PRBS_CTRL.INJ_EXP : Fld := ⟨0x100024, 12, 5⟩
def LNK.PRBS_CTRL.CLR : Fld := ⟨0x100024, 11, 1⟩
def LNK.PRBS_CTRL.CHK_EN : Fld := ⟨0x100024, 10, 1⟩
def LNK.PRBS_CTRL.GEN_EN : Fld := ⟨0x100024, 9, 1⟩
def LNK.PRBS_CTRL.MODE : Fld := ⟨0x100024, 4, 2⟩
def LNK.PRBS_CTRL.PATTERN : Fld := ⟨0x100024, 0, 4⟩
/-- R109. Address of LNK.PRBS_INJ. -/
def LNK.PRBS_INJ.addr : Nat := 0x100028
def LNK.PRBS_INJ.SHOT : Fld := ⟨0x100028, 0, 1⟩
/-- R109. Address of LNK.PRBS_ERR. -/
def LNK.PRBS_ERR.addr : Nat := 0x10002C
def LNK.PRBS_ERR.ERR : Fld := ⟨0x10002C, 0, 32⟩
/-- R109. Address of LNK.PRBS_BITS_LO. -/
def LNK.PRBS_BITS_LO.addr : Nat := 0x100030
def LNK.PRBS_BITS_LO.BITS_LO : Fld := ⟨0x100030, 0, 32⟩
/-- R109. Address of LNK.PRBS_BITS_HI. -/
def LNK.PRBS_BITS_HI.addr : Nat := 0x100034
def LNK.PRBS_BITS_HI.BITS_HI : Fld := ⟨0x100034, 0, 16⟩
/-- R109. Address of LNK.BURST_MISS_CNT. -/
def LNK.BURST_MISS_CNT.addr : Nat := 0x100038
def LNK.BURST_MISS_CNT.COUNT : Fld := ⟨0x100038, 0, 32⟩
/-- R109. Address of LNK.BLOCK_ERR_CNT. -/
def LNK.BLOCK_ERR_CNT.addr : Nat := 0x10003C
def LNK.BLOCK_ERR_CNT.COUNT : Fld := ⟨0x10003C, 0, 32⟩
/-- R146. Address of LNK.C_ADM. -/
def LNK.C_ADM.addr : Nat := 0x100100
def LNK.C_ADM.CAD : Fld := ⟨0x100100, 30, 2⟩
def LNK.C_ADM.REASON : Fld := ⟨0x100100, 22, 8⟩
def LNK.C_ADM.CELL_IDX : Fld := ⟨0x100100, 10, 12⟩
def LNK.C_ADM.SLOT : Fld := ⟨0x100100, 5, 5⟩
def LNK.C_ADM.LEVEL : Fld := ⟨0x100100, 3, 2⟩
def LNK.C_ADM.STATE : Fld := ⟨0x100100, 0, 3⟩
/-- R146. Address of LNK.C_EQ. -/
def LNK.C_EQ.addr : Nat := 0x100104
def LNK.C_EQ.ADVANCE : Fld := ⟨0x100104, 11, 18⟩
def LNK.C_EQ.DELAY_EQ : Fld := ⟨0x100104, 0, 11⟩
/-- R146. Address of LNK.C_CNT. -/
def LNK.C_CNT.addr : Nat := 0x100108
def LNK.C_CNT.BACKOFF_EXP : Fld := ⟨0x100108, 28, 4⟩
def LNK.C_CNT.REFUSALS : Fld := ⟨0x100108, 16, 8⟩
def LNK.C_CNT.ANNOUNCE : Fld := ⟨0x100108, 0, 16⟩
/-- R146. Address of LNK.C_MISS. -/
def LNK.C_MISS.addr : Nat := 0x10010C
def LNK.C_MISS.COUNT : Fld := ⟨0x10010C, 0, 32⟩
/-- R146. Address of LNK.C_ERR. -/
def LNK.C_ERR.addr : Nat := 0x100110
def LNK.C_ERR.WORD_ERR : Fld := ⟨0x100110, 16, 16⟩
def LNK.C_ERR.HDR_ERR : Fld := ⟨0x100110, 0, 16⟩
/-! ## CLT -/
/-- R145. Address of CLT.DREF. -/
def CLT.DREF.addr : Nat := 0x140000
def CLT.DREF.D_REF : Fld := ⟨0x140000, 0, 11⟩
/-- R145. Address of CLT.GCFG. -/
def CLT.GCFG.addr : Nat := 0x140004
def CLT.GCFG.REIMAGE : Fld := ⟨0x140004, 24, 1⟩
def CLT.GCFG.JOIN_CYC : Fld := ⟨0x140004, 16, 8⟩
def CLT.GCFG.MGMT_TO : Fld := ⟨0x140004, 8, 8⟩
def CLT.GCFG.MGMT_RETRY : Fld := ⟨0x140004, 6, 2⟩
def CLT.GCFG.RANGE_EXP : Fld := ⟨0x140004, 2, 4⟩
def CLT.GCFG.RW : Fld := ⟨0x140004, 0, 2⟩
/-- R145. Address of CLT.UCNT. -/
def CLT.UCNT.addr : Nat := 0x140008
def CLT.UCNT.UCNT : Fld := ⟨0x140008, 0, 32⟩
/-- R145. Address of CLT.REFLOG_INFO. -/
def CLT.REFLOG_INFO.addr : Nat := 0x140010
def CLT.REFLOG_INFO.VALID : Fld := ⟨0x140010, 31, 1⟩
def CLT.REFLOG_INFO.OVF : Fld := ⟨0x140010, 30, 1⟩
def CLT.REFLOG_INFO.LANE : Fld := ⟨0x140010, 23, 7⟩
def CLT.REFLOG_INFO.REASON : Fld := ⟨0x140010, 15, 8⟩
def CLT.REFLOG_INFO.OFFER : Fld := ⟨0x140010, 13, 2⟩
def CLT.REFLOG_INFO.BEH : Fld := ⟨0x140010, 5, 8⟩
/-- R145. Address of CLT.REFLOG_UID_LO. -/
def CLT.REFLOG_UID_LO.addr : Nat := 0x140014
def CLT.REFLOG_UID_LO.UID_LO : Fld := ⟨0x140014, 0, 32⟩
/-- R145. Address of CLT.REFLOG_UID_HI. -/
def CLT.REFLOG_UID_HI.addr : Nat := 0x140018
def CLT.REFLOG_UID_HI.UID_HI : Fld := ⟨0x140018, 0, 32⟩
/-- R145. Address of CLT.REFLOG_POP. -/
def CLT.REFLOG_POP.addr : Nat := 0x14001C
def CLT.REFLOG_POP.POP : Fld := ⟨0x14001C, 0, 1⟩
/-- R145. Address of CLT.LEVT_SUM. -/
def CLT.LEVT_SUM.addr : Nat := 0x140020
def CLT.LEVT_SUM.LANES : Fld := ⟨0x140020, 0, 32⟩
/-- R145. Address of CLT.LCTRL. -/
def CLT.LCTRL.addr : Nat := 0x141000
def CLT.LCTRL.RELEASE_MISS : Fld := ⟨0x141000, 24, 8⟩
def CLT.LCTRL.RELEASE : Fld := ⟨0x141000, 4, 1⟩
def CLT.LCTRL.MGMT_EN : Fld := ⟨0x141000, 3, 1⟩
def CLT.LCTRL.ADM_OPEN : Fld := ⟨0x141000, 2, 1⟩
def CLT.LCTRL.LEVEL : Fld := ⟨0x141000, 0, 1⟩
/-- R145. Address of CLT.LREL. -/
def CLT.LREL.addr : Nat := 0x141004
def CLT.LREL.RELEASE_SLOT : Fld := ⟨0x141004, 0, 5⟩
/-- R145. Address of CLT.LSTAT. -/
def CLT.LSTAT.addr : Nat := 0x141008
def CLT.LSTAT.FREE : Fld := ⟨0x141008, 24, 6⟩
def CLT.LSTAT.ASSIGNED : Fld := ⟨0x141008, 16, 6⟩
def CLT.LSTAT.RANGING : Fld := ⟨0x141008, 1, 1⟩
def CLT.LSTAT.QUIET : Fld := ⟨0x141008, 0, 1⟩
/-- R145. Address of CLT.LEVT. -/
def CLT.LEVT.addr : Nat := 0x14100C
def CLT.LEVT.BOOKS : Fld := ⟨0x14100C, 7, 1⟩
def CLT.LEVT.DUP_UID : Fld := ⟨0x14100C, 6, 1⟩
def CLT.LEVT.COLLISION : Fld := ⟨0x14100C, 5, 1⟩
def CLT.LEVT.MGMT_TIMEOUT : Fld := ⟨0x14100C, 4, 1⟩
def CLT.LEVT.MGMT_DONE : Fld := ⟨0x14100C, 3, 1⟩
def CLT.LEVT.RELEASED : Fld := ⟨0x14100C, 2, 1⟩
def CLT.LEVT.REFUSED : Fld := ⟨0x14100C, 1, 1⟩
def CLT.LEVT.ADMITTED : Fld := ⟨0x14100C, 0, 1⟩
/-- R145. Address of CLT.SLOTMAP. -/
def CLT.SLOTMAP.addr : Nat := 0x141010
def CLT.SLOTMAP.ASSIGNED : Fld := ⟨0x141010, 0, 32⟩
/-- R145. Address of CLT.QUARMAP. -/
def CLT.QUARMAP.addr : Nat := 0x141014
def CLT.QUARMAP.QUAR : Fld := ⟨0x141014, 0, 32⟩
/-- R145. Address of CLT.COLL_CNT. -/
def CLT.COLL_CNT.addr : Nat := 0x141018
def CLT.COLL_CNT.COUNT : Fld := ⟨0x141018, 0, 32⟩
/-- R145. Address of CLT.ANN_CNT. -/
def CLT.ANN_CNT.addr : Nat := 0x14101C
def CLT.ANN_CNT.COUNT : Fld := ⟨0x14101C, 0, 32⟩
/-- R145. Address of CLT.MCTRL. -/
def CLT.MCTRL.addr : Nat := 0x141020
def CLT.MCTRL.SEND : Fld := ⟨0x141020, 0, 1⟩
/-- R145. Address of CLT.MSTAT. -/
def CLT.MSTAT.addr : Nat := 0x141024
def CLT.MSTAT.RESULT : Fld := ⟨0x141024, 8, 8⟩
def CLT.MSTAT.TRIES : Fld := ⟨0x141024, 4, 4⟩
def CLT.MSTAT.STATE : Fld := ⟨0x141024, 0, 2⟩
/-- R145. Address of CLT.SLOT_OWNER. -/
def CLT.SLOT_OWNER.addr : Nat := 0x141040
def CLT.SLOT_OWNER.VALID : Fld := ⟨0x141040, 15, 1⟩
def CLT.SLOT_OWNER.STATE : Fld := ⟨0x141040, 13, 2⟩
def CLT.SLOT_OWNER.CELL_IDX : Fld := ⟨0x141040, 0, 12⟩
/-! ## HST -/
/-- R471. Address of HST.AERR. -/
def HST.AERR.addr : Nat := 0x1C0000
def HST.AERR.VALID : Fld := ⟨0x1C0000, 31, 1⟩
def HST.AERR.COUNT : Fld := ⟨0x1C0000, 16, 8⟩
def HST.AERR.PATH : Fld := ⟨0x1C0000, 4, 1⟩
def HST.AERR.CAUSE : Fld := ⟨0x1C0000, 0, 4⟩
/-- R471. Address of HST.AERR_ADDR. -/
def HST.AERR_ADDR.addr : Nat := 0x1C0004
def HST.AERR_ADDR.ADDR : Fld := ⟨0x1C0004, 0, 32⟩
/-- R471. Address of HST.PCIE_STAT. -/
def HST.PCIE_STAT.addr : Nat := 0x1C0008
def HST.PCIE_STAT.LDOWN_SEEN : Fld := ⟨0x1C0008, 8, 1⟩
def HST.PCIE_STAT.WIDTH : Fld := ⟨0x1C0008, 4, 4⟩
def HST.PCIE_STAT.SPEED : Fld := ⟨0x1C0008, 2, 2⟩
def HST.PCIE_STAT.MSIX_EN : Fld := ⟨0x1C0008, 1, 1⟩
def HST.PCIE_STAT.LINK_UP : Fld := ⟨0x1C0008, 0, 1⟩
/-- R471. Address of HST.SPIC_CFG. -/
def HST.SPIC_CFG.addr : Nat := 0x1C0010
def HST.SPIC_CFG.WP_OFF : Fld := ⟨0x1C0010, 8, 1⟩
def HST.SPIC_CFG.DIV : Fld := ⟨0x1C0010, 0, 8⟩
/-- R471. Address of HST.SPIC_CMD. -/
def HST.SPIC_CMD.addr : Nat := 0x1C0014
def HST.SPIC_CMD.GO : Fld := ⟨0x1C0014, 31, 1⟩
def HST.SPIC_CMD.WRITE : Fld := ⟨0x1C0014, 30, 1⟩
def HST.SPIC_CMD.QUAD : Fld := ⟨0x1C0014, 29, 1⟩
def HST.SPIC_CMD.LEN : Fld := ⟨0x1C0014, 20, 9⟩
def HST.SPIC_CMD.ADDR_BYTES : Fld := ⟨0x1C0014, 18, 2⟩
def HST.SPIC_CMD.DUMMY : Fld := ⟨0x1C0014, 14, 4⟩
def HST.SPIC_CMD.OPCODE : Fld := ⟨0x1C0014, 0, 8⟩
/-- R471. Address of HST.SPIC_ADDR. -/
def HST.SPIC_ADDR.addr : Nat := 0x1C0018
def HST.SPIC_ADDR.ADDR : Fld := ⟨0x1C0018, 0, 32⟩
/-- R471. Address of HST.SPIC_STAT. -/
def HST.SPIC_STAT.addr : Nat := 0x1C001C
def HST.SPIC_STAT.BUSY : Fld := ⟨0x1C001C, 0, 1⟩
/-! ## ETH -/
/-- R472. Address of ETH.PTP_NS. -/
def ETH.PTP_NS.addr : Nat := 0x1D0000
def ETH.PTP_NS.NS : Fld := ⟨0x1D0000, 0, 30⟩
/-- R472. Address of ETH.PTP_SEC_LO. -/
def ETH.PTP_SEC_LO.addr : Nat := 0x1D0004
def ETH.PTP_SEC_LO.SEC : Fld := ⟨0x1D0004, 0, 32⟩
/-- R472. Address of ETH.PTP_SEC_HI. -/
def ETH.PTP_SEC_HI.addr : Nat := 0x1D0008
def ETH.PTP_SEC_HI.SEC : Fld := ⟨0x1D0008, 0, 16⟩
/-- R472. Address of ETH.PTP_ADJ. -/
def ETH.PTP_ADJ.addr : Nat := 0x1D000C
def ETH.PTP_ADJ.ADJ : Fld := ⟨0x1D000C, 0, 32⟩
/-- R472. Address of ETH.STEP_NS. -/
def ETH.STEP_NS.addr : Nat := 0x1D0010
def ETH.STEP_NS.NS : Fld := ⟨0x1D0010, 0, 32⟩
/-- R472. Address of ETH.STEP_SEC. -/
def ETH.STEP_SEC.addr : Nat := 0x1D0014
def ETH.STEP_SEC.SEC : Fld := ⟨0x1D0014, 0, 32⟩
/-- R472. Address of ETH.PTP_CTRL. -/
def ETH.PTP_CTRL.addr : Nat := 0x1D0018
def ETH.PTP_CTRL.STEP : Fld := ⟨0x1D0018, 31, 1⟩
def ETH.PTP_CTRL.LOCK_TO : Fld := ⟨0x1D0018, 8, 4⟩
def ETH.PTP_CTRL.PTP_PORT : Fld := ⟨0x1D0018, 1, 1⟩
def ETH.PTP_CTRL.LOCK : Fld := ⟨0x1D0018, 0, 1⟩
/-- R472. Address of ETH.PTP_STAT. -/
def ETH.PTP_STAT.addr : Nat := 0x1D001C
def ETH.PTP_STAT.STEPPED : Fld := ⟨0x1D001C, 1, 1⟩
def ETH.PTP_STAT.LOCKED : Fld := ⟨0x1D001C, 0, 1⟩
/-- R472. Address of ETH.PPS_NS. -/
def ETH.PPS_NS.addr : Nat := 0x1D0020
def ETH.PPS_NS.NS : Fld := ⟨0x1D0020, 0, 30⟩
/-- R472. Address of ETH.PPS_SEC_LO. -/
def ETH.PPS_SEC_LO.addr : Nat := 0x1D0024
def ETH.PPS_SEC_LO.SEC : Fld := ⟨0x1D0024, 0, 32⟩
/-- R472. Address of ETH.PPS_SEC_HI. -/
def ETH.PPS_SEC_HI.addr : Nat := 0x1D0028
def ETH.PPS_SEC_HI.SEC : Fld := ⟨0x1D0028, 0, 16⟩
/-- R472. Address of ETH.PPS_CFG. -/
def ETH.PPS_CFG.addr : Nat := 0x1D002C
def ETH.PPS_CFG.OUT_EN : Fld := ⟨0x1D002C, 31, 1⟩
def ETH.PPS_CFG.WIDTH : Fld := ⟨0x1D002C, 0, 10⟩
/-- R472. Address of ETH.MRL_CFG. -/
def ETH.MRL_CFG.addr : Nat := 0x1D0030
def ETH.MRL_CFG.COPY_HOST : Fld := ⟨0x1D0030, 0, 1⟩
/-- R472. Address of ETH.INT. -/
def ETH.INT.addr : Nat := 0x1D0034
def ETH.INT.BITS : Fld := ⟨0x1D0034, 0, 8⟩
/-- R472. Address of ETH.INT_EN. -/
def ETH.INT_EN.addr : Nat := 0x1D0038
def ETH.INT_EN.EN : Fld := ⟨0x1D0038, 0, 8⟩
/-- R472. Address of ETH.MRL_DA_LO. -/
def ETH.MRL_DA_LO.addr : Nat := 0x1D0040
def ETH.MRL_DA_LO.DA : Fld := ⟨0x1D0040, 0, 32⟩
/-- R472. Address of ETH.MRL_DA_HI. -/
def ETH.MRL_DA_HI.addr : Nat := 0x1D0044
def ETH.MRL_DA_HI.TAG : Fld := ⟨0x1D0044, 31, 1⟩
def ETH.MRL_DA_HI.PCP : Fld := ⟨0x1D0044, 28, 3⟩
def ETH.MRL_DA_HI.VID : Fld := ⟨0x1D0044, 16, 12⟩
def ETH.MRL_DA_HI.DA : Fld := ⟨0x1D0044, 0, 16⟩
/-- R472. Address of ETH.PCFG. -/
def ETH.PCFG.addr : Nat := 0x1D1000
def ETH.PCFG.MCAST_ALL : Fld := ⟨0x1D1000, 4, 1⟩
def ETH.PCFG.PROMISC : Fld := ⟨0x1D1000, 3, 1⟩
def ETH.PCFG.AN_EN : Fld := ⟨0x1D1000, 2, 1⟩
def ETH.PCFG.MODE : Fld := ⟨0x1D1000, 1, 1⟩
def ETH.PCFG.EN : Fld := ⟨0x1D1000, 0, 1⟩
/-- R472. Address of ETH.MAC_LO. -/
def ETH.MAC_LO.addr : Nat := 0x1D1004
def ETH.MAC_LO.MAC : Fld := ⟨0x1D1004, 0, 32⟩
/-- R472. Address of ETH.MAC_HI. -/
def ETH.MAC_HI.addr : Nat := 0x1D1008
def ETH.MAC_HI.MAC : Fld := ⟨0x1D1008, 0, 16⟩
/-- R472. Address of ETH.PSTAT. -/
def ETH.PSTAT.addr : Nat := 0x1D100C
def ETH.PSTAT.RING_FULL : Fld := ⟨0x1D100C, 2, 1⟩
def ETH.PSTAT.AN_DONE : Fld := ⟨0x1D100C, 1, 1⟩
def ETH.PSTAT.LINK : Fld := ⟨0x1D100C, 0, 1⟩
/-- R472. Address of ETH.RX_WR. -/
def ETH.RX_WR.addr : Nat := 0x1D1010
def ETH.RX_WR.WR : Fld := ⟨0x1D1010, 0, 14⟩
/-- R472. Address of ETH.RX_RD. -/
def ETH.RX_RD.addr : Nat := 0x1D1014
def ETH.RX_RD.RD : Fld := ⟨0x1D1014, 0, 14⟩
/-- R472. Address of ETH.TX_CTRL. -/
def ETH.TX_CTRL.addr : Nat := 0x1D1018
def ETH.TX_CTRL.SEND : Fld := ⟨0x1D1018, 31, 1⟩
def ETH.TX_CTRL.BUSY : Fld := ⟨0x1D1018, 30, 1⟩
def ETH.TX_CTRL.TS_REQ : Fld := ⟨0x1D1018, 29, 1⟩
def ETH.TX_CTRL.LEN : Fld := ⟨0x1D1018, 0, 11⟩
/-- R472. Address of ETH.TX_TS_NS. -/
def ETH.TX_TS_NS.addr : Nat := 0x1D101C
def ETH.TX_TS_NS.VALID : Fld := ⟨0x1D101C, 31, 1⟩
def ETH.TX_TS_NS.NS : Fld := ⟨0x1D101C, 0, 30⟩
/-- R472. Address of ETH.TX_TS_SEC_LO. -/
def ETH.TX_TS_SEC_LO.addr : Nat := 0x1D1020
def ETH.TX_TS_SEC_LO.SEC : Fld := ⟨0x1D1020, 0, 32⟩
/-- R472. Address of ETH.TX_TS_SEC_HI. -/
def ETH.TX_TS_SEC_HI.addr : Nat := 0x1D1024
def ETH.TX_TS_SEC_HI.SEC : Fld := ⟨0x1D1024, 0, 16⟩
/-- R472. Address of ETH.LAT. -/
def ETH.LAT.addr : Nat := 0x1D1028
def ETH.LAT.TX_LAT : Fld := ⟨0x1D1028, 16, 16⟩
def ETH.LAT.RX_LAT : Fld := ⟨0x1D1028, 0, 16⟩
/-- R472. Address of ETH.RX_OK. -/
def ETH.RX_OK.addr : Nat := 0x1D1030
def ETH.RX_OK.COUNT : Fld := ⟨0x1D1030, 0, 32⟩
/-- R472. Address of ETH.RX_FCS. -/
def ETH.RX_FCS.addr : Nat := 0x1D1034
def ETH.RX_FCS.COUNT : Fld := ⟨0x1D1034, 0, 32⟩
/-- R472. Address of ETH.RX_DROP. -/
def ETH.RX_DROP.addr : Nat := 0x1D1038
def ETH.RX_DROP.COUNT : Fld := ⟨0x1D1038, 0, 32⟩
/-- R472. Address of ETH.RX_PAUSE. -/
def ETH.RX_PAUSE.addr : Nat := 0x1D103C
def ETH.RX_PAUSE.COUNT : Fld := ⟨0x1D103C, 0, 32⟩
/-- R472. Address of ETH.TX_OK. -/
def ETH.TX_OK.addr : Nat := 0x1D1040
def ETH.TX_OK.COUNT : Fld := ⟨0x1D1040, 0, 32⟩
/-- R472. Address of ETH.MRL_RX. -/
def ETH.MRL_RX.addr : Nat := 0x1D1044
def ETH.MRL_RX.COUNT : Fld := ⟨0x1D1044, 0, 32⟩
/-! ## CAN -/
/-- R473. Address of CAN.CTRL. -/
def CAN.CTRL.addr : Nat := 0x1E0000
def CAN.CTRL.RETRY_EN : Fld := ⟨0x1E0000, 12, 1⟩
def CAN.CTRL.RETRY : Fld := ⟨0x1E0000, 8, 4⟩
def CAN.CTRL.TXORDER : Fld := ⟨0x1E0000, 7, 1⟩
def CAN.CTRL.AUTO_REC : Fld := ⟨0x1E0000, 6, 1⟩
def CAN.CTRL.PXHD : Fld := ⟨0x1E0000, 5, 1⟩
def CAN.CTRL.FD_EN : Fld := ⟨0x1E0000, 4, 1⟩
def CAN.CTRL.MODE : Fld := ⟨0x1E0000, 1, 3⟩
def CAN.CTRL.EN : Fld := ⟨0x1E0000, 0, 1⟩
/-- R473. Address of CAN.NBT. -/
def CAN.NBT.addr : Nat := 0x1E0004
def CAN.NBT.BRP : Fld := ⟨0x1E0004, 23, 9⟩
def CAN.NBT.TSEG1M1 : Fld := ⟨0x1E0004, 16, 7⟩
def CAN.NBT.TSEG2M1 : Fld := ⟨0x1E0004, 8, 7⟩
def CAN.NBT.SJWM1 : Fld := ⟨0x1E0004, 0, 7⟩
/-- R473. Address of CAN.DBT. -/
def CAN.DBT.addr : Nat := 0x1E0008
def CAN.DBT.DBRP : Fld := ⟨0x1E0008, 27, 5⟩
def CAN.DBT.DTSEG1M1 : Fld := ⟨0x1E0008, 22, 5⟩
def CAN.DBT.DTSEG2M1 : Fld := ⟨0x1E0008, 18, 4⟩
def CAN.DBT.DSJWM1 : Fld := ⟨0x1E0008, 14, 4⟩
def CAN.DBT.TDC_EN : Fld := ⟨0x1E0008, 13, 1⟩
def CAN.DBT.TDCO : Fld := ⟨0x1E0008, 0, 7⟩
/-- R473. Address of CAN.STAT. -/
def CAN.STAT.addr : Nat := 0x1E000C
def CAN.STAT.STATE : Fld := ⟨0x1E000C, 25, 2⟩
def CAN.STAT.WARN : Fld := ⟨0x1E000C, 24, 1⟩
def CAN.STAT.REC : Fld := ⟨0x1E000C, 16, 8⟩
def CAN.STAT.TEC : Fld := ⟨0x1E000C, 0, 9⟩
/-- R473. Address of CAN.CMD. -/
def CAN.CMD.addr : Nat := 0x1E0010
def CAN.CMD.RECOVER : Fld := ⟨0x1E0010, 3, 1⟩
def CAN.CMD.CANCEL : Fld := ⟨0x1E0010, 0, 3⟩
/-- R473. Address of CAN.TXSLOT. -/
def CAN.TXSLOT.addr : Nat := 0x1E0020
def CAN.TXSLOT.REQ : Fld := ⟨0x1E0020, 31, 1⟩
def CAN.TXSLOT.STATE : Fld := ⟨0x1E0020, 29, 2⟩
def CAN.TXSLOT.ATTEMPTS : Fld := ⟨0x1E0020, 20, 4⟩
def CAN.TXSLOT.BUF : Fld := ⟨0x1E0020, 0, 9⟩
/-- R473. Address of CAN.TXEVT. -/
def CAN.TXEVT.addr : Nat := 0x1E0030
def CAN.TXEVT.VALID : Fld := ⟨0x1E0030, 31, 1⟩
def CAN.TXEVT.STATUS : Fld := ⟨0x1E0030, 29, 2⟩
def CAN.TXEVT.SLOT : Fld := ⟨0x1E0030, 27, 2⟩
def CAN.TXEVT.BUF : Fld := ⟨0x1E0030, 18, 9⟩
/-- R473. Address of CAN.TXEVT_ID. -/
def CAN.TXEVT_ID.addr : Nat := 0x1E0034
def CAN.TXEVT_ID.ID : Fld := ⟨0x1E0034, 0, 30⟩
/-- R473. Address of CAN.TXEVT_TS. -/
def CAN.TXEVT_TS.addr : Nat := 0x1E0038
def CAN.TXEVT_TS.TS : Fld := ⟨0x1E0038, 0, 32⟩
/-- R473. Address of CAN.TXEVT_POP. -/
def CAN.TXEVT_POP.addr : Nat := 0x1E003C
def CAN.TXEVT_POP.POP : Fld := ⟨0x1E003C, 0, 1⟩
/-- R473. Address of CAN.RXFIFO. -/
def CAN.RXFIFO.addr : Nat := 0x1E0040
def CAN.RXFIFO.VALID : Fld := ⟨0x1E0040, 31, 1⟩
def CAN.RXFIFO.COUNT : Fld := ⟨0x1E0040, 16, 7⟩
def CAN.RXFIFO.BUF : Fld := ⟨0x1E0040, 0, 9⟩
/-- R473. Address of CAN.RXPOP. -/
def CAN.RXPOP.addr : Nat := 0x1E0044
def CAN.RXPOP.POP : Fld := ⟨0x1E0044, 0, 1⟩
/-- R473. Address of CAN.INT. -/
def CAN.INT.addr : Nat := 0x1E0050
def CAN.INT.BITS : Fld := ⟨0x1E0050, 0, 10⟩
/-- R473. Address of CAN.INT_EN. -/
def CAN.INT_EN.addr : Nat := 0x1E0054
def CAN.INT_EN.EN : Fld := ⟨0x1E0054, 0, 10⟩
/-- R473. Address of CAN.CNT. -/
def CAN.CNT.addr : Nat := 0x1E0058
def CAN.CNT.NOBUF : Fld := ⟨0x1E0058, 16, 16⟩
def CAN.CNT.FIFO_FULL : Fld := ⟨0x1E0058, 0, 16⟩
/-- R473. Address of CAN.FID. -/
def CAN.FID.addr : Nat := 0x1E0100
def CAN.FID.EN : Fld := ⟨0x1E0100, 31, 1⟩
def CAN.FID.XTD : Fld := ⟨0x1E0100, 30, 1⟩
def CAN.FID.ID : Fld := ⟨0x1E0100, 0, 29⟩
/-- R473. Address of CAN.FMASK. -/
def CAN.FMASK.addr : Nat := 0x1E0104
def CAN.FMASK.MASK : Fld := ⟨0x1E0104, 0, 29⟩
/-- R473. Address of CAN.FTGT. -/
def CAN.FTGT.addr : Nat := 0x1E0108
def CAN.FTGT.MB : Fld := ⟨0x1E0108, 31, 1⟩
def CAN.FTGT.BUF : Fld := ⟨0x1E0108, 0, 9⟩
/-- R473. Address of CAN.TS. -/
def CAN.TS.addr : Nat := 0x1E8000
def CAN.TS.TS : Fld := ⟨0x1E8000, 0, 32⟩
/-- R473. Address of CAN.TS_CFG. -/
def CAN.TS_CFG.addr : Nat := 0x1E8004
def CAN.TS_CFG.PRESC : Fld := ⟨0x1E8004, 0, 8⟩
/-- R473. Address of CAN.TS_SNAP. -/
def CAN.TS_SNAP.addr : Nat := 0x1E8008
def CAN.TS_SNAP.SNAP : Fld := ⟨0x1E8008, 0, 1⟩
/-- R473. Address of CAN.SNAP_TS. -/
def CAN.SNAP_TS.addr : Nat := 0x1E800C
def CAN.SNAP_TS.TS : Fld := ⟨0x1E800C, 0, 32⟩
/-- R473. Address of CAN.SNAP_NS. -/
def CAN.SNAP_NS.addr : Nat := 0x1E8010
def CAN.SNAP_NS.NS : Fld := ⟨0x1E8010, 0, 32⟩
/-- R473. Address of CAN.SNAP_SEC_LO. -/
def CAN.SNAP_SEC_LO.addr : Nat := 0x1E8014
def CAN.SNAP_SEC_LO.SEC : Fld := ⟨0x1E8014, 0, 32⟩
/-- R473. Address of CAN.SNAP_SEC_HI. -/
def CAN.SNAP_SEC_HI.addr : Nat := 0x1E8018
def CAN.SNAP_SEC_HI.SEC : Fld := ⟨0x1E8018, 0, 32⟩
/-! ## SLT -/
/-- R474. Address of SLT.ALLOC. -/
def SLT.ALLOC.addr : Nat := 0x1F0000
def SLT.ALLOC.VALID : Fld := ⟨0x1F0000, 31, 1⟩
def SLT.ALLOC.BUF : Fld := ⟨0x1F0000, 0, 9⟩
/-- R474. Address of SLT.FREE. -/
def SLT.FREE.addr : Nat := 0x1F0004
def SLT.FREE.BUF : Fld := ⟨0x1F0004, 0, 9⟩
/-- R474. Address of SLT.COUNT. -/
def SLT.COUNT.addr : Nat := 0x1F0008
def SLT.COUNT.TRANSIT : Fld := ⟨0x1F0008, 20, 4⟩
def SLT.COUNT.OWNED : Fld := ⟨0x1F0008, 10, 10⟩
def SLT.COUNT.FREE : Fld := ⟨0x1F0008, 0, 10⟩
/-- R474. Address of SLT.QUOTA. -/
def SLT.QUOTA.addr : Nat := 0x1F000C
def SLT.QUOTA.Q3 : Fld := ⟨0x1F000C, 24, 8⟩
def SLT.QUOTA.Q2 : Fld := ⟨0x1F000C, 16, 8⟩
def SLT.QUOTA.Q1 : Fld := ⟨0x1F000C, 8, 8⟩
def SLT.QUOTA.Q0 : Fld := ⟨0x1F000C, 0, 8⟩
/-- R474. Address of SLT.EVT. -/
def SLT.EVT.addr : Nat := 0x1F0010
def SLT.EVT.BOOKS : Fld := ⟨0x1F0010, 2, 1⟩
def SLT.EVT.FREE_ERR : Fld := ⟨0x1F0010, 1, 1⟩
def SLT.EVT.ALLOC_FAIL : Fld := ⟨0x1F0010, 0, 1⟩
/-- R474. Address of SLT.ND_CLR. -/
def SLT.ND_CLR.addr : Nat := 0x1F0014
def SLT.ND_CLR.SEQ : Fld := ⟨0x1F0014, 12, 4⟩
def SLT.ND_CLR.BUF : Fld := ⟨0x1F0014, 0, 9⟩
/-- R474. Address of SLT.META. -/
def SLT.META.addr : Nat := 0x1F1000
def SLT.META.CTRL : Fld := ⟨0x1F1000, 25, 2⟩
def SLT.META.OWNER : Fld := ⟨0x1F1000, 22, 3⟩
def SLT.META.FILTER : Fld := ⟨0x1F1000, 17, 5⟩
def SLT.META.SEQ : Fld := ⟨0x1F1000, 12, 4⟩
def SLT.META.BUSY : Fld := ⟨0x1F1000, 11, 1⟩
def SLT.META.ND : Fld := ⟨0x1F1000, 10, 1⟩
def SLT.META.ESI : Fld := ⟨0x1F1000, 5, 1⟩
def SLT.META.BRS : Fld := ⟨0x1F1000, 4, 1⟩
def SLT.META.DLC : Fld := ⟨0x1F1000, 0, 4⟩
/-! ## CEN -/
/-- R209. Address of CEN.CTRL. -/
def CEN.CTRL.addr : Nat := 0x200000
def CEN.CTRL.RD_PEND : Fld := ⟨0x200000, 0, 1⟩
/-- R209. Address of CEN.STAT. -/
def CEN.STAT.addr : Nat := 0x200004
def CEN.STAT.OUTER_DEPTH : Fld := ⟨0x200004, 16, 7⟩
def CEN.STAT.INNER_DEPTH : Fld := ⟨0x200004, 8, 7⟩
def CEN.STAT.TILE_COUNT : Fld := ⟨0x200004, 0, 7⟩
/-- R209. Address of CEN.PCOMMIT. -/
def CEN.PCOMMIT.addr : Nat := 0x200008
def CEN.PCOMMIT.ALIGN_OUTER : Fld := ⟨0x200008, 2, 1⟩
def CEN.PCOMMIT.AT_PCNT : Fld := ⟨0x200008, 1, 1⟩
def CEN.PCOMMIT.GO : Fld := ⟨0x200008, 0, 1⟩
/-- R209. Address of CEN.PCOMMIT_PCNT. -/
def CEN.PCOMMIT_PCNT.addr : Nat := 0x20000C
def CEN.PCOMMIT_PCNT.PCNT : Fld := ⟨0x20000C, 0, 32⟩
/-- R209. Address of CEN.PCOMMIT_STAT. -/
def CEN.PCOMMIT_STAT.addr : Nat := 0x200010
def CEN.PCOMMIT_STAT.CPOOL_DIRTY : Fld := ⟨0x200010, 3, 1⟩
def CEN.PCOMMIT_STAT.REJ : Fld := ⟨0x200010, 2, 1⟩
def CEN.PCOMMIT_STAT.OUTER_PEND : Fld := ⟨0x200010, 1, 1⟩
def CEN.PCOMMIT_STAT.PEND : Fld := ⟨0x200010, 0, 1⟩
/-- R209. Address of CEN.PCOMMIT_LAST. -/
def CEN.PCOMMIT_LAST.addr : Nat := 0x200014
def CEN.PCOMMIT_LAST.PCNT : Fld := ⟨0x200014, 0, 32⟩
/-- R209. Address of CEN.DIRTY. -/
def CEN.DIRTY.addr : Nat := 0x200020
def CEN.DIRTY.DIRTY : Fld := ⟨0x200020, 0, 32⟩
/-- R209. Address of CEN.SATSUM. -/
def CEN.SATSUM.addr : Nat := 0x200040
def CEN.SATSUM.OUTER : Fld := ⟨0x200040, 1, 1⟩
def CEN.SATSUM.INNER : Fld := ⟨0x200040, 0, 1⟩
/-- R209. Address of CEN.SATMAP. -/
def CEN.SATMAP.addr : Nat := 0x200044
def CEN.SATMAP.ANY : Fld := ⟨0x200044, 0, 32⟩
/-- R209. Address of CEN.SATMASK. -/
def CEN.SATMASK.addr : Nat := 0x200050
def CEN.SATMASK.MASK : Fld := ⟨0x200050, 0, 32⟩
/-- R209. Address of CEN.INJ_CTRL. -/
def CEN.INJ_CTRL.addr : Nat := 0x200100
def CEN.INJ_CTRL.RUN : Fld := ⟨0x200100, 31, 1⟩
def CEN.INJ_CTRL.STOP : Fld := ⟨0x200100, 30, 1⟩
def CEN.INJ_CTRL.START : Fld := ⟨0x200100, 29, 1⟩
def CEN.INJ_CTRL.WAVE : Fld := ⟨0x200100, 25, 2⟩
def CEN.INJ_CTRL.TGT_EN : Fld := ⟨0x200100, 24, 1⟩
def CEN.INJ_CTRL.TGT_TILE : Fld := ⟨0x200100, 16, 7⟩
def CEN.INJ_CTRL.TGT_IN : Fld := ⟨0x200100, 12, 2⟩
/-- R209. Address of CEN.INJ_AMP. -/
def CEN.INJ_AMP.addr : Nat := 0x200104
def CEN.INJ_AMP.AMP : Fld := ⟨0x200104, 0, 32⟩
/-- R209. Address of CEN.INJ_OFFS. -/
def CEN.INJ_OFFS.addr : Nat := 0x200108
def CEN.INJ_OFFS.OFFS : Fld := ⟨0x200108, 0, 32⟩
/-- R209. Address of CEN.INJ_FREQ. -/
def CEN.INJ_FREQ.addr : Nat := 0x20010C
def CEN.INJ_FREQ.FREQ : Fld := ⟨0x20010C, 0, 32⟩
/-- R209. Address of CEN.INJ_PHASE0. -/
def CEN.INJ_PHASE0.addr : Nat := 0x200110
def CEN.INJ_PHASE0.PHASE0 : Fld := ⟨0x200110, 0, 32⟩
/-- R209. Address of CEN.INJ_FSTOP. -/
def CEN.INJ_FSTOP.addr : Nat := 0x200114
def CEN.INJ_FSTOP.FSTOP : Fld := ⟨0x200114, 0, 32⟩
/-- R209. Address of CEN.INJ_FSTEP. -/
def CEN.INJ_FSTEP.addr : Nat := 0x200118
def CEN.INJ_FSTEP.FSTEP : Fld := ⟨0x200118, 0, 32⟩
/-- R209. Address of CEN.INJ_CFG. -/
def CEN.INJ_CFG.addr : Nat := 0x20011C
def CEN.INJ_CFG.SWP_EXP : Fld := ⟨0x20011C, 16, 4⟩
def CEN.INJ_CFG.HOLD : Fld := ⟨0x20011C, 0, 16⟩
/-- R209. Address of CEN.INJ_DUR. -/
def CEN.INJ_DUR.addr : Nat := 0x200120
def CEN.INJ_DUR.DUR : Fld := ⟨0x200120, 0, 32⟩
/-- R209. Address of CEN.INJ_START_PCNT. -/
def CEN.INJ_START_PCNT.addr : Nat := 0x200124
def CEN.INJ_START_PCNT.PCNT : Fld := ⟨0x200124, 0, 32⟩
/-- R209. Address of CEN.CORR_CTRL. -/
def CEN.CORR_CTRL.addr : Nat := 0x200200
def CEN.CORR_CTRL.BUSY : Fld := ⟨0x200200, 31, 1⟩
def CEN.CORR_CTRL.DONE : Fld := ⟨0x200200, 30, 1⟩
def CEN.CORR_CTRL.START : Fld := ⟨0x200200, 29, 1⟩
def CEN.CORR_CTRL.ERR : Fld := ⟨0x200200, 28, 1⟩
def CEN.CORR_CTRL.OVF : Fld := ⟨0x200200, 27, 1⟩
def CEN.CORR_CTRL.REF : Fld := ⟨0x200200, 24, 2⟩
def CEN.CORR_CTRL.NCYC : Fld := ⟨0x200200, 16, 8⟩
/-- R209. Address of CEN.CORR_SEL. -/
def CEN.CORR_SEL.addr : Nat := 0x200204
def CEN.CORR_SEL.SEL : Fld := ⟨0x200204, 0, 32⟩
/-- R209. Address of CEN.CORR_I. -/
def CEN.CORR_I.addr : Nat := 0x200208
def CEN.CORR_I.I : Fld := ⟨0x200208, 0, 32⟩
/-- R209. Address of CEN.CORR_Q. -/
def CEN.CORR_Q.addr : Nat := 0x20020C
def CEN.CORR_Q.Q : Fld := ⟨0x20020C, 0, 32⟩
/-- R209. Address of CEN.CORR_N. -/
def CEN.CORR_N.addr : Nat := 0x200210
def CEN.CORR_N.N : Fld := ⟨0x200210, 0, 32⟩
/-- R209. Address of CEN.CAP_CTRL. -/
def CEN.CAP_CTRL.addr : Nat := 0x200400
def CEN.CAP_CTRL.ARM : Fld := ⟨0x200400, 31, 1⟩
def CEN.CAP_CTRL.ABORT : Fld := ⟨0x200400, 30, 1⟩
def CEN.CAP_CTRL.FORCE : Fld := ⟨0x200400, 29, 1⟩
def CEN.CAP_CTRL.RATE : Fld := ⟨0x200400, 28, 1⟩
def CEN.CAP_CTRL.DEC_EXP : Fld := ⟨0x200400, 24, 4⟩
def CEN.CAP_CTRL.TRIG : Fld := ⟨0x200400, 20, 4⟩
def CEN.CAP_CTRL.PRE : Fld := ⟨0x200400, 0, 13⟩
/-- R209. Address of CEN.CAP_TPCNT. -/
def CEN.CAP_TPCNT.addr : Nat := 0x200404
def CEN.CAP_TPCNT.PCNT : Fld := ⟨0x200404, 0, 32⟩
/-- R209. Address of CEN.CAP_TSEL. -/
def CEN.CAP_TSEL.addr : Nat := 0x200408
def CEN.CAP_TSEL.TSEL : Fld := ⟨0x200408, 0, 7⟩
/-- R209. Address of CEN.CAP_STAT. -/
def CEN.CAP_STAT.addr : Nat := 0x20040C
def CEN.CAP_STAT.STATE : Fld := ⟨0x20040C, 30, 2⟩
def CEN.CAP_STAT.PRE_VALID : Fld := ⟨0x20040C, 13, 13⟩
def CEN.CAP_STAT.TRIG_IDX : Fld := ⟨0x20040C, 0, 13⟩
/-- R209. Address of CEN.CAP_TRIG_PCNT. -/
def CEN.CAP_TRIG_PCNT.addr : Nat := 0x200410
def CEN.CAP_TRIG_PCNT.PCNT : Fld := ⟨0x200410, 0, 32⟩
/-- R209. Address of CEN.CAP_SEL. -/
def CEN.CAP_SEL.addr : Nat := 0x200440
def CEN.CAP_SEL.COPY : Fld := ⟨0x200440, 31, 1⟩
def CEN.CAP_SEL.SRC : Fld := ⟨0x200440, 28, 3⟩
def CEN.CAP_SEL.INDEX : Fld := ⟨0x200440, 8, 7⟩
def CEN.CAP_SEL.PORT : Fld := ⟨0x200440, 0, 3⟩
/-! ## FUN -/
/-- R237. Address of FUN.MID. -/
def FUN.MID.addr : Nat := 0x300000
def FUN.MID.TYPE : Fld := ⟨0x300000, 24, 8⟩
def FUN.MID.INSTANCE : Fld := ⟨0x300000, 16, 8⟩
def FUN.MID.FIRST_TILE : Fld := ⟨0x300000, 8, 8⟩
def FUN.MID.TILE_CNT : Fld := ⟨0x300000, 0, 8⟩
/-- R237. Address of FUN.MSTAT. -/
def FUN.MSTAT.addr : Nat := 0x300004
def FUN.MSTAT.STAT : Fld := ⟨0x300004, 0, 4⟩
/-- R237. Address of FUN.MEVT. -/
def FUN.MEVT.addr : Nat := 0x300008
def FUN.MEVT.EVT : Fld := ⟨0x300008, 0, 3⟩
/-- R237. Address of FUN.MCTL. -/
def FUN.MCTL.addr : Nat := 0x30000C
def FUN.MCTL.CMD : Fld := ⟨0x30000C, 0, 2⟩
/-- R237. Address of FUN.MARG. -/
def FUN.MARG.addr : Nat := 0x300010
def FUN.MARG.ARG : Fld := ⟨0x300010, 0, 32⟩
/-- R237. Address of FUN.MVAL. -/
def FUN.MVAL.addr : Nat := 0x300020
def FUN.MVAL.VAL : Fld := ⟨0x300020, 0, 32⟩
/-- R237. Address of FUN.EVSUM. -/
def FUN.EVSUM.addr : Nat := 0x302000
def FUN.EVSUM.REC : Fld := ⟨0x302000, 0, 32⟩
/-! ## KAO -/
/-- R402. Address of KAO.ID. -/
def KAO.ID.addr : Nat := 0x400000
def KAO.ID.LEVEL : Fld := ⟨0x400000, 24, 8⟩
def KAO.ID.PROP_FMT : Fld := ⟨0x400000, 16, 8⟩
/-- R402. Address of KAO.STAT. -/
def KAO.STAT.addr : Nat := 0x400004
def KAO.STAT.TIME_INVALID : Fld := ⟨0x400004, 11, 1⟩
def KAO.STAT.VDDM_WARN : Fld := ⟨0x400004, 10, 1⟩
def KAO.STAT.SEAL_N : Fld := ⟨0x400004, 9, 1⟩
def KAO.STAT.DIR_AC : Fld := ⟨0x400004, 3, 1⟩
def KAO.STAT.DIR_DC : Fld := ⟨0x400004, 2, 1⟩
def KAO.STAT.STATE : Fld := ⟨0x400004, 0, 2⟩
/-- R402. Address of KAO.CHECK. -/
def KAO.CHECK.addr : Nat := 0x400008
def KAO.CHECK.CHECK : Fld := ⟨0x400008, 0, 32⟩
/-- R402. Address of KAO.UNSEAL_CNT. -/
def KAO.UNSEAL_CNT.addr : Nat := 0x40000C
def KAO.UNSEAL_CNT.COUNT : Fld := ⟨0x40000C, 0, 32⟩
/-- R402. Address of KAO.TIME_LO. -/
def KAO.TIME_LO.addr : Nat := 0x400010
def KAO.TIME_LO.TIME : Fld := ⟨0x400010, 0, 32⟩
/-- R402. Address of KAO.TIME_HI. -/
def KAO.TIME_HI.addr : Nat := 0x400014
def KAO.TIME_HI.TIME : Fld := ⟨0x400014, 0, 32⟩
/-- R402. Address of KAO.BLK_SEQ. -/
def KAO.BLK_SEQ.addr : Nat := 0x400018
def KAO.BLK_SEQ.SEQ : Fld := ⟨0x400018, 0, 32⟩
/-- R402. Address of KAO.TOT. -/
def KAO.TOT.addr : Nat := 0x400020
def KAO.TOT.WORD : Fld := ⟨0x400020, 0, 32⟩
/-- R402. Address of KAO.SEG. -/
def KAO.SEG.addr : Nat := 0x400050
def KAO.SEG.AC2 : Fld := ⟨0x400050, 8, 3⟩
def KAO.SEG.AC1 : Fld := ⟨0x400050, 4, 3⟩
def KAO.SEG.DC : Fld := ⟨0x400050, 0, 3⟩
/-- R402. Address of KAO.IVL. -/
def KAO.IVL.addr : Nat := 0x400054
def KAO.IVL.REV_CNT : Fld := ⟨0x400054, 16, 16⟩
def KAO.IVL.NOLOAD : Fld := ⟨0x400054, 0, 16⟩
/-- R402. Address of KAO.SI_CNT. -/
def KAO.SI_CNT.addr : Nat := 0x400060
def KAO.SI_CNT.COUNT : Fld := ⟨0x400060, 0, 32⟩
/-- R402. Address of KAO.PO_CNT. -/
def KAO.PO_CNT.addr : Nat := 0x400070
def KAO.PO_CNT.COUNT : Fld := ⟨0x400070, 0, 32⟩
/-- R402. Address of KAO.PSTAT. -/
def KAO.PSTAT.addr : Nat := 0x400078
def KAO.PSTAT.PO_OVR : Fld := ⟨0x400078, 8, 2⟩
def KAO.PSTAT.SI_OVR : Fld := ⟨0x400078, 4, 4⟩
def KAO.PSTAT.SI_STUCK : Fld := ⟨0x400078, 0, 4⟩
/-- R402. Address of KAO.WR_SEQ. -/
def KAO.WR_SEQ.addr : Nat := 0x400080
def KAO.WR_SEQ.SEQ : Fld := ⟨0x400080, 0, 32⟩
/-! ## MRL -/
/-- R440. Address of MRL.ID. -/
def MRL.ID.addr : Nat := 0x410000
def MRL.ID.LEVEL : Fld := ⟨0x410000, 24, 8⟩
def MRL.ID.PROP_FMT : Fld := ⟨0x410000, 16, 8⟩
/-- R440. Address of MRL.STAT. -/
def MRL.STAT.addr : Nat := 0x410004
def MRL.STAT.FAULT : Fld := ⟨0x410004, 24, 8⟩
def MRL.STAT.CONF_BUSY : Fld := ⟨0x410004, 7, 1⟩
def MRL.STAT.PROP_HELD : Fld := ⟨0x410004, 6, 1⟩
def MRL.STAT.SB : Fld := ⟨0x410004, 5, 1⟩
def MRL.STAT.NOTIFY : Fld := ⟨0x410004, 4, 1⟩
def MRL.STAT.STATE : Fld := ⟨0x410004, 0, 2⟩
/-- R440. Address of MRL.CHECK. -/
def MRL.CHECK.addr : Nat := 0x410008
def MRL.CHECK.CHECK : Fld := ⟨0x410008, 0, 32⟩
/-- R440. Address of MRL.PROP_CHECK. -/
def MRL.PROP_CHECK.addr : Nat := 0x41000C
def MRL.PROP_CHECK.CHECK : Fld := ⟨0x41000C, 0, 32⟩
/-- R440. Address of MRL.CONFIRM. -/
def MRL.CONFIRM.addr : Nat := 0x410010
def MRL.CONFIRM.VALUE : Fld := ⟨0x410010, 0, 32⟩
/-- R440. Address of MRL.IN. -/
def MRL.IN.addr : Nat := 0x410014
def MRL.IN.DISC : Fld := ⟨0x410014, 16, 16⟩
def MRL.IN.STATE : Fld := ⟨0x410014, 0, 16⟩
/-- R440. Address of MRL.CONTACT. -/
def MRL.CONTACT.addr : Nat := 0x410018
def MRL.CONTACT.C2 : Fld := ⟨0x410018, 16, 16⟩
def MRL.CONTACT.C1 : Fld := ⟨0x410018, 0, 16⟩
/-- R440. Address of MRL.OUT. -/
def MRL.OUT.addr : Nat := 0x41001C
def MRL.OUT.WAIT : Fld := ⟨0x41001C, 24, 8⟩
def MRL.OUT.FAULT : Fld := ⟨0x41001C, 16, 8⟩
def MRL.OUT.RB : Fld := ⟨0x41001C, 8, 8⟩
def MRL.OUT.ON : Fld := ⟨0x41001C, 0, 8⟩
/-- R440. Address of MRL.OUT_FK. -/
def MRL.OUT_FK.addr : Nat := 0x410020
def MRL.OUT_FK.KIND : Fld := ⟨0x410020, 0, 32⟩
/-- R440. Address of MRL.VA. -/
def MRL.VA.addr : Nat := 0x410024
def MRL.VA.PAIR : Fld := ⟨0x410024, 0, 8⟩
/-- R440. Address of MRL.VA_CODE. -/
def MRL.VA_CODE.addr : Nat := 0x410028
def MRL.VA_CODE.RB : Fld := ⟨0x410028, 16, 12⟩
def MRL.VA_CODE.RA : Fld := ⟨0x410028, 0, 12⟩
/-- R440. Address of MRL.CSTAT. -/
def MRL.CSTAT.addr : Nat := 0x410040
def MRL.CSTAT.ECHO : Fld := ⟨0x410040, 8, 16⟩
def MRL.CSTAT.STATE : Fld := ⟨0x410040, 0, 2⟩
/-- R440. Address of MRL.CCNT. -/
def MRL.CCNT.addr : Nat := 0x410044
def MRL.CCNT.TIMEOUTS : Fld := ⟨0x410044, 16, 16⟩
def MRL.CCNT.CRC_ERR : Fld := ⟨0x410044, 0, 16⟩
/-- R440. Address of MRL.CCNT2. -/
def MRL.CCNT2.addr : Nat := 0x410048
def MRL.CCNT2.SEQ_ERR : Fld := ⟨0x410048, 16, 16⟩
def MRL.CCNT2.DUP : Fld := ⟨0x410048, 0, 16⟩
/-- R440. Address of MRL.LAST_SEQ. -/
def MRL.LAST_SEQ.addr : Nat := 0x41004C
def MRL.LAST_SEQ.SEQ : Fld := ⟨0x41004C, 0, 32⟩
/-- R440. Address of MRL.RXDATA. -/
def MRL.RXDATA.addr : Nat := 0x410100
def MRL.RXDATA.DATA : Fld := ⟨0x410100, 0, 32⟩
/-- R440. Address of MRL.WR_SEQ. -/
def MRL.WR_SEQ.addr : Nat := 0x410080
def MRL.WR_SEQ.SEQ : Fld := ⟨0x410080, 0, 32⟩

end Sys2Proof.Machine
end

