-- ==== Sys2Proof/Machine/RegMap.lean ====
section
/-!
DEFINITION. The field maps as data, block by block: every register's address, reset word and access masks (R3).
A row is base, stride, count, reset, RW mask, W1C and RS mask, RS mask, WO mask. A reset the spec leaves to the image, the
straps, the die or the hardware stands here as 0 (log 1, log 2).
-/
namespace Sys2Proof.Machine

def regRowsSYS0 : List RegRow :=
  [⟨0x0, 4, 1, 0x40960100, 0x0, 0x0, 0x0, 0x0⟩,
   ⟨0x4, 4, 1, 0x0, 0x0, 0x0, 0x0, 0x0⟩,
   ⟨0x10, 4, 1, 0x1F, 0x1F, 0x0, 0x0, 0x0⟩,
   ⟨0x14, 4, 1, 0x0, 0xFFFFFFFF, 0x0, 0x0, 0x0⟩,
   ⟨0x18, 4, 1, 0x0, 0x0, 0x0, 0x0, 0x0⟩,
   ⟨0x1C, 4, 1, 0x0, 0x0, 0x0, 0x0, 0x0⟩,
   ⟨0x20, 4, 1, 0x301300, 0xF33F03, 0x0, 0x0, 0x0⟩,
   ⟨0x24, 4, 1, 0x0, 0x1FFF, 0x0, 0x0, 0x0⟩,
   ⟨0x28, 4, 1, 0x0, 0x0, 0x0, 0x0, 0x0⟩,
   ⟨0x2C, 4, 1, 0x0, 0x0, 0x0, 0x0, 0x0⟩,
   ⟨0x30, 4, 1, 0x0, 0x0, 0x0, 0x0, 0x0⟩,
   ⟨0x34, 4, 1, 0x0, 0x0, 0x7, 0x7, 0x0⟩,
   ⟨0x80, 4, 1, 0x0, 0x0, 0x0, 0x0, 0xFF000001⟩,
   ⟨0x84, 4, 1, 0x0, 0x0, 0x1, 0x0, 0x0⟩,
   ⟨0x88, 4, 1, 0x0, 0x0, 0x1, 0x0, 0x0⟩]

/-- The field map of SYS. -/
def regRowsSYS : List RegRow := regRowsSYS0

def regRowsIMG0 : List RegRow :=
  [⟨0x10000, 4, 1, 0x0, 0x0, 0x0, 0x0, 0x3⟩,
   ⟨0x10004, 4, 1, 0x0, 0x0, 0x0, 0x0, 0x0⟩,
   ⟨0x10008, 4, 1, 0x0, 0x0, 0x0, 0x0, 0x0⟩,
   ⟨0x1000C, 4, 1, 0x201, 0x0, 0x0, 0x0, 0x0⟩,
   ⟨0x10010, 4, 1, 0x0, 0x0, 0x0, 0x0, 0xFFFFFFFF⟩,
   ⟨0x10014, 4, 1, 0x400, 0x0, 0x0, 0x0, 0x0⟩,
   ⟨0x10018, 4, 1, 0x0, 0x0, 0x0, 0x0, 0x0⟩,
   ⟨0x1001C, 4, 1, 0x0, 0x0, 0x0, 0x0, 0x0⟩,
   ⟨0x10020, 4, 1, 0x0, 0x0, 0x0, 0x0, 0x0⟩,
   ⟨0x10040, 4, 1, 0x0, 0x1, 0x0, 0x0, 0x6⟩,
   ⟨0x10044, 4, 1, 0x0, 0x0, 0x0, 0x0, 0x0⟩,
   ⟨0x10048, 4, 1, 0x0, 0x0, 0x0, 0x0, 0x0⟩,
   ⟨0x1004C, 4, 1, 0x0, 0x0, 0x0, 0x0, 0x0⟩,
   ⟨0x10060, 4, 1, 0x0, 0x0, 0x100, 0x0, 0x0⟩,
   ⟨0x10064, 4, 1, 0x0, 0x0, 0x0, 0x0, 0xFF000033⟩,
   ⟨0x10080, 4, 8, 0x0, 0x0, 0x0, 0x0, 0xFFFFFFFF⟩]

/-- The field map of IMG. -/
def regRowsIMG : List RegRow := regRowsIMG0

def regRowsCLK0 : List RegRow :=
  [⟨0x20000, 4, 1, 0x2, 0xF3, 0x0, 0x0, 0x0⟩,
   ⟨0x20004, 4, 1, 0x0, 0x0, 0x0, 0x0, 0x0⟩,
   ⟨0x20008, 4, 1, 0x0, 0x0, 0x7, 0x7, 0x0⟩,
   ⟨0x20010, 4, 4, 0x40, 0xF8000FFF, 0x0, 0x0, 0x0⟩]

/-- The field map of CLK. -/
def regRowsCLK : List RegRow := regRowsCLK0

def regRowsVRC0 : List RegRow :=
  [⟨0x30000, 4, 1, 0x1001F40, 0xFC0FFF0, 0x0, 0x0, 0x0⟩,
   ⟨0x30004, 4, 1, 0x32, 0x7F, 0x0, 0x0, 0x0⟩,
   ⟨0x30008, 4, 1, 0x46, 0x7F, 0x0, 0x0, 0x0⟩,
   ⟨0x30010, 4, 1, 0x1E, 0x7F, 0x0, 0x0, 0x0⟩,
   ⟨0x30014, 4, 1, 0x20, 0x7F, 0x0, 0x0, 0x0⟩,
   ⟨0x30018, 4, 1, 0x22, 0x7F, 0x0, 0x0, 0x0⟩,
   ⟨0x3001C, 4, 1, 0x24, 0x7F, 0x0, 0x0, 0x0⟩,
   ⟨0x30020, 4, 1, 0x26, 0x7F, 0x0, 0x0, 0x0⟩,
   ⟨0x30024, 4, 1, 0x28, 0x7F, 0x0, 0x0, 0x0⟩,
   ⟨0x30028, 4, 1, 0x2A, 0x7F, 0x0, 0x0, 0x0⟩,
   ⟨0x3002C, 4, 1, 0x2C, 0x7F, 0x0, 0x0, 0x0⟩,
   ⟨0x30030, 4, 1, 0x2E, 0x7F, 0x0, 0x0, 0x0⟩,
   ⟨0x30034, 4, 1, 0x30, 0x7F, 0x0, 0x0, 0x0⟩,
   ⟨0x30038, 4, 1, 0x32, 0x7F, 0x0, 0x0, 0x0⟩,
   ⟨0x3003C, 4, 1, 0x34, 0x7F, 0x0, 0x0, 0x0⟩,
   ⟨0x30040, 4, 1, 0x36, 0x7F, 0x0, 0x0, 0x0⟩,
   ⟨0x30044, 4, 1, 0x38, 0x7F, 0x0, 0x0, 0x0⟩,
   ⟨0x30048, 4, 1, 0x3A, 0x7F, 0x0, 0x0, 0x0⟩,
   ⟨0x3004C, 4, 1, 0x3C, 0x7F, 0x0, 0x0, 0x0⟩,
   ⟨0x30050, 4, 1, 0x519, 0xFFFF, 0x0, 0x0, 0x0⟩,
   ⟨0x30054, 4, 1, 0x1400321E, 0xFF00FFFF, 0x0, 0x0, 0x0⟩,
   ⟨0x30058, 4, 1, 0x64, 0x7F, 0x0, 0x0, 0x0⟩,
   ⟨0x3005C, 4, 1, 0x200F, 0xFF3F, 0x0, 0x0, 0x0⟩,
   ⟨0x30060, 4, 1, 0xA005028, 0xFF00FFFF, 0x0, 0x0, 0x0⟩,
   ⟨0x30064, 4, 1, 0x0, 0x3FF, 0x0, 0x0, 0x0⟩,
   ⟨0x30068, 4, 1, 0x38403E8, 0xFFF0FFF, 0x0, 0x0, 0x0⟩,
   ⟨0x3006C, 4, 1, 0x0, 0x0, 0x0, 0x0, 0x0⟩,
   ⟨0x30070, 4, 1, 0x0, 0x0, 0x0, 0x0, 0x0⟩,
   ⟨0x30074, 4, 1, 0x0, 0x0, 0x0, 0x0, 0x0⟩,
   ⟨0x30078, 4, 1, 0x0, 0x0, 0x7F, 0x7F, 0x0⟩,
   ⟨0x3007C, 4, 1, 0x0, 0x0, 0x0, 0x0, 0x0⟩]

/-- The field map of VRC. -/
def regRowsVRC : List RegRow := regRowsVRC0

def regRowsLSS0 : List RegRow :=
  [⟨0x40000, 4, 1, 0x88000000, 0x0, 0x80000000, 0x80000000, 0x0⟩,
   ⟨0x40004, 4, 1, 0x0, 0x0, 0xF, 0x7, 0x0⟩,
   ⟨0x40008, 4, 1, 0x9C40898, 0xFFF0FFF, 0x0, 0x0, 0x0⟩,
   ⟨0x4000C, 4, 1, 0x76C0032, 0xFFF00FF, 0x0, 0x0, 0x0⟩,
   ⟨0x40010, 4, 1, 0x0, 0x0, 0x0, 0x0, 0x0⟩,
   ⟨0x40014, 4, 1, 0x0, 0x0, 0x0, 0x0, 0x0⟩,
   ⟨0x40018, 4, 1, 0x0, 0x0, 0x0, 0x0, 0x0⟩,
   ⟨0x4001C, 4, 1, 0x0, 0x0, 0x0, 0x0, 0x0⟩,
   ⟨0x40020, 4, 1, 0x0, 0xFFFFFFFF, 0x0, 0x0, 0x0⟩,
   ⟨0x40024, 4, 1, 0x0, 0xFFFF, 0x0, 0x0, 0x0⟩,
   ⟨0x40028, 4, 1, 0x0, 0x0, 0x0, 0x0, 0x1⟩,
   ⟨0x4002C, 4, 1, 0x0, 0x30, 0x3, 0x0, 0x0⟩,
   ⟨0x40030, 4, 1, 0x0, 0x0, 0x0, 0x0, 0x0⟩,
   ⟨0x40034, 4, 1, 0x0, 0x0, 0x0, 0x0, 0x0⟩,
   ⟨0x40038, 4, 1, 0x0, 0x0, 0x0, 0x0, 0x0⟩,
   ⟨0x4003C, 4, 1, 0xA, 0xFF, 0x0, 0x0, 0x0⟩,
   ⟨0x40040, 4, 1, 0x0, 0x0, 0x0, 0x0, 0x0⟩,
   ⟨0x40044, 4, 1, 0x0, 0x0, 0x0, 0x0, 0x0⟩,
   ⟨0x40048, 4, 1, 0x0, 0x0, 0x0, 0x0, 0x0⟩,
   ⟨0x4004C, 4, 1, 0x0, 0x0, 0x0, 0x0, 0x0⟩,
   ⟨0x40050, 4, 1, 0x0, 0x0, 0x0, 0x0, 0x0⟩,
   ⟨0x40054, 4, 1, 0x1, 0x0, 0x0, 0x0, 0x0⟩]

/-- The field map of LSS. -/
def regRowsLSS : List RegRow := regRowsLSS0

def regRowsTHM0 : List RegRow :=
  [⟨0x50000, 4, 1, 0x180A, 0xFFFF, 0x0, 0x0, 0x0⟩,
   ⟨0x50004, 4, 1, 0x1000, 0x0, 0x0, 0x0, 0x0⟩,
   ⟨0x50008, 4, 1, 0x3A80028, 0xFFF0FFF, 0x0, 0x0, 0x0⟩,
   ⟨0x5000C, 4, 1, 0x0, 0x0, 0xF, 0xF, 0x0⟩,
   ⟨0x50010, 4, 1, 0x0, 0x0, 0x0, 0x0, 0x80000000⟩,
   ⟨0x50014, 4, 1, 0x0, 0x0, 0x0, 0x0, 0x0⟩,
   ⟨0x50018, 4, 1, 0x0, 0x0, 0x0, 0x0, 0x0⟩,
   ⟨0x50020, 4, 4, 0x0, 0x0, 0x0, 0x0, 0x0⟩,
   ⟨0x50080, 16, 16, 0x0, 0x8000001F, 0x0, 0x0, 0x0⟩,
   ⟨0x50084, 16, 16, 0x0, 0xFFFFFFFF, 0x0, 0x0, 0x0⟩,
   ⟨0x50088, 16, 16, 0x3A80E20, 0xFFF0FFF, 0x0, 0x0, 0x0⟩,
   ⟨0x5008C, 16, 16, 0x280000, 0xFFF0FFF, 0x0, 0x0, 0x0⟩,
   ⟨0x50180, 4, 16, 0x0, 0x0, 0x0, 0x0, 0x0⟩]

/-- The field map of THM. -/
def regRowsTHM : List RegRow := regRowsTHM0

def regRowsSTR0 : List RegRow :=
  [⟨0x60000, 4, 1, 0x1, 0x1, 0x0, 0x0, 0x800000F0⟩,
   ⟨0x60004, 4, 1, 0x400, 0xFFF, 0x0, 0x0, 0x0⟩,
   ⟨0x60008, 4, 1, 0x0, 0x0, 0x0, 0x0, 0x0⟩,
   ⟨0x6000C, 4, 1, 0x0, 0x0, 0x0, 0x0, 0x0⟩,
   ⟨0x60010, 4, 1, 0x0, 0x0, 0x0, 0x0, 0x0⟩,
   ⟨0x60014, 4, 1, 0x0, 0x0, 0x0, 0x0, 0x0⟩,
   ⟨0x60018, 4, 1, 0x0, 0x0, 0x0, 0x0, 0x0⟩,
   ⟨0x60020, 4, 8, 0x0, 0x70007F07, 0x0, 0x0, 0x0⟩]

/-- The field map of STR. -/
def regRowsSTR : List RegRow := regRowsSTR0

def regRowsEVR0 : List RegRow :=
  [⟨0x70000, 4, 1, 0x0, 0x0, 0x0, 0x0, 0x3⟩,
   ⟨0x70004, 4, 1, 0x1, 0x0, 0x0, 0x0, 0x0⟩,
   ⟨0x70008, 4, 1, 0x1, 0x1, 0x0, 0x0, 0x0⟩,
   ⟨0x7000C, 4, 1, 0x640000, 0xFF000F, 0x0, 0x0, 0x0⟩,
   ⟨0x70010, 4, 1, 0x0, 0x0, 0x100, 0x0, 0x0⟩,
   ⟨0x70014, 4, 1, 0x0, 0x0, 0x0, 0x0, 0xF⟩,
   ⟨0x70018, 4, 1, 0x0, 0x0, 0x0, 0x0, 0x3⟩,
   ⟨0x7001C, 4, 1, 0x0, 0x0, 0x80000000, 0x0, 0x0⟩,
   ⟨0x70020, 4, 1, 0x0, 0x0, 0x0, 0x0, 0x0⟩,
   ⟨0x70030, 4, 4, 0x0, 0x0, 0x0, 0x0, 0x0⟩,
   ⟨0x70040, 4, 4, 0x0, 0x0, 0xFFFFFFFF, 0x0, 0x0⟩,
   ⟨0x70100, 4, 128, 0x0, 0xFFFFFFF, 0x0, 0x0, 0x0⟩,
   ⟨0x70300, 4, 32, 0x0, 0x0, 0x0, 0x0, 0x0⟩,
   ⟨0x70024, 4, 1, 0x399A6401, 0xFFFFFF03, 0x0, 0x0, 0x0⟩,
   ⟨0x70028, 4, 1, 0x0, 0x0, 0x0, 0x0, 0x0⟩]

/-- The field map of EVR. -/
def regRowsEVR : List RegRow := regRowsEVR0

def regRowsACQ0 : List RegRow :=
  [⟨0x80000, 4, 1, 0xA, 0xF, 0x0, 0x0, 0x0⟩,
   ⟨0x80004, 4, 1, 0x0, 0x0, 0xFFF, 0xFFF, 0x0⟩,
   ⟨0x80010, 4, 1, 0x0, 0x1F, 0x0, 0x0, 0xC0⟩,
   ⟨0x80014, 4, 1, 0xA, 0x1F, 0x0, 0x0, 0x0⟩,
   ⟨0x80018, 4, 1, 0x0, 0xFFFFFFFF, 0x0, 0x0, 0x0⟩,
   ⟨0x8001C, 4, 1, 0x0, 0x0, 0x0, 0x0, 0x0⟩,
   ⟨0x80020, 4, 1, 0x0, 0x0, 0x0, 0x0, 0x0⟩,
   ⟨0x80024, 4, 1, 0x0, 0x0, 0x0, 0x0, 0x0⟩,
   ⟨0x81000, 1024, 4, 0x40, 0x77B, 0x0, 0x0, 0x0⟩,
   ⟨0x81004, 1024, 4, 0x76543210, 0xFFFFFFFF, 0x0, 0x0, 0x0⟩,
   ⟨0x81008, 1024, 4, 0x0, 0x0, 0x0, 0x0, 0x0⟩,
   ⟨0x8100C, 1024, 4, 0x0, 0x0, 0x0, 0x0, 0x0⟩,
   ⟨0x81040, 16, 8, 0x0, 0xFFFF, 0x0, 0x0, 0x0⟩,
   ⟨0x81440, 16, 8, 0x0, 0xFFFF, 0x0, 0x0, 0x0⟩,
   ⟨0x81840, 16, 8, 0x0, 0xFFFF, 0x0, 0x0, 0x0⟩,
   ⟨0x81C40, 16, 8, 0x0, 0xFFFF, 0x0, 0x0, 0x0⟩,
   ⟨0x81044, 16, 8, 0x20000, 0x3FFFF, 0x0, 0x0, 0x0⟩,
   ⟨0x81444, 16, 8, 0x20000, 0x3FFFF, 0x0, 0x0, 0x0⟩,
   ⟨0x81844, 16, 8, 0x20000, 0x3FFFF, 0x0, 0x0, 0x0⟩,
   ⟨0x81C44, 16, 8, 0x20000, 0x3FFFF, 0x0, 0x0, 0x0⟩,
   ⟨0x81048, 16, 8, 0x0, 0x3FF, 0x0, 0x0, 0x0⟩,
   ⟨0x81448, 16, 8, 0x0, 0x3FF, 0x0, 0x0, 0x0⟩,
   ⟨0x81848, 16, 8, 0x0, 0x3FF, 0x0, 0x0, 0x0⟩,
   ⟨0x81C48, 16, 8, 0x0, 0x3FF, 0x0, 0x0, 0x0⟩,
   ⟨0x8104C, 16, 8, 0x0, 0x0, 0x1, 0x1, 0x0⟩,
   ⟨0x8144C, 16, 8, 0x0, 0x0, 0x1, 0x1, 0x0⟩,
   ⟨0x8184C, 16, 8, 0x0, 0x0, 0x1, 0x1, 0x0⟩,
   ⟨0x81C4C, 16, 8, 0x0, 0x0, 0x1, 0x1, 0x0⟩,
   ⟨0x81100, 4, 32, 0x800, 0x3FFFF, 0x0, 0x0, 0x0⟩,
   ⟨0x81500, 4, 32, 0x800, 0x3FFFF, 0x0, 0x0, 0x0⟩,
   ⟨0x81900, 4, 32, 0x800, 0x3FFFF, 0x0, 0x0, 0x0⟩,
   ⟨0x81D00, 4, 32, 0x800, 0x3FFFF, 0x0, 0x0, 0x0⟩,
   ⟨0x84000, 32, 32, 0x1000000, 0xFFFFFFFF, 0x0, 0x0, 0x0⟩,
   ⟨0x84004, 32, 32, 0x0, 0xFFFFFFFF, 0x0, 0x0, 0x0⟩,
   ⟨0x84008, 32, 32, 0x0, 0x0, 0x0, 0x0, 0x0⟩,
   ⟨0x8400C, 32, 32, 0x0, 0x0, 0x0, 0x0, 0x0⟩,
   ⟨0x84010, 32, 32, 0x0, 0x0, 0x4, 0x4, 0x0⟩]

/-- The field map of ACQ. -/
def regRowsACQ : List RegRow := regRowsACQ0

def regRowsCMP0 : List RegRow :=
  [⟨0x90000, 4, 1, 0xA04, 0x1FFF, 0x0, 0x0, 0x0⟩,
   ⟨0x90004, 4, 1, 0xFFFFFFFF, 0x0, 0x0, 0x0, 0x0⟩,
   ⟨0x90008, 4, 1, 0xFFFFFFFF, 0x0, 0x0, 0x0, 0x0⟩,
   ⟨0x90100, 4, 1, 0x84000000, 0xFFF000FF, 0x0, 0x0, 0x0⟩,
   ⟨0x90120, 4, 1, 0x84100000, 0xFFF000FF, 0x0, 0x0, 0x0⟩,
   ⟨0x90140, 4, 1, 0x84200000, 0xFFF000FF, 0x0, 0x0, 0x0⟩,
   ⟨0x90160, 4, 1, 0x84300000, 0xFFF000FF, 0x0, 0x0, 0x0⟩,
   ⟨0x90180, 4, 1, 0x84400000, 0xFFF000FF, 0x0, 0x0, 0x0⟩,
   ⟨0x901A0, 4, 1, 0x84500000, 0xFFF000FF, 0x0, 0x0, 0x0⟩,
   ⟨0x901C0, 4, 1, 0x84600000, 0xFFF000FF, 0x0, 0x0, 0x0⟩,
   ⟨0x901E0, 4, 1, 0x84700000, 0xFFF000FF, 0x0, 0x0, 0x0⟩,
   ⟨0x90200, 4, 1, 0x84000000, 0xFFF000FF, 0x0, 0x0, 0x0⟩,
   ⟨0x90220, 4, 1, 0x84100000, 0xFFF000FF, 0x0, 0x0, 0x0⟩,
   ⟨0x90240, 4, 1, 0x84200000, 0xFFF000FF, 0x0, 0x0, 0x0⟩,
   ⟨0x90260, 4, 1, 0x84300000, 0xFFF000FF, 0x0, 0x0, 0x0⟩,
   ⟨0x90280, 4, 1, 0x84400000, 0xFFF000FF, 0x0, 0x0, 0x0⟩,
   ⟨0x902A0, 4, 1, 0x84500000, 0xFFF000FF, 0x0, 0x0, 0x0⟩,
   ⟨0x902C0, 4, 1, 0x84600000, 0xFFF000FF, 0x0, 0x0, 0x0⟩,
   ⟨0x902E0, 4, 1, 0x84700000, 0xFFF000FF, 0x0, 0x0, 0x0⟩,
   ⟨0x90300, 4, 1, 0x84000000, 0xFFF000FF, 0x0, 0x0, 0x0⟩,
   ⟨0x90320, 4, 1, 0x84100000, 0xFFF000FF, 0x0, 0x0, 0x0⟩,
   ⟨0x90340, 4, 1, 0x84200000, 0xFFF000FF, 0x0, 0x0, 0x0⟩,
   ⟨0x90360, 4, 1, 0x84300000, 0xFFF000FF, 0x0, 0x0, 0x0⟩,
   ⟨0x90380, 4, 1, 0x84400000, 0xFFF000FF, 0x0, 0x0, 0x0⟩,
   ⟨0x903A0, 4, 1, 0x84500000, 0xFFF000FF, 0x0, 0x0, 0x0⟩,
   ⟨0x903C0, 4, 1, 0x84600000, 0xFFF000FF, 0x0, 0x0, 0x0⟩,
   ⟨0x903E0, 4, 1, 0x84700000, 0xFFF000FF, 0x0, 0x0, 0x0⟩,
   ⟨0x90400, 4, 1, 0x84000000, 0xFFF000FF, 0x0, 0x0, 0x0⟩,
   ⟨0x90420, 4, 1, 0x84100000, 0xFFF000FF, 0x0, 0x0, 0x0⟩,
   ⟨0x90440, 4, 1, 0x84200000, 0xFFF000FF, 0x0, 0x0, 0x0⟩,
   ⟨0x90460, 4, 1, 0x84300000, 0xFFF000FF, 0x0, 0x0, 0x0⟩,
   ⟨0x90480, 4, 1, 0x84400000, 0xFFF000FF, 0x0, 0x0, 0x0⟩,
   ⟨0x904A0, 4, 1, 0x84500000, 0xFFF000FF, 0x0, 0x0, 0x0⟩,
   ⟨0x904C0, 4, 1, 0x84600000, 0xFFF000FF, 0x0, 0x0, 0x0⟩,
   ⟨0x904E0, 4, 1, 0x84700000, 0xFFF000FF, 0x0, 0x0, 0x0⟩,
   ⟨0x90104, 32, 32, 0xFFF, 0xFFF, 0x0, 0x0, 0x0⟩,
   ⟨0x90108, 32, 32, 0xD0000000, 0x0, 0x80000003, 0x3, 0x0⟩,
   ⟨0x9010C, 32, 32, 0x0, 0x0, 0x0, 0x0, 0x0⟩,
   ⟨0x90110, 32, 32, 0x0, 0x0, 0x0, 0x0, 0x1⟩,
   ⟨0x90114, 32, 32, 0x0, 0x0, 0x0, 0x0, 0x0⟩]

/-- The field map of CMP. -/
def regRowsCMP : List RegRow := regRowsCMP0

def regRowsPWM0 : List RegRow :=
  [⟨0xA0000, 4, 1, 0x0, 0x0, 0x0, 0x0, 0xFF⟩,
   ⟨0xA0004, 4, 1, 0x0, 0x0, 0x7F000, 0x1F000, 0x0⟩,
   ⟨0xA0100, 32, 4, 0x2, 0x3, 0x0, 0x0, 0x0⟩,
   ⟨0xA0104, 32, 4, 0x0, 0xFFFF, 0x0, 0x0, 0x0⟩,
   ⟨0xA0108, 32, 4, 0x0, 0x0, 0x0, 0x0, 0x0⟩,
   ⟨0xA010C, 32, 4, 0x0, 0x0, 0x0, 0x0, 0x0⟩,
   ⟨0xA0200, 16, 4, 0x0, 0xC00FF0FF, 0x0, 0x0, 0x0⟩,
   ⟨0xA0204, 16, 4, 0x0, 0x0, 0x1, 0x0, 0x0⟩,
   ⟨0xA0400, 64, 12, 0x4, 0xFF, 0x0, 0x0, 0x0⟩,
   ⟨0xA0404, 64, 12, 0x0, 0xB, 0x0, 0x0, 0x0⟩,
   ⟨0xA0408, 64, 12, 0x0, 0xFFFFFFFF, 0x0, 0x0, 0x0⟩,
   ⟨0xA040C, 64, 12, 0x8, 0xFFFF, 0x0, 0x0, 0x0⟩,
   ⟨0xA0410, 64, 12, 0x0, 0x0, 0x0, 0x0, 0x0⟩,
   ⟨0xA0414, 64, 12, 0x0, 0x0, 0x0, 0x0, 0x0⟩,
   ⟨0xA0418, 64, 12, 0x0, 0x0, 0xE0000, 0xE0000, 0x0⟩,
   ⟨0xA041C, 64, 12, 0x0, 0x0, 0x0, 0x0, 0x0⟩]

/-- The field map of PWM. -/
def regRowsPWM : List RegRow := regRowsPWM0

def regRowsGDC0 : List RegRow :=
  [⟨0xB0000, 4, 1, 0x19326400, 0xFFFFFF02, 0x0, 0x0, 0x0⟩,
   ⟨0xB0004, 4, 1, 0x280F, 0xFF0F, 0x0, 0x0, 0x0⟩,
   ⟨0xB0008, 4, 1, 0x14, 0xFF, 0x0, 0x0, 0x0⟩,
   ⟨0xB000C, 4, 1, 0xF00, 0x0, 0x0, 0x0, 0x0⟩,
   ⟨0xB0010, 4, 1, 0x0, 0x0, 0x0, 0x0, 0x0⟩,
   ⟨0xB0014, 4, 1, 0x0, 0x0, 0x0, 0x0, 0x1⟩,
   ⟨0xB0018, 4, 1, 0x0, 0x0, 0x0, 0x0, 0x0⟩,
   ⟨0xB001C, 4, 1, 0x0, 0x8000000F, 0x0, 0x0, 0x0⟩,
   ⟨0xB0020, 4, 1, 0x0, 0xFFF, 0x0, 0x0, 0x80000000⟩,
   ⟨0xB0024, 4, 1, 0x0, 0x0, 0x0, 0x0, 0x0⟩,
   ⟨0xB0028, 4, 1, 0x0, 0x0, 0x3F, 0x3F, 0x0⟩]

/-- The field map of GDC. -/
def regRowsGDC : List RegRow := regRowsGDC0

def regRowsCEL0 : List RegRow :=
  [⟨0xC0000, 4, 1, 0x0, 0x8000, 0x0, 0x0, 0x0⟩,
   ⟨0xC0004, 4, 1, 0x599A4666, 0xFFFFFFFF, 0x0, 0x0, 0x0⟩,
   ⟨0xC0008, 4, 1, 0x399A2CCD, 0xFFFFFFFF, 0x0, 0x0, 0x0⟩,
   ⟨0xC000C, 4, 1, 0x28F, 0xFFFF, 0x0, 0x0, 0x0⟩,
   ⟨0xC0010, 4, 1, 0x578, 0xFFFF, 0x0, 0x0, 0x0⟩,
   ⟨0xC0014, 4, 1, 0x0, 0xFFFFFFFF, 0x0, 0x0, 0x0⟩,
   ⟨0xC0018, 4, 1, 0x100C, 0xFFFFFF1F, 0x0, 0x0, 0x0⟩,
   ⟨0xC001C, 4, 1, 0x7D71028F, 0xFFFFFFFF, 0x0, 0x0, 0x0⟩,
   ⟨0xC0020, 4, 1, 0x0, 0x0, 0x0, 0x0, 0x0⟩,
   ⟨0xC0024, 4, 1, 0x0, 0x0, 0x0, 0x0, 0x0⟩,
   ⟨0xC0028, 4, 1, 0x0, 0x0, 0x0, 0x0, 0x0⟩,
   ⟨0xC002C, 4, 1, 0x0, 0x0, 0x0, 0x0, 0x0⟩,
   ⟨0xC0030, 4, 1, 0x0, 0x0, 0x80000000, 0x80000000, 0x0⟩,
   ⟨0xC0034, 4, 1, 0x0, 0x0, 0x0, 0x0, 0x0⟩,
   ⟨0xC0040, 4, 16, 0x0, 0xFFFF, 0x0, 0x0, 0x0⟩,
   ⟨0xC0080, 4, 8, 0x100, 0xFFFF, 0x0, 0x0, 0x0⟩,
   ⟨0xC00C0, 4, 33, 0x0, 0xFFF, 0x0, 0x0, 0x0⟩]

/-- The field map of CEL. -/
def regRowsCEL : List RegRow := regRowsCEL0

def regRowsLMP0 : List RegRow :=
  [⟨0xD0000, 4, 1, 0x0, 0x0, 0x0, 0x0, 0x7⟩,
   ⟨0xD0004, 4, 1, 0x0, 0x0, 0x0, 0x0, 0x0⟩,
   ⟨0xD0008, 4, 1, 0x0, 0x0, 0x1FF, 0x135, 0x0⟩,
   ⟨0xD000C, 4, 1, 0x0, 0x0, 0x0, 0x0, 0x0⟩,
   ⟨0xD0010, 4, 1, 0x0, 0x0, 0x0, 0x0, 0x0⟩,
   ⟨0xD0014, 4, 1, 0x0, 0x0, 0x0, 0x0, 0x0⟩,
   ⟨0xD0018, 4, 1, 0x0, 0x0, 0x0, 0x0, 0x0⟩,
   ⟨0xD001C, 4, 1, 0x0, 0x0, 0x0, 0x0, 0x0⟩,
   ⟨0xD0020, 4, 1, 0x0, 0x0, 0x0, 0x0, 0x0⟩,
   ⟨0xD0024, 4, 1, 0x0, 0x0, 0x0, 0x0, 0x0⟩,
   ⟨0xD0028, 4, 1, 0x0, 0x0, 0x0, 0x0, 0x0⟩,
   ⟨0xD0040, 4, 1, 0x0, 0x8, 0x0, 0x0, 0x7⟩,
   ⟨0xD0044, 4, 1, 0x0, 0xFFFFFFFF, 0x0, 0x0, 0x0⟩,
   ⟨0xD0048, 4, 1, 0x0, 0xFFFF, 0x0, 0x0, 0x0⟩,
   ⟨0xD004C, 4, 1, 0x0, 0x0, 0x0, 0x0, 0x0⟩,
   ⟨0xD0050, 4, 1, 0x0, 0x0, 0x0, 0x0, 0x0⟩,
   ⟨0xD0054, 4, 1, 0x0, 0x0, 0x0, 0x0, 0x0⟩]

/-- The field map of LMP. -/
def regRowsLMP : List RegRow := regRowsLMP0

def regRowsMOD0 : List RegRow :=
  [⟨0xE0000, 4, 1, 0x0, 0x0, 0x0, 0x0, 0x1⟩,
   ⟨0xE0100, 64, 6, 0x6000, 0x701F, 0x0, 0x0, 0x0⟩,
   ⟨0xE0104, 64, 6, 0x28F5C, 0x7FFFFFFF, 0x0, 0x0, 0x0⟩,
   ⟨0xE0108, 64, 6, 0x0, 0x0, 0x0, 0x0, 0x0⟩,
   ⟨0xE010C, 64, 6, 0x0, 0x0, 0x0, 0x0, 0x0⟩,
   ⟨0xE0110, 64, 6, 0x0, 0x0, 0x0, 0x0, 0x0⟩,
   ⟨0xE0114, 64, 6, 0x1, 0x0, 0x0, 0x0, 0x0⟩,
   ⟨0xE0118, 64, 6, 0x0, 0x0, 0x0, 0x0, 0x0⟩,
   ⟨0xE011C, 64, 6, 0x0, 0x0, 0xF, 0xF, 0x0⟩]

/-- The field map of MOD. -/
def regRowsMOD : List RegRow := regRowsMOD0

def regRowsGRD0 : List RegRow :=
  [⟨0xF0000, 4, 1, 0x40002800, 0xF0FFFFFF, 0x0, 0x0, 0x0⟩,
   ⟨0xF0004, 4, 1, 0x41400, 0xFF1F01, 0x0, 0x0, 0x0⟩,
   ⟨0xF0008, 4, 1, 0x0, 0x0, 0x0, 0x0, 0xF⟩,
   ⟨0xF000C, 4, 1, 0x0, 0x0, 0x1, 0x0, 0x0⟩,
   ⟨0xF0100, 128, 6, 0x40000000, 0xFFFFFFFF, 0x0, 0x0, 0x0⟩,
   ⟨0xF0104, 128, 6, 0x0, 0xFFFFFFFF, 0x0, 0x0, 0x0⟩,
   ⟨0xF0108, 128, 6, 0x0, 0x0, 0x0, 0x0, 0x0⟩,
   ⟨0xF010C, 128, 6, 0x0, 0x0, 0x0, 0x0, 0x0⟩,
   ⟨0xF0110, 128, 6, 0x10, 0xFF, 0x0, 0x0, 0x0⟩,
   ⟨0xF0114, 128, 6, 0x14007333, 0xFFFFFFFF, 0x0, 0x0, 0x0⟩,
   ⟨0xF0118, 128, 6, 0x0, 0x0, 0x0, 0x0, 0x1⟩,
   ⟨0xF011C, 128, 6, 0x4, 0x7FF, 0x0, 0x0, 0x0⟩,
   ⟨0xF0120, 128, 6, 0x0, 0x0, 0x0, 0x0, 0x0⟩,
   ⟨0xF0124, 128, 6, 0x0, 0x0, 0x0, 0x0, 0x0⟩,
   ⟨0xF0128, 128, 6, 0x0, 0x0, 0x0, 0x0, 0x0⟩,
   ⟨0xF012C, 128, 6, 0x0, 0x0, 0x0, 0x0, 0x0⟩,
   ⟨0xF0130, 128, 6, 0x0, 0x0, 0x0, 0x0, 0x0⟩,
   ⟨0xF0134, 128, 6, 0x0, 0x0, 0x0, 0x0, 0x0⟩,
   ⟨0xF0138, 128, 6, 0x0, 0x0, 0x0, 0x0, 0x0⟩,
   ⟨0xF013C, 128, 6, 0x0, 0x0, 0x0, 0x0, 0x0⟩,
   ⟨0xF0140, 128, 6, 0x0, 0x0, 0x0, 0x0, 0x0⟩,
   ⟨0xF0144, 128, 6, 0x0, 0x0, 0x0, 0x0, 0x0⟩,
   ⟨0xF0148, 128, 6, 0x0, 0x0, 0x3F, 0x3F, 0x0⟩]

/-- The field map of GRD. -/
def regRowsGRD : List RegRow := regRowsGRD0

def regRowsLNK0 : List RegRow :=
  [⟨0x100000, 2048, 128, 0x840, 0xFE1, 0x0, 0x0, 0x0⟩,
   ⟨0x100004, 2048, 128, 0x0, 0x0, 0x0, 0x0, 0x0⟩,
   ⟨0x100008, 2048, 128, 0x0, 0x0, 0x1F, 0x13, 0x0⟩,
   ⟨0x10000C, 2048, 128, 0x2050, 0xFFFF, 0x0, 0x0, 0x0⟩,
   ⟨0x100010, 2048, 128, 0x0, 0xFFFFFFFF, 0x0, 0x0, 0x0⟩,
   ⟨0x100014, 2048, 128, 0x81880000, 0xFFFFFFFF, 0x0, 0x0, 0x0⟩,
   ⟨0x100018, 2048, 128, 0x118, 0x1FF, 0x0, 0x0, 0x0⟩,
   ⟨0x10001C, 2048, 128, 0x0, 0x0, 0x0, 0x0, 0x0⟩,
   ⟨0x100020, 2048, 128, 0x0, 0x0, 0x0, 0x0, 0x0⟩,
   ⟨0x100024, 2048, 128, 0x4, 0xFFF63F, 0x0, 0x0, 0x800⟩,
   ⟨0x100028, 2048, 128, 0x0, 0x0, 0x0, 0x0, 0x1⟩,
   ⟨0x10002C, 2048, 128, 0x0, 0x0, 0x0, 0x0, 0x0⟩,
   ⟨0x100030, 2048, 128, 0x0, 0x0, 0x0, 0x0, 0x0⟩,
   ⟨0x100034, 2048, 128, 0x0, 0x0, 0x0, 0x0, 0x0⟩,
   ⟨0x100038, 2048, 128, 0x0, 0x0, 0x0, 0x0, 0x0⟩,
   ⟨0x10003C, 2048, 128, 0x0, 0x0, 0x0, 0x0, 0x0⟩,
   ⟨0x100100, 4, 1, 0x3FFC00, 0x0, 0x0, 0x0, 0x0⟩,
   ⟨0x100104, 4, 1, 0x0, 0x0, 0x0, 0x0, 0x0⟩,
   ⟨0x100108, 4, 1, 0x20000000, 0x0, 0x0, 0x0, 0x0⟩,
   ⟨0x10010C, 4, 1, 0x0, 0x0, 0x0, 0x0, 0x0⟩,
   ⟨0x100110, 4, 1, 0x0, 0x0, 0x0, 0x0, 0x0⟩]

/-- The field map of LNK. -/
def regRowsLNK : List RegRow := regRowsLNK0

def regRowsCLT0 : List RegRow :=
  [⟨0x140000, 4, 1, 0x0, 0x7FF, 0x0, 0x0, 0x0⟩,
   ⟨0x140004, 4, 1, 0x810E0, 0x1FFFFFC, 0x0, 0x0, 0x0⟩,
   ⟨0x140008, 4, 1, 0x0, 0x0, 0x0, 0x0, 0x0⟩,
   ⟨0x140010, 4, 1, 0x0, 0x0, 0x40000000, 0x40000000, 0x0⟩,
   ⟨0x140014, 4, 1, 0x0, 0x0, 0x0, 0x0, 0x0⟩,
   ⟨0x140018, 4, 1, 0x0, 0x0, 0x0, 0x0, 0x0⟩,
   ⟨0x14001C, 4, 1, 0x0, 0x0, 0x0, 0x0, 0x1⟩,
   ⟨0x140020, 4, 4, 0x0, 0x0, 0x0, 0x0, 0x0⟩,
   ⟨0x141000, 512, 128, 0x20000008, 0xFF00000D, 0x0, 0x0, 0x10⟩,
   ⟨0x141004, 512, 128, 0x0, 0x1F, 0x0, 0x0, 0x0⟩,
   ⟨0x141008, 512, 128, 0x20000000, 0x0, 0x0, 0x0, 0x0⟩,
   ⟨0x14100C, 512, 128, 0x0, 0x0, 0xFF, 0xC0, 0x0⟩,
   ⟨0x141010, 512, 128, 0x0, 0x0, 0x0, 0x0, 0x0⟩,
   ⟨0x141014, 512, 128, 0x0, 0x0, 0x0, 0x0, 0x0⟩,
   ⟨0x141018, 512, 128, 0x0, 0x0, 0x0, 0x0, 0x0⟩,
   ⟨0x14101C, 512, 128, 0x0, 0x0, 0x0, 0x0, 0x0⟩,
   ⟨0x141020, 512, 128, 0x0, 0x0, 0x0, 0x0, 0x1⟩,
   ⟨0x141024, 512, 128, 0x0, 0x0, 0x0, 0x0, 0x0⟩,
   ⟨0x141040, 512, 128, 0x0, 0x0, 0x0, 0x0, 0x0⟩,
   ⟨0x141044, 512, 128, 0x0, 0x0, 0x0, 0x0, 0x0⟩,
   ⟨0x141048, 512, 128, 0x0, 0x0, 0x0, 0x0, 0x0⟩,
   ⟨0x14104C, 512, 128, 0x0, 0x0, 0x0, 0x0, 0x0⟩,
   ⟨0x141050, 512, 128, 0x0, 0x0, 0x0, 0x0, 0x0⟩,
   ⟨0x141054, 512, 128, 0x0, 0x0, 0x0, 0x0, 0x0⟩,
   ⟨0x141058, 512, 128, 0x0, 0x0, 0x0, 0x0, 0x0⟩,
   ⟨0x14105C, 512, 128, 0x0, 0x0, 0x0, 0x0, 0x0⟩,
   ⟨0x141060, 512, 128, 0x0, 0x0, 0x0, 0x0, 0x0⟩,
   ⟨0x141064, 512, 128, 0x0, 0x0, 0x0, 0x0, 0x0⟩,
   ⟨0x141068, 512, 128, 0x0, 0x0, 0x0, 0x0, 0x0⟩,
   ⟨0x14106C, 512, 128, 0x0, 0x0, 0x0, 0x0, 0x0⟩,
   ⟨0x141070, 512, 128, 0x0, 0x0, 0x0, 0x0, 0x0⟩,
   ⟨0x141074, 512, 128, 0x0, 0x0, 0x0, 0x0, 0x0⟩,
   ⟨0x141078, 512, 128, 0x0, 0x0, 0x0, 0x0, 0x0⟩,
   ⟨0x14107C, 512, 128, 0x0, 0x0, 0x0, 0x0, 0x0⟩]

/-- The field map of CLT. -/
def regRowsCLT : List RegRow := regRowsCLT0

def regRowsHST0 : List RegRow :=
  [⟨0x1C0000, 4, 1, 0x0, 0x0, 0x80000000, 0x0, 0x0⟩,
   ⟨0x1C0004, 4, 1, 0x0, 0x0, 0x0, 0x0, 0x0⟩,
   ⟨0x1C0008, 4, 1, 0x0, 0x0, 0x100, 0x100, 0x0⟩,
   ⟨0x1C0010, 4, 1, 0x7, 0x1FF, 0x0, 0x0, 0x0⟩,
   ⟨0x1C0014, 4, 1, 0x0, 0x7FFFC0FF, 0x0, 0x0, 0x80000000⟩,
   ⟨0x1C0018, 4, 1, 0x0, 0xFFFFFFFF, 0x0, 0x0, 0x0⟩,
   ⟨0x1C001C, 4, 1, 0x0, 0x0, 0x0, 0x0, 0x0⟩]

/-- The field map of HST. -/
def regRowsHST : List RegRow := regRowsHST0

def regRowsETH0 : List RegRow :=
  [⟨0x1D0000, 4, 1, 0x0, 0x0, 0x0, 0x0, 0x0⟩,
   ⟨0x1D0004, 4, 1, 0x0, 0x0, 0x0, 0x0, 0x0⟩,
   ⟨0x1D0008, 4, 1, 0x0, 0x0, 0x0, 0x0, 0x0⟩,
   ⟨0x1D000C, 4, 1, 0x0, 0xFFFFFFFF, 0x0, 0x0, 0x0⟩,
   ⟨0x1D0010, 4, 1, 0x0, 0xFFFFFFFF, 0x0, 0x0, 0x0⟩,
   ⟨0x1D0014, 4, 1, 0x0, 0xFFFFFFFF, 0x0, 0x0, 0x0⟩,
   ⟨0x1D0018, 4, 1, 0x400, 0xF02, 0x0, 0x0, 0x80000001⟩,
   ⟨0x1D001C, 4, 1, 0x0, 0x0, 0x2, 0x2, 0x0⟩,
   ⟨0x1D0020, 4, 1, 0x0, 0x0, 0x0, 0x0, 0x0⟩,
   ⟨0x1D0024, 4, 1, 0x0, 0x0, 0x0, 0x0, 0x0⟩,
   ⟨0x1D0028, 4, 1, 0x0, 0x0, 0x0, 0x0, 0x0⟩,
   ⟨0x1D002C, 4, 1, 0x64, 0x800003FF, 0x0, 0x0, 0x0⟩,
   ⟨0x1D0030, 4, 1, 0x0, 0x1, 0x0, 0x0, 0x0⟩,
   ⟨0x1D0034, 4, 1, 0x0, 0x0, 0xFF, 0x0, 0x0⟩,
   ⟨0x1D0038, 4, 1, 0x0, 0xFF, 0x0, 0x0, 0x0⟩,
   ⟨0x1D0040, 8, 4, 0x0, 0xFFFFFFFF, 0x0, 0x0, 0x0⟩,
   ⟨0x1D0044, 8, 4, 0x70000000, 0xFFFFFFFF, 0x0, 0x0, 0x0⟩,
   ⟨0x1D1000, 4096, 2, 0x14, 0x1F, 0x0, 0x0, 0x0⟩,
   ⟨0x1D1004, 4096, 2, 0x0, 0xFFFFFFFF, 0x0, 0x0, 0x0⟩,
   ⟨0x1D1008, 4096, 2, 0x0, 0xFFFF, 0x0, 0x0, 0x0⟩,
   ⟨0x1D100C, 4096, 2, 0x0, 0x0, 0x0, 0x0, 0x0⟩,
   ⟨0x1D1010, 4096, 2, 0x0, 0x0, 0x0, 0x0, 0x0⟩,
   ⟨0x1D1014, 4096, 2, 0x0, 0x3FFF, 0x0, 0x0, 0x0⟩,
   ⟨0x1D1018, 4096, 2, 0x0, 0x200007FF, 0x0, 0x0, 0x80000000⟩,
   ⟨0x1D101C, 4096, 2, 0x0, 0x0, 0x0, 0x0, 0x0⟩,
   ⟨0x1D1020, 4096, 2, 0x0, 0x0, 0x0, 0x0, 0x0⟩,
   ⟨0x1D1024, 4096, 2, 0x0, 0x0, 0x0, 0x0, 0x0⟩,
   ⟨0x1D1028, 4096, 2, 0x0, 0xFFFFFFFF, 0x0, 0x0, 0x0⟩,
   ⟨0x1D1030, 4096, 2, 0x0, 0x0, 0x0, 0x0, 0x0⟩,
   ⟨0x1D1034, 4096, 2, 0x0, 0x0, 0x0, 0x0, 0x0⟩,
   ⟨0x1D1038, 4096, 2, 0x0, 0x0, 0x0, 0x0, 0x0⟩,
   ⟨0x1D103C, 4096, 2, 0x0, 0x0, 0x0, 0x0, 0x0⟩,
   ⟨0x1D1040, 4096, 2, 0x0, 0x0, 0x0, 0x0, 0x0⟩,
   ⟨0x1D1044, 4096, 2, 0x0, 0x0, 0x0, 0x0, 0x0⟩]

/-- The field map of ETH. -/
def regRowsETH : List RegRow := regRowsETH0

def regRowsCAN0 : List RegRow :=
  [⟨0x1E0000, 4096, 4, 0x0, 0x1FFF, 0x0, 0x0, 0x0⟩,
   ⟨0x1E0004, 4096, 4, 0x48C0101, 0xFFFF7F7F, 0x0, 0x0, 0x0⟩,
   ⟨0x1E0008, 4096, 4, 0x19846000, 0xFFFFE07F, 0x0, 0x0, 0x0⟩,
   ⟨0x1E000C, 4096, 4, 0x0, 0x0, 0x0, 0x0, 0x0⟩,
   ⟨0x1E0010, 4096, 4, 0x0, 0x0, 0x0, 0x0, 0xF⟩,
   ⟨0x1E0020, 4, 3, 0x0, 0x0, 0x0, 0x0, 0x80000000⟩,
   ⟨0x1E1020, 4, 3, 0x0, 0x0, 0x0, 0x0, 0x80000000⟩,
   ⟨0x1E2020, 4, 3, 0x0, 0x0, 0x0, 0x0, 0x80000000⟩,
   ⟨0x1E3020, 4, 3, 0x0, 0x0, 0x0, 0x0, 0x80000000⟩,
   ⟨0x1E0030, 4096, 4, 0x0, 0x0, 0x0, 0x0, 0x0⟩,
   ⟨0x1E0034, 4096, 4, 0x0, 0x0, 0x0, 0x0, 0x0⟩,
   ⟨0x1E0038, 4096, 4, 0x0, 0x0, 0x0, 0x0, 0x0⟩,
   ⟨0x1E003C, 4096, 4, 0x0, 0x0, 0x0, 0x0, 0x1⟩,
   ⟨0x1E0040, 4096, 4, 0x0, 0x0, 0x0, 0x0, 0x0⟩,
   ⟨0x1E0044, 4096, 4, 0x0, 0x0, 0x0, 0x0, 0x1⟩,
   ⟨0x1E0050, 4096, 4, 0x0, 0x0, 0x3FF, 0x0, 0x0⟩,
   ⟨0x1E0054, 4096, 4, 0x0, 0x3FF, 0x0, 0x0, 0x0⟩,
   ⟨0x1E0058, 4096, 4, 0x0, 0x0, 0x0, 0x0, 0x0⟩,
   ⟨0x1E0100, 16, 32, 0x0, 0xDFFFFFFF, 0x0, 0x0, 0x0⟩,
   ⟨0x1E1100, 16, 32, 0x0, 0xDFFFFFFF, 0x0, 0x0, 0x0⟩,
   ⟨0x1E2100, 16, 32, 0x0, 0xDFFFFFFF, 0x0, 0x0, 0x0⟩,
   ⟨0x1E3100, 16, 32, 0x0, 0xDFFFFFFF, 0x0, 0x0, 0x0⟩,
   ⟨0x1E0104, 16, 32, 0x0, 0x1FFFFFFF, 0x0, 0x0, 0x0⟩,
   ⟨0x1E1104, 16, 32, 0x0, 0x1FFFFFFF, 0x0, 0x0, 0x0⟩,
   ⟨0x1E2104, 16, 32, 0x0, 0x1FFFFFFF, 0x0, 0x0, 0x0⟩,
   ⟨0x1E3104, 16, 32, 0x0, 0x1FFFFFFF, 0x0, 0x0, 0x0⟩,
   ⟨0x1E0108, 16, 32, 0x0, 0x800001FF, 0x0, 0x0, 0x0⟩,
   ⟨0x1E1108, 16, 32, 0x0, 0x800001FF, 0x0, 0x0, 0x0⟩,
   ⟨0x1E2108, 16, 32, 0x0, 0x800001FF, 0x0, 0x0, 0x0⟩,
   ⟨0x1E3108, 16, 32, 0x0, 0x800001FF, 0x0, 0x0, 0x0⟩,
   ⟨0x1E8000, 4, 1, 0x0, 0x0, 0x0, 0x0, 0x0⟩,
   ⟨0x1E8004, 4, 1, 0x4F, 0xFF, 0x0, 0x0, 0x0⟩,
   ⟨0x1E8008, 4, 1, 0x0, 0x0, 0x0, 0x0, 0x1⟩,
   ⟨0x1E800C, 4, 1, 0x0, 0x0, 0x0, 0x0, 0x0⟩,
   ⟨0x1E8010, 4, 1, 0x0, 0x0, 0x0, 0x0, 0x0⟩,
   ⟨0x1E8014, 4, 1, 0x0, 0x0, 0x0, 0x0, 0x0⟩,
   ⟨0x1E8018, 4, 1, 0x0, 0x0, 0x0, 0x0, 0x0⟩]

/-- The field map of CAN. -/
def regRowsCAN : List RegRow := regRowsCAN0

def regRowsSLT0 : List RegRow :=
  [⟨0x1F0000, 4, 1, 0x0, 0x0, 0x0, 0x0, 0x0⟩,
   ⟨0x1F0004, 4, 1, 0x0, 0x0, 0x0, 0x0, 0x1FF⟩,
   ⟨0x1F0008, 4, 1, 0x200, 0x0, 0x0, 0x0, 0x0⟩,
   ⟨0x1F000C, 4, 1, 0x80808080, 0xFFFFFFFF, 0x0, 0x0, 0x0⟩,
   ⟨0x1F0010, 4, 1, 0x0, 0x0, 0x7, 0x4, 0x0⟩,
   ⟨0x1F0014, 4, 1, 0x0, 0x0, 0x0, 0x0, 0xF1FF⟩,
   ⟨0x1F1000, 4, 512, 0x0, 0x1F, 0x0, 0x0, 0x0⟩]

/-- The field map of SLT. -/
def regRowsSLT : List RegRow := regRowsSLT0

def regRowsCEN0 : List RegRow :=
  [⟨0x200000, 4, 1, 0x0, 0x1, 0x0, 0x0, 0x0⟩,
   ⟨0x200004, 4, 1, 0x0, 0x0, 0x0, 0x0, 0x0⟩,
   ⟨0x200008, 4, 1, 0x0, 0x0, 0x0, 0x0, 0x7⟩,
   ⟨0x20000C, 4, 1, 0x0, 0xFFFFFFFF, 0x0, 0x0, 0x0⟩,
   ⟨0x200010, 4, 1, 0x0, 0x0, 0x4, 0x0, 0x0⟩,
   ⟨0x200014, 4, 1, 0x0, 0x0, 0x0, 0x0, 0x0⟩,
   ⟨0x200020, 4, 3, 0x0, 0x0, 0x0, 0x0, 0x0⟩,
   ⟨0x200040, 4, 1, 0x0, 0x0, 0x3, 0x3, 0x0⟩,
   ⟨0x200044, 4, 3, 0x0, 0x0, 0x0, 0x0, 0x0⟩,
   ⟨0x200050, 4, 3, 0x0, 0xFFFFFFFF, 0x0, 0x0, 0x0⟩,
   ⟨0x200100, 64, 4, 0x0, 0x77F3000, 0x0, 0x0, 0x60000000⟩,
   ⟨0x200104, 64, 4, 0x0, 0xFFFFFFFF, 0x0, 0x0, 0x0⟩,
   ⟨0x200108, 64, 4, 0x0, 0xFFFFFFFF, 0x0, 0x0, 0x0⟩,
   ⟨0x20010C, 64, 4, 0x0, 0xFFFFFFFF, 0x0, 0x0, 0x0⟩,
   ⟨0x200110, 64, 4, 0x0, 0xFFFFFFFF, 0x0, 0x0, 0x0⟩,
   ⟨0x200114, 64, 4, 0x0, 0xFFFFFFFF, 0x0, 0x0, 0x0⟩,
   ⟨0x200118, 64, 4, 0x0, 0xFFFFFFFF, 0x0, 0x0, 0x0⟩,
   ⟨0x20011C, 64, 4, 0x1, 0xFFFFF, 0x0, 0x0, 0x0⟩,
   ⟨0x200120, 64, 4, 0x0, 0xFFFFFFFF, 0x0, 0x0, 0x0⟩,
   ⟨0x200124, 64, 4, 0x0, 0x0, 0x0, 0x0, 0x0⟩,
   ⟨0x200200, 64, 4, 0x10000, 0x3FF0000, 0x58000000, 0x0, 0x20000000⟩,
   ⟨0x200204, 64, 4, 0x0, 0xFFFFFFFF, 0x0, 0x0, 0x0⟩,
   ⟨0x200208, 64, 4, 0x0, 0x0, 0x0, 0x0, 0x0⟩,
   ⟨0x20020C, 64, 4, 0x0, 0x0, 0x0, 0x0, 0x0⟩,
   ⟨0x200210, 64, 4, 0x0, 0x0, 0x0, 0x0, 0x0⟩,
   ⟨0x200400, 4, 1, 0x0, 0x1FF01FFF, 0x0, 0x0, 0xE0000000⟩,
   ⟨0x200404, 4, 1, 0x0, 0xFFFFFFFF, 0x0, 0x0, 0x0⟩,
   ⟨0x200408, 4, 1, 0x0, 0x7F, 0x0, 0x0, 0x0⟩,
   ⟨0x20040C, 4, 1, 0x0, 0x0, 0x0, 0x0, 0x0⟩,
   ⟨0x200410, 4, 1, 0x0, 0x0, 0x0, 0x0, 0x0⟩,
   ⟨0x200440, 4, 16, 0x0, 0xF0007F07, 0x0, 0x0, 0x0⟩]

/-- The field map of CEN. -/
def regRowsCEN : List RegRow := regRowsCEN0

def regRowsFUN0 : List RegRow :=
  [⟨0x300000, 256, 32, 0x0, 0x0, 0x0, 0x0, 0x0⟩,
   ⟨0x300004, 256, 32, 0x0, 0x0, 0x0, 0x0, 0x0⟩,
   ⟨0x300008, 256, 32, 0x0, 0x0, 0x7, 0x7, 0x0⟩,
   ⟨0x30000C, 256, 32, 0x0, 0x0, 0x0, 0x0, 0x3⟩,
   ⟨0x300010, 256, 32, 0x0, 0xFFFFFFFF, 0x0, 0x0, 0x0⟩,
   ⟨0x300020, 4, 4, 0x0, 0x0, 0x0, 0x0, 0x0⟩,
   ⟨0x300120, 4, 4, 0x0, 0x0, 0x0, 0x0, 0x0⟩,
   ⟨0x300220, 4, 4, 0x0, 0x0, 0x0, 0x0, 0x0⟩,
   ⟨0x300320, 4, 4, 0x0, 0x0, 0x0, 0x0, 0x0⟩,
   ⟨0x300420, 4, 4, 0x0, 0x0, 0x0, 0x0, 0x0⟩,
   ⟨0x300520, 4, 4, 0x0, 0x0, 0x0, 0x0, 0x0⟩,
   ⟨0x300620, 4, 4, 0x0, 0x0, 0x0, 0x0, 0x0⟩,
   ⟨0x300720, 4, 4, 0x0, 0x0, 0x0, 0x0, 0x0⟩,
   ⟨0x300820, 4, 4, 0x0, 0x0, 0x0, 0x0, 0x0⟩,
   ⟨0x300920, 4, 4, 0x0, 0x0, 0x0, 0x0, 0x0⟩,
   ⟨0x300A20, 4, 4, 0x0, 0x0, 0x0, 0x0, 0x0⟩,
   ⟨0x300B20, 4, 4, 0x0, 0x0, 0x0, 0x0, 0x0⟩,
   ⟨0x300C20, 4, 4, 0x0, 0x0, 0x0, 0x0, 0x0⟩,
   ⟨0x300D20, 4, 4, 0x0, 0x0, 0x0, 0x0, 0x0⟩,
   ⟨0x300E20, 4, 4, 0x0, 0x0, 0x0, 0x0, 0x0⟩,
   ⟨0x300F20, 4, 4, 0x0, 0x0, 0x0, 0x0, 0x0⟩,
   ⟨0x301020, 4, 4, 0x0, 0x0, 0x0, 0x0, 0x0⟩,
   ⟨0x301120, 4, 4, 0x0, 0x0, 0x0, 0x0, 0x0⟩,
   ⟨0x301220, 4, 4, 0x0, 0x0, 0x0, 0x0, 0x0⟩,
   ⟨0x301320, 4, 4, 0x0, 0x0, 0x0, 0x0, 0x0⟩,
   ⟨0x301420, 4, 4, 0x0, 0x0, 0x0, 0x0, 0x0⟩,
   ⟨0x301520, 4, 4, 0x0, 0x0, 0x0, 0x0, 0x0⟩,
   ⟨0x301620, 4, 4, 0x0, 0x0, 0x0, 0x0, 0x0⟩,
   ⟨0x301720, 4, 4, 0x0, 0x0, 0x0, 0x0, 0x0⟩,
   ⟨0x301820, 4, 4, 0x0, 0x0, 0x0, 0x0, 0x0⟩,
   ⟨0x301920, 4, 4, 0x0, 0x0, 0x0, 0x0, 0x0⟩,
   ⟨0x301A20, 4, 4, 0x0, 0x0, 0x0, 0x0, 0x0⟩,
   ⟨0x301B20, 4, 4, 0x0, 0x0, 0x0, 0x0, 0x0⟩,
   ⟨0x301C20, 4, 4, 0x0, 0x0, 0x0, 0x0, 0x0⟩,
   ⟨0x301D20, 4, 4, 0x0, 0x0, 0x0, 0x0, 0x0⟩,
   ⟨0x301E20, 4, 4, 0x0, 0x0, 0x0, 0x0, 0x0⟩,
   ⟨0x301F20, 4, 4, 0x0, 0x0, 0x0, 0x0, 0x0⟩,
   ⟨0x302000, 4, 1, 0x0, 0x0, 0x0, 0x0, 0x0⟩]

/-- The field map of FUN. -/
def regRowsFUN : List RegRow := regRowsFUN0

def regRowsKAO0 : List RegRow :=
  [⟨0x400000, 4, 1, 0x1010000, 0x0, 0x0, 0x0, 0x0⟩,
   ⟨0x400004, 4, 1, 0x0, 0x0, 0x0, 0x0, 0x0⟩,
   ⟨0x400008, 4, 1, 0x0, 0x0, 0x0, 0x0, 0x0⟩,
   ⟨0x40000C, 4, 1, 0x0, 0x0, 0x0, 0x0, 0x0⟩,
   ⟨0x400010, 4, 1, 0x0, 0x0, 0x0, 0x0, 0x0⟩,
   ⟨0x400014, 4, 1, 0x0, 0x0, 0x0, 0x0, 0x0⟩,
   ⟨0x400018, 4, 1, 0x0, 0x0, 0x0, 0x0, 0x0⟩,
   ⟨0x400020, 4, 12, 0x0, 0x0, 0x0, 0x0, 0x0⟩,
   ⟨0x400050, 4, 1, 0x0, 0x0, 0x0, 0x0, 0x0⟩,
   ⟨0x400054, 4, 1, 0x0, 0x0, 0x0, 0x0, 0x0⟩,
   ⟨0x400060, 4, 4, 0x0, 0x0, 0x0, 0x0, 0x0⟩,
   ⟨0x400070, 4, 2, 0x0, 0x0, 0x0, 0x0, 0x0⟩,
   ⟨0x400078, 4, 1, 0x0, 0x0, 0x0, 0x0, 0x0⟩,
   ⟨0x400080, 4, 1, 0x0, 0x0, 0x0, 0x0, 0x0⟩]

/-- The field map of KAO. -/
def regRowsKAO : List RegRow := regRowsKAO0

def regRowsMRL0 : List RegRow :=
  [⟨0x410000, 4, 1, 0x1010000, 0x0, 0x0, 0x0, 0x0⟩,
   ⟨0x410004, 4, 1, 0x0, 0x0, 0x0, 0x0, 0x0⟩,
   ⟨0x410008, 4, 1, 0x0, 0x0, 0x0, 0x0, 0x0⟩,
   ⟨0x41000C, 4, 1, 0x0, 0x0, 0x0, 0x0, 0x0⟩,
   ⟨0x410010, 4, 1, 0x0, 0x0, 0x0, 0x0, 0xFFFFFFFF⟩,
   ⟨0x410014, 4, 1, 0x0, 0x0, 0x0, 0x0, 0x0⟩,
   ⟨0x410018, 4, 1, 0x0, 0x0, 0x0, 0x0, 0x0⟩,
   ⟨0x41001C, 4, 1, 0x0, 0x0, 0x0, 0x0, 0x0⟩,
   ⟨0x410020, 4, 1, 0x0, 0x0, 0x0, 0x0, 0x0⟩,
   ⟨0x410024, 4, 1, 0x0, 0x0, 0x0, 0x0, 0x0⟩,
   ⟨0x410028, 4, 2, 0x0, 0x0, 0x0, 0x0, 0x0⟩,
   ⟨0x410040, 16, 4, 0x0, 0x0, 0x0, 0x0, 0x0⟩,
   ⟨0x410044, 16, 4, 0x0, 0x0, 0x0, 0x0, 0x0⟩,
   ⟨0x410048, 16, 4, 0x0, 0x0, 0x0, 0x0, 0x0⟩,
   ⟨0x41004C, 16, 4, 0x0, 0x0, 0x0, 0x0, 0x0⟩,
   ⟨0x410100, 4, 2, 0x0, 0x0, 0x0, 0x0, 0x0⟩,
   ⟨0x410110, 4, 2, 0x0, 0x0, 0x0, 0x0, 0x0⟩,
   ⟨0x410120, 4, 2, 0x0, 0x0, 0x0, 0x0, 0x0⟩,
   ⟨0x410130, 4, 2, 0x0, 0x0, 0x0, 0x0, 0x0⟩,
   ⟨0x410080, 4, 1, 0x0, 0x0, 0x0, 0x0, 0x0⟩]

/-- The field map of MRL. -/
def regRowsMRL : List RegRow := regRowsMRL0

/-- The field map of the block that holds an address (R9). -/
def regRowsFor (a : Nat) : List RegRow :=
  if a < 0x10000 then regRowsSYS else
  if a < 0x20000 then regRowsIMG else
  if a < 0x30000 then regRowsCLK else
  if a < 0x40000 then regRowsVRC else
  if a < 0x50000 then regRowsLSS else
  if a < 0x60000 then regRowsTHM else
  if a < 0x70000 then regRowsSTR else
  if a < 0x80000 then regRowsEVR else
  if a < 0x90000 then regRowsACQ else
  if a < 0xA0000 then regRowsCMP else
  if a < 0xB0000 then regRowsPWM else
  if a < 0xC0000 then regRowsGDC else
  if a < 0xD0000 then regRowsCEL else
  if a < 0xE0000 then regRowsLMP else
  if a < 0xF0000 then regRowsMOD else
  if a < 0x100000 then regRowsGRD else
  if a < 0x140000 then regRowsLNK else
  if a < 0x180000 then regRowsCLT else
  if a < 0x1D0000 then regRowsHST else
  if a < 0x1E0000 then regRowsETH else
  if a < 0x1F0000 then regRowsCAN else
  if a < 0x200000 then regRowsSLT else
  if a < 0x300000 then regRowsCEN else
  if a < 0x400000 then regRowsFUN else
  if a < 0x410000 then regRowsKAO else
  if a < 0x420000 then regRowsMRL else
  []

end Sys2Proof.Machine
end

