-- ==== Sys2Proof/Config.lean ====
section
/-!
DEFINITION. The values the spec leaves open. Each is an opaque constant: it has no body, so nothing can be proved of
its value, and a statement about it holds for every value it may have.
-/
namespace Sys2Proof

/-- A value the spec leaves open, drawn at one use: `site` says which rule leaves it open, `k` is the state's own count of
values drawn so far (log 4). -/
opaque Config.free (site k : Nat) : Nat

/-- A result the spec leaves open as a function of its operands: `site` says which rule, the list is the operands. -/
opaque Config.freeOf (site : Nat) (args : List Int) : Int

/-- A part's own constant that the spec calls per die or implementation-fixed: `site` says which. -/
opaque Config.die (site : Nat) : Nat

end Sys2Proof
end

