-- ==== Sys2Proof/Machine/State.lean ====
section
/-!
DEFINITION. The state of the IX4096, in both its roles, as plain data; the ways a command can stop; and the state right
after reset. Register words stand in one register file by BAR0 address (`reg`); what the prose of the rules gives the
machine beside its field maps stands in one structure per unit.
-/
namespace Sys2Proof.Machine

/-- Why a command can stop the machine. No command of this block stops it: the spec gives every command an effect, so no
meaning raises a fault. -/
inductive Fault where
  /-- never raised; the outcome type asks for a fault type. Safe. -/
  | none
  deriving DecidableEq, Repr

/-- Why a command can have no meaning. -/
inductive Refusal where
  /-- an arm of the dispatch whose meaning is not written. Safe: nothing is proved of such a command. -/
  | notModelled (mnemonic : String)
  deriving DecidableEq, Repr

/-- What a command sends outside the block, or returns to the one that sent it (log 5). -/
inductive Out where
  /-- a register word read -/
  | word (w : Nat)
  /-- the MSI-X message of a vector: the address and data of its table entry (R442, R445) -/
  | msix (v : Nat) (addr : BitVec 64) (data : BitVec 32)
  /-- stop symbols on a lane -/
  | stop (lane n : Nat)
  /-- the source number of a notify-Marl action -/
  | notify (k : Nat)
  /-- bytes: an SPI answer, an Ethernet frame on `port` -/
  | bytes (port : Nat) (bs : List Byte)
  /-- 66-bit blocks on a lane, the sync header in bits 1 and 0 and the scrambled payload above it, from block number `pos` of the
  lane's grid on (R81) -/
  | blocks (lane pos : Nat) (bs : List Nat)
  /-- the training burst of a lane: 128 UI of alternating bits, beginning with one, before block `pos` (R100) -/
  | train (lane pos : Nat)
  /-- `n` UI of unframed pattern bits, bit 0 first (R103) -/
  | raw (lane n bits : Nat)
  /-- an upstream burst whose preamble starts at `t`, 1/128 UI of the recovered clock: 96 UI of alternating bits, the delimiter, then
  blocks as above (R91, R124) -/
  | burst (t : Int) (delim : Nat) (bs : List Nat)
  /-- received blocks sent on again in far-end loopback (R107) -/
  | echo (bs : List Nat)
  /-- an edge of LTX_EN at `t`, 1/128 UI (R89) -/
  | ltxEn (t : Int) (level : Bool)
  /-- an edge of a lane's LRX_RST at `ui` UI from the start of the running cycle (R90) -/
  | lrxRst (lane : Nat) (ui : Int) (level : Bool)
  /-- Marl A, or Marl B, holds its pin of output `k` low for `us` µs: a test window (R415) -/
  | window (b : Bool) (k us : Nat)
  /-- a pulse of `ms` ms on KAO_PO `k` (R385) -/
  | pulse (k ms : Nat)
  /-- a line of the verification port -/
  | line (l : List Nat)
  /-- an arbitration attempt of CAN controller `n` with the frame of silt buffer `buf` -/
  | can (n buf : Nat)
  /-- a flash command: the word of HST.SPIC_CMD, address, bytes sent -/
  | flash (cmd addr : Nat) (bs : List Byte)
  /-- the loader's read of the image flash: command, address in three bytes, dummy clocks, data lines (R448) -/
  | imageRead (cmd addr dummy lines : Nat)
  /-- a pulse of `ms` ms on PPS_OUT -/
  | pps (ms : Nat)
  deriving DecidableEq, Repr

/-- The role that ROLE[1:0] selects (R12). -/
inductive Role where
  | hub
  | cell
  | factoryTest
  | reserved
  deriving DecidableEq, Repr

/-- Straps, rails and what decides which clods run (R11 to R18, R492, R493). -/
structure Sys where
  role : Role := .hub
  lvl1 : Bool := false
  bootsrc : Nat := 0
  /-- level of PORST_N -/
  porstN : Bool := true
  /-- internal reset in force (R493) -/
  inReset : Bool := false
  /-- rails below threshold: bits 0 VDD, 1 VDDL, 2 VDDT, 3 VDDA, 4 VDDIO (R492) -/
  railsLow : Nat := 0
  /-- PGOOD has first gone high (R493) -/
  pgoodSeen : Bool := true
  /-- VDDF present, both Marl clods running -/
  vddf : Bool := true
  /-- VDDM present, Kaolin clod running -/
  vddm : Bool := true
  /-- MRL_PWR has read one since (R367) -/
  mrlPwrSeen : Bool := true
  /-- it has read zero after that (R367) -/
  mrlLost : Bool := false
  deriving DecidableEq, Repr

/-- Period timeline of the hub (R40 to R45). -/
structure Period where
  /-- 48-bit hub period counter (R40) -/
  pcnt : Nat := 0
  /-- PERIOD_CFG in force since the last boundary; the register holds what was accepted (R45) -/
  cfg : W32 := 0x00301300#32
  /-- periods since the last 1 ns correction, saturating at 1,024 (R42) -/
  sinceCorr : Nat := 1024
  /-- correction applied to the period now running, ns: -1, 0, 1 (R42) -/
  corr : Int := 0
  /-- consecutive periods with |PHASE_ERR| ≤ 2 ns (R44) -/
  lockRun : Nat := 0
  /-- the boundary has locked in PTP mode and the counter was loaded (R41) -/
  ptpLoaded : Bool := false
  /-- a 1PPS edge has crossed S-STC since the mode was selected (R41, R44) -/
  ppsSeen : Bool := false
  /-- time of the last boundary since PORST_N, ns; corrections and steps included -/
  timeNs : Nat := 0
  /-- the same without them: the time base of upstream cycles and switching instants, which they move along (R42, R122) -/
  nomNs : Nat := 0
  /-- place of the lanes' block grid against the time base, 0.2 ns; the spec gives no value (R26, log 15) -/
  grid : Nat := 0
  /-- correction fixed for the next boundary, ns (R161) -/
  corrNext : Int := 0
  deriving DecidableEq, Repr

/-- Clock synthesiser state beside CLK's field map (R475 to R482). -/
structure Clk where
  /-- PLLs lost and not yet restarted, bit k (R480) -/
  lost : Nat := 0
  /-- a commanded relock of PLL0 and PLL1 stops the clocks (R477) -/
  relocking : Bool := false
  deriving DecidableEq, Repr

/-- Supply controller state beside VRC's field map (R483 to R491). -/
structure Vrc where
  /-- accepted VSEL value (R485) -/
  vsel : Nat := 0
  /-- slewed target, 0.1 mV -/
  slewed : Nat := 0
  /-- final target in force, 0.1 mV -/
  target : Nat := 0
  /-- power-good masked (R485) -/
  masked : Bool := false
  /-- soft start in progress: low sides in diode emulation (R488) -/
  soft : Bool := false
  /-- stopped by UVLO (R490) -/
  uvloStop : Bool := false
  /-- configured phases, bit k, once counted after VDDA came up (R483) -/
  phMask : Nat := 0
  counted : Bool := false
  deriving DecidableEq, Repr

/-- Loess-domain state beside LSS's field map (R494 to R500). -/
structure Lss where
  /-- the real-time counter at the last 250 ms sample, in 1/32,768 s: 48 bits of seconds and 15 of fraction (R495) -/
  rtc : Int := 0
  /-- VDDA present; otherwise the domain runs from VBAK (R494) -/
  vdda : Bool := true
  /-- consecutive samples with TAMPERk_N low, saturating at 2 (R496) -/
  low0 : Nat := 0
  low1 : Nat := 0
  /-- the real-time counter is cut by CUT2 (R498) -/
  rtcCut : Bool := false
  /-- energies reserved by granted commits, 0.01 µJ (R500) -/
  granted : List (CommitKind × Nat) := []
  /-- the marker reserve is held (R500) -/
  marker : Bool := false
  deriving DecidableEq, Repr

/-- Confirmed or commanded state of a cell, as the STATE codes of the cell table (R70). -/
inductive CellState where
  | absent
  | blocked
  | bypassed
  | inserted
  | dormant
  | permBypass
  deriving DecidableEq, Repr

/-- Configuration fields of a cell-table entry (R70). -/
structure CtCfg where
  uid : Nat := 0
  arm : Nat := 0
  lane : Nat := 0
  slot : Nat := 0
  pos : Nat := 0
  type : Nat := 0
  slotFixed : Bool := false
  excl : Bool := false
  /-- Q7.24 words, two's complement -/
  vcGain : Nat := 0
  vcOffs : Nat := 0
  eqPreset : Nat := 0
  deriving DecidableEq, Repr

/-- Hub-owned fields of a cell-table entry (R70). -/
structure CtHub where
  level : Nat := 0
  delayEq : Nat := 0
  dC : Nat := 0
  wear : Nat := 0
  report : List Byte := List.replicate 16 0#8
  lastPcnt : Nat := 0
  state : CellState := .absent
  neg : Bool := false
  cmdState : CellState := .absent
  stale : Bool := false
  reason : Nat := 0
  errCnt : Nat := 0
  admissions : Nat := 0
  beh : Nat := 0
  deriving DecidableEq, Repr

/-- One cell-table entry. -/
structure CtEntry where
  cfg : CtCfg := {}
  hub : CtHub := {}
  deriving DecidableEq, Repr

/-- The cell table: live entries, dirty shadow entries, and the commit under way (R73, R74). -/
structure CellTable where
  live : Tab CtEntry := []
  /-- dirty shadow entries, by rising index: the words written, each with its place in the entry -/
  shadow : List (Nat × List (Nat × Nat)) := []
  /-- the checks have passed and the boundary is awaited -/
  checked : Bool := false
  /-- EQ_PRESET bytes latched by a host read, one per host path: PCI Express, SPI target (R97) -/
  eqLatch0 : Option (Nat × Nat × Nat) := none
  eqLatch1 : Option (Nat × Nat × Nat) := none
  deriving DecidableEq, Repr

/-- Where an image comes from (R14, R76, R78). -/
inductive ImgSource where
  | none
  | flash
  | host
  | lane0
  deriving DecidableEq, Repr

/-- A tile record's source descriptor (R58). -/
structure SrcDesc where
  kind : Nat := 0
  index : Nat := 0
  port : Nat := 0
  neg : Bool := false
  deriving DecidableEq, Repr

/-- A tile record of the graph (R57). -/
structure TileRec where
  tile : Nat := 0
  type : Nat := 0
  outer : Bool := false
  stage : Nat := 0
  srcs : List SrcDesc := []
  deriving DecidableEq, Repr

/-- A macro record (R57). -/
structure MacroRec where
  type : Nat := 0
  instance_ : Nat := 0
  firstTile : Nat := 0
  tileCnt : Nat := 0
  deriving DecidableEq, Repr

/-- A sink record (R57). -/
structure SinkRec where
  kind : Nat := 0
  index : Nat := 0
  src : SrcDesc := {}
  deriving DecidableEq, Repr

/-- The graph in force (R57). -/
structure Graph where
  tiles : List TileRec := []
  macros : List MacroRec := []
  sinks : List SinkRec := []
  innerDepth : Nat := 0
  outerDepth : Nat := 0
  deriving DecidableEq, Repr

/-- One arm of TOPO (R54). -/
structure ArmTopo where
  configured : Nat := 0
  needed : Nat := 0
  fullBridge : Bool := false
  vnomV : Nat := 0
  deriving DecidableEq, Repr

/-- One record of TBAND (R62). -/
structure TBand where
  avsMv : Nat := 0
  ctleAdj : Int := 0
  vgaAdj : Int := 0
  pwmDt : List Nat := []
  legDt : List Nat := []
  deriving DecidableEq, Repr

/-- The loader (R76) and what the applied image put in force beside the registers. -/
structure Image where
  src : ImgSource := .none
  /-- image bytes received so far, in image order -/
  buf : List Byte := []
  /-- words in the host load FIFO, oldest first (R80) -/
  fifo : List W32 := []
  /-- key slots: hash bytes as one number, first byte least significant; only of programmed slots (R67) -/
  otpHash : Tab Nat := []
  /-- PROGRAM operations under way, oldest first: slot, hash (R80) -/
  otpBusy : List (Nat × Nat) := []
  /-- the eight hash registers, first byte least significant -/
  hashRegs : Tab W32 := []
  arms : List ArmTopo := []
  laneCells : List Nat := []
  graph : Graph := {}
  tband : List TBand := []
  cellImgs : List (List Byte) := []
  cellType : Nat := 0
  maxLevel : Nat := 2
  deriving DecidableEq, Repr

/-- A management message of the link (R141, R142). -/
structure MgmtMsg where
  addr : Nat := 0
  slot : Nat := 0
  msg : Nat := 0
  tag : Nat := 0
  uid : Nat := 0
  payload : List Byte := []
  deriving DecidableEq, Repr

/-- A valid announcement held for the boundary after its burst (R133, R134). -/
structure Announce where
  uid : Nat := 0
  offer : Nat := 0
  type : Nat := 0
  beh : Nat := 0
  compatMin : Nat := 0
  compatMax : Nat := 0
  capMin : Nat := 0
  capMax : Nat := 0
  /-- measured early arrival, UI -/
  delta : Int := 0
  /-- the band's offset on VGA when the receiver was loaded, and the codes it had adapted to by the end of the burst (R95) -/
  adj : Int := 0
  dfe : Nat := 0
  vga : Nat := 0
  ph : Nat := 0
  deriving DecidableEq, Repr

/-- Ownership of a report slot (R134, R140). -/
inductive SlotOwn where
  | free
  | held
  | joining
  | admitted
  deriving DecidableEq, Repr

/-- One report slot of a hub lane. -/
structure SlotRec where
  own : SlotOwn := .free
  cell : Nat := 0
  /-- JOIN_CYC as sent in RANGE_ADMIT (R132) -/
  joinCyc : Nat := 0
  /-- RANGE_ADMIT has left in a frame -/
  admitSent : Bool := false
  /-- cycle s of R132, once announced -/
  startCyc : Option Nat := none
  /-- non-quiet cycles begun since s -/
  joined : Nat := 0
  /-- admitted in loader mode (R137) -/
  loader : Bool := false
  /-- consecutive expected bursts missing (R138) -/
  missed : Nat := 0
  /-- a joining cell was heard with its delimiter outside the search window; a burst was found inside it (R136) -/
  heardOutside : Bool := false
  heardInside : Bool := false
  /-- arrival offsets summed over the running 256 bursts, UI (R139) -/
  offSum : Int := 0
  offCnt : Nat := 0
  /-- cadence code the hub expects, and the one the last report carried, expected from the next cycle with n mod 64 = 0 on (R126) -/
  cad : Nat := 0
  cadNew : Nat := 0
  /-- released: freed at the next cycle boundary (R138) -/
  releasing : Bool := false
  /-- quarantine cycles still to run; some 0 once they have (R138) -/
  quar : Option Nat := none
  deriving DecidableEq, Repr

/-- An image transfer to a cell in loader mode (R137). -/
structure ImgXfer where
  slot : Nat := 0
  img : Nat := 0
  next : Nat := 0
  resends : Nat := 0
  /-- IMG_END has been sent and its reply is due -/
  ended : Bool := false
  deriving DecidableEq, Repr

/-- A PRBS checker (R105). -/
structure Checker where
  /-- pattern register; pattern bits taken as seed, up to 31 -/
  reg : Nat := 0
  seen : Nat := 0
  /-- error-free bits since the seed, up to 256 -/
  clean : Nat := 0
  /-- which of the last 256 bits were errored, the latest in bit 0 -/
  win : Nat := 0
  deriving DecidableEq, Repr

/-- The transmit stream of a lane: blocks of 6.4 ns, numbered from the first of the lane's grid (R26, R81). -/
structure Wire where
  /-- number of the next block to send -/
  next : Nat := 0
  /-- frames not wholly sent, oldest first: the block at which each is due, and its payload words still to go -/
  due : List (Nat × List Nat) := []
  /-- block at which the last frame started (R32) -/
  start : Nat := 0
  /-- blocks that stop symbols take (R120) -/
  stops : List Nat := []
  /-- blocks at which abort blocks fall due (R33, R247) -/
  aborts : List Nat := []
  /-- the last frame's trailer has gone and no idle position has followed it (R298) -/
  trail : Bool := false
  /-- the training burst stands before the next block (R100) -/
  train : Bool := false
  /-- scrambler state: the last 58 bits sent, the oldest in bit 0 (R81, R82) -/
  scr : Nat := 0
  /-- pattern generator register (R104); errors to be injected into its next bits; pattern bits since the last periodic one (R106) -/
  gen : Nat := 0
  flips : Nat := 0
  sinceInj : Nat := 0
  deriving DecidableEq, Repr

/-- One hub lane beside its LNK and CLT registers (chapters 03 and 04). -/
structure Lane where
  slots : Tab SlotRec := []
  /-- link messages waiting for a frame: RANGE_ADMIT, REFUSE, RELEASE and TIMING_ADJ, in the order they arose -/
  msgs : List MgmtMsg := []
  ann : Option Announce := none
  /-- first cycle of the quiet run announced last (R127) -/
  runStart : Option Nat := none
  /-- cycle announced last -/
  annLast : Option Nat := none
  /-- cycles announced as quiet, and as not quiet, and not yet over (R127, R132) -/
  quiet : List Nat := []
  loud : List Nat := []
  /-- mailbox request and reply bytes (R144, R145) -/
  mbReq : Mem := []
  mbReply : Mem := []
  /-- cycles since the mailbox message was sent -/
  mbWait : Nat := 0
  xfers : List ImgXfer := []
  /-- the hub's own image-message tag sequence (R144) -/
  imgTag : Nat := 0
  /-- payload words of the last frame assembled: blocks 0 to 50 (R112) -/
  frame : List Nat := []
  /-- φ of that frame's block in 0.2 ns (R26) -/
  phi : Nat := 0
  /-- EQ codes the burst receiver is loaded with (R92) -/
  eqLoaded : Nat := 0
  /-- offset on VGA that this load took from the temperature band (R92, R95) -/
  adjLoaded : Int := 0
  /-- checked bits, 48 bits (R105) -/
  prbsBits : Nat := 0
  /-- frame-target injections, each for one frame to come: 1 command-word CRC-8, 2 frame CRC-32 (R106) -/
  injFrames : List Nat := []
  chk : Checker := {}
  wire : Wire := {}
  deriving DecidableEq, Repr

/-- One refusal of the refusal log (R145). -/
structure Refused where
  lane : Nat := 0
  reason : Nat := 0
  offer : Nat := 0
  beh : Nat := 0
  uid : Nat := 0
  deriving DecidableEq, Repr

/-- Link-layer state of the whole hub (R122, R145). -/
structure Link where
  /-- nominal time (no discipline corrections) of the next cycle boundary, ns; none before the first anchor -/
  nextAt : Option Nat := none
  /-- number of the cycle that starts there -/
  nextN : Nat := 0
  /-- the anchor moves to the next period boundary (R122) -/
  anchorDue : Bool := false
  /-- the anchor has moved during the running cycle, whose remaining slots are neither granted nor expected (R122) -/
  cut : Bool := false
  /-- the last cycle boundary, nominal hub time in ns (R153) -/
  lastAt : Nat := 0
  reflog : List Refused := []
  deriving DecidableEq, Repr

/-- Bootstrap-refresh standing of a cell (R154, R155). -/
inductive Refresh where
  | none
  | pending (left : Nat)
  | mustBypass
  deriving DecidableEq, Repr

/-- A command that awaits its confirming report (R153). -/
structure PendCmd where
  state : CellState := .bypassed
  neg : Bool := false
  /-- nominal switching instant, nominal hub time in ns -/
  at_ : Nat := 0
  deriving DecidableEq, Repr

/-- Grading record of one cell (R147 to R157). -/
structure Grade where
  /-- the hub has confirmed the cell (R136) -/
  present : Bool := false
  loader : Bool := false
  key : Nat := 0
  /-- calibrated capacitor voltage of the latest report, Q7.24 (R72); the one that came with its latest insertion into the array (R172) -/
  vcal : Int := 0
  vArr : Int := 0
  /-- the cell is in its arm's ranking as the queue will leave it -/
  ranked : Bool := false
  stopLatched : Bool := false
  fault : Bool := false
  lowEnergy : Bool := false
  cad : Nat := 0
  refreshDue : Bool := false
  unresp : Bool := false
  abandoned : Bool := false
  /-- a report has shown permanent bypass since the cell's admission (0x42 of R151) -/
  perm : Bool := false
  /-- the cell's recharge has ended since the last selection (R157, R168) -/
  rechEnd : Bool := false
  /-- periods spent in recharge (R157) -/
  recharge : Option Nat := Option.none
  refresh : Refresh := .none
  pend : Option PendCmd := Option.none
  /-- commanded insertion is negative -/
  cmdNeg : Bool := false
  /-- cycle boundaries since the last accepted report (R152), and its nominal hub time in 0.2 ns (R153) -/
  sinceRep : Nat := 0
  repAt : Nat := 0
  deriving DecidableEq, Repr

/-- A change that waits in an arm's queue (R149). -/
inductive RankOp where
  | insert (cell key : Nat) (v : Int)
  | remove (cell : Nat)
  deriving DecidableEq, Repr

/-- One arm of modulation and grading (R149, R158 to R168). -/
structure Arm where
  /-- ranked cells as (key, cell), ascending in key, then in index -/
  rank : List (Nat × Nat) := []
  queue : List RankOp := []
  polNeg : Bool := false
  /-- carry, 2^−10 ns -/
  carry : Int := 0
  charging : Bool := true
  xPrev : Option Nat := Option.none
  /-- level of the last period, Q11.20 -/
  level : Int := 0
  /-- switches counted in the running window (R173) -/
  switches : Nat := 0
  /-- arm quantities held for the period, Q7.24 (R172) -/
  quant : List Int := []
  deriving DecidableEq, Repr

/-- State of one tile (R188 to R195, R201, R245). Words are signed 32-bit values, accumulators signed 64-bit values. -/
structure TileSt where
  /-- outputs y0 to y3; an absent one is zero -/
  y : List Int := []
  /-- outputs of an outer tile as inner tiles see them (R22) -/
  held : List Int := []
  /-- latest inputs as read under R184 -/
  x : List Int := []
  /-- integrator of a PI or integrator tile -/
  acc : Int := 0
  /-- y_{n−1} of a rate limiter -/
  prev : Int := 0
  /-- biquad history x_{n−1}, x_{n−2}, y_{n−1}, y_{n−2} and ε -/
  bq : List Int := []
  /-- filtered d+, q+, d−, q− of a sequence separator -/
  sep : List Int := []
  /-- delay line, latest sample first -/
  line : List Int := []
  latch : Bool := false
  inst : Bool := false
  cnt : Nat := 0
  /-- TSAT -/
  tsat : Nat := 0
  /-- TSAT bits set in the latest sample -/
  now : Nat := 0
  deriving DecidableEq, Repr

/-- Status of one macro record (R214). -/
structure MacroSt where
  stat : Nat := 0
  evt : Nat := 0
  vals : List Int := []
  /-- lock count of a grid synchroniser (R217) -/
  lockCnt : Nat := 0
  deriving DecidableEq, Repr

/-- One injection source (R203, R204). -/
structure Inj where
  run : Bool := false
  stopping : Bool := false
  theta : Nat := 0
  freq : Nat := 0
  prbs : Nat := 0x7FFF
  hold : Nat := 0
  elapsed : Nat := 0
  /-- s_n of the period -/
  out : Int := 0
  /-- θ wrapped at the start of the period -/
  wrapped : Bool := false
  deriving DecidableEq, Repr

/-- What a Loam copy holds of the control engine (R239, R245). -/
structure Engine where
  tiles : Tab TileSt := []
  macros : Tab MacroSt := []
  inj : Tab Inj := []
  /-- CEN.SATSUM -/
  satSum : Nat := 0
  deriving DecidableEq, Repr

/-- Parameter and constant banks of a copy, by register address; SLOAD and TPRESET words stand in the pending bank (R197). -/
structure Banks where
  active : Tab Nat := []
  pending : Tab Nat := []
  /-- bit t: tile t has pending writes -/
  dirty : Nat := 0
  cpoolDirty : Bool := false
  deriving DecidableEq, Repr

/-- A commit in progress (R198, R199). -/
structure Commit where
  at_ : Option Nat := none
  alignOuter : Bool := false
  /-- the inner tiles and the constant pool have been transferred -/
  innerDone : Bool := false
  deriving DecidableEq, Repr

/-- The capture unit (R205 to R207). -/
structure Capture where
  /-- 0 idle, 1 armed, 2 triggered, 3 done -/
  st : Nat := 0
  /-- 32-bit words by 8,192·channel + index -/
  ring : Tab Nat := []
  /-- index the next sample goes to -/
  wr : Nat := 0
  /-- samples recorded since ARM, saturating at 8,192 -/
  got : Nat := 0
  /-- samples of the rate since the last one kept -/
  skip : Nat := 0
  /-- a trigger event has come; the next recorded sample is the trigger sample -/
  trig : Bool := false
  /-- samples still to record once triggered -/
  left : Nat := 0
  deriving DecidableEq, Repr

/-- One correlator (R208). -/
structure Corr where
  /-- 0 idle, 1 waiting for a wrap, 2 accumulating, 3 all samples taken, 4 count limit reached -/
  st : Nat := 0
  s : Int := 0
  c : Int := 0
  n : Nat := 0
  cyc : Nat := 0
  deriving DecidableEq, Repr

/-- Control-engine units outside the two copies, and requests that wait for a boundary. -/
structure EngCtl where
  commit : Option Commit := none
  /-- START and STOP sampled, bit per source (R204) -/
  injStart : Nat := 0
  injStop : Nat := 0
  /-- INJ_FREQ written while running, bit per source -/
  injFreq : Nat := 0
  /-- MCTL commands sampled, bit per record (R215) -/
  mctl : Nat := 0
  cap : Capture := {}
  corr : Tab Corr := []
  /-- calibrated samples released at the last boundary (R276) -/
  samples : List Int := []
  /-- MOD and GRD writes that wait for the boundary, oldest first: address, word (R174) -/
  boundWrites : List (Nat × Nat) := []
  /-- words of the rank snapshot buffer, entry j at 2j and 2j + 1 (R179) -/
  rsnap : List Nat := []
  /-- periods begun in the running statistics window (R173) -/
  statCnt : Nat := 0
  deriving DecidableEq, Repr


/-- What one Loam copy holds (R239): modulation and grading, the control engine and its banks. -/
structure Copy where
  arms : Tab Arm := []
  grades : Tab Grade := []
  eng : Engine := {}
  banks : Banks := {}
  deriving DecidableEq, Repr

/-- A checkpoint: the state of copy A named in R245, at the latch edge of a period (R243). -/
structure Checkpoint where
  pcnt : Nat := 0
  arms : Tab Arm := []
  grades : Tab Grade := []
  eng : Engine := {}
  /-- commanded states of the used entries of the cell table -/
  cmds : List (Nat × CellState) := []
  deriving DecidableEq, Repr

/-- The Loam pair beside its LMP registers (chapter 08). -/
structure Loam where
  /-- the valid checkpoint; before the first validation the image-applied state (R244) -/
  valid : Checkpoint := {}
  /-- the image-applied state, for a restart without a usable checkpoint (R186, R255) -/
  applied : Checkpoint := {}
  /-- K_n latched and not yet validated -/
  next : Option Checkpoint := none
  /-- a mismatch has fallen in the running window W_n -/
  spoiled : Bool := false
  /-- a mismatch has been detected and the pair is not ready again (R248) -/
  restoring : Bool := false
  /-- boundaries passed since the detection (R265) -/
  lat : Nat := 0
  /-- boundary actions due for replay: SLOAD tiles, MCTL records, carry clears (R251) -/
  replaySload : Nat := 0
  replayMctl : Nat := 0
  replayCarry : Nat := 0
  /-- no boundary has passed since the valid checkpoint was validated: the next one's actions are those to replay (R251) -/
  replayOpen : Bool := true
  /-- writes to pending banks held in the entry FIFO during a restore: address, word (R252) -/
  heldWrites : List (Nat × Nat) := []
  /-- reports accepted during a restore, oldest first: cell, report field, nominal hub time in 0.2 ns (R252) -/
  heldReports : List (Nat × Nat × Nat) := []
  /-- FORCE_MM inverts copy B's next tile output (R257) -/
  force : Bool := false
  /-- times of the last mismatches, ns, latest first (R254) -/
  recent : List Nat := []
  /-- SPLIT accepted, acts at the next boundary (R258) -/
  splitDue : Bool := false
  /-- accepted hand-over boundary (R262) -/
  handover : Option Nat := none
  /-- boundaries left to an accepted relock on copy A (R264) -/
  abandon : Option Nat := none
  /-- full period count at the split -/
  splitAt : Nat := 0
  /-- MOD and GRD RW words of copy B while split (R259) -/
  fieldsB : Tab W32 := []
  /-- copy B's rank snapshot buffer while split (R259) -/
  rsnapB : List Nat := []
  deriving DecidableEq, Repr

/-- One slice's estimator (R279): coefficients with 8 extra fraction bits, and its last LO and HI codes. -/
structure Slice where
  offs : Int := 0
  gain : Int := 2 ^ 25
  skew : Int := 0
  lo : Option Int := none
  hi : Option Int := none
  /-- calibration conversions since the core started or CAL_FREEZE was cleared -/
  cal : Nat := 0
  /-- conversions since a calibration conversion fell due (R278) -/
  since : Nat := 0
  /-- next reference of the cycle: 0 LO, 1 HI, 2 TONE -/
  ref : Nat := 0
  deriving DecidableEq, Repr

/-- One acquisition core (R268 to R281). -/
structure Core where
  /-- conversions since the core's start, modulo 8: the next slice -/
  q : Nat := 0
  slices : Tab Slice := []
  /-- corrected conversions of each local input, latest first, at most 32 (R274) -/
  hist : Tab (List Int) := []
  /-- the window in progress began before the core started or its sequence or decimation changed (R272) -/
  partial_ : Bool := true
  /-- threshold outputs converted in the running housekeeping round: the next one, 8 when all are done (R278) -/
  thr : Nat := 0
  deriving DecidableEq, Repr

/-- Acquisition and comparators beside the ACQ and CMP registers. -/
structure Acq where
  cores : Tab Core := []
  /-- IN_GAIN words held for an IN_OFFS write (R277) -/
  gainHeld : Tab Nat := []
  /-- pairs waiting: input, GAIN, OFFS, first time in ns at which they may apply -/
  pairs : List (Nat × Nat × Nat × Nat) := []
  /-- system calibration under way: operation, 0 none; input; values summed; their number; error seen (R283) -/
  scalOp : Nat := 0
  scalInput : Nat := 0
  scalSum : Int := 0
  scalN : Nat := 0
  scalErr : Nat := 0
  /-- edges of the running chatter window, by comparator (R288) -/
  chat : Tab Nat := []
  /-- start of the running chatter window, ns -/
  chatFrom : Nat := 0
  /-- ALIGN_NS of each core, fixed at PORST_N: 8, 9 or 10 (R270) -/
  align : List Nat := [8, 8, 8, 8]
  /-- last samples of each comparator's raw output, the latest in bit 0 (R285) -/
  window : Tab Nat := []
  /-- corrected threshold conversions of the running housekeeping round, by comparator (R289) -/
  readback : List (Nat × Int) := []
  /-- comparators whose CODE was written in the running housekeeping round, as a mask (R289) -/
  codeNew : Nat := 0
  /-- acquisition inputs whose OVR set since the last housekeeping round, as a mask (R506) -/
  ovrRound : Nat := 0
  /-- cell: time of the last window end since the image was applied, ns -/
  winNs : Nat := 0
  deriving DecidableEq, Repr



/-- An event of the strata intake, stamped on entry (R515). -/
structure Ev where
  code : Nat := 0
  flags : Nat := 0
  sec : Nat := 0
  sub : Nat := 0
  pcnt : Nat := 0
  /-- eight bytes, first byte least significant -/
  data : Nat := 0
  deriving DecidableEq, Repr

/-- The strata recorder beside its STR registers (R514 to R521). -/
structure Strata where
  /-- the 2 MiB of MRAM (R514) -/
  mram : Mem := []
  intake : List Ev := []
  /-- events dropped since the last marker with cause 2 (R517) -/
  dropped : Nat := 0
  /-- live wave ring: word 8·index + channel -/
  ring : Tab Nat := []
  /-- index the next set goes to -/
  wr : Nat := 0
  /-- sets taken since arming, saturating at 4,096 -/
  sets : Nat := 0
  /-- the taken window, oldest set first: word 8·k + channel -/
  frozen : Tab Nat := []
  /-- post-trigger sets still to take, and the POST in force -/
  left : Nat := 0
  post : Nat := 0
  /-- slot taken, source of the freeze, PCNT of its trigger sample -/
  slot : Nat := 0
  src : Nat := 0
  trigPcnt : Nat := 0
  /-- ring index and SEQ of the freeze event, once committed -/
  freezeAt : Option (Nat × Nat) := none
  /-- next write of the flush, and a refused chunk that waits for the next loess sample -/
  next : Nat := 0
  retry : Bool := false
  /-- slots, the one filled longest ago first -/
  order : List Nat := [0, 1, 2, 3]
  /-- copy the next thermal-shutdown record goes to: 0 or 1 -/
  tsdCopy : Nat := 0
  /-- the record of the last shutdown requested has been written (R512, R513) -/
  tsdSet : Bool := false
  /-- real-time ticks since the last loess sample, as far as events and accesses have shown (R495) -/
  ticks : Nat := 0
  /-- powered time at which a refresh was refused, 0.01 h; it is retried an hour later (R521) -/
  refused : Option Nat := none
  deriving DecidableEq, Repr

/-- Thermal supervision beside the THM registers (R505 to R513). Sensors 0 to 11 are on-die, 12 to 27 external. -/
structure Thm where
  /-- readings of consecutive valid rounds, latest first, at most 255 -/
  hist : Tab (List Int) := []
  /-- consecutive good rounds of a broken sensor -/
  good : Tab Nat := []
  /-- a round has been run since reset -/
  ran : Bool := false
  /-- shutdown requested and not yet executed: TJ code and sensor of its record (R512) -/
  sd : Option (Nat × Nat) := none
  /-- its record has been requested (R512) -/
  recAsked : Bool := false
  deriving DecidableEq, Repr


/-- Event router and host interrupt state beside the EVR and HST registers (chapters 10 and 15). -/
structure Evr where
  /-- a converter block waits for the next frame assembled (R301) -/
  blockReq : Bool := false
  /-- time in ns from which REARM_MS counts; none before the first boundary after the image is applied (R301) -/
  rearmFrom : Option Nat := none
  /-- TRIP_OUT pins whose MIN_MS has run out, as a mask (R299) -/
  minDone : Nat := 0
  /-- time at which each TRIP_OUT pin went active, ns (R299) -/
  tripAt : Tab Nat := []
  /-- the image has set the polarity of the TRIP_OUT pins since reset, and they are driven (R530) -/
  polSet : Bool := false
  /-- sources of a cell that last fired with the action that blocks it, as a mask (R302, R349) -/
  blockSrc : Nat := 0
  /-- source 127 -/
  soft : Bool := false
  /-- MSI-X vector masks, function mask and pending bits of configuration space (R445); every vector masked after the endpoint's
  reset (log 31) -/
  msixMask : Nat := 2 ^ 64 - 1
  msixFunc : Bool := false
  msixPend : Nat := 0
  deriving DecidableEq, Repr

/-- Outputs of a PWM pair. -/
inductive PwmOut where
  | off
  | high
  | low
  deriving DecidableEq, Repr

/-- One PWM pair beside its registers (R304 to R316). -/
structure PwmPair where
  /-- active register duty (R310) -/
  act : Nat := 0
  /-- outputs the generator makes now -/
  gen : PwmOut := .off
  /-- its edges of this period still to come: offset from S in 125 ps, and the outputs from there -/
  edges : List (Nat × PwmOut) := []
  /-- a force waits for the next edge or the next S -/
  forceDue : Bool := false
  /-- a force is in effect, and drives this -/
  forced : Option PwmOut := none
  /-- what a force turns on once the dead time has passed -/
  forceOn : Option PwmOut := none
  /-- what the pair holds until its next S after an override ended or high impedance was left -/
  hold : Option PwmOut := none
  /-- both off under BLOCK_OFF, to the first S after deblock (R313) -/
  blockOff : Bool := false
  deriving DecidableEq, Repr

/-- One PWM group beside its registers. -/
structure PwmGrp where
  /-- period counter of its anchor, once a boundary has set it -/
  anchor : Option Nat := none
  /-- period counter of the boundary of its last S -/
  lastS : Option Nat := none
  /-- the commit waiting was sampled before the last boundary, and applies at the next S (R310) -/
  ready : Bool := false
  deriving DecidableEq, Repr

/-- The PWM generator beside its registers. -/
structure Pwm where
  pairs : Tab PwmPair := []
  grps : Tab PwmGrp := []
  /-- duty sinks of the last boundary, by pair, Q7.24; none where the image has none -/
  sinks : Tab (Option Int) := []
  /-- ns at which the blanking window of a fault input ends -/
  blankTo : Tab Nat := []
  /-- last three samples of a fault input, the latest in bit 0 (R314) -/
  fltWin : Tab Nat := []
  deriving DecidableEq, Repr


/-- A frame a cell has received and not yet applied (R31): its own accepted word, or none. -/
structure CellFrame where
  /-- start of the frame at the cell pins, 125 ps -/
  start : Nat := 0
  /-- STATE code of R115 -/
  code : Nat := 0
  toffs : Nat := 0
  recharge : Bool := false
  confirm : Bool := false
  seq : Nat := 0
  /-- the frame carries a word to apply: it is no hold frame and no abort has discarded it -/
  word : Bool := true
  /-- it is the first received frame with CONV_BLK clear after one with CONV_BLK set: it ends a stop latch (R120, R361) -/
  clearStop : Bool := false
  deriving DecidableEq, Repr

/-- An output pin that a scheduled edge drives: GD_ON and GD_MC of a switch, BYP_CMD. -/
inductive GatePin where
  | on
  | mc
  | byp
  deriving DecidableEq, Repr

/-- A scheduled edge (R323, R324, R331). -/
structure GateEdge where
  at_ : Nat
  sw : Nat
  pin : GatePin
  level : Bool
  deriving DecidableEq, Repr

/-- An announced upstream cycle (R113): CYC_NUM, QUIET and GRANT. -/
structure CycAnn where
  num : Nat := 0
  quiet : Bool := false
  grants : Nat := 0
  deriving DecidableEq, Repr

/-- The receive stream of a cell (R81, R110, R111). -/
structure CellRx where
  /-- descrambler state: the last 58 bits received, the oldest in bit 0 -/
  dscr : Nat := 0
  /-- payloads of the frame being received, or received last; block positions since its start, control blocks included (R33) -/
  words : List Nat := []
  pos : Nat := 0
  /-- that frame has been dealt with -/
  taken : Bool := true
  /-- a stop symbol, or an abort block at position 35 or earlier, discards its command words; an abort block its management field (R34, R37) -/
  drop : Bool := false
  noMgmt : Bool := false
  /-- consecutive blocks with a valid sync header, up to 64; which of the last 64 had an invalid one, the latest in bit 0 (R85) -/
  good : Nat := 0
  bad : Nat := 0
  /-- the last block was recognised as: 1 a stop symbol, 2 an abort block, 0 neither (R111) -/
  ctl : Nat := 0
  deriving DecidableEq, Repr

/-- The cell role beside its GDC, CEL and lane-0 LNK registers (chapters 03, 04 and 11). Times are in 125 ps of the recovered
clock. -/
structure Cell where
  /-- draw left in WAIT (R131) -/
  draw : Nat := 0
  /-- JOIN_CYC of RANGE_ADMIT; cycle s of R132; non-quiet cycles announced from it on, and the last of them -/
  joinCyc : Nat := 0
  joinStart : Option Nat := none
  joined : Nat := 0
  joinSeen : Option Nat := none
  /-- admitted in loader mode (R137) -/
  loader : Bool := false
  /-- consecutive valid frames whose own word carries another index -/
  foreign : Nat := 0
  /-- cycle in which an announcement is due -/
  annCyc : Option Nat := none
  /-- last cycle with RANGE that a draw was judged by -/
  rangeCyc : Option Nat := none
  /-- announced cycles, latest first -/
  cycles : List CycAnn := []
  /-- TC and CONV_BLK of the last valid header; CONV_BLK of the last received frame -/
  tc : Nat := 0
  hdrBlk : Bool := false
  lastBlk : Bool := false
  /-- start of the last frame since TRACK was entered; a valid header has been received since (R118); when TRACK was entered (R86) -/
  lastStart : Option Nat := none
  hdrSeen : Bool := false
  trackAt : Nat := 0
  rx : CellRx := {}
  /-- the running grid (R124, R125): number and start in 1/128 UI of the cycle announced last; what it was before; when it was re-aligned -/
  grid : Option (Nat × Nat) := none
  gridPrev : Option (Nat × Nat) := none
  alignAt : Nat := 0
  /-- when CTLE was last stepped in TRACK (R85) -/
  ctleAt : Nat := 0
  /-- level of LTX_EN (R89) -/
  ltxEn : Bool := false
  /-- start of the last received frame: the grid of R332 -/
  gridStart : Nat := 0
  frames : List CellFrame := []
  /-- management words M0 to M15 of the last frame, while the cell may act on them (R119) -/
  mgmt : Option (List (BitVec 64)) := none
  /-- TAG of the last message executed: link, image, other (R144); replies to the last image and other message -/
  tagLink : Option Nat := none
  tagImg : Option Nat := none
  tagReg : Option Nat := none
  doneImg : List Byte := []
  doneReg : List Byte := []
  /-- replies that wait for a grant, 16 bytes each, oldest first -/
  replies : List (List Byte) := []
  /-- the last reply reported an access error (R293) -/
  replyErr : Bool := false
  /-- one test burst is due in the next granted slot (R104) -/
  testBurst : Bool := false
  /-- the next scheduled burst lies 1 µs or more ahead (R102) -/
  usIdle : Bool := false
  /-- SEQ of the last command word applied; the last own word was rejected (R129); a rejection that no report has shown (R116) -/
  seqEcho : Nat := 0
  wordErr : Bool := false
  wordErrDue : Bool := false
  /-- a report has carried the CAD of the present stage (R126) -/
  cadSent : Bool := false
  /-- image transfer (R137): bytes, offsets of stored chunks, length -/
  imgBytes : Mem := []
  imgHave : List Nat := []
  imgLen : Nat := 0
  /-- cell time of the last command that named one -/
  now : Nat := 0
  /-- scheduled edges, earliest first -/
  edges : List GateEdge := []
  /-- one more than the last turn-off edge of each switch, made or scheduled; 0 none -/
  offAt : Tab Nat := []
  /-- turn-on edge of each switch -/
  onAt : Tab Nat := []
  /-- samples in a row that each armed desaturation detector has found above its threshold (R333) -/
  dsatRun : Tab Nat := []
  /-- when BYP_CMD rose -/
  bypAt : Nat := 0
  /-- wear commits that powered time has called for (R343) -/
  wearTicks : Nat := 0
  /-- switches wanted on; turn-ons held back by GD_FB (R327); switches in soft turn-off -/
  want : Nat := 0
  held : Nat := 0
  soft : Nat := 0
  /-- the commanded insertion is negative -/
  neg : Bool := false
  /-- faults in force, in the order of their detection (R333); the latest reason code (R348) -/
  faults : List Nat := []
  reason : Nat := 0
  /-- PERM_BYPASS with CONFIRM stood in the last received frame (R331) -/
  permArmed : Bool := false
  /-- permanent bypass: 0 none, 1 by command, 2 after a fault, 3 found at power-up (R335) -/
  perm : Nat := 0
  /-- self-test: item running (0 to 7 comparators, 8 to 11 detectors), items to come, items whose last test passed, as a mask -/
  stItem : Option Nat := none
  stLeft : List Nat := []
  stPassed : Nat := 0
  /-- junction rise, 1/256 °C; measured once a window was valid (R341, R342) -/
  dT : Int := 0
  wearOn : Bool := false
  peak : Int := 0
  valley : Int := 0
  rising : Bool := true
  /-- turn-on edges since the last window end -/
  turnOns : Nat := 0
  /-- thresholds in force: SHED1, SWMIN, SHED2, DORM, HYS (R344) -/
  vlim : List Nat := [0x599A, 0x4666, 0x399A, 0x2CCD, 0x028F]
  /-- RATE_DIV as the image set it (R344) -/
  rateDiv : Nat := 0
  /-- the two wear records in MRAM, as bytes: count, WEAR and CRC-32 (R343) -/
  wearRec : List (List Byte) := [[], []]
  /-- equaliser codes frozen in HOLD (R85) -/
  frozen : Option (Nat × Nat) := none
  deriving DecidableEq, Repr



/-- One family of energy registers of the Kaolin island, DC or AC (R377 to R382). Totals are mWh × 2^32 + residue. -/
structure KaoFam where
  imp : Nat := 0
  exp_ : Nat := 0
  net : Int := 0
  /-- block sums in progress, 2^−32 mWh -/
  sImp : Nat := 0
  sExp : Nat := 0
  sNet : Int := 0
  /-- direction: export -/
  export_ : Bool := false
  /-- reversals of the running interval, and totals at its start, mWh -/
  rev : Nat := 0
  imp0 : Nat := 0
  exp0 : Nat := 0
  deriving DecidableEq, Repr

/-- One pulse output: energy counted towards the next pulse in mWh, pulses waiting, pulses emitted (R385). -/
structure KaoOut where
  acc : Nat := 0
  backlog : Nat := 0
  count : Nat := 0
  deriving DecidableEq, Repr

/-- What a commit of the Kaolin island saves (R390). -/
structure KaoLive where
  /-- 0 BLANK, 1 SEALED, 2 UNSEALED (R394) -/
  state : Nat := 0
  unsealCnt : Nat := 0
  /-- the set in force, 512 bytes; empty while none was accepted -/
  set : List Byte := []
  /-- an accepted set that applies at the next block start (R396) -/
  nextSet : Option (List Byte) := none
  dc : KaoFam := {}
  ac : KaoFam := {}
  /-- segments of the DC pair and of the AC elements (R375) -/
  segs : List Nat := [0, 0, 0]
  /-- island time in tenths of a TAI second: the start of the running block (R389) -/
  tenths : Nat := 0
  timeInvalid : Bool := false
  /-- time of the last step accepted in SEALED -/
  lastStep : Option Nat := none
  /-- samples of the running block, Σ|x1|, Σx3², Σx5² -/
  k : Nat := 0
  abs1 : Nat := 0
  sq3 : Nat := 0
  sq5 : Nat := 0
  /-- end of the running interval and of the last one, TAI seconds -/
  ivlEnd : Nat := 0
  lastRec : Option Nat := none
  /-- no-load blocks and FLAGS of the running interval -/
  noload : Nat := 0
  flags : Nat := 0
  outs : List KaoOut := [{}, {}]
  /-- S0 input counts -/
  ins : List Nat := [0, 0, 0, 0]
  /-- sequence number of the next record -/
  seq : Nat := 0
  /-- block count (R393) -/
  blkSeq : Nat := 0
  deriving DecidableEq, Repr

/-- The Kaolin island (chapter 13). Its own MRAM, crystal and supply keep it through every reset of the rest of the device. -/
structure Kao where
  live : KaoLive := {}
  /-- the two commit records: count and contents of a valid one (R390) -/
  commits : List (Option (Nat × KaoLive)) := [none, none]
  /-- record the next commit goes to, never the newest valid one; the last commit did not finish -/
  nextCommit : Nat := 0
  torn : Bool := false
  /-- the set sealed last, as written to MRAM: set, check value, and the count that the next commit then had (R394) -/
  sealSet : Option (List Byte × Nat × Nat) := none
  /-- the last 2,048 records of 128 bytes, latest first (R392) -/
  recs : List (List Byte) := []
  /-- SEAL_N asserted, debounced -/
  sealLow : Bool := false
  vddmWarn : Bool := false
  /-- inputs in the active state, and PSTAT flags (R385, R386) -/
  active : Nat := 0
  pstat : Nat := 0
  /-- offer buffer on the host side: payload, its declared length, COMPAT_MIN, COMPAT_MAX (R395) -/
  offer : Option (List Byte × Nat × Nat × Nat) := none
  /-- argument of a command that crosses the seam -/
  arg : Option (Option (List Byte × Nat × Nat × Nat)) := none
  deriving DecidableEq, Repr


/-- A safety input as one Marl channel evaluates it (R409). -/
structure MarlIn where
  on : Bool := false
  bothSafe : Bool := true
  count : Nat := 0
  disc : Bool := false
  deriving DecidableEq, Repr

/-- A safety output in one Marl channel (R414 to R417). -/
structure MarlOut where
  cmd : Bool := false
  wait : Bool := true
  /-- faults: bits 0 STUCK, 1 LOST, 2 SW_A, 3 SW_B -/
  faults : Nat := 0
  /-- ticks since the command went off; consecutive ticks with readback low; ticks since a test window ended -/
  offTicks : Nat := 0
  lowRun : Nat := 0
  winAge : Nat := 2
  /-- the channel's own test window is open; its command has been on since the window began, and no demand has arisen in it (R415) -/
  win : Bool := false
  winOk : Bool := false
  /-- ticks since Marl A's last window of the output, and whether Marl B has had its own since; kept in Marl A (R415) -/
  winTicks : Nat := 0
  winMid : Bool := false
  deriving DecidableEq, Repr

/-- A voltage-absent pair in one Marl channel (R419, R420). -/
structure MarlPair where
  term : Bool := false
  hold : Nat := 0
  broken : Bool := false
  xc : Bool := false
  brokenRun : Nat := 0
  xcRun : Nat := 0
  deriving DecidableEq, Repr

/-- A connection in one Marl channel (R428, R429): 0 SYNC, 1 WAIT_RESET, 2 RUN. -/
structure MarlConn where
  st : Nat := 0
  last : Nat := 0
  /-- ticks since the last acceptance; acceptances in WAIT_RESET -/
  wd : Nat := 0
  acc : Nat := 0
  data : List Byte := List.replicate 16 0#8
  echo : Nat := 0
  crcErr : Nat := 0
  timeouts : Nat := 0
  seqErr : Nat := 0
  dup : Nat := 0
  /-- the watchdog has expired, and its event is due (R429) -/
  expired : Bool := false
  deriving DecidableEq, Repr

/-- One channel of the Marl island. -/
structure MarlCh where
  /-- set in force, empty for none; a set stored and not yet in force, which the next tick takes (R435) -/
  set : List Byte := []
  next : Option (List Byte) := none
  /-- telegrams that have arrived since the last tick, in order of arrival (R406) -/
  rx : List (List Byte) := []
  ins : List MarlIn := List.replicate 16 {}
  outs : List MarlOut := List.replicate 8 {}
  pairs : List MarlPair := List.replicate 2 {}
  conns : List MarlConn := List.replicate 4 {}
  notify : Bool := false
  /-- safe-block request; the idle word of S-MRC requests it -/
  sb : Bool := true
  /-- latest samples: contacts 1 and 2, readbacks, own code of each pair -/
  c1 : Nat := 0
  c2 : Nat := 0
  rb : Nat := 0
  codes : List Nat := [0, 0]
  /-- ticks the reset input has been ON, consecutive ticks both its contacts were safe -/
  onRun : Nat := 0
  safeRun : Nat := 0
  /-- the next release ends a confirmation hold (R435) -/
  supp : Bool := false
  ticks : Nat := 0
  /-- own ticks and partner ticks of the running 100; own ticks since the partner's last (R407, R438) -/
  own : Nat := 0
  partner : Nat := 0
  gap : Nat := 0
  /-- consecutive ticks each compared item has differed (R407) -/
  diff : List Nat := []
  /-- the two parameter records of the channel's MRAM: count and set of a valid one (R435) -/
  recs : List (Option (Nat × List Byte)) := [none, none]
  deriving DecidableEq, Repr

/-- The Marl island (chapter 14). Its own supply and clocks keep it through every reset of the rest of the device. -/
structure Marl where
  a : MarlCh := {}
  b : MarlCh := {}
  /-- 0 UNCONFIGURED, 1 RUN, 2 FAULT (R437) -/
  state : Nat := 0
  fault : Nat := 0
  /-- an internal fault found and not yet acted on; 0 none (R438) -/
  found : Nat := 0
  /-- held proposal (R433) -/
  held : Option (List Byte) := none
  /-- a value written to MRL.CONFIRM that awaits its outcome, and what each channel found: 0 accepted, else the reason (R434) -/
  conf : Option Nat := none
  confA : Option Nat := none
  confB : Option Nat := none
  /-- an accepted confirmation is being stored (R435) -/
  storing : Option (List Byte) := none
  /-- hand-over from the loader: nothing due; an image without MRLPROP; payload, length, COMPAT_MIN, COMPAT_MAX (R433) -/
  handed : Option (Option (List Byte × Nat × Nat × Nat)) := none
  /-- sequence number of the next telegram, ticks of Marl A since the last, consecutive build mismatches, by connection (R427) -/
  txSeq : List Nat := [0, 0, 0, 0]
  txTicks : List Nat := [0, 0, 0, 0]
  mismatch : List Nat := [0, 0, 0, 0]
  /-- the states that both channels held in agreement at the last tick (R427) -/
  agreed : List Nat := [1]
  /-- telegrams at the telegram seam, in order of arrival (R458) -/
  seam : List (List Byte) := []
  /-- event records of 16 bytes, latest first; sequence number of the next (R441) -/
  recs : List (List Byte) := []
  seq : Nat := 0
  deriving DecidableEq, Repr


/-- A transmit event (R464). -/
structure TxEvt where
  status : Nat := 0
  slot : Nat := 0
  buf : Nat := 0
  ident : Nat := 0
  ts : Nat := 0
  deriving DecidableEq, Repr

/-- One CAN controller beside its registers (R459 to R469). -/
structure Can where
  /-- failed attempts of each slot, not saturated; slots with a cancel waiting; start-of-frame time of each slot's last attempt -/
  tries : List Nat := [0, 0, 0]
  cancel : List Bool := [false, false, false]
  sof : List (Option Nat) := [none, none, none]
  /-- slot ahead of the order of R462 after a recovery (R466) -/
  first : Option Nat := none
  /-- the slot that was in its attempt at bus-off -/
  atOff : Option Nat := none
  evts : List TxEvt := []
  fifo : List Nat := []
  reserve : Option Nat := none
  deriving DecidableEq, Repr

/-- The transmit side of an Ethernet port (R452, R457): what is on the wire (a telegram frame, or not), a host frame not yet started, telegram
frames that wait, in order; each with its FCS. -/
structure EthPort where
  wire : Option Bool := none
  host : Option (List Byte) := none
  telegrams : List (List Byte) := []
  deriving DecidableEq, Repr

/-- The PCI Express endpoint beside HST.PCIE_STAT (R442, R444): its power state, the MSI-X table's address and data of each vector, its AER
uncorrectable error status. -/
structure Endpoint where
  d3hot : Bool := false
  table : Tab (BitVec 64 × BitVec 32) := []
  aer : BitVec 32 := 0
  deriving DecidableEq, Repr

/-- The station clod beside its registers (chapter 15). -/
structure Station where
  /-- receive rings, transmit buffers, SPI controller buffer and silt buffers, by BAR0 address -/
  mem : Mem := []
  /-- PTP time at the last step or change of ADJ, in 6.4 ns / (1,024 × 10^9) (R453) -/
  ptp : Int := 0
  /-- PTP time of the last renewal of LOCKED (R455) -/
  lockAt : Int := 0
  /-- seconds of the last PPS_IN edge -/
  ppsSec : Nat := 0
  ports : List EthPort := [{}, {}]
  cans : List Can := [{}, {}, {}, {}]
  /-- CAN timestamp counter at the last write of its prescaler (R468) -/
  canTs : Nat := 0
  deriving DecidableEq, Repr

/-- The state of the block: the register file, one record per unit, and the command queue. -/
structure State where
  /-- register words by BAR0 byte address; an unlisted one reads as its field map's reset word -/
  reg : Tab W32 := []
  sys : Sys := {}
  period : Period := {}
  clk : Clk := {}
  vrc : Vrc := {}
  lss : Lss := {}
  img : Image := {}
  ct : CellTable := {}
  lanes : Tab Lane := []
  link : Link := {}
  /-- Loam copy A; copy B is equal to it while the pair is locked (log 13) -/
  cp : Copy := {}
  /-- copy B while the pair is split (R258) -/
  cpB : Option Copy := none
  eng : EngCtl := {}
  loam : Loam := {}
  acq : Acq := {}
  strata : Strata := {}
  thm : Thm := {}
  evr : Evr := {}
  pwm : Pwm := {}
  cell : Cell := {}
  kao : Kao := {}
  marl : Marl := {}
  station : Station := {}
  ep : Endpoint := {}
  /-- what the last command that sends or returns anything sent (log 5) -/
  out : List Out := []
  /-- the model's own count of free values drawn (log 4) -/
  freeCtr : Nat := 0
  /-- the commands that wait, first in, first out -/
  pending : List Instr := []
  deriving DecidableEq, Repr

/-- The machine right after reset: every field map at its reset column, every other piece at the value its structure
names, no image applied, nothing waiting; each SEQ of Marl, which starts at random (R427), at a free value of its own (site 121, log 4). -/
def State.reset : State := { marl := { txSeq := [0, 1, 2, 3].map (fun i => Config.free 121 i % 2 ^ 32) }, freeCtr := 4 }

end Sys2Proof.Machine
end

