-- ==== Sys2Proof/Machine/Ops.lean ====
section
/-!
DEFINITION. The named operations on tables, memories, bit fields and registers that every meaning uses.
-/
namespace Sys2Proof.Machine

/-! ## Sparse tables -/

/-- What key `k` holds; `d` is what an unlisted key reads as. -/
def tabGet {α : Type} (d : Nat → α) : Tab α → Nat → α
  | [], k => d k
  | (k', v) :: t, k => if k' = k then v else tabGet d t k

/-- Store `v` at `k`, keeping the keys rising and listing nothing that an unlisted key would read. -/
def tabSet {α : Type} [DecidableEq α] (d : Nat → α) : Tab α → Nat → α → Tab α
  | [], k, v => if v = d k then [] else [(k, v)]
  | (k', v') :: t, k, v =>
    if k < k' then (if v = d k then (k', v') :: t else (k, v) :: (k', v') :: t)
    else if k = k' then (if v = d k then t else (k, v) :: t)
    else (k', v') :: tabSet d t k v

/-- The canonical form above a lower bound: keys rise, and no entry is what an unlisted key reads as. -/
def tabWfFrom {α : Type} [DecidableEq α] (d : Nat → α) : Nat → Tab α → Bool
  | _, [] => true
  | b, (k, v) :: t => decide (b ≤ k) && !decide (v = d k) && tabWfFrom d (k + 1) t

/-- The canonical form of a table. -/
def tabWf {α : Type} [DecidableEq α] (d : Nat → α) (t : Tab α) : Bool := tabWfFrom d 0 t

/-- Change what key `k` holds. -/
def tabMod {α : Type} [DecidableEq α] (d : Nat → α) (t : Tab α) (k : Nat) (f : α → α) : Tab α :=
  tabSet d t k (f (tabGet d t k))

/-- Change every listed entry; one that becomes what an unlisted key reads as is dropped. -/
def tabMap {α : Type} [DecidableEq α] (d : Nat → α) (t : Tab α) (f : Nat → α → α) : Tab α :=
  t.filterMap (fun (x : Nat × α) => if f x.1 x.2 = d x.1 then none else some (x.1, f x.1 x.2))

/-! ## Byte memories: an unlisted byte reads 0 (log 3) -/

def zeroByte (_ : Nat) : Byte := 0#8

def memGet (m : Mem) (a : Nat) : Byte := tabGet zeroByte m a
def memSet (m : Mem) (a : Nat) (b : Byte) : Mem := tabSet zeroByte m a b

/-- The canonical form of a memory. -/
def Memory.wf (m : Mem) : Bool := tabWf zeroByte m

/-- Store bytes from address `a` upward. -/
def memWrite (m : Mem) (a : Nat) : List Byte → Mem
  | [] => m
  | b :: bs => memWrite (memSet m a b) (a + 1) bs

/-- The `n` bytes from address `a` upward. -/
def memRead (m : Mem) (a : Nat) : Nat → List Byte
  | 0 => []
  | n + 1 => memGet m a :: memRead m (a + 1) n

/-- Little-endian value of a byte list. -/
def leNat : List Byte → Nat
  | [] => 0
  | b :: bs => b.toNat + 256 * leNat bs

/-- The `n` little-endian bytes of a value. -/
def leBytes : Nat → Nat → List Byte
  | 0, _ => []
  | n + 1, v => BitVec.ofNat 8 v :: leBytes n (v / 256)

/-- Big-endian value of a byte list. -/
def beNat (bs : List Byte) : Nat := leNat bs.reverse

/-- The 32-bit little-endian word at `a`. -/
def memWord (m : Mem) (a : Nat) : Nat := leNat (memRead m a 4)

/-! ## Bits and numbers -/

/-- Bits `lo` and up of `w`, `width` of them. -/
def bitsAt (w lo width : Nat) : Nat := (w / 2 ^ lo) % 2 ^ width

/-- Bit `k` of `w`. -/
def bitAt (w k : Nat) : Bool := (w / 2 ^ k) % 2 == 1

/-- `w` with `width` bits from `lo` set to `v`. -/
def putBits (w lo width v : Nat) : Nat :=
  w - bitsAt w lo width * 2 ^ lo + (v % 2 ^ width) * 2 ^ lo

/-- Bit `k` of `w` set or cleared. -/
def putBit (w k : Nat) (b : Bool) : Nat := putBits w k 1 b.toNat

/-- The signed value of the low `width` bits. -/
def signedOf (width w : Nat) : Int :=
  let v := w % 2 ^ width
  if 2 * v < 2 ^ width then (v : Int) else (v : Int) - (2 ^ width : Nat)

/-- The two's-complement bits of a signed value. -/
def unsignedOf (width : Nat) (x : Int) : Nat := (x % (2 ^ width : Nat)).toNat

/-- `x` limited to `lo` … `hi`. -/
def clampI (lo hi x : Int) : Int := if x < lo then lo else if hi < x then hi else x

/-- `x` saturated to a signed `width`-bit range. -/
def satS (width : Nat) (x : Int) : Int := clampI (-(2 ^ (width - 1) : Nat)) ((2 ^ (width - 1) : Nat) - 1) x

/-- A saturating count of `width` bits. -/
def satAdd (width c d : Nat) : Nat := min (c + d) (2 ^ width - 1)

/-- Number of ones in the low `n` bits. -/
def popcount : Nat → Nat → Nat
  | 0, _ => 0
  | n + 1, w => w % 2 + popcount n (w / 2)

/-- The numbers below `n`, rising. -/
def upto (n : Nat) : List Nat := List.range n

/-- `2^w`-bit masks. -/
def maskBits (w : Nat) : Nat := 2 ^ w - 1

/-! ## Registers -/

/-- The field-map row that an address belongs to. -/
def regRow? (a : Nat) : Option RegRow :=
  (regRowsFor a).find? (fun r => decide (r.base ≤ a) && (a - r.base) % r.stride == 0 && decide ((a - r.base) / r.stride < r.count))

/-- What a register holds until something writes it: its field map's reset word. -/
def regReset (a : Nat) : W32 :=
  match regRow? a with
  | some r => BitVec.ofNat 32 r.reset
  | none => 0#32

/-- The stored word of a register. -/
def State.rd (s : State) (a : Nat) : Nat := (tabGet regReset s.reg a).toNat

/-- Store a whole register word. -/
def State.wr (s : State) (a w : Nat) : State := { s with reg := tabSet regReset s.reg a (BitVec.ofNat 32 w) }

/-- A register field. -/
def State.fld (s : State) (f : Fld) : Nat := bitsAt (s.rd f.addr) f.lo f.width

/-- A one-bit field. -/
def State.flag (s : State) (f : Fld) : Bool := s.fld f == 1

/-- Set a register field. -/
def State.setFld (s : State) (f : Fld) (v : Nat) : State := s.wr f.addr (putBits (s.rd f.addr) f.lo f.width v)

/-- Set a one-bit field, or bit 0 of a field. -/
def State.setFlag (s : State) (f : Fld) (b : Bool) : State := s.setFld f b.toNat

/-- Raise an event bit: it stays until a write of one clears it. -/
def State.raise (s : State) (f : Fld) : State := s.setFld f (2 ^ f.width - 1)

/-- Raise bit `k` of an event field. -/
def State.raiseBit (s : State) (f : Fld) (k : Nat) : State := s.setFld f (putBit (s.fld f) k true)

/-- Count up in a saturating counter field. -/
def State.count (s : State) (f : Fld) (n : Nat) : State := s.setFld f (satAdd f.width (s.fld f) n)

/-- The signed value of a field. -/
def State.sfld (s : State) (f : Fld) : Int := signedOf f.width (s.fld f)

/-- What a complete 32-bit write leaves of a register word: RW bits take the word, W1C and RS bits clear where the word has
a one, the others stay (R3, R5). -/
def writeMasked (r : RegRow) (old w : Nat) : Nat :=
  let keep := maskBits 32 ^^^ r.rw ^^^ r.w1c
  (old &&& keep) ||| (old &&& r.w1c &&& (maskBits 32 ^^^ (w % 2 ^ 32))) ||| (w &&& r.rw)

/-- Store an accepted write. -/
def State.store (s : State) (a w : Nat) : State :=
  match regRow? a with
  | some r => s.wr a (writeMasked r (s.rd a) w)
  | none => s

/-- What a block does with a write: the state after it, or the cause it is discarded for (R471). -/
abbrev WriteResult := Except Nat State

/-- Causes of access errors (R471). -/
def causeNarrow : Nat := 1
def causeGated : Nat := 2
def causeDeblocked : Nat := 3
def causeBusy : Nat := 4
def causeLiveBank : Nat := 5
def causeOther : Nat := 6

/-- Bits of the word at `a` that a reset keeps: its RS bits in a block reset, none under PORST_N. -/
def keptBits (keepRs : Bool) (a : Nat) : Nat :=
  match regRow? a with
  | some r => if keepRs then r.rs else 0
  | none => 0

/-- One register or block reset: every stored word whose address `p` picks goes back to its reset word; `keepRs` says
whether RS bits survive (a block reset) or not (PORST_N) (R3). -/
def regResetWhere (p : Nat → Bool) (keepRs : Bool) (t : Tab W32) : Tab W32 :=
  t.filterMap (fun e =>
    if p e.1 then
      let rs := keptBits keepRs e.1
      let rst := (regReset e.1).toNat
      let w := (rst &&& (maskBits 32 ^^^ rs)) ||| (e.2.toNat &&& rs)
      if w = rst then none else some (e.1, BitVec.ofNat 32 w)
    else some e)

/-- The role the straps gave (R12). -/
def State.isHub (s : State) : Bool := s.sys.role == .hub
def State.isCell (s : State) : Bool := s.sys.role == .cell

/-- The clods beside the loess domain run: the straps name a role, and no reset is in force (R13, R493). -/
def State.clodsUp (s : State) : Bool := (s.isHub || s.isCell) && !s.sys.inReset

/-- Forget what an earlier command sent. -/
def State.fresh (s : State) : State := { s with out := [] }

/-- Send. -/
def State.emit (o : Out) (s : State) : State := { s with out := s.out ++ [o] }

/-- Draw a free value: nothing constrains it (log 4). -/
def State.draw (s : State) (site : Nat) : Nat := Config.free site s.freeCtr

/-- The state after a free value has been drawn. -/
def State.drawn (s : State) : State := { s with freeCtr := s.freeCtr + 1 }

end Sys2Proof.Machine
end

