-- ==== Sys2Proof/Machine/Grading.lean ====
section
/-!
DEFINITION. The grading unit (chapter 05): keys, exclusions, the rank arrays and their queues, refresh, recharge, judgement of
commands, and the counts of R170 and R171. A function of one Loam copy takes the state for its registers and cell table.
-/
namespace Sys2Proof.Machine

/-! ## Rounding -/

/-- `n / d` rounded half away from zero. -/
def roundHA (n : Int) (d : Nat) : Int :=
  if n < 0 then -(((2 * (-n).toNat + d) / (2 * d) : Nat) : Int) else ((2 * n.toNat + d) / (2 * d) : Nat)

/-! ## Reading the copies and the cell table -/

def noEntry (_ : Nat) : CtEntry := {}
def noGrade (_ : Nat) : Grade := {}
def noArm (_ : Nat) : Arm := {}
def noLane (_ : Nat) : Lane := {}
def noSlot (_ : Nat) : SlotRec := {}

def State.entry (s : State) (i : Nat) : CtEntry := tabGet noEntry s.ct.live i
def State.setEntry (s : State) (i : Nat) (e : CtEntry) : State :=
  { s with ct := { s.ct with live := tabSet noEntry s.ct.live i e } }
def State.setHub (s : State) (i : Nat) (f : CtHub → CtHub) : State :=
  s.setEntry i { s.entry i with hub := f (s.entry i).hub }

def Copy.grade (c : Copy) (i : Nat) : Grade := tabGet noGrade c.grades i
def Copy.setGrade (c : Copy) (i : Nat) (g : Grade) : Copy := { c with grades := tabSet noGrade c.grades i g }
def Copy.arm (c : Copy) (a : Nat) : Arm := tabGet noArm c.arms a
def Copy.setArm (c : Copy) (a : Nat) (x : Arm) : Copy := { c with arms := tabSet noArm c.arms a x }

def State.lane (s : State) (l : Nat) : Lane := tabGet noLane s.lanes l
def State.setLane (s : State) (l : Nat) (x : Lane) : State := { s with lanes := tabSet noLane s.lanes l x }
def Lane.slot (x : Lane) (k : Nat) : SlotRec := tabGet noSlot x.slots k
def Lane.setSlot (x : Lane) (k : Nat) (r : SlotRec) : Lane := { x with slots := tabSet noSlot x.slots k r }

/-- The same change in both Loam copies: they run identically while locked, and reports and host writes reach both while
split (R241, R259). -/
def State.onCopies (s : State) (f : Copy → Copy) : State := { s with cp := f s.cp, cpB := s.cpB.map f }

/-! ## Copy B as a machine of its own (R259, R260) -/

/-- MOD and GRD addresses. -/
def inModGrd (a : Nat) : Bool := decide (0xE0000 ≤ a) && decide (a < 0x100000)

/-- The state as copy B sees it while split: its own copy, MOD and GRD words, and rank snapshot. -/
def viewB (s : State) (c : Copy) : State :=
  { s with
    cp := c, cpB := none, eng := { s.eng with rsnap := s.loam.rsnapB }
    reg := (s.reg.filter (fun e => decide (e.1 < 0xE0000))) ++ s.loam.fieldsB ++ s.reg.filter (fun e => decide (0x100000 ≤ e.1)) }

/-- What copy B keeps of a step it ran. -/
def keepB (s v : State) : State :=
  { s with cpB := some v.cp, loam := { s.loam with fieldsB := v.reg.filter (fun e => inModGrd e.1), rsnapB := v.eng.rsnap } }

/-- The same step in copy A and, on its own registers, in copy B while split (R259, R260). -/
def bothCopies (f : State → State) (s : State) : State :=
  match s.cpB with
  | some b => keepB (f s) (f (viewB s b))
  | none => f s

/-- Change arm `a` of the copy in `cp`. -/
def State.onArm (s : State) (a : Nat) (f : Arm → Arm) : State := { s with cp := s.cp.setArm a (f (s.cp.arm a)) }

/-- Change cell `i`'s record in the copy in `cp`. -/
def State.onGrade (s : State) (i : Nat) (f : Grade → Grade) : State := { s with cp := s.cp.setGrade i (f (s.cp.grade i)) }

/-- Behaviour level of the running image (R68). -/
def State.beh (s : State) : Nat := s.fld IMG.INFO_LVL.BEH_LEVEL

/-- Control period in ns that a TC code stands for (R46). -/
def tcNs (tc : Nat) : Nat := match tc with | 0 => 1000 | 1 => 2000 | 2 => 4000 | _ => 5000

/-- TC code in force. -/
def State.tc (s : State) : Nat := bitsAt s.period.cfg.toNat 0 2

/-- TOFFS unit in ns: 2 ns at Tc = 5 µs (R115). -/
def State.unitNs (s : State) : Nat := if s.tc = 3 then 2 else 1

def armOff (a : Nat) : Nat := 0x80 * a
def modOff (a : Nat) : Nat := 0x40 * a

/-! ## Keys (R147) -/

/-- Calibrated capacitor voltage: V_rep × VC_GAIN, rounded half away from zero to Q7.24, plus VC_OFFS, saturating (R72). -/
def vCal (cfg : CtCfg) (vrep : Nat) : Int :=
  satS 32 (roundHA ((vrep : Int) * signedOf 32 cfg.vcGain) (2 ^ 24) + signedOf 32 cfg.vcOffs)

/-- Wear term of a key; zero at behaviour level 1. -/
def wearTerm (s : State) (a wear : Nat) : Nat :=
  if s.beh = 1 then 0
  else min (s.fld (GRD.ARM_WEAR.CAP.at (armOff a)))
    (roundHA (((wear - s.fld (GRD.ARM_WBASE.BASE.at (armOff a))) * s.fld (GRD.ARM_WEAR.WEIGHT.at (armOff a)) : Nat) : Int) (2 ^ 16)).toNat

/-- The key of a cell. -/
def cellKey (s : State) (a wear : Nat) (vcal : Int) : Nat :=
  min 0xFFFFFF ((roundHA (max 0 vcal) 16).toNat + wearTerm s a wear)

/-! ## Exclusions (R151) -/

/-- The first exclusion condition that applies to a cell, by its code. -/
def exclusion (e : CtEntry) (g : Grade) : Option Nat :=
  if !g.present then some 0x43
  else if g.loader then some 0x53
  else if e.cfg.excl then some 0xC0
  else if g.perm then some 0x42
  else if g.stopLatched then some 0x45
  else if g.fault then some 0x44
  else if e.hub.stale then some 0x40
  else if g.unresp then some 0x49
  else if g.abandoned then some 0x52
  else if g.recharge.isSome then some 0x51
  else if e.hub.state = .dormant then some 0x41
  else if g.lowEnergy then some 0x46
  else if g.cad ≠ 0 then some 0x47
  else if g.vcal < 0 ∨ 2 ^ 25 ≤ g.vcal then some 0x48
  else none

/-- A refusal or release code of the link layer or of a commit, which stands until the cell is confirmed. -/
def isLinkReason (r : Nat) : Bool := (decide (1 ≤ r) && decide (r ≤ 0x3F)) || r == 0xC1

/-- REASON of an entry after its conditions changed. -/
def reasonAfter (e : CtEntry) (g : Grade) : Nat :=
  match exclusion e g with
  | some r => if r = 0x43 ∧ isLinkReason e.hub.reason then e.hub.reason else r
  | none => if g.refresh = .mustBypass then 0x50 else 0

/-- Bring a cell's place in the ranking in line with its conditions: a removal or an insertion passes through the arm's queue;
`report` re-inserts a ranked cell with its new key (R149, R151). -/
def settleCopy (e : CtEntry) (i : Nat) (report : Bool) (c : Copy) : Copy :=
  let g := c.grade i
  let a := e.cfg.arm
  let push := fun (op : RankOp) => c.setArm a { c.arm a with queue := (c.arm a).queue ++ [op] }
  match exclusion e g with
  | some _ => if g.ranked then (push (.remove i)).setGrade i { g with ranked := false } else c
  | none => if g.ranked && !report then c else (push (.insert i g.key g.vcal)).setGrade i { g with ranked := true }

/-- Settle a cell in the copy in `cp` and write its REASON. -/
def settleOne (i : Nat) (report : Bool) (s : State) : State :=
  let s1 := { s with cp := settleCopy (s.entry i) i report s.cp }
  s1.setHub i (fun h => { h with reason := reasonAfter (s.entry i) (s1.cp.grade i) })

/-- Settle a cell in both copies; copy A's gives the REASON. -/
def settle (i : Nat) (report : Bool) (s : State) : State := bothCopies (settleOne i report) s

/-! ## Rank arrays (R149) -/

/-- Ascending K, then ascending cell index. -/
def rankBefore (x y : Nat × Nat) : Bool := decide (x.1 < y.1) || (x.1 == y.1 && decide (x.2 < y.2))

def rankInsert (x : Nat × Nat) : List (Nat × Nat) → List (Nat × Nat)
  | [] => [x]
  | y :: t => if rankBefore x y then x :: y :: t else y :: rankInsert x t

def rankRemove (cell : Nat) (r : List (Nat × Nat)) : List (Nat × Nat) := r.filter (fun y => y.2 != cell)

def rankApply (r : List (Nat × Nat)) : RankOp → List (Nat × Nat)
  | .insert cell key _ => rankInsert (key, cell) (rankRemove cell r)
  | .remove cell => rankRemove cell r

/-- What an operation names as a cell's voltage in the array (R172). -/
def opVoltage (c : Copy) : RankOp → Copy
  | .insert cell _ v => c.setGrade cell { c.grade cell with vArr := v }
  | .remove _ => c

/-- The head entry of an arm's queue takes effect on its array. -/
def rankPop (a : Nat) (c : Copy) : Copy :=
  match (c.arm a).queue with
  | [] => c
  | op :: q => opVoltage (c.setArm a { c.arm a with rank := rankApply (c.arm a).rank op, queue := q }) op

/-- Least and greatest WEAR among the ranked cells; both hold while none is ranked (R148). -/
def wearMinMax (a : Nat) (s : State) : State :=
  match (s.cp.arm a).rank.map (fun x => (s.entry x.2).hub.wear) with
  | [] => s
  | w :: ws => (s.setFld (GRD.ARM_WMIN.WMIN.at (armOff a)) (ws.foldl min w)).setFld (GRD.ARM_WMAX.WMAX.at (armOff a)) (ws.foldl max w)

/-- One operation of arm `a` completes in the copy in `cp`. -/
def rankStep (a : Nat) (s : State) : State := wearMinMax a { s with cp := rankPop a s.cp }

/-- R149: one operation leaves the queue of arm `a` and completes. -/
def execRankQueueOp (a : Fin 6) (s : State) : Host.Outcome State Fault Refusal := .next (bothCopies (rankStep a.val) s)

/-- Does a queued operation name cell `i`? -/
def opOf (i : Nat) : RankOp → Bool
  | .insert c _ _ => c == i
  | .remove c => c == i

/-- Cell `i` leaves arm `a`'s array at once, as a commit that excludes, moves or releases it has it (R175). -/
def leaveArm (a i : Nat) (s : State) : State :=
  let s1 := s.onArm a (fun x => { x with rank := rankRemove i x.rank, queue := x.queue.filter (fun op => !opOf i op) })
  wearMinMax a (s1.onGrade i (fun g => { g with ranked := false }))

/-! ## Reports -/

/-- STATE code of a report or an entry (R70). -/
def stateOfCode (c : Nat) : CellState :=
  match c with | 1 => .blocked | 2 => .bypassed | 3 => .inserted | 4 => .dormant | 5 => .permBypass | _ => .absent

def codeOfState : CellState → Nat
  | .absent => 0 | .blocked => 1 | .bypassed => 2 | .inserted => 3 | .dormant => 4 | .permBypass => 5

/-- What a report says of the refresh (R154, R155); the flag says the refresh counter counts. -/
def refreshAfter (per : Nat) (due : Bool) (st : CellState) (cmd : CellState) (r : Refresh) : Refresh × Bool :=
  if due then
    if st = .bypassed ∧ cmd = .inserted ∧ r ≠ .mustBypass then (.mustBypass, true)
    else match r with
      | .none => (.pending (max 1 per + 1), false)
      | r => (r, false)
  else match r with
    | .pending _ => (.none, false)
    | .mustBypass => (if st = .bypassed then .none else .mustBypass, false)
    | .none => (.none, false)

/-- What a report accepted at `now` leaves of a pending command: nothing once its instant has passed and the report shows it (R153). -/
def pendAfter (now : Nat) (st : CellState) (neg : Bool) : Option PendCmd → Option PendCmd
  | none => none
  | some p => if p.at_ ≤ now ∧ p.state = st ∧ p.neg = neg then none else some p

/-- The grading record after an accepted report; `rep` is the report field, `now` the nominal hub time in 0.2 ns. -/
def gradeReport (s : State) (i rep now : Nat) (g : Grade) : Grade :=
  let e := s.entry i
  let a := e.cfg.arm
  let st := stateOfCode (bitsAt rep 28 3)
  let v := vCal e.cfg (bitsAt rep 0 28)
  let lowE := bitAt rep 65
  let cad := bitsAt rep 70 2
  let rechDone := decide (st ≠ .dormant) && !lowE && cad == 0
    && decide (((s.fld (GRD.ARM_RECH.TARGET.at (armOff a)) * 2 ^ 9 : Nat) : Int) ≤ v)
  { g with
    key := cellKey s a e.hub.wear v
    vcal := v
    stopLatched := bitAt rep 66
    fault := bitAt rep 67
    lowEnergy := lowE
    cad := cad
    perm := g.perm || decide (st = .permBypass)
    rechEnd := g.rechEnd || (g.recharge.isSome && rechDone)
    refreshDue := bitAt rep 64
    unresp := g.unresp && decide (st ≠ .bypassed)
    recharge := if rechDone then none else g.recharge
    refresh := (refreshAfter (s.fld (GRD.ARM_REFRESH.REFRESH_PER.at (armOff a))) (bitAt rep 64) st e.hub.cmdState g.refresh).1
    pend := pendAfter now st (bitAt rep 31) g.pend
    sinceRep := 0
    repAt := now }

/-- The copy in `cp` takes an accepted report whose fields the cell table already holds (R147, R148, R151 to R157). -/
def gradeOne (i rep now : Nat) (s : State) : State :=
  let e := s.entry i
  let a := e.cfg.arm
  let counts := (refreshAfter (s.fld (GRD.ARM_REFRESH.REFRESH_PER.at (armOff a))) (bitAt rep 64) (stateOfCode (bitsAt rep 28 3)) e.hub.cmdState (s.cp.grade i).refresh).2
  let s1 := settleOne i true (s.onGrade i (gradeReport s i rep now))
  wearMinMax a (if counts then s1.count (GRD.ARM_REFRESHES.COUNT.at (armOff a)) 1 else s1)

/-- Grading takes an accepted report; one that falls during a restore waits for the rebuild (R252). -/
def gradeAccept (i rep now : Nat) (s : State) : State :=
  let s1 := s.setHub i (fun h => { h with stale := false })
  if s1.loam.restoring then { s1 with loam := { s1.loam with heldReports := s1.loam.heldReports ++ [(i, rep, now)] } }
  else bothCopies (gradeOne i rep now) s1

/-- A cell leaves the ranking and the grading record with its release (R138, R151). -/
def gradeDrop (i reason : Nat) (s : State) : State :=
  let s1 := s.setHub i (fun h => { h with state := .absent, neg := false, cmdState := .absent, level := 0, stale := false, reason := reason })
  let s2 := s1.onCopies (fun c => c.setGrade i { ranked := (c.grade i).ranked, vArr := (c.grade i).vArr })
  settle i false { s2 with loam := { s2.loam with heldReports := s2.loam.heldReports.filter (fun x => x.1 != i) } }

/-- The countdown of a refresh-pending cell ends with REFRESH_DUE still set: the cell becomes must-bypass (R154). -/
def refreshEnd (i : Nat) (s : State) : State :=
  (settleOne i false (s.onGrade i (fun g => { g with refresh := .mustBypass }))).count
    (GRD.ARM_REFRESHES.COUNT.at (armOff (s.entry i).cfg.arm)) 1

/-- Periods a refresh countdown has still to run; none where none runs. -/
def refreshLeft (g : Grade) : Option Nat := match g.refresh with | .pending n => if g.refreshDue then some n else none | _ => none

/-- R154: the countdown of cell `i`, in its last period, ends. The boundary that ends that period does the same where this command has not
come before it. -/
def execRefreshCountdownEnd (cell : Fin 4096) (s : State) : Host.Outcome State Fault Refusal :=
  .next (bothCopies (fun s => match refreshLeft (s.cp.grade cell.val) with
    | some n => if n ≤ 1 then refreshEnd cell.val s else s
    | none => s) s)

/-- The recharge of a cell is abandoned (R157). -/
def rechargeEnd (i : Nat) (s : State) : State :=
  (settleOne i false (s.onGrade i (fun g => { g with recharge := none, abandoned := true, rechEnd := true }))).raise
    (GRD.ARM_EVT.RECH_FAIL.at (armOff (s.entry i).cfg.arm))

/-- Has a recharge lasted its limit once it has lasted `n` periods (R157)? -/
def rechargeOver (s : State) (i n : Nat) : Bool := decide (s.fld (GRD.ARM_RECH.MAX_PER.at (armOff (s.entry i).cfg.arm)) * 1024 ≤ n)

/-- R157: MAX_PER × 1,024 periods have passed with cell `i` in recharge, the last of them now running. The boundary that ends that period
does the same where this command has not come before it. -/
def execRechargeTimeout (cell : Fin 4096) (s : State) : Host.Outcome State Fault Refusal :=
  .next (bothCopies (fun s => match (s.cp.grade cell.val).recharge with
    | some n => if rechargeOver s cell.val (n + 1) then rechargeEnd cell.val s else s
    | none => s) s)

/-! ## Cycle-boundary checks (R152, R153, R170, R171) -/

/-- Cadence divisor of a CAD code (R126). -/
def cadDiv (cad : Nat) : Nat := match cad with | 1 => 8 | 2 => 64 | _ => 1

/-- One boundary of a cell's pending command, `prev` the boundary before it: judged at the second and each later boundary after its
instant, once a report has been accepted since (R153). -/
def judge (prev : Nat) (g : Grade) : Grade :=
  match g.pend with
  | none => g
  | some p => if p.at_ < prev ∧ p.at_ ≤ g.repAt then { g with pend := none, unresp := true } else g

/-- One cell at an upstream cycle boundary, in the copy in `cp`: its command is judged, but by copies in reset (R248), and its staleness
checked. -/
def cycleCell (prev i : Nat) (s : State) : State :=
  let g := s.cp.grade i
  if !g.present then s
  else
    let lim := max 2 (s.fld GRD.GCFG.STALE_CYC) * cadDiv g.cad
    let s1 := s.onGrade i (fun g =>
      (if s.loam.restoring then id else judge prev) { g with sinceRep := g.sinceRep + 1 })
    let g1 := s1.cp.grade i
    let s2 := if lim < g1.sinceRep then s1.setHub i (fun h => { h with stale := true }) else s1
    let s3 := if g1.unresp && !g.unresp then s2.raise (GRD.ARM_EVT.UNRESP.at (armOff (s.entry i).cfg.arm)) else s2
    settleOne i false s3

/-- Used entries of the live cell table, as (index, entry). -/
def usedEntries (s : State) : List (Nat × CtEntry) := s.ct.live.filter (fun e => e.2.cfg.uid != 0)

/-- Confirmed state of an entry as the accounting sees it: joining cells count as absent. -/
def confState (s : State) (i : Nat) (e : CtEntry) : CellState := if (s.cp.grade i).present then e.hub.state else .absent

/-- Commanded state of an entry as R171 counts it at `now`: a command is pending from its switching instant, to the second boundary
after it; `prev` is the boundary before this one. -/
def cmdCounted (s : State) (prev now i : Nat) (e : CtEntry) : CellState :=
  let g := s.cp.grade i
  match g.pend with
  | some p => if g.ranked && decide (p.at_ ≤ now) && decide (prev ≤ p.at_) then p.state else confState s i e
  | none => confState s i e

/-- How many of an arm's used entries satisfy `p`. -/
def countArm (s : State) (a : Nat) (p : Nat → CtEntry → Bool) : Nat :=
  ((usedEntries s).filter (fun x => x.2.cfg.arm == a && p x.1 x.2)).length

/-- The counts of one arm at `now`, and their checks (R170, R171). -/
def armCounts (prev now a : Nat) (s : State) : State :=
  let conf := fun st => countArm s a (fun i e => confState s i e == st)
  let cmd := fun st => countArm s a (fun i e => cmdCounted s prev now i e == st)
  let o := armOff a
  let s1 := (s.setFld (GRD.ARM_CONF0.INSERTED.at o) (conf .inserted)).setFld (GRD.ARM_CONF0.BYPASSED.at o) (conf .bypassed)
  let s2 := (s1.setFld (GRD.ARM_CONF1.BLOCKED.at o) (conf .blocked)).setFld (GRD.ARM_CONF1.DORMANT.at o) (conf .dormant)
  let s3 := (s2.setFld (GRD.ARM_CONF2.PERM.at o) (conf .permBypass)).setFld (GRD.ARM_CONF2.ABSENT.at o) (conf .absent)
  let s4 := (s3.setFld (GRD.ARM_CMD0.INSERTED.at o) (cmd .inserted)).setFld (GRD.ARM_CMD0.BYPASSED.at o) (cmd .bypassed)
  let s5 := (s4.setFld (GRD.ARM_CMD1.BLOCKED.at o) (cmd .blocked)).setFld (GRD.ARM_CMD1.RECHARGING.at o)
    (countArm s a (fun i _ => (s.cp.grade i).recharge.isSome))
  let total := conf .inserted + conf .bypassed + conf .blocked + conf .dormant + conf .permBypass + conf .absent
  let ok := total == (s.img.arms.getD a {}).configured
    && cmd .inserted + cmd .bypassed + cmd .blocked == conf .inserted + conf .bypassed + conf .blocked
  if ok then s5 else s5.raise (GRD.ARM_EVT.BOOKS.at o)

/-- Every grading check of an upstream cycle boundary at nominal time `now`, the boundary before it at `prev` (0.2 ns), in each copy on
its own registers (R259). -/
def gradeCycle (prev now : Nat) (s : State) : State :=
  bothCopies (fun s => (upto 6).foldl (fun s a => armCounts prev now a s) ((usedEntries s).foldl (fun s x => cycleCell prev x.1 s) s)) s

end Sys2Proof.Machine
end

