-- ==== Sys2Proof/Machine/Tiles.lean ====
section
/-!
DEFINITION. The tile library (R180 to R195): one sample of one tile, as a function of its inputs, its active parameter words and
its state. Words are signed 32-bit values, accumulators signed 64-bit values; the TSAT bits a sample sets stand in `now`.
-/
namespace Sys2Proof.Machine

/-! ## Words -/

/-- A parameter word as a signed value. -/
def s32 (w : Nat) : Int := signedOf 32 w

/-- A truth value as a logical word (R180). -/
def logical (b : Bool) : Int := if b then 2 ^ 24 else 0

/-- R181: drop `n` bits, rounding half away from zero. -/
def rnd (n : Nat) (a : Int) : Int := roundHA a (2 ^ n)

/-- R182: a value saturated to `w` bits, and `2^k` when it saturated. -/
def sat (w k : Nat) (a : Int) : Int × Nat := (satS w a, if satS w a = a then 0 else 2 ^ k)

/-- Input `k` of a tile. -/
def inp (x : List Int) (k : Nat) : Int := x.getD k 0

/-- TSAT bit numbers. -/
def accBit : Nat := 4
def inSatBit : Nat := 8
def limInvBit : Nat := 9

/-! ## Sine, cosine, square root and arctangent (R192)

The internal sine and cosine are accurate to ±1 LSB of Q1.30 and no further (by design); which of the values within the bound the
part gives is a free value, the same for the same angle in both copies. -/

/-- π/2 × 2^128. -/
def halfPi : Nat := 534514292032483373929840186580935391650

/-- Sum of the Taylor terms from `term` on, for x² = `xx`, everything × 2^128; `k` is the last factorial reached. -/
def taylor (xx : Nat) : Nat → Nat → Nat → Bool → Int → Int
  | 0, _, _, _, acc => acc
  | fuel + 1, k, term, neg, acc =>
    taylor xx fuel (k + 2) (term * xx / 2 ^ 128 / ((k + 1) * (k + 2))) (!neg) (if neg then acc - (term : Int) else acc + (term : Int))

/-- sin and cos of f/2^30 quarter turns, × 2^128. -/
def quarter (f : Nat) : Int × Int :=
  let x := halfPi * f / 2 ^ 30
  let xx := x * x / 2 ^ 128
  (taylor xx 24 1 x false 0, taylor xx 24 0 (2 ^ 128) false 0)

/-- sin 2πθ × 2^128 for θ in 2^−32 turn. -/
def sinExact (theta : Nat) : Int :=
  let f := theta % 2 ^ 30
  match theta / 2 ^ 30 % 4 with
  | 0 => (quarter f).1
  | 1 => (quarter f).2
  | 2 => -(quarter f).1
  | _ => -(quarter f).2

/-- The Q1.30 value within 1 LSB of the true one that the part gives: an exact value admits three, any other two. -/
def trigQ30 (site theta : Nat) (v : Int) : Int :=
  if theta % 2 ^ 30 = 0 then rnd 98 v + clampI (-1) 1 (Config.freeOf site [theta])
  else v / 2 ^ 98 + clampI 0 1 (Config.freeOf site [theta])

/-- Internal sine and cosine of an angle word. -/
def sinQ30 (theta : Nat) : Int := trigQ30 107 (theta % 2 ^ 32) (sinExact (theta % 2 ^ 32))
def cosQ30 (theta : Nat) : Int := trigQ30 108 (theta % 2 ^ 32) (sinExact ((theta + 2 ^ 30) % 2 ^ 32))

/-- Bits of the integer square root, from bit `k − 1` down. -/
def isqrtFrom : Nat → Nat → Nat → Nat
  | 0, _, r => r
  | k + 1, n, r => let t := r + 2 ^ k; if t * t ≤ n then isqrtFrom k n t else isqrtFrom k n r

/-- The integer square root of a number below 2^(2·k). -/
def isqrt (k n : Nat) : Nat := isqrtFrom k n 0

/-- √3 × b × 2^64, to the nearest lower magnitude. -/
def sqrt3 (b : Int) : Int :=
  let r : Int := isqrt 100 (3 * b.natAbs ^ 2 * 2 ^ 128)
  if b < 0 then -r else r

/-- One doubling of the angle of (x, y), kept to about 160 bits. -/
def squareZ (x y : Int) : Int × Int :=
  let re := x * x - y * y
  let im := 2 * x * y
  let k := (max re.natAbs im.natAbs).log2 - 160
  (re / 2 ^ k, im / 2 ^ k)

/-- The first `fuel` bits of the angle of (x, y) in turns. -/
def turnBits : Nat → Int → Int → Nat → Nat
  | 0, _, _, a => a
  | fuel + 1, x, y, a =>
    turnBits fuel (squareZ x y).1 (squareZ x y).2 (2 * a + (if y < 0 ∨ (y = 0 ∧ x < 0) then 1 else 0))

/-- Magnitude and angle of the CORDIC tile within their bounds: ±2 LSB, and ±2^−28 turn from 2^−12 pu up; below it the angle
is open (log 17). -/
def cordicPolar (x y : Int) : Int × Int :=
  let n := x.natAbs ^ 2 + y.natAbs ^ 2
  let m := isqrt 33 n
  let mag : Int := m + clampI (if m * m = n then -2 else -1) 2 (Config.freeOf 109 [x, y])
  let ang : Int :=
    if n = 0 then 0
    else if n < 2 ^ 24 then Config.freeOf 110 [x, y]
    else (turnBits 32 x y 0 : Int) + clampI (-15) 16 (Config.freeOf 110 [x, y])
  (if n = 0 then max 0 mag else mag, signedOf 32 (unsignedOf 32 ang))

/-! ## Limits (R188) -/

/-- Upper and lower limit of a limiter or PI, and 2^LIM_INV when the upper one lies below the lower. -/
def limits (conn : List Bool) (x : List Int) (up lo : Int) : Int × Int × Nat :=
  let h := if conn.getD 1 false then inp x 1 else up
  let l := if conn.getD 2 false then inp x 2 else lo
  if h < l then (l, l, 2 ^ limInvBit) else (h, l, 0)

/-- Status word: bit 0 above the upper limit, bit 1 below the lower. -/
def limStatus (v hi lo : Int) : Int := (if hi < v then 1 else 0) + (if v < lo then 2 else 0)

/-! ## The tiles

Each takes `p` (the active parameter words), which inputs are connected, the input words, and the state before the sample. -/

/-- R188, add. -/
def tileAdd (p : Nat → Nat) (x : List Int) (st : TileSt) : TileSt :=
  let sum := inp x 0 + inp x 1 + inp x 2 + inp x 3
  if bitAt (p 0) 0 then { st with y := [signedOf 32 (unsignedOf 32 sum)], now := 0 }
  else { st with y := [(sat 32 0 sum).1], now := (sat 32 0 sum).2 }

/-- R188, multiply-accumulate: the product is rounded, the addend added, and the result saturated once. -/
def tileMac (p : Nat → Nat) (x : List Int) (st : TileSt) : TileSt :=
  let v := rnd 24 (inp x 0 * inp x 1 + s32 (p 1) * inp x 2) + inp x 3
  { st with y := [(sat 32 0 v).1], now := (sat 32 0 v).2 }

/-- R189, PI. -/
def tilePi (p : Nat → Nat) (conn : List Bool) (x : List Int) (st : TileSt) : TileSt :=
  let lim := limits conn x (s32 (p 4)) (s32 (p 5))
  let hi := lim.1
  let lo := lim.2.1
  let e := inp x 0
  let v := sat 32 1 (rnd 24 (s32 (p 1) * e + st.acc))
  let u := min (max v.1 lo) hi
  let d := s32 (p 2) * e
  let frozen := bitAt (p 0) 0 && ((decide (hi < v.1) && decide (0 < d)) || (decide (v.1 < lo) && decide (d < 0)))
  let w := if conn.getD 3 false then inp x 3 else u
  let b := if bitAt (p 0) 1 then s32 (p 3) * (w - v.1) else 0
  let i := sat 64 accBit (st.acc + (if frozen then 0 else d) + b)
  let acc := if bitAt (p 0) 2 then clampI (lo * 2 ^ 24) (hi * 2 ^ 24) i.1 else i.1
  let y2 := sat 32 2 (rnd 24 acc)
  { st with
    y := [u, v.1, y2.1, limStatus v.1 hi lo + (if frozen then 4 else 0)]
    acc := acc
    now := lim.2.2 + v.2 + i.2 + y2.2 }

/-- R190, biquad. -/
def tileBiquad (p : Nat → Nat) (x : List Int) (st : TileSt) : TileSt :=
  let x1 := st.bq.getD 0 0
  let x2 := st.bq.getD 1 0
  let y1 := st.bq.getD 2 0
  let y2 := st.bq.getD 3 0
  let a := sat 64 accBit (s32 (p 1) * inp x 0 + s32 (p 2) * x1 + s32 (p 3) * x2 - s32 (p 4) * y1 - s32 (p 5) * y2 + st.bq.getD 4 0)
  let y := sat 32 0 (rnd 28 a.1)
  let eps := if bitAt (p 0) 0 && y.2 == 0 then a.1 - y.1 * 2 ^ 28 else 0
  { st with y := [y.1], bq := [inp x 0, x1, y.1, y1, eps], now := a.2 + y.2 }

/-- R188, limiter. -/
def tileLimiter (p : Nat → Nat) (conn : List Bool) (x : List Int) (st : TileSt) : TileSt :=
  let lim := limits conn x (s32 (p 1)) (s32 (p 2))
  { st with y := [min (max (inp x 0) lim.2.1) lim.1, limStatus (inp x 0) lim.1 lim.2.1], now := lim.2.2 }

/-- R191, rate limiter. -/
def tileRate (p : Nat → Nat) (x : List Int) (st : TileSt) : TileSt :=
  if inp x 2 ≠ 0 then { st with y := [inp x 1, 0], prev := inp x 1, now := 0 }
  else
    let rise := s32 (p 1)
    let fall := s32 (p 2)
    let d := inp x 0 - st.prev
    let y := sat 32 0 (st.prev + min (max d (-fall)) rise)
    { st with y := [y.1, (if rise < d then 1 else 0) + (if d < -fall then 2 else 0)], prev := y.1, now := y.2 }

/-- R192, CORDIC. An unconnected amplitude has been read as 1.0. -/
def tileCordic (p : Nat → Nat) (x : List Int) (st : TileSt) : TileSt :=
  if bitAt (p 0) 0 then
    let r := cordicPolar (inp x 0) (inp x 1)
    { st with y := [(sat 32 0 r.1).1, r.2], now := (sat 32 0 r.1).2 }
  else
    let t := unsignedOf 32 (inp x 0)
    let c := sat 32 0 (rnd 30 (inp x 1 * cosQ30 t))
    let s := sat 32 1 (rnd 30 (inp x 1 * sinQ30 t))
    { st with y := [c.1, s.1], now := c.2 + s.2 }

/-- Three outputs, saturated. -/
def out3 (st : TileSt) (a b c : Int) : TileSt :=
  { st with y := [(sat 32 0 a).1, (sat 32 1 b).1, (sat 32 2 c).1], now := (sat 32 0 a).2 + (sat 32 1 b).2 + (sat 32 2 c).2 }

/-- R192, Clarke; each exact result is rounded once (log 18). -/
def tileClarke (p : Nat → Nat) (x : List Int) (st : TileSt) : TileSt :=
  let a := inp x 0
  let b := inp x 1
  let c := if bitAt (p 0) 0 then -a - b else inp x 2
  out3 st (roundHA (2 * a - b - c) 3) (roundHA (sqrt3 (b - c)) (3 * 2 ^ 64)) (roundHA (a + b + c) 3)

/-- R192, inverse Clarke. -/
def tileInvClarke (x : List Int) (st : TileSt) : TileSt :=
  let a := inp x 0
  let g := inp x 2
  let r := sqrt3 (inp x 1)
  out3 st (a + g) (roundHA ((2 * g - a) * 2 ^ 64 + r) (2 ^ 65)) (roundHA ((2 * g - a) * 2 ^ 64 - r) (2 ^ 65))

/-- R192, Park. -/
def tilePark (x : List Int) (st : TileSt) : TileSt :=
  let t := unsignedOf 32 (inp x 2)
  let c := cosQ30 t
  let s := sinQ30 t
  let d := sat 32 0 (rnd 30 (inp x 0 * c + inp x 1 * s))
  let q := sat 32 1 (rnd 30 (inp x 1 * c - inp x 0 * s))
  { st with y := [d.1, q.1, rnd 6 c, rnd 6 s], now := d.2 + q.2 }

/-- R192, inverse Park. -/
def tileInvPark (x : List Int) (st : TileSt) : TileSt :=
  let t := unsignedOf 32 (inp x 2)
  let c := cosQ30 t
  let s := sinQ30 t
  let a := sat 32 0 (rnd 30 (inp x 0 * c - inp x 1 * s))
  let b := sat 32 1 (rnd 30 (inp x 0 * s + inp x 1 * c))
  { st with y := [a.1, b.1], now := a.2 + b.2 }

/-- R193, sequence separator: outputs from the exact rotations less the cross terms of the previous sample's filtered outputs;
then the four filters move by LPF_K of their distance, kept to 2^−48 (log 19). -/
def tileSep (p : Nat → Nat) (x : List Int) (st : TileSt) : TileSt :=
  let t := unsignedOf 32 (inp x 2)
  let c := cosQ30 t
  let s := sinQ30 t
  let c2 := cosQ30 (2 * t)
  let s2 := sinQ30 (2 * t)
  let al := inp x 0
  let be := inp x 1
  let f := fun k => st.sep.getD k 0
  let up := fun (v : Int) => v * 2 ^ 24
  let dp := sat 32 0 (rnd 54 (up (al * c + be * s) - (f 2 * c2 + f 3 * s2)))
  let qp := sat 32 1 (rnd 54 (up (be * c - al * s) - (f 3 * c2 - f 2 * s2)))
  let dn := sat 32 2 (rnd 54 (up (al * c - be * s) - (f 0 * c2 - f 1 * s2)))
  let qn := sat 32 3 (rnd 54 (up (al * s + be * c) - (f 1 * c2 + f 0 * s2)))
  let step := fun k (v : Int) => sat 64 (accBit + k) (f k + rnd 32 ((p 1 : Int) * (v * 2 ^ 24 - f k)))
  let n0 := step 0 dp.1
  let n1 := step 1 qp.1
  let n2 := step 2 dn.1
  let n3 := step 3 qn.1
  { st with
    y := [dp.1, qp.1, dn.1, qn.1]
    sep := [n0.1, n1.1, n2.1, n3.1]
    now := dp.2 + qp.2 + dn.2 + qn.2 + n0.2 + n1.2 + n2.2 + n3.2 }

/-- R194, lookup. -/
def tileLookup (p : Nat → Nat) (x : List Int) (st : TileSt) : TileSt :=
  let y := fun (i : Nat) => s32 (p (3 + i))
  if bitAt (p 0) 0 then
    let t := unsignedOf 32 (inp x 0)
    let i := t / 2 ^ 24
    let g : Int := (t % 2 ^ 24 : Nat)
    let v := sat 32 0 (y i + rnd 24 ((y ((i + 1) % 256) - y i) * g))
    { st with y := [v.1, 0], now := v.2 }
  else
    let sh := p 2
    let t := inp x 0 - s32 (p 1)
    if t < 0 then { st with y := [y 0, 1], now := 0 }
    else if 255 * 2 ^ sh ≤ t then { st with y := [y 255, 2], now := 0 }
    else
      let i := (t / 2 ^ sh).toNat
      let g : Int := t % 2 ^ sh
      let v := sat 32 0 (y i + rnd sh ((y (i + 1) - y i) * g))
      { st with y := [v.1, 0], now := v.2 }

/-- Median of three words. -/
def median (a b c : Int) : Int := max (min a b) (min (max a b) c)

/-- R188, select and switch. -/
def tileSelect (p : Nat → Nat) (conn : List Bool) (x : List Int) (st : TileSt) : TileSt :=
  let cs := ((upto 3).filter (fun k => conn.getD k false)).map (inp x)
  let v : Int :=
    if bitAt (p 0) 2 then inp x (bitsAt (p 0) 3 2)
    else match bitsAt (p 0) 0 2 with
      | 0 => if inp x 3 ≠ 0 then inp x 1 else inp x 0
      | 1 => match cs with | [] => 0 | c :: t => t.foldl min c
      | 2 => match cs with | [] => 0 | c :: t => t.foldl max c
      | _ => median (inp x 0) (inp x 1) (inp x 2)
  { st with y := [v], now := 0 }

/-- R188, delay: the output of the sample is the input of N samples before. -/
def delayOut (n : Nat) (st : TileSt) : TileSt := { st with y := [st.line.getD (n - 1) 0] }

/-- The delay line takes the sample's input. -/
def delayIn (x : List Int) (st : TileSt) : TileSt := { st with line := (inp x 0 :: st.line).take 64, now := 0 }

/-- R191, integrator; clamps with UPPER below LOWER leave an open value (log 20). -/
def tileIntegrator (p : Nat → Nat) (x : List Int) (st : TileSt) : TileSt :=
  if bitAt (p 0) 0 then
    let a : Int := if inp x 2 ≠ 0 then inp x 1 * 2 ^ 32 else st.acc + inp x 0 * (p 1 : Int)
    let w := unsignedOf 64 a
    { st with y := [signedOf 32 (w / 2 ^ 32), 0], acc := signedOf 64 w, now := 0 }
  else
    let a := sat 64 accBit (if inp x 2 ≠ 0 then inp x 1 * 2 ^ 24 else st.acc + inp x 0 * s32 (p 1))
    let hi := s32 (p 2) * 2 ^ 24
    let lo := s32 (p 3) * 2 ^ 24
    let cl := bitAt (p 0) 1
    let acc := if !cl then a.1 else if hi < lo then satS 64 (Config.freeOf 111 [a.1, hi, lo]) else clampI lo hi a.1
    let y := sat 32 0 (rnd 24 acc)
    { st with y := [y.1, if cl && decide (acc ≠ a.1) then 1 else 0], acc := acc, now := a.2 + y.2 }

/-- The instantaneous state of R195: `was` before the sample. -/
def compareInst (mode : Nat) (x th hys : Int) (was : Bool) : Bool :=
  let a : Int := x.natAbs
  match mode with
  | 0 => if was then !decide (x < th - hys) else decide (th < x)
  | 1 => if was then !decide (th + hys < x) else decide (x < th)
  | 2 => if was then !decide (a < th - hys) else decide (th < a)
  | _ => false

/-- R195, compare-and-latch. -/
def tileCompare (p : Nat → Nat) (conn : List Bool) (x : List Int) (st : TileSt) : TileSt :=
  let th := if bitAt (p 0) 3 || !(conn.getD 1 false) then s32 (p 1) else inp x 1
  let clr := decide (inp x 2 ≠ 0)
  let i := compareInst (bitsAt (p 0) 0 2) (inp x 0) th (s32 (p 2)) st.inst
  let cnt := if i then min 255 ((if clr then 0 else st.cnt) + 1) else 0
  let latch := (st.latch && !clr) || decide (max 1 (p 3) ≤ cnt)
  { st with y := [logical latch, logical i], latch := latch, inst := i, cnt := cnt, now := 0 }

/-- One sample of a tile that is not a delay tile; TSAT keeps what it sets. -/
def tileSample (type : Nat) (p : Nat → Nat) (conn : List Bool) (x : List Int) (inSat : Bool) (st : TileSt) : TileSt :=
  let r := match type with
    | 0x01 => tileAdd p x st
    | 0x02 => tileMac p x st
    | 0x03 => tilePi p conn x st
    | 0x04 => tileBiquad p x st
    | 0x05 => tileLimiter p conn x st
    | 0x06 => tileRate p x st
    | 0x07 => tileCordic p x st
    | 0x08 => tileClarke p x st
    | 0x09 => tileInvClarke x st
    | 0x0A => tilePark x st
    | 0x0B => tileInvPark x st
    | 0x0C => tileSep p x st
    | 0x0D => tileLookup p x st
    | 0x0E => tileSelect p conn x st
    | 0x0F => delayIn x st
    | 0x10 => tileIntegrator p x st
    | _ => tileCompare p conn x st
  let now := r.now + (if inSat then 2 ^ inSatBit else 0)
  { r with x := x, now := now, tsat := st.tsat ||| now }

/-- Cycle count of a tile type (R187). -/
def tileCycles (type : Nat) : Nat := [0, 1, 2, 3, 4, 1, 2, 6, 2, 2, 4, 4, 6, 3, 1, 1, 2, 2].getD type 0

/-- Number of parameter words of a tile type (R187). -/
def tileParams (type : Nat) : Nat := [0, 1, 2, 6, 6, 3, 3, 1, 1, 1, 1, 1, 2, 259, 1, 2, 4, 4].getD type 0

/-- Reserved CFG bits of a tile type: what its CFG word must not set (R187). -/
def tileCfgBits (type : Nat) : Nat := [0, 1, 0, 7, 1, 0, 0, 1, 1, 0, 0, 0, 0, 1, 0x1F, 0, 3, 0xF].getD type 0

/-- R196: may parameter word `k` of a tile of this type hold `w`? -/
def paramOk (type k w : Nat) : Bool :=
  if k = 0 then
    (w &&& (maskBits 32 ^^^ tileCfgBits type)) == 0 && !(type == 0x0E && bitsAt w 3 2 == 3)
  else if type = 0x0F ∧ k = 1 then decide (1 ≤ w) && decide (w ≤ 64)
  else if type = 0x0D ∧ k = 2 then decide (w ≤ 24)
  else if type = 0x06 then decide (w < 2 ^ 31)
  else true

/-- R200: the state a tile loads with its bank when SLOAD is set; `pre` is the 64-bit TPRESET. -/
def tileLoad (type pre : Nat) (st : TileSt) : TileSt :=
  match type with
  | 0x03 | 0x10 => { st with acc := signedOf 64 pre }
  | 0x06 => { st with prev := signedOf 32 pre }
  | 0x0F => { st with line := List.replicate 64 (signedOf 32 pre) }
  | 0x04 => { st with bq := [] }
  | 0x0C => { st with sep := [] }
  | 0x11 => { st with latch := false, cnt := 0, inst := false }
  | _ => st

end Sys2Proof.Machine
end

