-- ==== Sys2Proof/Machine/Macros.lean ====
section
/-!
DEFINITION. The control-function macros of chapter 07 as data: tile types, fixed settings and wiring (R210 to R235), their status,
event and value sources (R238), and the check of a graph against them (R59, R211).
-/
namespace Sys2Proof.Machine

/-- What a macro demands of one tile input (R211). -/
inductive MIn where
  | open_
  | ext (neg : Bool)
  | opt
  | tile (k j : Nat) (neg : Bool)
  deriving DecidableEq, Repr

/-- One tile of a macro: type, CFG bits fixed (mask and value), other parameter words fixed, inputs. -/
structure MTile where
  type : Nat
  mask : Nat := 0
  val : Nat := 0
  par : List (Nat × Nat) := []
  ins : List MIn := []
  inner : Bool := true
  deriving DecidableEq, Repr

/-- A macro: its tiles, and pairs of inputs that must name one source. -/
structure MacroDef where
  tiles : List MTile
  same : List ((Nat × Nat) × (Nat × Nat)) := []
  deriving DecidableEq, Repr

def mE : MIn := .ext false
def mN : MIn := .ext true
def mO : MIn := .opt
def mX : MIn := .open_
def mT (k j : Nat) : MIn := .tile k j false
def mTN (k j : Nat) : MIn := .tile k j true

/-- An add tile with WRAP fixed. -/
def mAdd (wrap : Nat) (ins : List MIn) : MTile := { type := 0x01, mask := 1, val := wrap, ins := ins }
def mMac (ins : List MIn) : MTile := { type := 0x02, ins := ins }
def mPi (ins : List MIn) : MTile := { type := 0x03, mask := 1, val := 1, ins := ins }
def mLim (ins : List MIn) : MTile := { type := 0x05, ins := ins }
def mRate (ins : List MIn) : MTile := { type := 0x06, ins := ins }
def mClarke (ins : List MIn) : MTile := { type := 0x08, mask := 1, val := 0, ins := ins }
def mInvClarke (ins : List MIn) : MTile := { type := 0x09, ins := ins }
def mSep (ins : List MIn) : MTile := { type := 0x0C, ins := ins }
def mLookup (ins : List MIn) : MTile := { type := 0x0D, mask := 1, val := 0, ins := ins }
def mSel (mode : Nat) (ins : List MIn) : MTile := { type := 0x0E, mask := 3, val := mode, ins := ins }
def mDelay1 (ins : List MIn) : MTile := { type := 0x0F, par := [(1, 1)], ins := ins }
def mDelay (ins : List MIn) : MTile := { type := 0x0F, ins := ins }
def mCmp (mode : Nat) (par : List (Nat × Nat)) (ins : List MIn) : MTile :=
  { type := 0x11, mask := 3, val := mode, par := par, ins := ins }

/-- The tile takes the outer rate. -/
def MTile.outer (t : MTile) : MTile := { t with inner := false }

/-- Grid synchroniser. -/
def macroGridSync : MacroDef where
  tiles := [
    mClarke [mE, mE, mE, mX],
    mSep [mT 0 0, mT 0 1, mT 5 0, mX],
    { mPi [mT 1 1, mX, mX, mX] with mask := 3 },
    mAdd 0 [mT 2 0, mE, mX, mX],
    { type := 0x10, mask := 1, val := 1, ins := [mT 3 0, mO, mO, mX] },
    mDelay1 [mT 4 0, mX, mX, mX],
    mCmp 2 [] [mT 1 1, mX, mX, mX]]

/-- dq current controller. -/
def macroCurrent : MacroDef where
  tiles := [
    { type := 0x08, ins := [mE, mE, mO, mX] },
    { type := 0x0A, ins := [mT 0 0, mT 0 1, mE, mX] },
    mAdd 0 [mE, mTN 1 0, mX, mX],
    mAdd 0 [mE, mTN 1 1, mX, mX],
    mPi [mT 2 0, mO, mO, mX],
    mPi [mT 3 0, mO, mO, mX],
    mMac [mT 1 1, mE, mX, mX],
    mMac [mT 1 0, mE, mX, mX],
    mMac [mE, mX, mT 6 0, mT 4 0],
    mMac [mE, mX, mT 7 0, mT 5 0],
    mSel 0 [mT 8 0, mO, mX, mO],
    mSel 0 [mT 9 0, mO, mX, mO],
    mAdd 1 [mE, mE, mX, mX],
    { type := 0x0B, ins := [mT 10 0, mT 11 0, mT 12 0, mX] },
    mInvClarke [mT 13 0, mT 13 1, mO, mX]]
  same := [((12, 0), (1, 2)), ((11, 3), (10, 3))]

/-- Circulating-current suppressor. -/
def macroCirc : MacroDef where
  tiles := [
    mAdd 0 [mE, mE, mX, mX], mAdd 0 [mE, mE, mX, mX], mAdd 0 [mE, mE, mX, mX],
    mClarke [mT 0 0, mT 1 0, mT 2 0, mX],
    mAdd 1 [mE, mE, mX, mX],
    mSep [mT 3 0, mT 3 1, mT 4 0, mX],
    mPi [mTN 5 2, mX, mX, mX],
    mPi [mTN 5 3, mX, mX, mX],
    { type := 0x0B, ins := [mT 6 0, mTN 7 0, mT 4 0, mX] },
    mInvClarke [mT 8 0, mTN 8 1, mX, mX]]
  same := [((4, 1), (4, 0))]

/-- Arm energy balancer. -/
def macroBalance : MacroDef where
  tiles := [
    mAdd 0 [mE, mE, mX, mX], mAdd 0 [mE, mE, mX, mX], mAdd 0 [mE, mE, mX, mX],
    mAdd 0 [mE, mN, mX, mX], mAdd 0 [mE, mN, mX, mX], mAdd 0 [mE, mN, mX, mX],
    mAdd 0 [mTN 0 0, mTN 1 0, mTN 2 0, mE],
    mPi [mT 6 0, mO, mO, mX],
    mClarke [mT 0 0, mT 1 0, mT 2 0, mX],
    mPi [mTN 8 0, mX, mX, mX],
    mPi [mTN 8 1, mX, mX, mX],
    mInvClarke [mT 9 0, mT 10 0, mX, mX],
    mPi [mTN 3 0, mX, mX, mX],
    mPi [mTN 4 0, mX, mX, mX],
    mPi [mTN 5 0, mX, mX, mX],
    mMac [mT 12 0, mE, mX, mX],
    mMac [mT 13 0, mE, mX, mX],
    mMac [mT 14 0, mE, mX, mX]].map MTile.outer

/-- DC voltage controller. -/
def macroDcVolt : MacroDef where
  tiles := [
    mRate [mE, mO, mO, mX],
    mMac [mE, mX, mO, mTN 0 0],
    mPi [mT 1 0, mO, mO, mO]].map MTile.outer

/-- Power controller. -/
def macroPower : MacroDef where
  tiles := [
    mMac [mE, mE, mX, mX],
    mMac [mE, mE, mX, mX],
    mMac [mE, mE, mX, mT 0 0],
    mMac [mE, mN, mX, mT 1 0],
    mRate [mE, mO, mO, mX],
    mRate [mE, mO, mO, mX],
    mAdd 0 [mT 4 0, mTN 2 0, mX, mX],
    mAdd 0 [mT 5 0, mTN 3 0, mX, mX],
    mPi [mT 6 0, mO, mO, mO],
    mPi [mTN 7 0, mO, mO, mO]].map MTile.outer

/-- Grid-forming source. -/
def macroGridForm : MacroDef where
  tiles := [
    (mDelay1 [mT 3 0, mX, mX, mX]).outer,
    (mAdd 0 [mT 0 0, mN, mX, mX]).outer,
    (mMac [mE, mX, mT 1 0, mN]).outer,
    { type := 0x10, mask := 3, val := 2, ins := [mT 2 0, mE, mE, mX], inner := false },
    { type := 0x10, mask := 1, val := 1, ins := [mT 3 0, mE, mE, mX] },
    (mMac [mE, mX, mE, mN]).outer,
    (mPi [mT 5 0, mO, mO, mO]).outer]
  same := [((4, 2), (3, 2))]

/-- Fault ride-through allocator. -/
def macroRide : MacroDef where
  tiles := [
    mLookup [mE, mX, mX, mX],
    mCmp 1 [] [mE, mX, mO, mX],
    mSel 0 [mE, mT 0 0, mX, mT 1 1],
    mLim [mT 2 0, mX, mX, mX],
    mSel 2 [mT 3 0, mTN 3 0, mX, mX],
    mLookup [mT 4 0, mX, mX, mX],
    mLim [mE, mT 5 0, mTN 5 0, mX],
    mAdd 0 [mE, mN, mX, mX],
    mMac [mX, mX, mT 7 0, mX],
    { mLim [mT 8 0, mX, mX, mX] with par := [(1, 0x01000000), (2, 0)] }]
  same := [((1, 0), (0, 0))]

/-- Islanding detector. -/
def macroIsland : MacroDef where
  tiles := [
    (mDelay [mE, mX, mX, mX]).outer,
    (mAdd 0 [mE, mTN 0 0, mX, mX]).outer,
    (mAdd 0 [mE, mN, mX, mX]).outer,
    (mAdd 0 [mE, mN, mX, mX]).outer,
    (mCmp 2 [] [mT 1 0, mX, mX, mX]).outer,
    (mCmp 2 [] [mT 2 0, mX, mX, mX]).outer,
    (mCmp 2 [] [mT 3 0, mX, mX, mX]).outer,
    (mSel 2 [mT 4 1, mT 5 1, mT 6 1, mX]).outer,
    { mCmp 0 [(1, 0x00800000), (2, 0)] [mT 7 0, mX, mO, mX] with mask := 0xB, val := 8, inner := false },
    mSel 0 [mE, mE, mX, mT 8 0],
    mSel 0 [mE, mE, mX, mT 8 0]]
  same := [((1, 0), (0, 0)), ((2, 0), (0, 0))]

/-- DC-side power-point tracker. -/
def macroTrack : MacroDef where
  tiles := [
    mMac [mE, mE, mX, mX],
    mDelay [mT 0 0, mX, mX, mX],
    mAdd 0 [mT 0 0, mTN 1 0, mX, mX],
    mDelay1 [mT 11 0, mX, mX, mX],
    mDelay [mT 3 0, mX, mX, mX],
    mAdd 0 [mT 3 0, mTN 4 0, mX, mX],
    mMac [mT 2 0, mT 5 0, mX, mX],
    mCmp 1 [(1, 0), (2, 0)] [mT 6 0, mX, mX, mX],
    mSel 2 [mT 2 0, mTN 2 0, mX, mX],
    mMac [mX, mX, mT 8 0, mE],
    mSel 0 [mT 9 0, mTN 9 0, mX, mT 7 1],
    { type := 0x10, mask := 3, val := 2, ins := [mT 10 0, mE, mO, mX] }].map MTile.outer

/-- Resonance notch; its tiles may all be outer instead. -/
def macroNotch : MacroDef where
  tiles := [
    { type := 0x04, ins := [mE, mX, mX, mX] },
    { type := 0x04, ins := [mT 0 0, mX, mX, mX] },
    mSel 0 [mT 1 0, mE, mX, mX]]
  same := [((2, 1), (0, 0))]

/-- The macro of a MACRO_TYPE (R210). -/
def macroDef (type : Nat) : Option MacroDef :=
  [macroGridSync, macroCurrent, macroCirc, macroBalance, macroDcVolt, macroPower, macroGridForm, macroRide, macroIsland,
    macroTrack, macroNotch][type - 1]?.filter (fun _ => decide (1 ≤ type))

/-! ## The graph against the macros (R59, R210, R211) -/

/-- The record of tile `t`. -/
def Graph.tile? (g : Graph) (t : Nat) : Option TileRec := g.tiles.find? (fun r => r.tile == t)

/-- Input `k` of a tile record. -/
def TileRec.src (r : TileRec) (k : Nat) : SrcDesc := r.srcs.getD k {}

def minOk (first : Nat) (m : MIn) (d : SrcDesc) : Bool :=
  match m with
  | .open_ => d.kind == 0 && !d.neg
  | .ext neg => d.kind != 0 && d.neg == neg
  | .opt => !d.neg
  | .tile k j neg => d.kind == 1 && d.index == first + k && d.port == j && d.neg == neg

/-- Fixed settings of tile `k` of a macro against the words `p` of its parameters. -/
def fixedOk (t : MTile) (p : Nat → Nat) : Bool :=
  (p 0 &&& t.mask) == t.val && t.par.all (fun f => p f.1 == f.2)

/-- One macro record against its table; `p t k` is parameter word `k` of tile `t` as loaded. -/
def macroOk (g : Graph) (p : Nat → Nat → Nat) (r : MacroRec) : Bool :=
  match macroDef r.type with
  | none => false
  | some d =>
    let outer0 := match g.tile? r.firstTile with | some t => t.outer | none => false
    let tileOk := fun k => match d.tiles[k]?, g.tile? (r.firstTile + k) with
      | some m, some t =>
        t.type == m.type && t.outer == (if r.type = 0x0B then outer0 else !m.inner)
          && (upto 4).all (fun i => minOk r.firstTile (m.ins.getD i .open_) (t.src i))
          && fixedOk m (p (r.firstTile + k))
      | _, _ => false
    let srcOf := fun (x : Nat × Nat) => match g.tile? (r.firstTile + x.1) with
      | some t => some ((t.src x.2).kind, (t.src x.2).index, (t.src x.2).port)
      | none => none
    decide (r.instance_ ≤ 7) && r.tileCnt == d.tiles.length
      && (upto d.tiles.length).all tileOk
      && d.same.all (fun x => srcOf x.1 == srcOf x.2)
      && (r.type != 0x02 || (match g.tile? r.firstTile with
          | some t => ((t.src 2).kind == 0) == bitAt (p r.firstTile 0) 0
          | none => false))
      && (r.type != 0x0A || p (r.firstTile + 1) 1 == p (r.firstTile + 4) 1)

/-- A tile in the range of a record. -/
def MacroRec.has (r : MacroRec) (t : Nat) : Bool := decide (r.firstTile ≤ t) && decide (t < r.firstTile + r.tileCnt)

/-- All macro records: each sound, instances unique within a type, and no tile in two of them. -/
def macrosOk (g : Graph) (p : Nat → Nat → Nat) : Bool :=
  g.macros.all (macroOk g p)
    && decide ((g.macros.map (fun r => (r.type, r.instance_))).Nodup)
    && (upto 96).all (fun t => decide ((g.macros.filter (fun r => r.has t)).length ≤ 1))

/-- The macro record a tile belongs to, with its number. -/
def Graph.macroOf (g : Graph) (t : Nat) : Option (Nat × MacroRec) :=
  (upto g.macros.length).findSome? (fun j => match g.macros[j]? with
    | some r => if r.has t then some (j, r) else none
    | none => none)

/-- R234: the tile whose N takes every N written to tile `t`: tile 4 of a tracker after its tile 1. -/
def trackerTwin (g : Graph) (t : Nat) : Option Nat :=
  match g.macroOf t with
  | some x => if x.2.type = 0x0A ∧ t = x.2.firstTile + 1 then some (x.2.firstTile + 4) else none
  | none => none

/-- R234: is `t` a tile 4 of a tracker, whose N takes no write of its own? -/
def trackerFollower (g : Graph) (t : Nat) : Bool :=
  match g.macroOf t with
  | some x => x.2.type == 0x0A && t == x.2.firstTile + 4
  | none => false

/-- R213: would writing `w` to parameter word `k` of tile `t` change a fixed setting of its macro? -/
def changesFixed (r : MacroRec) (t k w : Nat) : Bool :=
  match macroDef r.type with
  | none => false
  | some d => match d.tiles[t - r.firstTile]? with
    | none => false
    | some m => (k == 0 && (w &&& m.mask) != m.val) || m.par.any (fun f => f.1 == k && f.2 != w)

/-! ## Status (R238) -/

/-- What R238 reads of a macro's tiles: outputs, inputs, instantaneous states, FORCE_EN. -/
structure MView where
  y : Nat → Nat → Int
  x : Nat → Nat → Int
  inst : Nat → Bool
  latch : Nat → Bool
  forceEn : Nat → Bool

/-- "Limit" of a PI: bits 0 and 1 of its status output. -/
def MView.piLim (v : MView) (k : Nat) : Bool := decide (v.y k 3 % 4 ≠ 0)

/-- A nonzero status word at output 1: a limiter, a rate limiter, an integrator clamp. -/
def MView.lim (v : MView) (k : Nat) : Bool := decide (v.y k 1 ≠ 0)

def bits (bs : List Bool) : Nat := bs.foldr (fun b acc => b.toNat + 2 * acc) 0

/-- STAT of a macro; LOCK of a grid synchroniser is kept from `old` (R217). -/
def macroStat (type old : Nat) (v : MView) : Nat :=
  match type with
  | 0x01 => bits [bitAt old 0, v.inst 6, v.piLim 2]
  | 0x02 => bits [v.piLim 4, v.piLim 5, decide (v.x 10 3 ≠ 0)]
  | 0x03 => bits [v.piLim 6 || v.piLim 7]
  | 0x04 => bits [v.piLim 7, v.piLim 9 || v.piLim 10, v.piLim 12 || v.piLim 13 || v.piLim 14]
  | 0x05 => bits [v.piLim 2, v.lim 0]
  | 0x06 => bits [v.piLim 8, v.piLim 9, v.lim 4, v.lim 5]
  | 0x07 => bits [decide (v.x 3 2 ≠ 0), v.lim 3]
  | 0x08 => bits [v.inst 1, v.latch 1, decide (0 < v.y 9 0), v.lim 6]
  | 0x09 => bits [v.latch 8, v.inst 4, v.inst 5, v.inst 6]
  | 0x0A => bits [v.lim 11, v.inst 7]
  | _ => bits [v.forceEn 2]

/-- EVT bits whose condition holds in a sample, from the old and the new STAT; the other bits of R238 come from commands and from
the lock supervision. -/
def macroEvt (type old new : Nat) : Nat :=
  match type with
  | 0x01 => bits [false, bitAt new 2]
  | 0x02 => bits [bitAt new 0 || bitAt new 1]
  | 0x03 => bits [bitAt new 0]
  | 0x04 => new % 8
  | 0x05 => bits [bitAt new 0]
  | 0x06 => new % 4
  | 0x07 => bits [bitAt new 1]
  | 0x08 => bits [bitAt new 0 && !bitAt old 0, bitAt new 2 && !bitAt old 2]
  | 0x09 => bits [bitAt new 0]
  | 0x0A => bits [bitAt new 0]
  | _ => 0

/-- MVAL0 to MVAL3. -/
def macroVals (type : Nat) (v : MView) : List Int :=
  match type with
  | 0x01 => [v.y 3 0, v.y 4 0, v.y 1 0, v.y 1 2]
  | 0x02 => [v.y 1 0, v.y 1 1, v.y 10 0, v.y 11 0]
  | 0x03 => [v.y 5 2, v.y 5 3, v.y 3 2, 0]
  | 0x04 => [v.y 6 0, v.y 7 0, v.y 8 0, v.y 8 1]
  | 0x05 => [v.y 1 0, v.y 2 0, v.y 0 0, 0]
  | 0x06 => [v.y 2 0, v.y 3 0, v.y 4 0, v.y 5 0]
  | 0x07 => [v.y 3 0, v.y 4 0, v.y 6 0, 0]
  | 0x08 => [v.y 6 0, v.y 3 0, v.y 9 0, v.x 1 0]
  | 0x09 => [v.y 1 0, v.y 2 0, v.y 3 0, v.y 9 0]
  | 0x0A => [v.y 0 0, v.y 2 0, v.y 11 0, v.y 10 0]
  | _ => [v.x 0 0, v.y 2 0, 0, 0]

end Sys2Proof.Machine
end

