-- ==== Sys2Proof/Machine/Lanes.lean ====
section
/-!
DEFINITION. The physical layer of a lane: the coding of its blocks (R81, R82, R110, R111), pattern generators and checkers (R103 to R106),
the delimiter of a burst (R91), and the hub's transmit stream block by block (R26, R32, R38, R100, R104, R120, R298). A block is
a number: its sync header in bits 1 and 0, its payload, scrambled or plain, above it.
-/
namespace Sys2Proof.Machine

def lnkOff (l : Nat) : Nat := 0x800 * l

/-! ## Coding -/

/-- Sync headers of a data block and of a control block (R81). -/
def hdrData : Nat := 1
def hdrCtl : Nat := 2

/-- Block types of the Cloette link (R110). -/
def typeFrame : Nat := 0x78
def typeIdle : Nat := 0x1E
def typeStop : Nat := 0xD2
def typeAbort : Nat := 0x4B
def typeTest : Nat := 0xE1

/-- Payload of the stop symbol and of the abort block, type included (R110). -/
def stopPayload : Nat := typeStop + 256 * 0x963C5AF00FA5C3
def abortPayload : Nat := typeAbort + 256 * 0x69C3A50FF05A3C

/-- A scrambled payload with the state after it: every bit sent is the exclusive or of the payload bit and the bits sent 39 and 58
before it (R81). The state holds the last 58 bits sent, the oldest in bit 0. -/
def scramble (st w : Nat) : Nat × Nat :=
  let lo := (w ^^^ (st / 2 ^ 19) ^^^ st) % 2 ^ 39
  let h := st + lo * 2 ^ 58
  let hi := ((w / 2 ^ 39) ^^^ (h / 2 ^ 58) ^^^ (h / 2 ^ 39)) % 2 ^ 25
  let out := lo + hi * 2 ^ 39
  (out, (st + out * 2 ^ 58) / 2 ^ 64)

/-- The payload that received bits stand for, with the state after them (R81). -/
def descramble (st x : Nat) : Nat × Nat :=
  let h := st + (x % 2 ^ 64) * 2 ^ 58
  (((x ^^^ (h / 2 ^ 19)) ^^^ h) % 2 ^ 64, h / 2 ^ 64)

/-- State at the first bit after the delimiter of an upstream burst: all 58 bits one (R82). -/
def burstSeed : Nat := 2 ^ 58 - 1

/-- Payloads with their headers as blocks, from a scrambler state on. -/
def scrambleAll : Nat → List (Nat × Nat) → List Nat
  | _, [] => []
  | st, (h, w) :: t => let r := scramble st w; (h + 4 * r.1) :: scrambleAll r.2 t

/-- The headers and payloads of received blocks, from a descrambler state on. -/
def descrambleAll : Nat → List Nat → List (Nat × Nat)
  | _, [] => []
  | st, b :: t => let r := descramble st (b / 4); (b % 4, r.1) :: descrambleAll r.2 t

/-- Bits in which two words of `n` bits differ. -/
def distance (n x y : Nat) : Nat := popcount n (x ^^^ y)

/-- A received control block is taken as one of a type with a fixed 56-bit pattern: the type within one bit, the pattern within 8 (R111). -/
def nearBlock (full w : Nat) : Bool := decide (distance 8 (w % 256) (full % 256) ≤ 1) && decide (distance 56 (w / 256) (full / 256) ≤ 8)

/-! ## Patterns (R104, R105) -/

/-- Length and second tap of a pattern's polynomial; the reserved codes have none. -/
def prbsPoly (pattern : Nat) : Option (Nat × Nat) :=
  match pattern with
  | 0 => some (7, 6)
  | 1 => some (9, 5)
  | 2 => some (15, 14)
  | 3 => some (23, 18)
  | 4 => some (31, 28)
  | _ => none

/-- The next bit of a pattern. -/
def prbsBit (pattern r : Nat) : Bool := match prbsPoly pattern with | some p => bitAt r (p.1 - 1) != bitAt r (p.2 - 1) | none => false

/-- A pattern register after a bit. -/
def prbsPush (r : Nat) (b : Bool) : Nat := (2 * r + b.toNat) % 2 ^ 31

/-- The next `n` bits of a pattern, the first in bit 0, and the register after them. -/
def prbsTake (pattern : Nat) : Nat → Nat → Nat × Nat
  | 0, r => (0, r)
  | n + 1, r =>
    let b := prbsBit pattern r
    let x := prbsTake pattern n (prbsPush r b)
    (b.toNat + 2 * x.1, x.2)

/-- The checker takes one received pattern bit; whether that bit was errored (R105). The first 31 bits seed it; an error before 256
error-free bits have followed starts it again. -/
def checkBit (pattern : Nat) (b : Bool) (c : Checker) : Checker × Bool :=
  if c.seen < 31 then ({ c with reg := prbsPush c.reg b, seen := c.seen + 1 }, false)
  else
    let want := prbsBit pattern c.reg
    let bad := b != want
    if bad && decide (c.clean < 256) then ({ reg := prbsPush 0 b, seen := 1 }, true)
    else ({ c with reg := prbsPush c.reg want, clean := min 256 (c.clean + 1), win := (2 * c.win + bad.toNat) % 2 ^ 256 }, bad)

/-- The checker takes the low `n` bits of a word, bit 0 first; the number of errored ones. -/
def checkBits (pattern : Nat) : Nat → Nat → Checker → Checker × Nat
  | 0, _, c => (c, 0)
  | n + 1, w, c =>
    let r := checkBit pattern (w % 2 == 1) c
    let x := checkBits pattern n (w / 2) r.1
    (x.1, x.2 + r.2.toNat)

def prbsMode (s : State) (l : Nat) : Nat := s.fld (LNK.PRBS_CTRL.MODE.at (lnkOff l))
/-- The pattern in use: PATTERN in raw mode; service mode knows PRBS-31 alone, whatever PATTERN holds (R104, log 156). -/
def prbsPattern (s : State) (l : Nat) : Nat := if prbsMode s l = 2 then 4 else s.fld (LNK.PRBS_CTRL.PATTERN.at (lnkOff l))
def genOn (s : State) (l : Nat) : Bool := s.flag (LNK.PRBS_CTRL.GEN_EN.at (lnkOff l))
def loopback (s : State) (l : Nat) : Nat := s.fld (LNK.CTRL.LOOPBACK.at (lnkOff l))

/-- The checker of lane `l` runs: it is enabled, in raw or service mode (R103 to R105). -/
def prbsOn (s : State) (l : Nat) : Bool := s.flag (LNK.PRBS_CTRL.CHK_EN.at (lnkOff l)) && (prbsMode s l == 1 || prbsMode s l == 2)

/-- Checked and errored bits count while the checker is locked (R105). -/
def prbsCount (l bits errs : Nat) (s : State) : State :=
  if s.flag (LNK.STAT.PRBS_LOCK.at (lnkOff l)) then
    (s.setLane l { s.lane l with prbsBits := ((s.lane l).prbsBits + bits) % 2 ^ 48 }).count (LNK.PRBS_ERR.ERR.at (lnkOff l)) errs
  else s

/-- Lane `l` receives `n` pattern bits, bit 0 of `w` first. -/
def prbsReceive (l n w : Nat) (s : State) : State :=
  if prbsOn s l then
    let r := checkBits (prbsPattern s l) n w (s.lane l).chk
    prbsCount l n r.2 (s.setLane l { s.lane l with chk := r.1 })
  else s

/-- Distance of periodic errors in pattern bits; 0 where none are injected (R106, R109). -/
def injGap (s : State) (l : Nat) : Nat :=
  let e := s.fld (LNK.PRBS_CTRL.INJ_EXP.at (lnkOff l))
  if e = 0 ∨ s.fld (LNK.PRBS_CTRL.INJ_TGT.at (lnkOff l)) ≠ 0 then 0 else 2 ^ max 10 e

/-- The bits of the next `n`, at most one gap long, that injected errors invert: the last bit of every gap, and the first others for the
errors that wait (R106). -/
def errorBits (gap n : Nat) (w : Wire) : Nat :=
  let due := gap - 1 - w.sinceInj % gap
  if gap = 0 ∨ n ≤ due then 2 ^ min n w.flips - 1
  else
    let k := min (n - 1) w.flips
    if due ≤ k then 2 ^ (k + 1) - 1 else 2 ^ k - 1 + 2 ^ due

/-- `n` bits from a lane's generator, at most one gap of periodic errors, injected errors among them; a generator that is not enabled gives
zeros (R104, R106, log 14). -/
def genBits (on : Bool) (pattern gap n : Nat) (w : Wire) : Nat × Wire :=
  if on then
    let g := prbsTake pattern n w.gen
    let hit := decide (gap ≠ 0) && decide (gap - 1 - w.sinceInj % gap < n)
    (g.1 ^^^ errorBits gap n w,
      { w with gen := g.2, flips := w.flips - min (if hit then n - 1 else n) w.flips, sinceInj := if gap = 0 then 0 else (w.sinceInj + n) % gap })
  else (0, w)

/-! ## The delimiter of a burst (R91) -/

/-- 0xB3C5_0E9D. -/
def burstDelim : Nat := 0xB3C50E9D

/-- A received delimiter matches with at most three bit errors. -/
def delimOk (d : Nat) : Bool := decide (distance 32 d burstDelim ≤ 3)

/-- T_p of slot `k` from the start of its cycle, UI (R123). -/
def slotStart (k : Nat) : Nat := 9075 * k / 16
def slotPreamble (k : Nat) : Nat := slotStart k + 165

/-! ## The transmit stream of a hub lane -/

/-- What the stream is made of: framed blocks or unframed pattern, the pattern of idle positions or raw bits with the distance of its
periodic errors, and whether stops are repeated after each trailer (R103, R104, R106, R298). -/
structure WireSrc where
  raw : Bool := false
  service : Bool := false
  gen : Bool := false
  pattern : Nat := 4
  gap : Nat := 0
  again : Bool := false
  deriving DecidableEq, Repr

/-- An idle position: a repeated stop after a trailer, an abort that is due, a test block in service mode, else an idle block; an
abort and an idle end the wait for the repeat. The header and payload, and the stream after it. -/
def idleBlock (c : WireSrc) (w : Wire) : Nat × Wire :=
  if w.trail && c.again then (stopPayload, { w with trail := false })
  else match w.aborts with
    | a :: rest =>
      if a ≤ w.next then (abortPayload, { w with aborts := rest, trail := false })
      else if c.service && c.gen then
        let g := genBits c.gen 4 c.gap 56 w
        (typeTest + 256 * g.1, { g.2 with trail := false })
      else (typeIdle, { w with trail := false })
    | [] =>
      if c.service && c.gen then
        let g := genBits c.gen 4 c.gap 56 w
        (typeTest + 256 * g.1, { g.2 with trail := false })
      else (typeIdle, { w with trail := false })

/-- The plain block at the next position of a framed stream: a stop symbol that holds the position, the start of a frame that is due,
an abort that is due inside a frame, the frame's next word, or an idle position (R26, R32, R38, R120). -/
def framedBlock (c : WireSrc) (w : Wire) : Nat × Nat × Wire :=
  if w.stops.contains w.next then (hdrCtl, stopPayload, { w with stops := w.stops.filter (fun p => decide (w.next < p)) })
  else match w.due with
    | (f, x :: xs) :: rest =>
      if w.next < f then (hdrCtl, idleBlock c w)
      else if xs.length = 50 then (hdrCtl, x, { w with due := (f, xs) :: rest, start := w.next })
      else match w.aborts with
        | a :: more =>
          if a ≤ w.next then (hdrCtl, abortPayload, { w with aborts := more })
          else (hdrData, x, { w with due := if xs = [] then rest else (f, xs) :: rest, trail := xs == [] })
        | [] => (hdrData, x, { w with due := if xs = [] then rest else (f, xs) :: rest, trail := xs == [] })
    | (_, []) :: rest => (hdrCtl, idleBlock c { w with due := rest })
    | [] => (hdrCtl, idleBlock c w)

/-- The stream sends the block at its next position: the 66 bits on the wire, and the stream after them. Unframed pattern is not
scrambled. -/
def wireBlock (c : WireSrc) (w : Wire) : Nat × Wire :=
  if c.raw then
    let g := genBits c.gen c.pattern c.gap 66 w
    (g.1, { g.2 with next := w.next + 1, due := [], stops := [], aborts := [], trail := false })
  else
    let b := framedBlock c w
    let r := scramble w.scr b.2.1
    (b.1 + 4 * r.1, { b.2.2 with next := w.next + 1, scr := r.2 })

/-- The next `n` blocks of a stream. -/
def wireRun (c : WireSrc) : Nat → Wire → List Nat × Wire
  | 0, w => ([], w)
  | n + 1, w =>
    let b := wireBlock c w
    let r := wireRun c n b.2
    (b.1 :: r.1, r.2)

/-- Number of the first block that starts at or after instant `t` (0.2 ns). -/
def blockAt (s : State) (t : Nat) : Nat := (t + 31 - s.period.grid) / 32

/-- Block of the lanes' grid that is next, `dt` ns after the last boundary. -/
def blockNow (dt : Nat) (s : State) : Nat := blockAt s (5 * (s.period.timeNs + dt))

/-- DS_STATE codes (R109). -/
def dsOff : Nat := 0
def dsRun : Nat := 1
def dsSleep : Nat := 2
def dsWake : Nat := 3
def dsState (s : State) (l : Nat) : Nat := s.fld (LNK.STAT.DS_STATE.at (lnkOff l))

/-- The latch of source `k` is set. -/
def sourceFired (s : State) (k : Nat) : Bool := bitAt (s.fld (EVR.FIRED.BITS.at (4 * (k / 32)))) (k % 32)

/-- Map entry of source `k`. -/
def mapWord (s : State) (k : Nat) : Nat := s.rd (EVR.MAP.addr + 4 * k)

/-- Some fired source has a map entry with property `p`. -/
def firedWith (s : State) (p : Nat → Bool) : Bool := (upto 128).any (fun k => sourceFired s k && p (mapWord s k))

/-- A stop-mapped source is fired and STOP_REPEAT is set (R298). -/
def stopRepeat (s : State) : Bool := s.flag EVR.GCFG.STOP_REPEAT && firedWith s (fun m => bitAt m 2)

/-- What lane `l` sends now. -/
def wireSrc (s : State) (l : Nat) : WireSrc :=
  { raw := prbsMode s l == 1, service := prbsMode s l == 2, gen := genOn s l, pattern := prbsPattern s l, gap := injGap s l, again := stopRepeat s }

/-- Test blocks of a near-end loopback come back to the lane's own checker (R104, R107): the patterns of the blocks sent. -/
def loopTests (l : Nat) (plain : List (Nat × Nat)) (s : State) : State :=
  (plain.filter (fun b => b.1 == hdrCtl && b.2 % 256 == typeTest)).foldl (fun s b => prbsReceive l 56 (b.2 / 256) s) s

/-- A near-end loopback: the lane's pins hold electrical idle and what is sent goes to its own receiver (R107). -/
def nearLoop (s : State) (l : Nat) : Bool := loopback s l == 1 || loopback s l == 2

/-- What a lane's transmitter has sent comes out at its pins, or in a near-end loopback goes to its own receiver. -/
def laneSends (l : Nat) (c : WireSrc) (scr pos : Nat) (bs : List Nat) (s : State) : State :=
  if bs = [] then s
  else if nearLoop s l then
    (if c.raw then bs.foldl (fun s b => prbsReceive l 66 b s) s else if c.service then loopTests l (descrambleAll scr bs) s else s)
  else if c.raw then s.emit (.raw l (66 * bs.length) (bs.foldr (fun b a => b + 2 ^ 66 * a) 0))
  else s.emit (.blocks l pos bs)

/-- Lane `l` sends every block that starts before block `b`: a running or waking transmitter sends, the others hold electrical
idle (R100). -/
def laneTo (l b : Nat) (s : State) : State :=
  let w := (s.lane l).wire
  let st := dsState s l
  if b ≤ w.next then s
  else if st = dsRun ∨ st = dsWake then
    let c := wireSrc s l
    let s1 := if w.train && !nearLoop s l then s.emit (.train l w.next) else s
    let w1 := { w with train := false, next := if w.train then w.next + 2 else w.next }
    let r := wireRun c (b - w1.next) w1
    laneSends l c w1.scr w1.next r.1 (s1.setLane l { s1.lane l with wire := r.2 })
  else s

/-- A position joins a rising list of positions. -/
def putPos (p : Nat) : List Nat → List Nat
  | [] => [p]
  | q :: t => if p < q then p :: q :: t else if p = q then q :: t else q :: putPos p t

/-- A stop request takes four consecutive positions of a lane, the first no earlier than block `b` (R120). -/
def stopLane (l b : Nat) (s : State) : State :=
  let s1 := laneTo l b s
  let w := (s1.lane l).wire
  let p := max b w.next
  let ps := [p, p + 1, p + 2, p + 3].foldr putPos w.stops
  let s2 := s1.setLane l { s1.lane l with wire := { w with stops := ps } }
  if nearLoop s l then s2 else s2.emit (.stop l 4)

/-- Four stop symbols on every lane that runs framed, from instant `t` ns on (R103, R120, R297). -/
def stopAll (t : Nat) (s : State) : State :=
  ((upto 128).filter (fun l => dsState s l == dsRun && prbsMode s l != 1)).foldl (fun s l => stopLane l (blockAt s (5 * t)) s) s

/-- An abort falls due on a lane at block `p` (R33, R247); where a stop symbol holds that position it takes the first after the run (R38). -/
def abortDue (l p : Nat) (s : State) : State :=
  s.setLane l { s.lane l with wire := { (s.lane l).wire with aborts := putPos p (s.lane l).wire.aborts } }

/-- The lane's stream starts at block `b`. -/
def wireStart (b : Nat) (w : Wire) : Wire := { scr := w.scr, gen := w.gen, flips := w.flips, sinceInj := w.sinceInj, next := b }

/-- Every lane of a ready quad sends what starts before instant `t` (0.2 ns). -/
def lanesTo (t : Nat) (s : State) : State :=
  (upto 128).foldl (fun s l => if bitAt (s.fld SYS.QUAD_STAT.QUAD_RDY) (l / 4) then laneTo l (blockAt s t) s else s) s

end Sys2Proof.Machine
end

