-- ==== Sys2Proof/Machine/Crypto.lean ====
section
/-!
DEFINITION. The checks an image rests on: CRC-32 (R49), SHA-256 and ECDSA P-256 (R65), and the CRCs of the link (R114, R115).
The manual names SHA-256 and P-256 and does not print their constants: those below are the published standards' (log 10).
-/
namespace Sys2Proof.Machine

/-! ## CRCs -/

/-- One bit step of a reflected CRC-32. -/
def crc32Bit : Nat → Nat → Nat
  | 0, c => c
  | n + 1, c => crc32Bit n (if c % 2 = 1 then (c / 2) ^^^ 0xEDB88320 else c / 2)

/-- CRC-32 register after more bytes; 0x04C1_1DB7 reflected is 0xEDB8_8320. -/
def crc32Run : Nat → List Byte → Nat
  | c, [] => c
  | c, b :: bs => crc32Run (crc32Bit 8 (c ^^^ b.toNat)) bs

/-- CRC-32 of IEEE 802.3: initial and final XOR 0xFFFF_FFFF (R49). -/
def crc32 (bs : List Byte) : Nat := crc32Run 0xFFFFFFFF bs ^^^ 0xFFFFFFFF

/-- One bit step, most significant bit first, of a CRC of `w` bits with polynomial `poly`. -/
def crcMsbStep (w poly c : Nat) (bit : Bool) : Nat :=
  let top := bitAt c (w - 1)
  let c' := (2 * c) % 2 ^ w
  if top != bit then c' ^^^ poly else c'

/-- CRC of a list of bits, first bit first. -/
def crcMsb (w poly init : Nat) (bits : List Bool) : Nat := bits.foldl (crcMsbStep w poly) init

/-- The low `n` bits of a value, most significant first. -/
def bitsMsb : Nat → Nat → List Bool
  | 0, _ => []
  | n + 1, v => bitAt v n :: bitsMsb n v

/-! ## SHA-256 -/

def rotr32 (n x : Nat) : Nat := (x / 2 ^ n + x * 2 ^ (32 - n)) % 2 ^ 32

/-- The integer `k`-th root of `n`, built bit by bit below `2 ^ bits` on top of `r`. -/
def rootBits (k n : Nat) : Nat → Nat → Nat
  | 0, r => r
  | b + 1, r => rootBits k n b (if (r + 2 ^ b) ^ k ≤ n then r + 2 ^ b else r)

/-- The first 32 bits of the fraction of the `k`-th root of `p`. -/
def rootFraction (k p : Nat) : Nat := rootBits k (p * 2 ^ (32 * k)) 37 0 % 2 ^ 32

/-- No smaller number but 1 divides `p`. -/
def isPrime (p : Nat) : Bool := decide (2 ≤ p) && (upto p).all (fun d => decide (d < 2) || p % d != 0)

/-- The 64 primes below 312, from which the standard takes the constants of SHA-256. -/
def shaPrimes : List Nat := (upto 312).filter isPrime

/-- Round constants: fractions of the cube roots of the 64 primes (log 10). -/
def shaK : List Nat := shaPrimes.map (rootFraction 3)

/-- Initial digest: fractions of the square roots of the first eight primes (log 10). -/
def shaInit : List Nat := (shaPrimes.take 8).map (rootFraction 2)

/-- Message schedule, newest word first: extend `n` more words. -/
def shaSchedule : Nat → List Nat → List Nat
  | 0, w => w
  | n + 1, w =>
    let g := fun k => w.getD k 0
    let s0 := rotr32 7 (g 14) ^^^ rotr32 18 (g 14) ^^^ (g 14 / 2 ^ 3)
    let s1 := rotr32 17 (g 1) ^^^ rotr32 19 (g 1) ^^^ (g 1 / 2 ^ 10)
    shaSchedule n ((g 15 + s0 + g 6 + s1) % 2 ^ 32 :: w)

/-- One round over the eight working variables. -/
def shaRound (v : List Nat) (kw : Nat × Nat) : List Nat :=
  let g := fun k => v.getD k 0
  let s1 := rotr32 6 (g 4) ^^^ rotr32 11 (g 4) ^^^ rotr32 25 (g 4)
  let ch := (g 4 &&& g 5) ^^^ ((2 ^ 32 - 1 - g 4) &&& g 6)
  let t1 := g 7 + s1 + ch + kw.1 + kw.2
  let s0 := rotr32 2 (g 0) ^^^ rotr32 13 (g 0) ^^^ rotr32 22 (g 0)
  let mj := (g 0 &&& g 1) ^^^ (g 0 &&& g 2) ^^^ (g 1 &&& g 2)
  [(t1 + s0 + mj) % 2 ^ 32, g 0, g 1, g 2, (g 3 + t1) % 2 ^ 32, g 4, g 5, g 6]

/-- One 64-byte block. -/
def shaBlock (h : List Nat) (blk : List Byte) : List Nat :=
  let w16 := (List.range 16).map (fun i => beNat ((blk.drop (4 * i)).take 4))
  let w := (shaSchedule 48 w16.reverse).reverse
  let v := (shaK.zip w).foldl shaRound h
  (h.zip v).map (fun p => (p.1 + p.2) % 2 ^ 32)

def shaBlocks : Nat → List Nat → List Byte → List Nat
  | 0, h, _ => h
  | n + 1, h, bs => shaBlocks n (shaBlock h (bs.take 64)) (bs.drop 64)

/-- SHA-256 digest as eight big-endian words. -/
def sha256Words (bs : List Byte) : List Nat :=
  let padN := (119 - bs.length % 64) % 64
  let padded := bs ++ [0x80#8] ++ List.replicate padN 0#8 ++ (leBytes 8 (8 * bs.length)).reverse
  shaBlocks (padded.length / 64) shaInit padded

/-- SHA-256 digest as a big-endian number. -/
def sha256 (bs : List Byte) : Nat := (sha256Words bs).foldl (fun a w => a * 2 ^ 32 + w) 0

/-- The 32 digest bytes, first byte first. -/
def sha256Bytes (bs : List Byte) : List Byte := (leBytes 32 (sha256 bs)).reverse

/-! ## ECDSA P-256 -/

def p256P : Nat := 0xFFFFFFFF00000001000000000000000000000000FFFFFFFFFFFFFFFFFFFFFFFF
def p256N : Nat := 0xFFFFFFFF00000000FFFFFFFFFFFFFFFFBCE6FAADA7179E84F3B9CAC2FC632551
def p256B : Nat := 0x5AC635D8AA3A93E7B3EBBD55769886BC651D06B0CC53B0F63BCE3C3E27D2604B
def p256Gx : Nat := 0x6B17D1F2E12C4247F8BCE6E563A440F277037D812DEB33A0F4A13945D898C296
def p256Gy : Nat := 0x4FE342E2FE1A7F9B8EE7EB4A7C0F9E162BCE33576B315ECECBB6406837BF51F5

/-- `b ^ e mod m` over the low `fuel` bits of `e`. -/
def powMod : Nat → Nat → Nat → Nat → Nat
  | 0, _, _, m => 1 % m
  | fuel + 1, b, e, m =>
    let r := powMod fuel (b * b % m) (e / 2) m
    if e % 2 = 1 then r * b % m else r

/-- Inverse modulo a 256-bit prime, by Fermat. -/
def invMod (a m : Nat) : Nat := powMod 256 (a % m) (m - 2) m

/-- Point addition on P-256; `none` is the point at infinity. -/
def p256Add : Option (Nat × Nat) → Option (Nat × Nat) → Option (Nat × Nat)
  | none, q => q
  | p, none => p
  | some (x1, y1), some (x2, y2) =>
    if x1 = x2 ∧ (y1 + y2) % p256P = 0 then none
    else
      let l := if x1 = x2 then (3 * x1 * x1 + (p256P - 3)) * invMod (2 * y1) p256P % p256P
               else (y2 + p256P - y1) * invMod (x2 + p256P - x1) p256P % p256P
      let x3 := (l * l + 2 * p256P - x1 - x2) % p256P
      some (x3, (l * (x1 + p256P - x3) + p256P - y1) % p256P)

/-- Scalar multiple over the low `fuel` bits. -/
def p256Mul : Nat → Nat → Option (Nat × Nat) → Option (Nat × Nat)
  | 0, _, _ => none
  | fuel + 1, k, p =>
    let r := p256Mul fuel (k / 2) (p256Add p p)
    if k % 2 = 1 then p256Add r p else r

/-- The key is a point of the curve. -/
def p256OnCurve (x y : Nat) : Bool :=
  decide (x < p256P) && decide (y < p256P) && (y * y % p256P == (x * x % p256P * x + (p256P - 3) * x + p256B) % p256P)

/-- ECDSA P-256 verification of a digest (R65). -/
def ecdsaVerify (qx qy r s digest : Nat) : Bool :=
  decide (0 < r) && decide (r < p256N) && decide (0 < s) && decide (s < p256N) && p256OnCurve qx qy &&
  let w := invMod s p256N
  match p256Add (p256Mul 256 (digest % p256N * w % p256N) (some (p256Gx, p256Gy)))
                (p256Mul 256 (r * w % p256N) (some (qx, qy))) with
  | none => false
  | some (x, _) => x % p256N == r

end Sys2Proof.Machine
end

