-- ==== Sys2Proof/Machine/Recorder.lean ====
section
/-!
DEFINITION. The hold-up store's energy books (R499, R500), the strata recorder's intake, ring, slots and refresh (R514 to R521),
and the loess commits.
-/
namespace Sys2Proof.Machine

/-! ## Events (R515, R517) -/

/-- The power-fail warning is in force: raised, and VRC_VIN was last measured below PFW_MV (R490). -/
def pfwNow (s : State) : Bool := s.flag VRC.EVT.PFW && decide (s.fld VRC.VOUT.VIN < s.fld VRC.PFW.PFW_MV)

/-- FLAGS of an event entering now. -/
def evFlags (s : State) : Nat :=
  (!s.flag LSS.STAT.RTC_VALID).toNat + 2 * (pfwNow s).toNat + 4 * (s.fld LMP.STAT.STATE == 2).toNat
    + 8 * (s.sys.role == .cell).toNat

/-- The real-time counter, in 1/32,768 s (R495). -/
def rtcNow (s : State) : Int := if s.lss.rtcCut then s.lss.rtc else s.lss.rtc + s.strata.ticks

/-- Real time goes on to an event whose command carries no time: by a free number of ticks, less than what is left to the next 250 ms
sample (site 132, log 56). -/
def passTicks (s : State) : State :=
  let n := Config.freeOf 132 [s.strata.ticks, s.fld STR.SEQ.SEQ, s.strata.intake.length, s.strata.dropped, s.period.pcnt]
  { s with strata := { s.strata with ticks := s.strata.ticks + (n % (max 1 (8192 - s.strata.ticks) : Nat)).toNat } }

/-- An event stamped with the counters as they stand (R495, R515). -/
def stampEv (code data : Nat) (s : State) : Ev :=
  { code := code, flags := evFlags s, sec := (rtcNow s / 32768).toNat, sub := (rtcNow s % 32768).toNat
    pcnt := if s.sys.role = .cell then 0 else s.period.pcnt % 2 ^ 32, data := data % 2 ^ 64 }

/-- A stamped event enters the intake, or is dropped when it is full (R517). -/
def State.enter (e : Ev) (s : State) : State :=
  if s.strata.intake.length < 256 then { s with strata := { s.strata with intake := s.strata.intake ++ [e] } }
  else { s.count STR.LOST.DROPPED 1 with strata := { s.strata with dropped := s.strata.dropped + 1 } }

/-- An event that happens now enters the intake. -/
def State.event (code data : Nat) (s : State) : State :=
  let s1 := passTicks s
  s1.enter (stampEv code data s1)

/-- The 32 bytes of an event with sequence number `seq` (R515). -/
def evBytes (seq : Nat) (e : Ev) : List Byte :=
  let b := leBytes 4 seq ++ leBytes 2 e.code ++ leBytes 2 (e.flags % 256) ++ leBytes 6 e.sec ++ leBytes 2 e.sub ++ leBytes 4 e.pcnt
    ++ leBytes 8 e.data
  b ++ leBytes 4 (crc32 b)

/-- STATE of the recorder (R524). -/
def strScanning : Nat := 0
def strArmed : Nat := 1
def strPost : Nat := 2
def strFlush : Nat := 3

/-- Entries of the ring. -/
def ringLen : Nat := 31744

/-- An event goes to the ring's head with the next sequence number; the freeze event of the taken slot notes its place
(R516, R520). -/
def ringPut (s : State) (e : Ev) : State :=
  let h := s.fld STR.HEAD.IDX
  let q := (s.fld STR.SEQ.SEQ + 1) % 2 ^ 32
  let mine := e.code == 0x0040 && bitsAt e.data 8 8 == s.strata.slot && decide (2 ≤ s.fld STR.STAT.STATE)
  let s1 := { s with strata := { s.strata with
    mram := memWrite s.strata.mram (32 * h) (evBytes q e)
    freezeAt := if mine then some (h, q) else s.strata.freezeAt } }
  (s1.setFld STR.HEAD.IDX ((h + 1) % ringLen)).setFld STR.SEQ.SEQ q

/-- A truncation marker's event (R515). -/
def markerEv (cause lost slot : Nat) (s : State) : Ev :=
  stampEv 0xFFFF (cause + 65536 * min 0xFFFF lost + 2 ^ 32 * slot) s

/-- A truncation marker is written: to the ring's head, or while the recorder scans for it to the intake (R500, R516). -/
def putMarker (cause lost slot : Nat) (s : State) : State :=
  let s1 := passTicks s
  if s1.fld STR.STAT.STATE = strScanning then s1.enter (markerEv cause lost slot s1) else ringPut s1 (markerEv cause lost slot s1)

/-! ## Energy (R499, R500), in 0.01 µJ -/

def eOpen : Nat := 400
def eWord : Nat := 50
def eMark : Nat := 450

/-- E_est for a hold-up voltage in mV. -/
def eEst (s : State) (mv : Nat) : Nat :=
  max 10 (min 220 (s.fld LSS.HOLD_CFG.C_UF)) * (mv * mv - 1700 * 1700) / 20000

/-- Energy reserved: granted commits and the marker reserve. -/
def eRes (s : State) : Nat := (s.lss.granted.map (·.2)).foldl (· + ·) 0 + (if s.lss.marker then eMark else 0)

/-- The energy registers follow the books; the marker reserve is taken when it can be. -/
def eBooks (est : Nat) (s : State) : State :=
  let take := !s.lss.marker && decide (eMark ≤ est - eRes s)
  let s1 := if take then { s with lss := { s.lss with marker := true } } else s
  let r := eRes s1
  (((s1.setFld LSS.E_EST.E est).setFld LSS.E_RES.E r).setFld LSS.E_AVAIL.E (est - r)).setFlag LSS.STAT.NO_MARK (!s1.lss.marker)

/-- V_hold has been measured. -/
def holdMeasure (mv : Nat) (s : State) : State := eBooks (eEst s mv) (s.setFld LSS.HOLD.MV mv)

/-- The procedure request of R500 for `n` writes; `slot` names the slot in a marker. The flag says granted. -/
def lssRequest (kind : CommitKind) (n slot mv : Nat) (s : State) : State × Bool :=
  let s1 := holdMeasure mv s
  let est := s1.fld LSS.E_EST.E
  let need := eOpen + n * eWord
  if need ≤ est - eRes s1 then
    (eBooks est { s1 with lss := { s1.lss with granted := s1.lss.granted ++ [(kind, need)] } }, true)
  else
    let s2 := (s1.count LSS.REFUSE.REFUSALS 1).raise LSS.EVT.REFUSED
    if s2.lss.marker then
      let s3 := (putMarker 1 0 slot s2).count LSS.REFUSE.MARKERS 1
      (eBooks (est - eMark) { s3 with lss := { s3.lss with marker := false } }, false)
    else (eBooks est s2, false)

/-- Drop the first reservation of a kind. -/
def dropGrant (kind : CommitKind) : List (CommitKind × Nat) → List (CommitKind × Nat)
  | [] => []
  | g :: gs => if g.1 = kind then gs else g :: dropGrant kind gs

/-- A granted commit ends: its reservation is released and E_est recomputed. -/
def lssEnd (kind : CommitKind) (mv : Nat) (s : State) : State :=
  holdMeasure mv { s with lss := { s.lss with granted := dropGrant kind s.lss.granted } }

/-! ## Thermal-shutdown record (R512, R514) -/

/-- The record of a requested shutdown goes to the older of its two copies. -/
def thermalRecord (s : State) : State :=
  match s.thm.sd with
  | none => s
  | some (tj, sensor) =>
    let s1 := passTicks s
    let k := s1.strata.tsdCopy
    let bs := evBytes (s1.fld STR.SEQ.SEQ) (stampEv 0x0031 (tj % 65536 + 65536 * sensor) s1)
    { s1 with strata := { s1.strata with mram := memWrite s1.strata.mram (0xF8000 + 32 * k) bs, tsdCopy := 1 - k, tsdSet := true } }

/-- The event that 32 bytes of MRAM hold (R515). -/
def evOf (b : List Byte) : Ev :=
  let at_ := fun i n => leNat ((b.drop i).take n)
  { code := at_ 4 2, flags := at_ 6 1, sec := at_ 8 6, sub := at_ 14 2, pcnt := at_ 16 4, data := at_ 20 8 }

/-- The thermal-shutdown record written last. -/
def lastRecord (s : State) : Ev := evOf (memRead s.strata.mram (0xF8000 + 32 * (1 - s.strata.tsdCopy)) 32)

/-- R500: a commit of `n` writes asks for its energy. The thermal-shutdown record is written with its grant. -/
def execCommitRequest (kind : CommitKind) (n vhold : Nat) (s : State) : Host.Outcome State Fault Refusal :=
  if s.clodsUp = false then .next s else
  let r := lssRequest kind n 0 vhold s
  .next (if kind == .thermal then
      (let s1 := if r.2 then thermalRecord r.1 else r.1
       { s1 with thm := { s1.thm with recAsked := s1.thm.recAsked || s1.thm.sd.isSome } })
    else r.1)

/-- R500: a granted commit ends. -/
def execCommitEnd (kind : CommitKind) (vhold : Nat) (s : State) : Host.Outcome State Fault Refusal :=
  .next (if s.lss.granted.any (fun g => g.1 == kind) then lssEnd kind vhold s else s)

/-! ## Recorder (R516 to R521) -/

/-- R517: an event from a source that no other command of the table represents enters the intake. -/
def execStrataEvent (code : Fin 65536) (data : BitVec 64) (s : State) : Host.Outcome State Fault Refusal :=
  .next (if s.clodsUp then s.event code.val data.toNat else s)

/-- R517: a group of intake entries, after a marker for those dropped, is requested and written. -/
def execStrataGroupCommit (vhold : Nat) (s : State) : Host.Outcome State Fault Refusal :=
  let mark := decide (0 < s.strata.dropped)
  let k := min s.strata.intake.length (if mark then 63 else 64)
  if s.fld STR.STAT.STATE = strScanning ∨ (k = 0 ∧ mark = false) then .next s
  else
    let r := lssRequest .strata (k + mark.toNat) 0 vhold s
    if r.2 then
      let s1 := r.1
      let s2 := if mark then putMarker 2 s1.strata.dropped 0 s1 else s1
      let s3 := (s1.strata.intake.take k).foldl ringPut s2
      .next { s3 with strata := { s3.strata with intake := s3.strata.intake.drop k, dropped := 0 } }
    else .next r.1

/-- A 32-byte unit of the MRAM whose last four bytes are the CRC-32 of the others. -/
def unitValid (m : Mem) (a : Nat) : Bool := memWord m (a + 0x1C) == crc32 (memRead m a 0x1C)

/-- The last valid entry whose follower is invalid or out of sequence (R516). -/
def ringLast (m : Mem) : Option Nat :=
  (upto ringLen).foldl (fun best e =>
    let nx := 32 * ((e + 1) % ringLen)
    if unitValid m (32 * e) && !(unitValid m nx && memWord m nx == (memWord m (32 * e) + 1) % 2 ^ 32) then some e else best) none

/-- Base of waveform slot `k` (R514). -/
def slotBase (k : Nat) : Nat := 0x100000 + 0x40000 * k

/-- Descriptor of a slot (R520); its layout is the model's (log 30). -/
def slotDesc (s : State) (st : Nat) : List Byte :=
  let q := match s.strata.freezeAt with | some x => x.2 | none => 0
  let b := leBytes 4 q ++ leBytes 4 s.strata.src ++ leBytes 4 s.strata.trigPcnt ++ leBytes 4 s.strata.post ++ leBytes 4 st ++ List.replicate 8 0#8
  b ++ leBytes 4 (crc32 b)

/-- STATE in a slot's descriptor; none when it is not valid. -/
def slotState (m : Mem) (k : Nat) : Option Nat := if unitValid m (slotBase k) then some (memWord m (slotBase k + 16)) else none

/-- Slots by age: those without a valid descriptor first, then by SEQ. -/
def slotAge (m : Mem) (k : Nat) : Nat := if (slotState m k).isSome then 1 + memWord m (slotBase k) else 0

def ageInsert (m : Mem) (k : Nat) : List Nat → List Nat
  | [] => [k]
  | j :: t => if slotAge m k ≤ slotAge m j then k :: j :: t else j :: ageInsert m k t

/-- The slots in state `st`, as a mask. -/
def slotMask (m : Mem) (st : Nat) : Nat := (upto 4).foldl (fun w k => if slotState m k = some st then w + 2 ^ k else w) 0

/-- R516, R520: the scan of the ring and the slots completes, and the recorder arms. With no valid entry the ring starts at
entry 0 after a sequence number the spec leaves open. -/
def execStrataScanDone (s : State) : Host.Outcome State Fault Refusal :=
  if s.fld STR.STAT.STATE ≠ strScanning ∨ s.clodsUp = false then .next s
  else
    let m := s.strata.mram
    let s1 := match ringLast m with
      | some e => (s.setFld STR.HEAD.IDX ((e + 1) % ringLen)).setFld STR.SEQ.SEQ (memWord m (32 * e))
      | none => (s.setFld STR.HEAD.IDX 0).drawn.setFld STR.SEQ.SEQ (s.draw 120)
    let s2 := ((((s1.setFlag STR.STAT.PRE_READY false).setFld STR.STAT.LOCKED (slotMask m 2)).setFld STR.STAT.COMPLETE (slotMask m 2)).setFld STR.LOST.TRUNC (slotMask m 1)).setFld
      STR.STAT.STATE strArmed
    .next { s2 with strata := { s2.strata with order := [3, 2, 1, 0].foldl (fun l k => ageInsert m k l) [], sets := 0, wr := 0 } }

/-- POST in force: 1 to 4,032 (R524). -/
def strPostN (s : State) : Nat := max 1 (min 4032 (s.fld STR.CFG.POST))

/-- R519: a freeze from event source `src`. A freeze event that finds the intake full is dropped (R517): the slot is flushed all the same,
with the events before the ring's head and a sequence number that the spec leaves open (site 136, log 59). -/
def strataFreeze (src : Nat) (s : State) : State :=
  let free := s.strata.order.find? (fun k => !bitAt (s.fld STR.STAT.LOCKED) k)
  if s.fld STR.STAT.STATE = strArmed ∧ s.flag STR.STAT.PRE_READY = true then
    match free with
    | some k =>
      let st := s.strata
      let words := (upto 4096).flatMap (fun j => (upto 8).map (fun n => (8 * j + n, tabGet (fun _ => 0) st.ring (8 * ((st.wr + j) % 4096) + n))))
      let s1 := { s with strata := { st with
        frozen := words.filter (fun w => w.2 != 0), left := strPostN s, post := strPostN s, slot := k, src := src
        freezeAt := none, next := 0, retry := false, order := st.order.filter (fun j => j != k) ++ [k] } }
      let s2 := (s1.setFld STR.STAT.STATE strPost).setFld STR.STAT.COMPLETE (putBit (s1.fld STR.STAT.COMPLETE) k false)
      if s.strata.intake.length < 256 then s2.event 0x0040 (src + 256 * k)
      else
        let s3 := (s2.event 0x0040 (src + 256 * k)).drawn
        { s3 with strata := { s3.strata with freezeAt := some (s.fld STR.HEAD.IDX, s.draw 136 % 2 ^ 32) } }
    | none => s.event 0x0040 (src + 256 * 0xFF)
  else s.event 0x0040 (src + 256 * 0xFF)

/-- A sample set of eight channel words is taken (R518). -/
def strataSample (vals : List Nat) (s : State) : State :=
  let st := s.strata
  let put := fun (t : Tab Nat) (k : Nat) => (upto 8).foldl (fun t n => tabSet (fun _ => 0) t (8 * k + n) (vals.getD n 0)) t
  if !s.flag STR.CTRL.WAVE_EN then s
  else if s.fld STR.STAT.STATE = strPost then
    if st.left = 0 then s
    else { s with strata := { st with
      frozen := put st.frozen (4096 + st.post - st.left), left := st.left - 1
      trigPcnt := if st.left = st.post then s.period.pcnt % 2 ^ 32 else st.trigPcnt } }
  else if s.fld STR.STAT.STATE = strArmed then
    let n := min 4096 (st.sets + 1)
    { s with strata := { st with ring := put st.ring st.wr, wr := (st.wr + 1) % 4096, sets := n } }.setFlag STR.STAT.PRE_READY (n == 4096)
  else s

/-- The recorder re-arms: PRE_READY waits for 4,096 new sets. -/
def strataRearm (s : State) : State :=
  { (s.setFlag STR.STAT.PRE_READY false).setFld STR.STAT.STATE strArmed with strata := { s.strata with sets := 0, frozen := [] } }

/-- R520: the POST sets are recorded, and the flush starts. -/
def execStrataPostDone (s : State) : Host.Outcome State Fault Refusal :=
  if s.fld STR.STAT.STATE = strPost ∧ s.strata.left = 0 then
    .next { s.setFld STR.STAT.STATE strFlush with strata := { s.strata with next := 0, retry := false } }
  else .next s

/-- Write `i` of a flush: its offset in the slot and its 32 bytes (R520). -/
def flushWrite (s : State) (i : Nat) : Nat × List Byte :=
  let st := s.strata
  let last := 4160 + st.post
  if i = 0 then (0, slotDesc s 1)
  else if i < 64 then
    let h := match st.freezeAt with | some x => x.1 | none => 0
    (32 * i, memRead st.mram (32 * ((h + ringLen - 64 + i) % ringLen)) 32)
  else if i < last then
    (32 * i, (upto 8).flatMap (fun n => leBytes 4 (tabGet (fun _ => 0) st.frozen (8 * (i - 64) + n))))
  else (0, slotDesc s 2)

/-- A chunk of at most 256 writes is requested and written; the flush ends with the second descriptor write. It starts once the
freeze event stands in the ring, and a requested thermal shutdown cuts it (R512). -/
def flushChunk (vhold : Nat) (s : State) : State :=
  let st := s.strata
  if s.fld STR.STAT.STATE ≠ strFlush ∨ st.freezeAt = none ∨ s.thm.sd.isSome = true then s
  else
    let total := 4161 + st.post
    let k := min 256 (total - st.next)
    let r := lssRequest .flush k st.slot vhold s
    if r.2 then
      let s1 := (upto k).foldl (fun (s : State) j =>
        let w := flushWrite s (st.next + j)
        { s with strata := { s.strata with mram := memWrite s.strata.mram (slotBase st.slot + w.1) w.2 } }) r.1
      let s2 := { s1 with strata := { s1.strata with next := st.next + k, retry := false } }
      if st.next + k = total then
        strataRearm ((s2.setFld STR.STAT.LOCKED (putBit (s2.fld STR.STAT.LOCKED) st.slot true)).setFld STR.STAT.COMPLETE
          (putBit (s2.fld STR.STAT.COMPLETE) st.slot true))
      else s2
    else { r.1 with strata := { r.1.strata with retry := true } }

/-- R520: the next flush chunk; a refused one waits for the next loess sample. -/
def execStrataFlushChunk (vhold : Nat) (s : State) : Host.Outcome State Fault Refusal :=
  .next (if s.strata.retry then s else flushChunk vhold s)

/-- Slots released by a write of SLOT_REL; the recorder re-arms, and PRE_READY clears (R519). A window that is being taken or flushed is
gone on with (R520, log 59). -/
def slotRelease (mask : Nat) (s : State) : State :=
  let was := s.fld STR.STAT.LOCKED
  let s1 := s.setFld STR.STAT.LOCKED (was &&& (15 ^^^ (mask % 16)))
  if was &&& (mask % 16) = 0 then s1
  else if s.fld STR.STAT.STATE = strArmed then strataRearm s1
  else s1.setFlag STR.STAT.PRE_READY false

/-- A request that refresh yields to waits: a group, a flush chunk, the thermal-shutdown record (R521). -/
def requestWaits (s : State) : Bool :=
  s.strata.intake != [] || s.strata.dropped != 0 || s.fld STR.STAT.STATE == strFlush || (s.thm.sd.isSome && !s.thm.recAsked)

/-- A refresh step is due: 17.12 h after the last one, and an hour after a refusal (R521), in 0.01 h. -/
def refreshDue (t : Nat) (s : State) : Bool :=
  decide (1712 ≤ t) && (match s.strata.refused with | some r => decide (r + 100 ≤ t) | none => true)

/-- R521: one 4 KiB block is rewritten with what it holds, unless another request waits; `hours` and `cent` are the powered time since
the last refresh step, in hours and 0.01 h. -/
def execStrataRefresh (hours : Fin 65536) (vhold : Nat) (s : State) (cent : Fin 100 := 0) : Host.Outcome State Fault Refusal :=
  if s.clodsUp = false then .next s else
  let s0 := s.setFld STR.REFRESH.HOURS hours.val
  let t := 100 * hours.val + cent.val
  if refreshDue t s0 = false ∨ requestWaits s0 = true then .next s0 else
  let r := lssRequest .refresh 128 0 vhold s0
  .next (if r.2 then
      let s1 := (r.1.setFld STR.REFRESH.BLOCK ((r.1.fld STR.REFRESH.BLOCK + 1) % 512)).setFld STR.REFRESH.HOURS 0
      { s1 with strata := { s1.strata with refused := none } }
    else { r.1 with strata := { r.1.strata with refused := some t } })

end Sys2Proof.Machine
end

