-- ==== Sys2Proof/Machine/Link.lean ====
section
/-!
DEFINITION. The hub's lanes and link layer (chapters 03 and 04): transmitter states, burst receiver, slots, admission, release,
management messages, PRBS and loopbacks.
-/
namespace Sys2Proof.Machine

def cltOff (l : Nat) : Nat := 0x200 * l

/-- The converter is blocked (R300). -/
def State.blocked (s : State) : Bool := s.flag EVR.CONV_STAT.BLOCKED

/-- Used slots of a lane. -/
def Lane.owned (x : Lane) : List (Nat × SlotRec) := x.slots.filter (fun r => r.2.own == .joining || r.2.own == .admitted)

/-- A cell of the lane is admitted; a released one is not, though its slot stays assigned to the next cycle boundary (R138). -/
def laneAdmitted (s : State) (l : Nat) : Bool := (s.lane l).slots.any (fun r => r.2.own == .admitted && !r.2.releasing)

/-- A cell of a lane is joining or admitted. -/
def Lane.busy (x : Lane) : Bool := x.owned.any (fun r => !r.2.releasing)
def laneBusy (s : State) (l : Nat) : Bool := (s.lane l).busy

/-- A cell of any lane is joining or admitted (R477, R122). -/
def anyBusy (s : State) : Bool := s.lanes.any (fun x => x.2.busy)

def admOpen (s : State) (l : Nat) : Bool := s.flag (CLT.LCTRL.ADM_OPEN.at (cltOff l))

/-- Quiet-run length for a reference delay (R127). -/
def quietRw (dref : Nat) : Nat := if dref ≤ 850 then 1 else if dref ≤ 1850 then 2 else 3

/-- One quiet run per 2^RANGE_EXP cycles; below 4 acts as 4, above 12 as 12 (R145). -/
def rangePeriod (s : State) : Nat := 2 ^ min 12 (max 4 (s.fld CLT.GCFG.RANGE_EXP))

/-- Number of the cycle now running, not reduced modulo 2^32 (UCNT and CYC_NUM are); none before the first anchor (R122). -/
def cycleNow (s : State) : Option Nat := if s.link.nextN = 0 then none else some (s.link.nextN - 1)

/-- Frame level of a lane: level 2 needs the LEVEL bit and behaviour level 2 (R68, R134). -/
def laneLevel (s : State) (l : Nat) : Nat := if s.flag (CLT.LCTRL.LEVEL.at (cltOff l)) && decide (2 ≤ s.beh) then 2 else 1

/-! ## Messages -/

def pushMsg (l : Nat) (m : MgmtMsg) (s : State) : State := s.setLane l { s.lane l with msgs := (s.lane l).msgs ++ [m] }

/-- Push a refusal into the 16-entry log; when it is full the oldest is dropped and OVF set (R145). -/
def pushRefusal (r : Refused) (s : State) : State :=
  let log := s.link.reflog ++ [r]
  if log.length ≤ 16 then { s with link := { s.link with reflog := log } }
  else { s with link := { s.link with reflog := log.drop 1 } }.setFlag CLT.REFLOG_INFO.OVF true

/-- REFUSE to a UID, with the log entry and the event (R134, R142). -/
def sendRefuse (l code uid offer beh : Nat) (s : State) : State :=
  let pl := [code, s.beh, s.fld IMG.INFO_LVL.COMPAT_MIN, s.fld IMG.INFO_LVL.COMPAT_MAX, laneLevel s l].map (BitVec.ofNat 8)
  let s1 := pushMsg l { addr := 2, msg := 0x02, uid := uid, payload := pl } s
  ((pushRefusal { lane := l, reason := code, offer := offer, beh := beh, uid := uid } s1).raise (CLT.LEVT.REFUSED.at (cltOff l))).event
    0x0010 (l + 256 * code + 2 ^ 32 * (uid % 2 ^ 32))

/-- Release the joining or admitted cell of a slot (R138); `message` is false when the lane carries no frame. -/
def releaseSlot (l k code : Nat) (message : Bool) (s : State) : State :=
  let x := s.lane l
  let r := x.slot k
  if r.own = .joining ∨ r.own = .admitted then
    if r.releasing then s
    else
      let s1 := s.setLane l { x.setSlot k { r with releasing := true } with xfers := x.xfers.filter (fun f => f.slot != k) }
      let s2 := if message then pushMsg l { addr := 1, slot := k, msg := 0x03, payload := [BitVec.ofNat 8 code] } s1 else s1
      ((gradeDrop r.cell code s2).raise (CLT.LEVT.RELEASED.at (cltOff l))).event 0x0011 (l + 256 * k + 65536 * code)
  else s

/-- Release every cell of a lane because its transmitter left RUN: no RELEASE is ever sent (R138). -/
def releaseLane (l : Nat) (s : State) : State :=
  (s.lane l).owned.foldl (fun s r => releaseSlot l r.1 0x10 false s) s

/-! ## Admission (R134) -/

/-- choose_cell_image: highest BEH_LEVEL in [cmin, cmax] whose window includes the hub's level; the earlier on a tie. -/
def chooseImage (beh cmin cmax : Nat) (imgs : List (List Byte)) : Option Nat :=
  let at_ := fun (b : List Byte) k => (b.getD k 0#8).toNat
  let step := fun (best : Option (Nat × Nat)) (p : List Byte × Nat) =>
    let lv := at_ p.1 0x0D
    if cmin ≤ lv ∧ lv ≤ cmax ∧ at_ p.1 0x0E ≤ beh ∧ beh ≤ at_ p.1 0x0F then
      match best with
      | none => some (lv, p.2)
      | some b => if b.1 < lv then some (lv, p.2) else some b
    else best
  (imgs.zipIdx.foldl step none).map (·.2)

/-- A slot that may be chosen: neither assigned, held nor quarantined. -/
def slotOpen (x : Lane) (k : Nat) : Bool := (x.slot k).own == .free && (x.slot k).quar.isNone

/-- The slot a decision gives an entry: its own if SLOT_FIXED, else the lowest open one that no used entry of the lane has
fixed. -/
def chooseSlot (s : State) (l : Nat) (e : CtEntry) : Option Nat :=
  let x := s.lane l
  if e.cfg.slotFixed then (if slotOpen x e.cfg.slot then some e.cfg.slot else none)
  else
    let fixed := ((usedEntries s).filter (fun u => u.2.cfg.lane == l && u.2.cfg.slotFixed)).map (fun u => u.2.cfg.slot)
    (upto 32).find? (fun k => slotOpen x k && !fixed.contains k)

/-- The reason a valid announcement is refused before a slot is looked for, or the mode it is admitted in: none normal,
some image index for loader mode. -/
def admissionCheck (s : State) (l : Nat) (e : CtEntry) (busy : Bool) (a : Announce) (ec : Int) : Except Nat (Option Nat) :=
  let beh := s.beh
  let img := chooseImage beh a.capMin a.capMax s.img.cellImgs
  if e.cfg.lane ≠ l then .error 0x02
  else if busy then .error 0x03
  else if ec < 0 then .error 0x04
  else if a.type ≠ e.cfg.type then .error 0x08
  else if a.beh = 0 then (match img with | none => .error 0x09 | some k => .ok (some k))
  else
    let code := if beh < a.compatMin ∨ a.compatMax < beh then 0x06
      else if a.beh < s.fld IMG.INFO_LVL.COMPAT_MIN ∨ s.fld IMG.INFO_LVL.COMPAT_MAX < a.beh then 0x07 else 0
    if code ≠ 0 then
      (match img with
       | some k => if s.flag CLT.GCFG.REIMAGE then .ok (some k) else .error code
       | none => .error code)
    else if a.offer < laneLevel s l then .error 0x05 else .ok none

/-- An entry is joining or admitted, or holds a slot from an earlier decision. -/
def entryBusy (s : State) (i : Nat) : Bool :=
  s.lanes.any (fun x => x.2.slots.any (fun r => r.2.cell == i && r.2.own != .free && !r.2.releasing))

/-- EQ_PRESET written at admission when the live one is zero: the adapted codes, VGA less the band offset that the burst was loaded
with, CTLE of ADM_PRESET_HI (R95). The instant is that of the decision (log 70). -/
def admissionPreset (s : State) (l : Nat) (a : Announce) : Nat :=
  let vga := (clampI 0 63 ((a.vga : Int) - a.adj)).toNat
  let ctle := bitsAt (s.rd (LNK.ADM_PRESET_HI.addr + lnkOff l)) 16 4
  (a.ph % 64) * 2 ^ 58 + vga * 2 ^ 52 + ctle * 2 ^ 48 + a.dfe % 2 ^ 48

/-- The admitting end of decide: level, delays and slot into the entry and the lane, and RANGE_ADMIT. -/
def admitCell (l i k : Nat) (a : Announce) (ec : Int) (mode : Option Nat) (s : State) : State :=
  let e := s.entry i
  let level := if mode.isNone then laneLevel s l else a.offer
  let jc := max 2 (s.fld CLT.GCFG.JOIN_CYC)
  let dref := s.fld CLT.DREF.D_REF
  let cfg := if e.cfg.eqPreset = 0 then { e.cfg with eqPreset := admissionPreset s l a } else e.cfg
  let cfg1 := if e.cfg.slotFixed then cfg else { cfg with slot := k }
  let s1 := s.setEntry i { cfg := cfg1, hub := { e.hub with delayEq := ec.toNat, dC := dref - ec.toNat, level := level, beh := a.beh } }
  let x := s1.lane l
  let r : SlotRec := { own := .held, cell := i, joinCyc := jc, loader := mode.isSome }
  let xf := match mode with | none => x.xfers | some m => x.xfers ++ [{ slot := k, img := m }]
  let pl := leBytes 2 i ++ leBytes 1 k ++ leBytes 1 level ++ leBytes 2 ec.toNat ++ leBytes 4 (unsignedOf 32 a.delta)
    ++ leBytes 1 s.beh ++ leBytes 1 (if mode.isSome then 1 else 0) ++ leBytes 1 jc
  pushMsg l { addr := 2, msg := 0x01, uid := a.uid, payload := pl } (s1.setLane l { x.setSlot k r with xfers := xf })

/-- decide (R134), with the live cell table as it stands. -/
def decideAdmission (l : Nat) (a : Announce) (s : State) : State :=
  match (usedEntries s).find? (fun u => u.2.cfg.uid == a.uid) with
  | none => sendRefuse l 0x01 a.uid a.offer a.beh s
  | some (i, e) =>
    let ec := roundHA (8 * a.delta) 165
    let refuse := fun code =>
      let s1 := if code = 0x03 then s.raise (CLT.LEVT.DUP_UID.at (cltOff l)) else s
      sendRefuse l code a.uid a.offer a.beh (s1.setHub i (fun h => { h with reason := code }))
    match admissionCheck s l e (entryBusy s i) a ec with
    | .error code => refuse code
    | .ok mode =>
      match chooseSlot s l e with
      | none => refuse 0x0A
      | some k => admitCell l i k a ec mode s

/-- R134: the boundary after a valid announcement. -/
def execAdmissionDecide (lane : Fin 128) (s : State) : Host.Outcome State Fault Refusal :=
  let l := lane.val
  match (s.lane l).ann with
  | none => .next s
  | some a => .next (decideAdmission l a (s.setLane l { s.lane l with ann := none }))

/-! ## Slots and cycles -/

/-- R122: is the running cycle quiet on a lane? -/
def cycleQuiet (s : State) (l : Nat) : Bool :=
  match cycleNow s with
  | none => false
  | some n => (s.lane l).quiet.contains n

/-- The running cycle ends a quiet run: admission slot 0 is open (R127). -/
def cycleRange (s : State) (l : Nat) : Bool :=
  match cycleNow s, (s.lane l).runStart with
  | some n, some b => cycleQuiet s l && decide (n = b + quietRw (s.fld CLT.DREF.D_REF) - 1)
  | _, _ => false

/-- The record of the present temperature band (R62). -/
def bandNow (s : State) : TBand := s.img.tband.getD (s.fld THM.STAT.BAND) {}

/-- Codes the burst receiver loads for a slot: the owner's live EQ_PRESET, or ADM_PRESET for an admission slot or an absent
cell, a released one among them (R138), with the band's offsets on CTLE and VGA (R92). -/
def presetFor (s : State) (l k : Nat) : Nat :=
  let r := (s.lane l).slot k
  let adm := s.rd (LNK.ADM_PRESET_LO.addr + lnkOff l) + 2 ^ 32 * s.rd (LNK.ADM_PRESET_HI.addr + lnkOff l)
  let eq := if k < 32 ∧ (r.own = .joining ∨ r.own = .admitted) ∧ r.releasing = false then (s.entry r.cell).cfg.eqPreset else adm
  let b := bandNow s
  let ctle := (clampI 0 15 ((bitsAt eq 48 4 : Nat) + b.ctleAdj)).toNat
  let vga := (clampI 0 63 ((bitsAt eq 52 6 : Nat) + b.vgaAdj)).toNat
  putBits (putBits eq 48 4 ctle) 52 6 vga

/-- R101: the receiver wakes 200 ns before the pulse of the next slot it must hear. -/
def execUsRxWake (lane : Fin 128) (s : State) : Host.Outcome State Fault Refusal :=
  .next (if s.isHub && s.clodsUp then s.setFlag (LNK.STAT.US_AWAKE.at (lnkOff lane.val)) true else s)

/-- A joining cell counts cycle `n` from its cycle s on, when the cycle was announced as not quiet (R132). -/
def countJoin (n : Nat) (open_ : Bool) (r : SlotRec) : SlotRec :=
  match r.startCyc with
  | some b => if b ≤ n ∧ open_ = true then { r with joined := r.joined + 1 } else r
  | none => r

/-- One slot at a cycle boundary: a held slot becomes joining, a released one is freed into quarantine, a joining one counts its
cycle, and an admitted cell's new cadence is expected from n mod 64 = 0 on (R126, R132, R134, R138). -/
def slotAtCycle (n tcUs : Nat) (open_ : Bool) (r : SlotRec) : SlotRec :=
  if r.releasing then { quar := some (4 * tcUs + 2) }
  else match r.own with
    | .held => countJoin n open_ { r with own := .joining }
    | .joining => countJoin n open_ r
    | .admitted => if n % 64 = 0 then { r with cad := r.cadNew } else r
    | .free => match r.quar with
      | some (q + 1) => { r with quar := some q }
      | _ => r

/-- A lane at the boundary at which cycle `n` starts; `awaits` says its mailbox message awaits a reply. -/
def laneAtCycle (n tcUs : Nat) (awaits : Bool) (x : Lane) : Lane :=
  { x with
    slots := tabMap noSlot x.slots (fun _ r => slotAtCycle n tcUs (x.loud.contains n) r)
    quiet := x.quiet.filter (fun q => decide (n ≤ q))
    loud := x.loud.filter (fun q => decide (n ≤ q))
    mbWait := if awaits then x.mbWait + 1 else x.mbWait }

/-- QUIET and RANGING of a lane's LSTAT (R145). -/
def laneQuietStat (l : Nat) (s : State) : State :=
  (s.setFlag (CLT.LSTAT.QUIET.at (cltOff l)) (cycleQuiet s l)).setFlag (CLT.LSTAT.RANGING.at (cltOff l)) (cycleQuiet s l)

/-- R122, R126, R140, R152, R153, R170: an upstream cycle boundary. Before the first anchor there is none. -/
def execUpstreamCycleBoundary (s : State) : Host.Outcome State Fault Refusal :=
  match s.link.nextAt with
  | none => .next s
  | some t =>
    let n := s.link.nextN
    let s1 := { s with
      link := { s.link with nextAt := some (t + 2000), nextN := n + 1, cut := false, lastAt := t }
      lanes := tabMap noLane s.lanes (fun l x => laneAtCycle n (tcNs s.tc / 1000) (s.fld (CLT.MSTAT.STATE.at (cltOff l)) == 2) x) }
    let s2 := s1.setFld CLT.UCNT.UCNT n
    let s3 := (s2.lanes.map Prod.fst).foldl (fun s l => laneQuietStat l s) s2
    .next (gradeCycle (5 * s.link.lastAt) (5 * t) s3)

/-- R138: a slot's Q cycles of quarantine have passed. -/
def execQuarantineEnd (lane : Fin 128) (slot : Fin 32) (s : State) : Host.Outcome State Fault Refusal :=
  let x := s.lane lane.val
  let r := x.slot slot.val
  .next (if r.quar = some 0 then s.setLane lane.val (x.setSlot slot.val { r with quar := none }) else s)

/-! ## Bursts (R130) -/

/-- One sign-sign LMS step on a stored preset (R94). -/
def refinePreset (mu : Int) (b : BurstObs) (eq : Nat) : Nat :=
  let step := fun (x : Int) => if mu < x then -1 else if x < -mu then 1 else 0
  let tap := fun (acc : Nat) (p : Int × Nat) =>
    putBits acc (6 * p.2) 6 (unsignedOf 6 (satS 6 (signedOf 6 (bitsAt acc (6 * p.2) 6) + step p.1)))
  let eq1 := (b.sumDfe.take 8).zipIdx.foldl tap eq
  let eq2 := putBits eq1 52 6 (clampI 0 63 ((bitsAt eq 52 6 : Nat) + step b.sumVga)).toNat
  let ph := bitsAt eq 58 6
  let ph' := if ph + 2 ≤ b.phEnd then ph + 1 else if b.phEnd + 2 ≤ ph then ph - 1 else ph
  putBits eq2 58 6 ph'

/-- The burst's CRC-32 over P[159:0] is valid (R128). -/
def burstCrcOk (p : Nat) : Bool := crc32 (leBytes 20 p) == bitsAt p 160 32

/-- The bursts of a search window: delimiters that match with their first bit `lo` to `hi` UI from T_p (R91, R134). -/
def windowed (lo hi : Int) (b : BurstObs) : List BurstRx :=
  b.rx.filter (fun r => delimOk r.delim.toNat && decide (lo ≤ r.at_) && decide (r.at_ ≤ hi))

/-- The headers and payloads of a burst's blocks, descrambled from the seed of R82. -/
def rxPlain (r : BurstRx) : List (Nat × Nat) := descrambleAll burstSeed (r.blks.map (fun (x : BitVec 66) => x.toNat))

/-- All its blocks carry the data sync header (R130). -/
def rxData (r : BurstRx) : Bool := (rxPlain r).all (fun x => x.1 == hdrData)

/-- P[191:0] (R128). -/
def rxPayload (r : BurstRx) : Nat := (rxPlain r).foldr (fun x a => x.2 + 2 ^ 64 * a) 0

/-- A burst of three test blocks (R104). -/
def rxTest (r : BurstRx) : Bool := (rxPlain r).all (fun x => x.1 == hdrCtl && x.2 % 256 == typeTest)

/-- A burst that was not accepted counts as missing for its owner, in a cycle in which one is expected (R130, R138); it was heard inside
the search window, or only outside it (R136). -/
def missBurst (l k : Nat) (due inside outside : Bool) (s : State) : State :=
  let x := s.lane l
  let r := x.slot k
  s.setLane l (x.setSlot k { r with
    missed := if due then r.missed + 1 else r.missed, heardOutside := r.heardOutside || outside, heardInside := r.heardInside || inside })

/-- The report bytes of an entry: bytes 12 to 15 read zero at level 1 (R70). -/
def reportBytes (level rep : Nat) : List Byte :=
  leBytes 12 rep ++ (if level = 2 then leBytes 4 (rep / 2 ^ 96) else List.replicate 4 0#8)

/-- The stored preset of cell `i` takes one step while REFINE_EN is set (R94). -/
def refineCell (l i : Nat) (b : BurstObs) (s : State) : State :=
  if s.flag (LNK.EQ_ADAPT.REFINE_EN.at (lnkOff l)) then
    let e := s.entry i
    s.setEntry i { e with cfg := { e.cfg with eqPreset := refinePreset (s.fld (LNK.EQ_ADAPT.MU_TH.at (lnkOff l))) b e.cfg.eqPreset } }
  else s

/-- An accepted report of the owner of slot `k` (R70, R94, R130, R136, R139). -/
def acceptReport (l k : Nat) (p : Nat) (offset : Int) (b : BurstObs) (s : State) : State :=
  let x := s.lane l
  let r := x.slot k
  let i := r.cell
  let rep := bitsAt p 32 128
  let joins := r.own == .joining
  let s1 := s.setHub i (fun h => { h with
    report := reportBytes h.level rep
    lastPcnt := s.period.pcnt % 2 ^ 32
    state := stateOfCode (bitsAt rep 28 3)
    neg := bitAt rep 31
    wear := if h.level = 2 ∧ r.loader = false then bitsAt rep 96 32 else h.wear
    admissions := if joins then min 255 (h.admissions + 1) else h.admissions
    reason := if joins then 0 else h.reason })
  let s2 := if joins then s1.onCopies (fun c => c.setGrade i { c.grade i with present := true, loader := r.loader }) else s1
  let cnt := if r.offCnt = 256 then 1 else r.offCnt + 1
  let sum := if r.offCnt = 256 then offset else r.offSum + offset
  let cad := bitsAt rep 70 2
  let s3 := s2.setLane l (x.setSlot k { r with
    own := .admitted, missed := 0, heardOutside := false, heardInside := false, cad := if joins then cad else r.cad, cadNew := cad
    offCnt := cnt, offSum := sum })
  let s4 := if joins then s3.raise (CLT.LEVT.ADMITTED.at (cltOff l)) else s3
  gradeAccept i rep (5 * (s.period.nomNs + b.sinceP)) (refineCell l i b s4)

/-- A burst in the report slot of a joining or admitted cell (R91, R130); `due` says that one is expected. Where none is expected and none
is found nothing is counted; a valid report is accepted all the same (log 70). An admitted cell's own report that is not accepted refines
the preset where its CRC-32 is valid (R94). -/
def reportBurst (l k : Nat) (due : Bool) (b : BurstObs) (s : State) : State :=
  let r := (s.lane l).slot k
  match windowed 58 134 b with
  | [] =>
    let outside := b.rx.any (fun x => delimOk x.delim.toNat)
    if due then
      missBurst l k true false outside ((s.count (LNK.BURST_MISS_CNT.COUNT.at (lnkOff l)) 1).raise (LNK.EVT.BURST_MISS.at (lnkOff l)))
    else s
  | x :: _ =>
    let p := rxPayload x
    let own := bitsAt p 0 4 == 1 && bitsAt p 4 5 == k && bitsAt p 9 12 == r.cell
    let refined := if burstCrcOk p && own && r.own == .admitted then refineCell l r.cell b s else s
    if !(rxData x) then missBurst l k due true false (refined.count (LNK.BLOCK_ERR_CNT.COUNT.at (lnkOff l)) 1)
    else if !burstCrcOk p then
      missBurst l k due true false (if r.own = .admitted then s.setHub r.cell (fun h => { h with errCnt := satAdd 16 h.errCnt 1 }) else s)
    else if own && bitsAt p 102 2 != 3 && (r.own == .admitted || (decide (1 ≤ r.joined) && decide (r.joined ≤ r.joinCyc))) then
      acceptReport l k p (x.at_ - 96) b s
    else missBurst l k due true false refined

/-- The slot has an owner whose bursts the hub still takes: joining from cycle s on, or admitted, and not being released (R132, R138). -/
def slotHeard (s : State) (l k : Nat) : Bool :=
  let r := (s.lane l).slot k
  (r.own == .admitted || (r.own == .joining && decide (1 ≤ r.joined))) && !r.releasing

/-- A burst is expected of a slot: an owner not being released, a cycle that is not quiet, that the cadence of an admitted cell does not
skip and that no move of the anchor cut short, and no far-end loopback on the lane (R108, R126, R127, R138). -/
def burstExpected (s : State) (l k : Nat) : Bool :=
  let r := (s.lane l).slot k
  let n := (cycleNow s).getD 0
  slotHeard s l k && !cycleQuiet s l && !s.link.cut && (r.own == .joining || n % cadDiv r.cad == 0) && loopback s l != 4

/-- The announcement window of admission slot 0: its limits on the first bit of the delimiter, 96 UI after the preamble start (R134). -/
def announceWindow (dref : Nat) : Int × Int := (-(330 * dref / 16 : Nat) - 38 + 96, 1500 + 96)

/-- A burst in the announcement window of admission slot 0 (R134). Wrong sync headers count as block errors (R130). -/
def announcementBurst (l : Nat) (b : BurstObs) (s : State) : State :=
  let w := announceWindow (s.fld CLT.DREF.D_REF)
  match windowed w.1 w.2 b with
  | [] => s
  | x :: more =>
    let p := rxPayload x
    let s1 := if (rxData x) then s else s.count (LNK.BLOCK_ERR_CNT.COUNT.at (lnkOff l)) 1
    if more != [] || !burstCrcOk p || bitsAt p 0 4 != 2 then
      (s1.count (CLT.COLL_CNT.COUNT.at (cltOff l)) 1).raise (CLT.LEVT.COLLISION.at (cltOff l))
    else if !(rxData x) then s1
    else
      let f := bitsAt p 32 128
      let a : Announce := {
        uid := bitsAt f 0 64, offer := bitsAt f 64 2, type := bitsAt f 66 2, beh := bitsAt f 68 8
        compatMin := bitsAt f 76 8, compatMax := bitsAt f 84 8, capMin := bitsAt f 92 8, capMax := bitsAt f 100 8
        delta := 96 - x.at_, adj := (s.lane l).adjLoaded, dfe := b.dfeEnd, vga := b.vgaEnd, ph := b.phEnd }
      (s1.setLane l { s1.lane l with ann := some a }).count (CLT.ANN_CNT.COUNT.at (cltOff l)) 1

/-- A management reply `p` in a granted admission slot (R137, R143, R144). -/
def replyBurst (l p : Nat) (s : State) : State :=
  if burstCrcOk p && bitsAt p 0 4 == 3 then
    let f := bitsAt p 32 128
    let x := s.lane l
    let slot := bitsAt p 4 5
    let msg := bitsAt f 0 8
    let awaiting := s.fld (CLT.MSTAT.STATE.at (cltOff l)) == 2
    let mine := awaiting && slot == bitsAt (memWord x.mbReq 0) 2 5 && bitsAt f 8 8 == bitsAt (memWord x.mbReq 0) 16 8
      && msg == (memWord x.mbReq 0 / 256 % 256) ||| 0x80
    if mine then
      let s1 := s.setLane l { x with mbReply := memWrite [] 0 (leBytes 16 f) }
      ((s1.setFld (CLT.MSTAT.STATE.at (cltOff l)) 3).setFld (CLT.MSTAT.RESULT.at (cltOff l)) 0).raise (CLT.LEVT.MGMT_DONE.at (cltOff l))
    else if msg == 0xA1 then
      match x.xfers.find? (fun g => g.slot == slot && g.ended) with
      | none => s
      | some g =>
        let st := bitsAt f 16 8
        let others := x.xfers.filter (fun h => h.slot != slot)
        if st = 0 then s.setLane l { x with xfers := others }
        else if st = 5 ∧ g.resends < 3 then
          s.setLane l { x with xfers := others ++ [{ g with next := bitsAt f 32 32, resends := g.resends + 1, ended := false }] }
        else releaseSlot l slot 0x0F true s
    else s
  else s

/-- A burst in an admission slot outside the announcement window: a test burst goes to the checker in service mode (R104), any other
with wrong sync headers is a block error (R130), and the rest may be replies. -/
def admissionBurst (l : Nat) (b : BurstObs) (s : State) : State :=
  match windowed 58 134 b with
  | [] => s
  | x :: _ =>
    if rxTest x && prbsMode s l == 2 then (rxPlain x).foldl (fun s y => prbsReceive l 56 (y.2 / 256) s) s
    else if !(rxData x) then s.count (LNK.BLOCK_ERR_CNT.COUNT.at (lnkOff l)) 1
    else if cycleQuiet s l || s.link.cut then s
    else replyBurst l (rxPayload x) s

/-- SD of a hub lane: the receiver's own detector, or the LSD pin where SD_PIN_EN admits it (R85, R109). CDR_LOCK shows whether the CDR
locked in the burst. -/
def burstStat (l : Nat) (b : BurstObs) (s : State) : State :=
  (s.setFlag (LNK.STAT.SD.at (lnkOff l)) (b.sd || (s.flag (LNK.CTRL.SD_PIN_EN.at (lnkOff l)) && b.lsd))).setFlag
    (LNK.STAT.CDR_LOCK.at (lnkOff l)) (b.rx.any (fun r => delimOk r.delim.toNat))

/-- R130, R134, R143: the search window of a slot closes. In raw mode the receiver takes unframed pattern, and in a near-end loopback
nothing from outside (R103, R107). -/
def execBurstReceived (lane : Fin 128) (slot : Fin 36) (b : BurstObs) (s : State) : Host.Outcome State Fault Refusal :=
  let l := lane.val
  let k := slot.val
  if !s.isHub || !s.clodsUp || loopback s l == 1 || loopback s l == 2 then .next s
  else if prbsMode s l = 1 then .next (prbsReceive l b.rawLen b.rawBits s)
  else
    let s1 := burstStat l b s
    if k < 32 then .next (if slotHeard s l k then reportBurst l k (burstExpected s l k) b s1 else s1)
    else if k = 32 ∧ cycleRange s l = true ∧ s.link.cut = false then .next (announcementBurst l b s1)
    else .next (admissionBurst l b s1)

/-- R136: JOIN_CYC cycles have passed without a confirming report. -/
def execJoinTimeout (lane : Fin 128) (slot : Fin 32) (s : State) : Host.Outcome State Fault Refusal :=
  let l := lane.val
  let r := (s.lane l).slot slot.val
  if r.own = .joining ∧ r.releasing = false ∧ r.joinCyc ≤ r.joined then
    let code := if r.heardOutside && !r.heardInside then 0x0C else 0x0B
    let e := s.entry r.cell
    let s1 := s.setLane l { (s.lane l).setSlot slot.val { r with releasing := true } with
      xfers := (s.lane l).xfers.filter (fun f => f.slot != slot.val) }
    .next (sendRefuse l code e.cfg.uid e.hub.level e.hub.beh (gradeDrop r.cell code s1))
  else .next s

/-- R138: RELEASE_MISS consecutive expected bursts are missing; values below 8 act as 8. -/
def execReleaseMiss (lane : Fin 128) (slot : Fin 32) (s : State) : Host.Outcome State Fault Refusal :=
  let l := lane.val
  let r := (s.lane l).slot slot.val
  .next (if max 8 (s.fld (CLT.LCTRL.RELEASE_MISS.at (cltOff l))) ≤ r.missed then releaseSlot l slot.val 0x0D true s else s)

/-- R139: after 256 bursts the mean offset exceeds ±8 UI: TIMING_ADJ with the negated mean, rounded to whole UI. -/
def execTimingAdjTrigger (lane : Fin 128) (slot : Fin 32) (s : State) : Host.Outcome State Fault Refusal :=
  let l := lane.val
  let x := s.lane l
  let r := x.slot slot.val
  if r.own = .admitted ∧ r.releasing = false ∧ r.offCnt = 256 ∧ (8 * 256 < r.offSum ∨ r.offSum < -(8 * 256)) then
    let adj := -(roundHA r.offSum 256)
    .next (pushMsg l { addr := 1, slot := slot.val, msg := 0x04, payload := leBytes 4 (unsignedOf 32 adj) }
      (s.setLane l (x.setSlot slot.val { r with offCnt := 0, offSum := 0 })))
  else .next s

/-- R144: MGMT_TO cycles without a reply: resend with the same TAG, or end with a timeout. -/
def execMgmtTimeout (lane : Fin 128) (s : State) : Host.Outcome State Fault Refusal :=
  let l := lane.val
  let o := cltOff l
  if s.fld (CLT.MSTAT.STATE.at o) = 2 ∧ max 2 (s.fld CLT.GCFG.MGMT_TO) ≤ (s.lane l).mbWait then
    if s.fld (CLT.MSTAT.TRIES.at o) ≤ s.fld CLT.GCFG.MGMT_RETRY then .next (s.setFld (CLT.MSTAT.STATE.at o) 1)
    else .next (((s.setFld (CLT.MSTAT.STATE.at o) 3).setFld (CLT.MSTAT.RESULT.at o) 1).raise (CLT.LEVT.MGMT_TIMEOUT.at o))
  else .next s

/-! ## Lane transmitter (R100) -/

/-- R100: 64 blocks after the training burst, `dt` ns after the last boundary. -/
def execLaneWakeDone (lane : Fin 128) (s : State) (dt : Nat := 0) : Host.Outcome State Fault Refusal :=
  let l := lane.val
  let s0 := s.fresh
  if dsState s l = dsWake ∧ (s.lane l).wire.start + 64 ≤ blockNow dt s then
    .next ((laneTo l (blockNow dt s) s0).setFld (LNK.STAT.DS_STATE.at (lnkOff l)) dsRun)
  else .next s0

/-- DS_STATE after LNK.CTRL, LCTRL or the quad changed: OFF to RUN with the quad ready and DS_EN, any to OFF without DS_EN, RUN to SLEEP
with DS_SLEEP set, no admitted cell and admission closed, SLEEP to WAKE when DS_SLEEP is clear or admission is open; leaving RUN
releases the lane's cells (R100, R138). Block `b` is next: a stream that starts starts there, a waking one with the training burst. -/
def dsUpdate (l b : Nat) (s : State) : State :=
  let o := lnkOff l
  let en := s.flag (LNK.CTRL.DS_EN.at o)
  let ready := bitAt (s.fld SYS.QUAD_STAT.QUAD_RDY) (l / 4)
  let sleep := s.flag (LNK.CTRL.DS_SLEEP.at o)
  let st := dsState s l
  let st' := if !en then dsOff
    else if st = dsOff then (if ready then dsRun else dsOff)
    else if st = dsRun ∧ sleep = true ∧ laneAdmitted s l = false ∧ admOpen s l = false then dsSleep
    else if st = dsSleep ∧ (sleep = false ∨ admOpen s l = true) then dsWake
    else st
  let w := (s.lane l).wire
  let s0 := if st = dsOff ∧ st' = dsRun then s.setLane l { s.lane l with wire := wireStart b w }
    else if st = dsSleep ∧ st' = dsWake then s.setLane l { s.lane l with wire := { wireStart b w with train := true, start := b + 2 } }
    else s
  let s1 := s0.setFld (LNK.STAT.DS_STATE.at o) st'
  if st = dsRun ∧ st' ≠ dsRun then releaseLane l s1 else s1

/-! ## Writes of the LNK block in the hub (R100 to R109) -/

/-- A loopback the hub may enter now (R107). -/
def loopbackOk (s : State) (l lb : Nat) : Bool :=
  match lb with
  | 1 => !laneAdmitted s l && !admOpen s l
  | 2 => !laneAdmitted s l && !admOpen s l
  | 4 => s.blocked
  | _ => true

/-- A PRBS generator starts from a register value the spec leaves open, not zero in the bits its pattern has (log 14); the checker
starts afresh. -/
def prbsSeed (l : Nat) (s : State) : State :=
  let n := match prbsPoly (prbsPattern s l) with | some p => p.1 | none => 31
  let x := s.lane l
  (s.setLane l { x with wire := { x.wire with gen := 1 + s.draw 104 % (2 ^ n - 1), sinceInj := 0 }, chk := {} }).drawn

/-- The counters that CLR zeroes (R105, R109). -/
def prbsZero (l : Nat) (s : State) : State :=
  let o := lnkOff l
  let s1 := s.setLane l { s.lane l with prbsBits := 0 }
  let s2 := (s1.setFld (LNK.PRBS_ERR.ERR.at o) 0).setFld (LNK.PRBS_BITS_HI.BITS_HI.at o) 0
  (s2.setFld (LNK.BURST_MISS_CNT.COUNT.at o) 0).setFld (LNK.BLOCK_ERR_CNT.COUNT.at o) 0

/-- A write of PRBS_CTRL takes effect: a change of mode or pattern starts the generator and the checker, and a checker that does not
run is not locked (R103 to R105). -/
def prbsCtrl (l a w : Nat) (s : State) : State :=
  let mode := bitsAt w 4 2
  let on := mode == 1 || mode == 2
  let s0 := s.store a w
  let s1 := if injGap s0 l = 0 then s0.setLane l { s0.lane l with wire := { (s0.lane l).wire with sinceInj := 0 } } else s0
  let s2 := if on && (mode != prbsMode s l || bitsAt w 0 4 != s.fld (LNK.PRBS_CTRL.PATTERN.at (lnkOff l))) then
      (prbsSeed l s1).setFlag (LNK.STAT.PRBS_LOCK.at (lnkOff l)) false else s1
  let s3 := if on && bitAt w 10 then s2
    else (s2.setLane l { s2.lane l with chk := {} }).setFlag (LNK.STAT.PRBS_LOCK.at (lnkOff l)) false
  if bitAt w 11 then prbsZero l s3 else s3

/-- One more error waits for the next pattern bit sent (R106). -/
def injectBit (l : Nat) (s : State) : State :=
  let x := s.lane l
  s.setLane l { x with wire := { x.wire with flips := x.wire.flips + 1 } }

/-- A write to lane `l`'s LNK registers in the hub, `dt` ns after the last boundary: what the lane has sent by then it sent before. -/
def wrLnkHub (l a w dt : Nat) (s0 : State) : WriteResult :=
  let s := laneTo l (blockNow dt s0) s0
  let o := lnkOff l
  let off := a - o
  if off = LNK.CTRL.addr then
    let lb := bitsAt w 7 3
    let st := dsState s l
    if lb ≠ s.fld (LNK.CTRL.LOOPBACK.at o) ∧ loopbackOk s l lb = false then .error causeOther
    else if bitAt w 0 && bitAt w 5 && st == dsRun && (laneAdmitted s l || admOpen s l) then .error causeOther
    else
      let s1 := s.store a (putBit w 10 (s.flag (LNK.CTRL.EQ_FREEZE.at o)))
      .ok (dsUpdate l (blockNow dt s) (s1.setFlag (LNK.STAT.LB_ACTIVE.at o) (lb == 1 || lb == 2 || lb == 4)))
  else if off = LNK.PRBS_CTRL.addr then
    let mode := bitsAt w 4 2
    let old := s.fld (LNK.PRBS_CTRL.MODE.at o)
    let tgt := bitsAt w 17 2
    if mode = 1 ∧ old ≠ 1 ∧ s.blocked = false then .error causeDeblocked
    else if mode = 1 ∧ old ≠ 1 ∧ laneAdmitted s l = true then .error causeOther
    else if (tgt = 1 ∨ tgt = 2) ∧ s.blocked = false then .error causeDeblocked
    else .ok (prbsCtrl l a w s)
  else if off = LNK.PRBS_INJ.addr then
    if bitAt w 0 then
      match s.fld (LNK.PRBS_CTRL.INJ_TGT.at o) with
      | 0 => .ok (injectBit l s)
      | 3 => .ok s
      | t => if s.blocked then .ok (s.setLane l { s.lane l with injFrames := (s.lane l).injFrames ++ [t] }) else .error causeDeblocked
    else .ok s
  else .ok (s.store a w)

/-- Raw mode of a cell: the next `n` bits of its generator, to the pins or, in a near-end loopback, to the cell's own checker (R103,
R107). LTX_EN stays as it stands (log 156). -/
def cellRaw (n : Nat) (s : State) : State :=
  let x := s.lane 0
  let g := genBits (genOn s 0) (prbsPattern s 0) (injGap s 0) n x.wire
  let s1 := s.setLane 0 { x with wire := g.2 }
  if nearLoop s 0 then prbsReceive 0 n g.1 s1 else s1.emit (.raw 0 n g.1)

/-- R106: 2^INJ_EXP pattern bits have passed and one is inverted: what a hub lane sends up to `dt` ns after the last boundary goes out; a cell
in raw mode sends the bits up to the inverted one. 0 disables, 1 to 9 act as 10. -/
def execPrbsPeriodicInject (lane : Fin 128) (s : State) (dt : Nat := 0) : Host.Outcome State Fault Refusal :=
  let l := lane.val
  let gap := injGap s l
  let s0 := s.fresh
  if gap = 0 ∨ genOn s l = false then .next s0
  else if s.isCell then .next (if l = 0 ∧ prbsMode s 0 = 1 then cellRaw (gap - (s.lane 0).wire.sinceInj % gap) s0 else s0)
  else .next (laneTo l (blockNow dt s) s0)

/-- R105: 256 error-free bits after seeding. -/
def execPrbsCheckerLock (lane : Fin 128) (s : State) : Host.Outcome State Fault Refusal :=
  let l := lane.val
  .next (if prbsOn s l ∧ (s.lane l).chk.clean = 256 then s.setFlag (LNK.STAT.PRBS_LOCK.at (lnkOff l)) true else s)

/-- R105: with the `n` pattern bits `w` that have arrived last, 64 errors stand within 256 bits; the checker reseeds. -/
def execPrbsCheckerLockLost (lane : Fin 128) (n w : Nat) (s : State) : Host.Outcome State Fault Refusal :=
  let l := lane.val
  let s1 := prbsReceive l n w s
  if s.flag (LNK.STAT.PRBS_LOCK.at (lnkOff l)) = true ∧ 64 ≤ popcount 256 (s1.lane l).chk.win then
    .next (((s1.setLane l { s1.lane l with chk := {} }).setFlag (LNK.STAT.PRBS_LOCK.at (lnkOff l)) false).raise (LNK.EVT.PRBS_LOST.at (lnkOff l)))
  else .next s

/-! ## Writes of the CLT block (R145) -/

/-- A write to lane `l`'s CLT registers. -/
def wrCltLane (l a w dt : Nat) (s : State) : WriteResult :=
  let o := cltOff l
  let off := a - o
  if off = CLT.LCTRL.addr then
    if laneBusy s l && bitAt w 0 != s.flag (CLT.LCTRL.LEVEL.at o) then .error causeOther
    else
      let s1 := dsUpdate l (blockNow dt s) ((laneTo l (blockNow dt s) s).store a w)
      .ok (if bitAt w 4 then releaseSlot l (s.fld (CLT.LREL.RELEASE_SLOT.at o)) 0x0E true s1 else s1)
  else if off = CLT.MCTRL.addr then
    let st := s.fld (CLT.MSTAT.STATE.at o)
    if bitAt w 0 && (st == 0 || st == 3) then
      if s.flag (CLT.LCTRL.MGMT_EN.at o) then
        .ok ((s.setFld (CLT.MSTAT.STATE.at o) 1).setFld (CLT.MSTAT.TRIES.at o) 0)
      else .ok ((s.setFld (CLT.MSTAT.STATE.at o) 3).setFld (CLT.MSTAT.RESULT.at o) 2)
    else .ok s
  else .ok (s.store a w)

/-- A write to the CLT block. -/
def wrCLT (a w dt : Nat) (s : State) : WriteResult :=
  if a = CLT.DREF.addr then
    if anyBusy s then .error causeOther
    else .ok { s.store a w with link := { s.link with anchorDue := true } }
  else if a = CLT.REFLOG_POP.addr then
    .ok (if bitAt w 0 then { s with link := { s.link with reflog := s.link.reflog.drop 1 } } else s)
  else if a = CLT.REFLOG_INFO.addr then
    .ok (s.store a w)
  else if 0x141000 ≤ a ∧ a < 0x151000 then wrCltLane ((a - 0x141000) / 0x200) a w dt s
  else if 0x160000 ≤ a ∧ a < 0x168000 then
    let l := (a - 0x160000) / 0x100
    let j := (a - 0x160000) % 0x100
    if j < 0x80 then
      let st := s.fld (CLT.MSTAT.STATE.at (cltOff l))
      if st = 1 ∨ st = 2 then .error causeBusy
      else .ok (s.setLane l { s.lane l with mbReq := memWrite (s.lane l).mbReq j (leBytes 4 w) })
    else .ok s
  else .ok (s.store a w)

/-- Live reads of the CLT block. -/
def rdCLT (a : Nat) (s : State) : Nat :=
  let head := s.link.reflog.head?
  if a = CLT.GCFG.addr then putBits (s.rd a) 0 2 (quietRw (s.fld CLT.DREF.D_REF))
  else if a = CLT.REFLOG_INFO.addr then
    let ovf := s.fld CLT.REFLOG_INFO.OVF * 2 ^ 30
    match head with
    | none => ovf
    | some r => 2 ^ 31 + ovf + (r.lane % 128) * 2 ^ 23 + (r.reason % 256) * 2 ^ 15 + (r.offer % 4) * 2 ^ 13 + (r.beh % 256) * 2 ^ 5
  else if a = CLT.REFLOG_UID_LO.addr then (match head with | none => 0 | some r => r.uid % 2 ^ 32)
  else if a = CLT.REFLOG_UID_HI.addr then (match head with | none => 0 | some r => r.uid / 2 ^ 32 % 2 ^ 32)
  else if CLT.LEVT_SUM.addr ≤ a ∧ a < CLT.LEVT_SUM.addr + 16 then
    let i := (a - CLT.LEVT_SUM.addr) / 4
    (upto 32).foldl (fun w j => putBit w j (s.rd (CLT.LEVT.addr + cltOff (32 * i + j)) != 0)) 0
  else if 0x141000 ≤ a ∧ a < 0x151000 then
    let l := (a - 0x141000) / 0x200
    let off := (a - 0x141000) % 0x200 + 0x141000
    let x := s.lane l
    if off = CLT.LSTAT.addr then
      let n := x.owned.length
      putBits (putBits (s.rd a) 24 6 (32 - n)) 16 6 n
    else if off = CLT.SLOTMAP.addr then x.owned.foldl (fun w r => putBit w r.1 true) 0
    else if off = CLT.QUARMAP.addr then (x.slots.filter (fun r => r.2.quar.isSome)).foldl (fun w r => putBit w r.1 true) 0
    else if CLT.SLOT_OWNER.addr ≤ off ∧ off < CLT.SLOT_OWNER.addr + 64 then
      let j := (off - CLT.SLOT_OWNER.addr) / 4
      let half := fun k =>
        let r := x.slot k
        match r.own with
        | .joining => 0x8000 + 1 * 0x2000 + r.cell % 4096
        | .admitted => 0x8000 + 2 * 0x2000 + r.cell % 4096
        | _ => 0
      half (2 * j) + 65536 * half (2 * j + 1)
    else s.rd a
  else if 0x160000 ≤ a ∧ a < 0x168000 then
    let l := (a - 0x160000) / 0x100
    let j := (a - 0x160000) % 0x100
    if j < 0x80 then memWord (s.lane l).mbReq j
    else if j < 0x90 then memWord (s.lane l).mbReply (j - 0x80) else 0
  else s.rd a

/-- Live reads of the LNK block in the hub: fields marked cell read zero (R109). -/
def rdLnkHub (a : Nat) (s : State) : Nat :=
  let l := (a - 0x100000) / 0x800
  let off := (a - 0x100000) % 0x800 + 0x100000
  if off = LNK.PRBS_BITS_LO.addr then (s.lane l).prbsBits % 2 ^ 32
  else if off = LNK.CTRL.addr then putBit (s.rd a) 10 false
  else if off = LNK.C_ADM.addr ∨ off = LNK.C_EQ.addr ∨ off = LNK.C_CNT.addr ∨ off = LNK.C_MISS.addr ∨ off = LNK.C_ERR.addr then 0
  else s.rd a

end Sys2Proof.Machine
end

