-- ==== Sys2Proof/Machine/Modulate.lean ====
section
/-!
DEFINITION. Modulation and selection of one arm in one period (R158 to R169), as functions of one Loam copy. Times are in
1/5,120 ns, in which 2^−10 ns is 5 and 0.2 ns is 1,024.
-/
namespace Sys2Proof.Machine

/-! ## Arm quantities (R172) -/

/-- 1.0 pu in Q7.24. -/
def onePu : Int := 2 ^ 24

/-- Saturating Q7.24 sum of a list. -/
def sumSat (xs : List Int) : Int := satS 32 (xs.foldl (· + ·) 0)

/-- Calibrated voltages of the arm's ranked cells, as the array holds them (R172). -/
def rankedV (c : Copy) (a : Nat) : List Int := (c.arm a).rank.map (fun x => (c.grade x.2).vArr)

/-- A cell's voltage at a boundary: the array's for a ranked cell, else that of its latest report. -/
def heldV (c : Copy) (a i : Nat) : Int := if (c.arm a).rank.any (fun x => x.2 == i) then (c.grade i).vArr else (c.grade i).vcal

/-- The six arm quantities at a boundary; with NEEDED zero all but VMEAN read zero. -/
def armQuantities (s : State) (c : Copy) (a : Nat) : List Int :=
  let vs := rankedV c a
  let needed := (s.img.arms.getD a {}).needed
  let sum := vs.foldl (· + ·) 0
  let vmean := if vs.isEmpty then onePu else satS 32 (roundHA sum vs.length)
  if needed = 0 then [0, 0, vmean, 0, 0, 0]
  else
    let dv := fun (x : Int) => satS 32 (roundHA x needed)
    let sq := (vs.map (fun v => roundHA (v * v) (2 ^ 24))).foldl (· + ·) 0
    let ins := ((usedEntries s).filter (fun u => u.2.cfg.arm == a && u.2.hub.state == .inserted && (c.grade u.1).present)).foldl
      (fun acc u => if u.2.hub.neg then acc - heldV c a u.1 else acc + heldV c a u.1) 0
    [dv sum, dv sq, vmean, dv ins, dv (vs.length * onePu), dv ((c.arm a).level * 16)]

/-! ## Level and direction (R159, R160, R164) -/

/-- What modulation makes of the arm reference: level Q11.20, polarity, and the flags SAT, VMEAN_LOW, NEG_HB. -/
structure LevelOut where
  level : Int := 0
  polNeg : Bool := false
  sat : Bool := false
  vmeanLow : Bool := false
  negHb : Bool := false
  deriving DecidableEq, Repr

def armLevel (s : State) (c : Copy) (a : Nat) (vref : Int) : LevelOut :=
  let topo := s.img.arms.getD a {}
  let norm := s.flag (MOD.ARM_CFG.NORM.at (modOff a))
  let vm0 := if norm then (c.arm a).quant.getD 2 onePu else onePu
  let low := decide (4 * vm0 < onePu)
  let vm := if low then onePu / 4 else vm0
  let l0 := roundHA (vref * topo.needed * 2 ^ 20) vm.toNat
  let l1 := clampI (-(1024 * 2 ^ 20)) (1024 * 2 ^ 20) l0
  let neg := decide (l1 < 0) && !topo.fullBridge
  let l2 := if neg then 0 else l1
  { level := l2
    polNeg := if l2 < 0 then true else if 0 < l2 then false else (c.arm a).polNeg
    sat := l0 != l1, vmeanLow := low, negHb := neg }

/-- i′ of the arm: the calibrated sample of ISRC, negated under ISIGN (R164). -/
def armCurrent (s : State) (a : Nat) (cal : Nat → Int) : Int :=
  let x := cal (s.fld (MOD.ARM_CFG.ISRC.at (modOff a)))
  if s.flag (MOD.ARM_CFG.ISIGN.at (modOff a)) then satS 32 (-x) else x

/-- Direction and HELD from p × i′ against the dead band (R164). -/
def armDirection (idb : Int) (was polNeg : Bool) (i : Int) : Bool × Bool :=
  let x := if polNeg then -i else i
  if idb < x then (true, false) else if x < -idb then (false, false) else (was, true)

/-! ## Selection (R165, R166) -/

/-- A cell as selection sees it. -/
structure Cand where
  key : Nat
  cell : Nat
  pend : Bool
  deriving DecidableEq, Repr

/-- R165: is `u` preferred to `v`? -/
def preferred (charging : Bool) (u v : Cand) : Bool :=
  if u.pend != v.pend then !u.pend
  else if u.key ≠ v.key then (if charging then decide (u.key < v.key) else decide (v.key < u.key))
  else decide (u.cell < v.cell)

/-- Insert into a list kept from most to least preferred. -/
def prefInsert (charging : Bool) (x : Cand) : List Cand → List Cand
  | [] => [x]
  | y :: t => if preferred charging x y then x :: y :: t else y :: prefInsert charging x t

def prefSort (charging : Bool) (xs : List Cand) : List Cand := xs.foldr (prefInsert charging) []

/-- The apply set I and the rest O, each from most to least preferred. -/
structure IO where
  ins : List Cand
  out : List Cand
  deriving DecidableEq, Repr

/-- Move cells until |I| = m, at most `fuel` of them. -/
def fitSize (charging : Bool) (m : Nat) : Nat → IO → IO
  | 0, io => io
  | fuel + 1, io =>
    if m < io.ins.length then
      match io.ins.getLast? with
      | none => io
      | some w => fitSize charging m fuel { ins := io.ins.dropLast, out := prefInsert charging w io.out }
    else if io.ins.length < m then
      match io.out with
      | [] => io
      | b :: o => fitSize charging m fuel { ins := prefInsert charging b io.ins, out := o }
    else io

/-- Swaps, at most `fuel` of them: the number made and the sets after them. -/
def swapLoop (charging : Bool) (band : Int) : Nat → Nat → IO → Nat × IO
  | 0, k, io => (k, io)
  | fuel + 1, k, io =>
    match io.ins.getLast?, io.out with
    | some w, b :: o =>
      let gap : Int := if charging then (w.key : Int) - b.key else (b.key : Int) - w.key
      if (w.pend && !b.pend) || decide (band < gap) then
        swapLoop charging band fuel (k + 1) { ins := prefInsert charging b io.ins.dropLast, out := prefInsert charging w o }
      else (k, io)
    | _, _ => (k, io)

/-- The remainder edge of a period. -/
inductive Edge where
  | none
  | rising
  | falling
  deriving DecidableEq, Repr

/-- m, edge, u and r by the first row of R162 that applies. Times in 1/5,120 ns; `insBefore` counts the eligible cells inserted
with polarity p at the end of the previous period. -/
def remainder (frac : Bool) (n insBefore : Nat) (q t unit tc : Int) : Nat × Edge × Int × Int :=
  if frac then
    if 2 * q < unit then (n, .none, 0, 0)
    else if 2 * t - unit ≤ 2 * q then (n + 1, .none, 0, t)
    else if n + 1 ≤ insBefore then
      let u := clampI 1 (tc / unit - 1) (roundHA q unit.toNat)
      (n + 1, .falling, u, u * unit)
    else
      let u := clampI 1 (tc / unit - 1) (roundHA (t - q) unit.toNat)
      (n, .rising, u, t - u * unit)
  else if 2 * q < t then (n, .none, 0, 0) else (n + 1, .none, 0, t)

/-- A command word's content for one cell (R115). -/
structure CellCmd where
  cell : Nat
  /-- STATE code of R115 -/
  code : Nat
  toffs : Nat := 0
  recharge : Bool := false
  deriving DecidableEq, Repr

/-- What one arm's selection gives. -/
structure SelectOut where
  cmds : List CellCmd := []
  carry : Int := 0
  xPrev : Option Nat := none
  m : Nat := 0
  edge : Edge := .none
  u : Int := 0
  swaps : Nat := 0
  short : Bool := false
  eligible : Nat := 0
  ranked : Nat := 0
  deriving DecidableEq, Repr

/-- The period's selection inputs. -/
structure SelectIn where
  frac : Bool
  charging : Bool
  polNeg : Bool
  level : Int
  carry : Int
  xPrev : Option Nat
  t : Int
  unit : Int
  tc : Int
  band : Int
  swapMax : Nat
  deriving DecidableEq, Repr

/-- R166: select(arm, period). `inserted` says a cell's command at the end of the previous period was insertion with the
polarity of this one. -/
def selectArm (x : SelectIn) (ranked : Nat) (elig : List Cand) (inserted : Nat → Bool) : SelectOut :=
  let mag : Nat := x.level.natAbs
  let n0 : Nat := mag / 2 ^ 20
  let f : Int := ((mag % 2 ^ 20 : Nat) : Int)
  let q0 : Int := if x.level = 0 then 0 else 5 * (roundHA (f * (x.tc / 5)) (2 ^ 20)) + 5 * x.carry
  let e := elig.length
  let want := if x.frac then decide (x.unit ≤ 2 * q0) else decide (x.t ≤ 2 * q0)
  let need := if want then n0 + 1 else n0
  let short := decide (e < need)
  let n := if short then min n0 e else n0
  let q := if short then 0 else q0
  let sorted := prefSort x.charging elig
  let ins := sorted.filter (fun c => inserted c.cell)
  let out := sorted.filter (fun c => !inserted c.cell)
  let rem := remainder x.frac n ins.length q x.t x.unit x.tc
  let m : Nat := rem.1
  let edge : Edge := rem.2.1
  let u : Int := rem.2.2.1
  let r : Int := rem.2.2.2
  let io := fitSize x.charging m (e + 1) { ins := ins, out := out }
  let sw := swapLoop x.charging x.band x.swapMax 0 io
  let swaps : Nat := sw.1
  let io2 : IO := sw.2
  let notPrev := fun (c : Cand) => some c.cell != x.xPrev
  let pick : Option Cand := match edge with
    | .none => none
    | .falling => (match (io2.ins.filter notPrev).getLast? with | some c => some c | none => io2.ins.getLast?)
    | .rising => (match (io2.out.filter notPrev).head? with | some c => some c | none => io2.out.head?)
  let xc : Option Nat := pick.map (fun c => c.cell)
  let insCode := if x.polNeg then 4 else 3
  let insCmd := fun (c : Cand) => if some c.cell = xc ∧ edge = .falling then ({ cell := c.cell, code := 2, toffs := u.toNat } : CellCmd) else { cell := c.cell, code := insCode }
  let outCmd := fun (c : Cand) => if some c.cell = xc ∧ edge = .rising then ({ cell := c.cell, code := insCode, toffs := u.toNat } : CellCmd) else { cell := c.cell, code := 2 }
  { cmds := io2.ins.map insCmd ++ io2.out.map outCmd
    carry := if short then 0 else roundHA (q - r) 5
    xPrev := xc
    m := m, edge := edge, u := u, swaps := swaps, short := short, eligible := e, ranked := ranked }

/-- The commanded state and sign a command code ends the period in; the hold code keeps them. -/
def cmdEnds (code : Nat) (st : CellState) (neg : Bool) : CellState × Bool :=
  match code with
  | 1 => (.blocked, false)
  | 2 => (.bypassed, false)
  | 3 => (.inserted, false)
  | 4 => (.inserted, true)
  | _ => (st, neg)

/-! ## Recharge (R156) and the words of excluded cells (R151, R167) -/

/-- Candidates for recharge, in ascending K, then index: cells to which no condition other than 0x41, 0x46 and 0x47 applies; a
dormant cell normally reports low energy and a reduced cadence too (log 16). -/
def rechargeCandidates (s : State) (c : Copy) (a : Nat) : List Nat :=
  let alone := fun (e : CtEntry) (g : Grade) =>
    match exclusion e g with
    | some code => (code == 0x41 || code == 0x46 || code == 0x47) && decide (0 ≤ g.vcal) && decide (g.vcal < 2 ^ 25)
    | none => false
  let xs := (usedEntries s).filter (fun u => u.2.cfg.arm == a && alone u.2 (c.grade u.1))
  ((xs.map (fun u => ((c.grade u.1).key, u.1))).foldr rankInsert []).map (·.2)

/-- Cells of an arm in recharge. -/
def recharging (s : State) (c : Copy) (a : Nat) : List Nat :=
  ((usedEntries s).filter (fun u => u.2.cfg.arm == a && (c.grade u.1).recharge.isSome)).map (·.1)

/-- A recharging cell's word in one period (R156). -/
def rechargeCmd (idb i : Int) (full : Bool) (cell : Nat) : CellCmd :=
  if idb < i then { cell := cell, code := 3, recharge := true }
  else if full && decide (i < -idb) then { cell := cell, code := 4, recharge := true }
  else { cell := cell, code := 2 }

/-- The word of a cell outside selection (R151): HOLD, BLOCK or BYPASS by its exclusion; must-bypass cells BYPASS. -/
def excludedCode (e : CtEntry) (g : Grade) : Nat :=
  match exclusion e g with
  | some 0x43 => 0
  | some 0x42 => 0
  | some 0x53 => 1
  | some 0x45 => 1
  | _ => 2

end Sys2Proof.Machine
end

