-- ==== Sys2Proof/Machine/Engine.lean ====
section
/-!
DEFINITION. The control engine in one period (chapter 06 and R213 to R235): banks and commits, macro commands, injection, the
evaluation of the inner and the outer graph, sinks, capture and correlators. Functions of one Loam copy; `s` gives the registers,
the graph and the released sample set.
-/
namespace Sys2Proof.Machine

/-! ## Tables of the engine -/

def noTile (_ : Nat) : TileSt := {}
def noMacro (_ : Nat) : MacroSt := {}
def noInj (_ : Nat) : Inj := {}
def noCorr (_ : Nat) : Corr := {}
def zeroNat (_ : Nat) : Nat := 0

def Engine.tile (e : Engine) (t : Nat) : TileSt := tabGet noTile e.tiles t
def Engine.setTile (e : Engine) (t : Nat) (x : TileSt) : Engine := { e with tiles := tabSet noTile e.tiles t x }
def Engine.macro_ (e : Engine) (j : Nat) : MacroSt := tabGet noMacro e.macros j
def Engine.setMacro (e : Engine) (j : Nat) (x : MacroSt) : Engine := { e with macros := tabSet noMacro e.macros j x }
def Engine.inj_ (e : Engine) (k : Nat) : Inj := tabGet noInj e.inj k
def Engine.setInj (e : Engine) (k : Nat) (x : Inj) : Engine := { e with inj := tabSet noInj e.inj k x }
def EngCtl.corr_ (e : EngCtl) (k : Nat) : Corr := tabGet noCorr e.corr k
def EngCtl.setCorr (e : EngCtl) (k : Nat) (x : Corr) : EngCtl := { e with corr := tabSet noCorr e.corr k x }

/-- Latest output `j` of a tile. -/
def TileSt.out (t : TileSt) (j : Nat) : Int := t.y.getD j 0

/-! ## Banks (R197 to R200) -/

/-- Address of tile `t`'s register block in CEN, and of constant word `w` (R209). -/
def tileAddr (t : Nat) : Nat := 0x210000 + 0x800 * t
def constAddr (w : Nat) : Nat := 0x201000 + 4 * w
def paramAddr (t k : Nat) : Nat := tileAddr t + 0x40 + 4 * k

def Banks.act (b : Banks) (a : Nat) : Nat := tabGet zeroNat b.active a
def Banks.pend (b : Banks) (a : Nat) : Nat := tabGet zeroNat b.pending a

/-- Active parameter word `k` of tile `t`. -/
def Banks.par (b : Banks) (t k : Nat) : Nat := b.act (paramAddr t k)

/-- The pending words in [lo, hi) become active. -/
def Banks.copyRange (b : Banks) (lo hi : Nat) : Banks :=
  let inR := fun (e : Nat × Nat) => decide (lo ≤ e.1) && decide (e.1 < hi)
  { b with active := ((b.active.filter (fun e => decide (e.1 < lo))) ++ b.pending.filter inR) ++ b.active.filter (fun e => decide (hi ≤ e.1)) }

/-- A write to the pending bank. -/
def Banks.put (b : Banks) (a w : Nat) : Banks := { b with pending := tabSet zeroNat b.pending a w }

/-- Tile `t`'s bank is transferred, with its state load when SLOAD is set (R200). -/
def transferTile (g : Graph) (t : Nat) (c : Copy) : Copy :=
  let a := tileAddr t
  let sload := bitAt (c.banks.pend a) 0
  let pre := c.banks.pend (a + 0x20) + 2 ^ 32 * c.banks.pend (a + 0x24)
  let b := (c.banks.put a 0).copyRange a (a + 0x800)
  let type := match g.tile? t with | some r => r.type | none => 0
  let eng := if sload then c.eng.setTile t (tileLoad type pre (c.eng.tile t)) else c.eng
  { c with banks := { b with dirty := putBit b.dirty t false }, eng := eng }

/-- The dirty tiles of one rate. -/
def dirtyTiles (g : Graph) (b : Banks) (outer : Bool) : List Nat :=
  ((g.tiles.filter (fun r => r.outer == outer && bitAt b.dirty r.tile)).map (·.tile))

/-- The constant pool's bank is transferred. -/
def transferConst (c : Copy) : Copy :=
  { c with banks := { (c.banks.copyRange 0x201000 0x201400) with cpoolDirty := false } }

/-- The dirty banks of one rate are transferred; the constant pool goes with the inner tiles (R198). -/
def transferRate (g : Graph) (outer : Bool) (c : Copy) : Copy :=
  let c1 := (dirtyTiles g c.banks outer).foldl (fun c t => transferTile g t c) c
  if outer then c1 else transferConst c1

/-- Tiles whose pending SLOAD is set, as a mask: what a boundary loads. -/
def sloadMask (g : Graph) (outer : Bool) (c : Copy) : Nat :=
  (dirtyTiles g c.banks outer).foldl (fun m t => if bitAt (c.banks.pend (tileAddr t)) 0 then m ||| 2 ^ t else m) 0

/-- R219: every current controller of the graph keeps GAIN of tile 8 = −GAIN of tile 9, in the words `p` a commit would
leave active. -/
def gainsOk (g : Graph) (p : Nat → Nat → Nat) : Bool :=
  g.macros.all (fun r => r.type != 0x02 || p (r.firstTile + 8) 1 == unsignedOf 32 (-(s32 (p (r.firstTile + 9) 1))))

/-- Parameter words as a commit of copy `c` would leave them. -/
def committedPar (c : Copy) (t k : Nat) : Nat :=
  if bitAt c.banks.dirty t then c.banks.pend (paramAddr t k) else c.banks.par t k

/-- Only outer tiles of a copy wait for a transfer (R198). -/
def onlyOuterDirty (g : Graph) (b : Banks) : Bool :=
  dirtyTiles g b true != [] && dirtyTiles g b false == [] && !b.cpoolDirty

/-- What a block reset leaves of a copy: the RS bits of TSAT, MEVT and SATSUM (R3, R201, R202, R214). -/
def keptCopy (c : Copy) : Copy :=
  { eng := {
      tiles := tabMap noTile c.eng.tiles (fun _ t => { tsat := t.tsat })
      macros := tabMap noMacro c.eng.macros (fun _ m => { evt := m.evt })
      satSum := c.eng.satSum } }

/-! ## Sources (R184) -/

/-- What evaluation reads beside the tiles: active words, the sample set, arm quantities, injection targets. -/
structure EvalEnv where
  graph : Graph
  banks : Banks
  samples : List Int
  quant : Nat → Nat → Int
  /-- (tile, input, source) of each injection with a target -/
  targets : List (Nat × Nat × Nat)

/-- The rate of a tile of the graph. -/
def Graph.isOuter (g : Graph) (t : Nat) : Bool := match g.tile? t with | some r => r.outer | none => false

/-- A source before negation, as a reader of the given rate sees it. -/
def readRaw (e : EvalEnv) (eng : Engine) (outer : Bool) (d : SrcDesc) : Int :=
  match d.kind with
  | 1 => if e.graph.isOuter d.index && !outer then (eng.tile d.index).held.getD d.port 0 else (eng.tile d.index).out d.port
  | 2 => e.samples.getD d.index 0
  | 3 => s32 (e.banks.act (constAddr d.index))
  | 4 => e.quant d.index d.port
  | 5 => (eng.inj_ d.index).out
  | _ => 0

/-- Input `k` of a tile: the source, negated, with what injection adds; and whether either step saturated. -/
def readInput (e : EvalEnv) (eng : Engine) (r : TileRec) (k : Nat) : Int × Bool :=
  let d := r.src k
  let raw : Int :=
    if d.kind = 0 ∧ k = 1 ∧ (r.type = 0x02 ∨ (r.type = 0x07 ∧ !bitAt (e.banks.par r.tile 0) 0)) then onePu
    else readRaw e eng r.outer d
  let v := if d.neg then satS 32 (-raw) else raw
  let add := (e.targets.filter (fun t => t.1 == r.tile && t.2.1 == k)).map (fun t => (eng.inj_ t.2.2).out)
  let w := add.foldl (fun acc x => satS 32 (acc + x)) v
  (w, (d.neg && v != -raw) || w != add.foldl (· + ·) v)

/-! ## Evaluation (R183, R184) -/

/-- One sample of one tile. -/
def evalTile (e : EvalEnv) (r : TileRec) (eng : Engine) : Engine :=
  let ins := (upto 4).map (readInput e eng r)
  let conn := (upto 4).map (fun k => (r.src k).kind != 0)
  eng.setTile r.tile
    (tileSample r.type (e.banks.par r.tile) conn (ins.map (·.1)) (ins.any (·.2)) (eng.tile r.tile))

/-- One sample of every tile of one rate: the delay tiles put out what they hold, the others follow stage by stage, and the delay
tiles take their inputs last. -/
def evalRate (e : EvalEnv) (outer : Bool) (eng : Engine) : Engine :=
  let mine := e.graph.tiles.filter (fun r => r.outer == outer)
  let delays := mine.filter (fun r => r.type == 0x0F)
  let others := mine.filter (fun r => r.type != 0x0F)
  let e1 := delays.foldl (fun g r => g.setTile r.tile (delayOut (e.banks.par r.tile 1) (g.tile r.tile))) eng
  let e2 := (upto 64).foldl (fun g st => (others.filter (fun r => r.stage == st)).foldl (fun g r => evalTile e r g) g) e1
  delays.foldl (fun g r => evalTile e r g) e2

/-- Status of the macros whose status rate has evaluated (R214, R217, R238). -/
def macroUpdate (e : EvalEnv) (outer : Bool) (j : Nat) (r : MacroRec) (eng : Engine) : Engine :=
  let t := fun k => eng.tile (r.firstTile + k)
  let v : MView :=
    { y := fun k i => (t k).out i, x := fun k i => (t k).x.getD i 0, inst := fun k => (t k).inst, latch := fun k => (t k).latch,
      forceEn := fun k => bitAt (e.banks.par (r.firstTile + k) 0) 2 }
  let m := eng.macro_ j
  let statusOuter := if r.type = 0x0B then e.graph.isOuter r.firstTile else decide (r.type ∈ [4, 5, 6, 7, 9, 10])
  let vals := macroVals r.type v
  if statusOuter != outer then eng.setMacro j { m with vals := vals }
  else if r.type = 0x01 then
    let lost := decide (max 1 (e.banks.par (r.firstTile + 6) 3) ≤ (t 6).cnt)
    let stat := macroStat 1 m.stat v
    eng.setMacro j
      { stat := if lost then putBit stat 0 false else stat
        evt := m.evt ||| macroEvt 1 m.stat stat ||| lost.toNat
        vals := vals
        lockCnt := if (t 6).inst then 0 else min 1024 (m.lockCnt + 1) }
  else
    let stat := macroStat r.type m.stat v
    eng.setMacro j { m with stat := stat, evt := m.evt ||| macroEvt r.type m.stat stat, vals := vals }

/-- A rate's whole sample: tiles, macro status, SATSUM (R202; `mask` holds the SATMASK bits). -/
def sampleRate (e : EvalEnv) (mask : Nat → Bool) (outer : Bool) (eng : Engine) : Engine :=
  let e1 := evalRate e outer eng
  let e2 := (upto e.graph.macros.length).foldl (fun g j => match e.graph.macros[j]? with
    | some r => macroUpdate e outer j r g
    | none => g) e1
  let sat := (e.graph.tiles.filter (fun r => r.outer == outer)).any (fun r => (e2.tile r.tile).now != 0 && !mask r.tile)
  if sat then { e2 with satSum := e2.satSum ||| (if outer then 2 else 1) } else e2

/-- The outer outputs of the last evaluation become visible to inner tiles (R22). -/
def holdOuter (g : Graph) (eng : Engine) : Engine :=
  (g.tiles.filter (fun r => r.outer)).foldl (fun e r => e.setTile r.tile { e.tile r.tile with held := (e.tile r.tile).y }) eng

/-! ## Injection (R203, R204) -/

/-- Offset of injection source or correlator `k` in its register groups. -/
def injOff (k : Nat) : Nat := 0x40 * k

/-- One step of the PRBS-15 x^15 + x^14 + 1 (log 21). -/
def prbs15 (r : Nat) : Nat := (2 * r + (bitAt r 14 != bitAt r 13).toNat) % 2 ^ 15

/-- The value a running source gives. -/
def injValue (s : State) (k : Nat) (x : Inj) : Int :=
  let amp := s.sfld (CEN.INJ_AMP.AMP.at (injOff k))
  let offs := s.sfld (CEN.INJ_OFFS.OFFS.at (injOff k))
  match s.fld (CEN.INJ_CTRL.WAVE.at (injOff k)) with
  | 2 => satS 32 (offs + amp)
  | 3 => satS 32 (if bitAt x.prbs 14 then offs + amp else offs - amp)
  | _ => satS 32 (offs + rnd 30 (amp * sinQ30 x.theta))

/-- The update of a running source after a period, and its stop when one is due. -/
def injAdvance (s : State) (k : Nat) (x : Inj) : Inj :=
  let wave := s.fld (CEN.INJ_CTRL.WAVE.at (injOff k))
  if wave ≥ 2 then
    if x.stopping then { x with run := false, wrapped := false }
    else
      let h := x.hold + 1
      if max 1 (s.fld (CEN.INJ_CFG.HOLD.at (injOff k))) ≤ h then { x with prbs := prbs15 x.prbs, hold := 0, wrapped := false }
      else { x with hold := h, wrapped := false }
  else
    let fstep := s.sfld (CEN.INJ_FSTEP.FSTEP.at (injOff k))
    let fstop := s.fld (CEN.INJ_FSTOP.FSTOP.at (injOff k))
    let reached := wave == 1 && (if fstep < 0 then decide (x.freq ≤ fstop) else decide (fstop ≤ x.freq))
    let t := x.theta + x.freq
    let wrap := decide (2 ^ 32 ≤ t)
    let step := wave == 1 && x.elapsed % 2 ^ s.fld (CEN.INJ_CFG.SWP_EXP.at (injOff k)) == 0
    { x with
      theta := t % 2 ^ 32
      wrapped := wrap
      freq := if step then unsignedOf 32 ((x.freq : Int) + fstep) else x.freq
      run := !(wrap && (x.stopping || reached)) }

/-- One source at a boundary: start, stop, update, value. -/
def injBoundary (s : State) (k : Nat) (x : Inj) : Inj :=
  let start := bitAt s.eng.injStart k
  let stop := bitAt s.eng.injStop k
  let x1 : Inj :=
    if start then { run := true, stopping := stop, theta := s.fld (CEN.INJ_PHASE0.PHASE0.at (injOff k)), freq := s.fld (CEN.INJ_FREQ.FREQ.at (injOff k)) }
    else if x.run then
      injAdvance s k { x with
        stopping := x.stopping || stop
        freq := if bitAt s.eng.injFreq k then s.fld (CEN.INJ_FREQ.FREQ.at (injOff k)) else x.freq }
    else { x with wrapped := false }
  if x1.run then { x1 with elapsed := x1.elapsed + 1, out := injValue s k x1 } else { x1 with out := 0 }

/-- All four sources at a boundary. -/
def injAll (s : State) (eng : Engine) : Engine :=
  (upto 4).foldl (fun e k => e.setInj k (injBoundary s k (e.inj_ k))) eng

/-- Targets of the running sources (R204). -/
def injTargets (s : State) : List (Nat × Nat × Nat) :=
  ((upto 4).filter (fun k => s.flag (CEN.INJ_CTRL.TGT_EN.at (injOff k)))).map
    (fun k => (s.fld (CEN.INJ_CTRL.TGT_TILE.at (injOff k)), s.fld (CEN.INJ_CTRL.TGT_IN.at (injOff k)), k))

/-! ## Macro commands (R215, R217, R227, R233, R234) -/

/-- A latch cleared by a command: latch, outputs seen, count. -/
def clearLatch (t : Nat) (eng : Engine) : Engine :=
  let x := eng.tile t
  eng.setTile t { x with latch := false, cnt := 0, y := [0, x.out 1], held := if x.held = [] then [] else [0, x.held.getD 1 0] }

/-- The command of record `j`, at a boundary. -/
def macroCommand (e : EvalEnv) (arg j : Nat) (r : MacroRec) (eng : Engine) : Engine :=
  let f := r.firstTile
  let m := eng.macro_ j
  match r.type with
  | 0x01 => (clearLatch (f + 6) eng).setMacro j { m with lockCnt := 0 }
  | 0x08 => clearLatch (f + 1) eng
  | 0x09 =>
    let d := signedOf 32 (unsignedOf 32 ((eng.tile (f + 9)).x.getD 0 0 - (eng.tile (f + 9)).x.getD 1 0))
    if d.natAbs ≤ arg then
      (clearLatch (f + 8) (clearLatch (f + 6) (clearLatch (f + 5) (clearLatch (f + 4) eng)))).setMacro j { m with evt := m.evt ||| 2 }
    else eng.setMacro j { m with evt := m.evt ||| 4 }
  | 0x0A =>
    match e.graph.tile? (f + 11) with
    | some t =>
      let x := eng.tile (f + 11)
      let lo := s32 (e.banks.par (f + 11) 3) * 2 ^ 24
      let hi := s32 (e.banks.par (f + 11) 2) * 2 ^ 24
      eng.setTile (f + 11) { x with acc := clampI lo hi ((readInput e eng t 1).1 * 2 ^ 24) }
    | none => eng
  | _ => eng

/-- The commands of a mask of records. -/
def macroCommands (s : State) (e : EvalEnv) (mask : Nat) (eng : Engine) : Engine :=
  (upto e.graph.macros.length).foldl (fun g j => match e.graph.macros[j]? with
    | some r => if bitAt mask j then macroCommand e (s.fld (FUN.MARG.ARG.at (0x100 * j))) j r g else g
    | none => g) eng

/-! ## Capture (R205 to R207) -/

/-- A capture or correlator source word by the layout of CAP_SEL (R209): `sel` its word, `ch` the channel for SRC 0. -/
def selValue (e : EvalEnv) (eng : Engine) (outer : Bool) (ch sel : Nat) : Int :=
  let idx := bitsAt sel 8 7
  match bitsAt sel 28 3 with
  | 0 => match e.graph.sinks.find? (fun k => k.kind == 3 && k.index == ch) with
    | some k => (let v := readRaw e eng outer k.src; if k.src.neg then satS 32 (-v) else v)
    | none => 0
  | 1 => readRaw e eng outer { kind := 1, index := idx, port := bitsAt sel 0 3 }
  | 2 => e.samples.getD idx 0
  | 3 => e.quant idx (bitsAt sel 0 3)
  | 4 => (eng.inj_ idx).out
  | _ => 0

/-- Samples kept: every 2^DEC_EXP-th. -/
def capEvery (s : State) : Nat := 2 ^ min 10 (s.fld CEN.CAP_CTRL.DEC_EXP)

/-- One sample of the capture rate; `word` gives the channels' words. -/
def capSample (s : State) (word : Nat → Nat) (pcnt : Nat) : State :=
  let cap := s.eng.cap
  if cap.st ≠ 1 ∧ cap.st ≠ 2 then s
  else if cap.st = 2 ∧ cap.left = 0 then s
  else if cap.skip ≠ 0 then { s with eng := { s.eng with cap := { cap with skip := (cap.skip + 1) % capEvery s } } }
  else
    let ring := (upto 16).foldl (fun m c => tabSet zeroNat m (8192 * c + cap.wr) (word c)) cap.ring
    let pre := s.fld CEN.CAP_CTRL.PRE
    let hit := cap.st = 1 ∧ cap.trig = true
    let cap1 : Capture :=
      { cap with
        ring := ring, wr := (cap.wr + 1) % 8192, got := min 8192 (cap.got + 1), skip := 1 % capEvery s
        st := if hit then 2 else cap.st
        trig := false
        left := if hit then 8192 - pre - 1 else cap.left - 1 }
    let s1 := { s with eng := { s.eng with cap := { cap1 with trig := cap.trig && !decide hit } } }
    if hit then
      (((s1.setFld CEN.CAP_STAT.STATE 2).setFld CEN.CAP_STAT.TRIG_IDX cap.wr).setFld CEN.CAP_STAT.PRE_VALID (min pre cap.got)).setFld
        CEN.CAP_TRIG_PCNT.PCNT (pcnt % 2 ^ 32)
    else s1

/-- A trigger event of source `n`, when the unit is armed for it. -/
def capTrigger (n : Nat) (s : State) : State :=
  if s.eng.cap.st = 1 ∧ s.fld CEN.CAP_CTRL.TRIG = n then { s with eng := { s.eng with cap := { s.eng.cap with trig := true } } } else s

/-! ## Correlators (R208) -/

/-- Is a correlator's signal taken at the outer rate? -/
def corrOuter (g : Graph) (sel : Nat) : Bool := bitsAt sel 28 3 == 1 && g.isOuter (bitsAt sel 8 7)

/-- The phase wrap of a boundary moves a correlator on. -/
def corrWrap (wrapped : Bool) (ncyc : Nat) (x : Corr) : Corr :=
  if !wrapped then x
  else if x.st = 1 then { x with st := 2, s := 0, c := 0, n := 0, cyc := 0 }
  else if x.st = 2 then (if max 1 ncyc ≤ x.cyc + 1 then { x with st := 3 } else { x with cyc := x.cyc + 1 })
  else x

/-- One sample of a correlator. -/
def corrTake (v : Int) (theta : Nat) (x : Corr) : Corr :=
  if x.st ≠ 2 then x
  else if x.n + 1 = 2 ^ 31 - 1 then { x with st := 4, n := x.n + 1 }
  else { x with s := satS 64 (x.s + rnd 30 (v * sinQ30 theta)), c := satS 64 (x.c + rnd 30 (v * cosQ30 theta)), n := x.n + 1 }

end Sys2Proof.Machine
end

