-- ==== Sys2Proof/Machine/Acquire.lean ====
section
/-!
DEFINITION. Acquisition and fast comparators (chapter 09): the window of a core, decimation, calibration, the mismatch estimator,
system calibration, comparators and their filters. A window's conversions arrive as raw codes in the order of the core's conversions;
which of them convert a reference or a threshold output follows R278. Voltages at comparator pins are in 1/320 mV.
-/
namespace Sys2Proof.Machine

def noCore (_ : Nat) : Core := {}
def noSlice (_ : Nat) : Slice := {}
def noHist (_ : Nat) : List Int := []

def State.core (s : State) (c : Nat) : Core := tabGet noCore s.acq.cores c
def State.setCore (s : State) (c : Nat) (x : Core) : State := { s with acq := { s.acq with cores := tabSet noCore s.acq.cores c x } }
def Core.slice (x : Core) (k : Nat) : Slice := tabGet noSlice x.slices k

def coreOff (c : Nat) : Nat := 0x400 * c
def inputOff (i : Nat) : Nat := 0x20 * i
def cmpOff (c : Nat) : Nat := 0x20 * c

/-- Acquisition core `c` is powered (R16, R46), in the cell only core 0, and its clock runs (R480). -/
def acqRunning (s : State) (c : Nat) : Bool :=
  bitAt (s.fld SYS.CLOD_PWR.ACQ_EN) c && (!s.isCell || c == 0) && !s.sys.inReset && (s.isCell || !bitAt s.clk.lost 1)

/-- The converter is deblocked (hub). -/
def State.deblocked (s : State) : Bool := !s.isCell && !s.blocked

/-- Time in ns of the last period boundary, or of the cell's last window end. -/
def State.baseNs (s : State) : Nat := if s.isCell then s.acq.winNs else s.period.timeNs

/-! ## Sequence (R268, R272, R275) -/

/-- L of a SEQ_LEN code; none for a reserved one. -/
def seqLen (code : Nat) : Option Nat := [1, 2, 4, 5, 8][code]?

/-- Position `j` of a core's sequence: its local input, none when idle. -/
def seqPos (s : State) (c j : Nat) : Option Nat :=
  let p := bitsAt (s.fld (ACQ.SEQ.POS.at (coreOff c))) (4 * j) 4
  if bitAt p 3 then none else some (p % 8)

/-- L in force, 1 where the code is reserved. -/
def State.seqL (s : State) (c : Nat) : Nat := (seqLen (s.fld (ACQ.CORE_CFG.SEQ_LEN.at (coreOff c)))).getD 1

/-- Core conversion interval, ns. -/
def State.convNs (s : State) (c : Nat) : Nat := 5 * 2 ^ s.fld (ACQ.CORE_CFG.RATE_DIV.at (coreOff c))

/-- Local inputs of a core's sequence, in position order. -/
def seqInputs (s : State) (c : Nat) : List Nat := (upto (s.seqL c)).filterMap (seqPos s c)

/-- R272: is the configuration invalid for windows of `win` ns? -/
def acqCfgErr (s : State) (c win : Nat) : Bool :=
  match seqLen (s.fld (ACQ.CORE_CFG.SEQ_LEN.at (coreOff c))) with
  | none => true
  | some l => decide (2 ≤ s.fld (ACQ.CORE_CFG.DEC.at (coreOff c))) || !decide (seqInputs s c).Nodup
      || win % (s.convNs c * l) != 0

/-- Group delay in 0.5 ns of position `j` (R275). -/
def groupDelay (s : State) (c j win : Nat) : Nat :=
  let ts := s.convNs c * s.seqL c
  40 + 2 * s.convNs c * (s.seqL c - 1 - j) + (if s.fld (ACQ.CORE_CFG.DEC.at (coreOff c)) = 1 then 31 * ts else win - ts)

/-! ## Slices (R278, R279) -/

/-- The foreground correction with the slice's registers. -/
def correctCode (s : State) (c k : Nat) (code : Int) : Int :=
  satS 16 (roundHA ((16 * code - s.sfld (ACQ.SL_OFFS.OFFS.at (coreOff c + 0x10 * k))) * s.fld (ACQ.SL_GAIN.GAIN.at (coreOff c + 0x10 * k))) (2 ^ 21))

/-- Estimator weight exponent (R291). -/
def State.calExp (s : State) : Nat := max 6 (min 14 (s.fld ACQ.GCFG.CAL_EXP))

/-- A coefficient moved by 2^−CAL_EXP of its error and held within its range; the flag says it stands at a limit. -/
def moveCoef (e : Nat) (lo hi x err : Int) : Int × Bool :=
  let v := clampI lo hi (x + roundHA err (2 ^ e))
  (v, v == lo || v == hi)

/-- One calibration conversion of slice `k`: of kind 1 LO, 2 HI, 3 TONE, or 4 a threshold output (log 22). -/
def calConversion (s : State) (c k kind : Nat) (code : Int) : State :=
  let core := s.core c
  let sl := core.slice k
  let frozen := s.flag (ACQ.CORE_CFG.CAL_FREEZE.at (coreOff c))
  let sl1 : Slice := { sl with
    cal := sl.cal + 1
    lo := if kind = 1 then some code else sl.lo
    hi := if kind = 2 then some code else sl.hi }
  let e := s.calExp
  let o := coreOff c + 0x10 * k
  let upd : Slice × Bool :=
    if frozen then (sl1, false)
    else if kind = 1 ∨ kind = 2 then
      match sl1.lo, sl1.hi with
      | some l, some h =>
        let a := moveCoef e (-32768 * 256) (32767 * 256) sl1.offs ((l + h) * 2048 - sl1.offs)
        let gErr : Int := if l < h then roundHA (524288 * 2 ^ 25) ((10 * (h - l)).toNat) - sl1.gain else Config.freeOf 113 [l, h]
        let b := moveCoef e (98304 * 256) (163840 * 256) sl1.gain gErr
        ({ sl1 with offs := a.1, gain := b.1 }, a.2 || b.2)
      | _, _ => (sl1, false)
    else if kind = 3 then
      let a := moveCoef e (-511 * 256) (511 * 256) sl1.skew (roundHA (correctCode s c k code * 10240000) 5147)
      ({ sl1 with skew := a.1 }, a.2)
    else (sl1, false)
  let s1 := (s.setCore c { core with slices := tabSet noSlice core.slices k upd.1 }).count (ACQ.CAL_CNT.COUNT.at (coreOff c)) 1
  let s2 := ((s1.setFld (ACQ.SL_OFFS.OFFS.at o) (unsignedOf 16 (roundHA upd.1.offs 256))).setFld (ACQ.SL_GAIN.GAIN.at o)
    (unsignedOf 18 (roundHA upd.1.gain 256))).setFld (ACQ.SL_SKEW.SKEW.at o) (unsignedOf 10 (roundHA upd.1.skew 256))
  let s3 := if frozen then s1 else s2
  if upd.2 then (s3.raise (ACQ.SL_FLAG.LIMIT.at o)).raiseBit ACQ.EVT.EST_LIM c else s3

/-! ## A window (R270 to R276) -/

/-- What a window has gathered of one local input. -/
structure WinAcc where
  sum : Int := 0
  n : Nat := 0
  deriving DecidableEq, Repr

def noAcc (_ : Nat) : WinAcc := {}

/-- Conversions that a window of `win` ns holds (R270, R271); a code that is not given is open. -/
def windowCodes (s : State) (c win : Nat) (codes : List Int) : List Int :=
  (upto (win / s.convNs c)).map (fun i => codes.getD i (Config.freeOf 142 [i]))

/-- A conversion of local input `l` on slice `k`. -/
def inputConversion (c k l : Nat) (code : Int) (s : State) : State :=
  let core := s.core c
  let h := (correctCode s c k code :: tabGet noHist core.hist l).take 32
  let s1 := s.setCore c { core with hist := tabSet noHist core.hist l h }
  if code == 32767 || code == -32768 then
    let s2 := (s1.raise (ACQ.IN_STAT.OVR.at (inputOff (8 * c + l)))).raiseBit ACQ.EVT.OVR c
    let hit := s2.acq.scalOp != 0 && s2.acq.scalInput == 8 * c + l && s2.acq.scalErr == 0
      && decide (s2.acq.scalN < 2 ^ max 4 (min 16 (s2.fld ACQ.SCAL_CFG.AVG_EXP)))
    { s2 with acq := { s2.acq with ovrRound := putBit s2.acq.ovrRound (8 * c + l) true, scalErr := if hit then 3 else s2.acq.scalErr } }
  else s1

/-- A conversion of slice `k` in place of its position (R278): the threshold output of the next comparator in the first ones of a housekeeping
round, else the next reference. -/
def inPlace (c k : Nat) (code : Int) (s : State) : State :=
  let core := s.core c
  let sl := core.slice k
  let s1 := s.setCore c { core with slices := tabSet noSlice core.slices k { sl with since := sl.since + 1 - 1024, ref := if core.thr < 8 then sl.ref else (sl.ref + 1) % 3 } }
  if core.thr < 8 then
    let s2 := calConversion (s1.setCore c { s1.core c with thr := core.thr + 1 }) c k 4 code
    { s2 with acq := { s2.acq with readback := s2.acq.readback ++ [(8 * c + core.thr, correctCode s c k code)] } }
  else calConversion s1 c k (sl.ref + 1) code

/-- Conversions of a window of `n`, from index `i` on: each slice's 1,024th converts a reference or a threshold, but none in the window's last
round, and none where the window is one round (R278). -/
def convert (c n : Nat) : List Int → Nat → State → Tab WinAcc → State × Tab WinAcc
  | [], _, s, acc => (s, acc)
  | code :: rest, i, s, acc =>
    let core := s.core c
    let k := core.q
    let l := s.seqL c
    let sl := core.slice k
    let s0 := s.setCore c { core with q := (k + 1) % 8 }
    let pos := seqPos s c (i % l)
    if 1023 ≤ sl.since ∧ i + l < n ∧ l < n then
      let s1 := inPlace c k code s0
      match pos with
      | none => convert c n rest (i + 1) s1 acc
      | some x =>
        let h := match tabGet noHist core.hist x with | [] => [] | v :: vs => (v :: v :: vs).take 32
        convert c n rest (i + 1) (s1.setCore c { s1.core c with hist := tabSet noHist core.hist x h }) acc
    else
      let s1 := s0.setCore c { s0.core c with slices := tabSet noSlice core.slices k { sl with since := sl.since + 1 } }
      match pos with
      | none => convert c n rest (i + 1) s1 acc
      | some x =>
        let a := tabGet noAcc acc x
        convert c n rest (i + 1) (inputConversion c k x code s1) (tabSet noAcc acc x { sum := a.sum + correctCode s c k code, n := a.n + 1 })

/-- The decimated raw value of a local input; an FIR without 32 conversions, or a boxcar of none, leaves it open (log 23). -/
def decimate (s : State) (c l : Nat) (acc : Tab WinAcc) : Int :=
  let h := tabGet noHist (s.core c).hist l
  let a := tabGet noAcc acc l
  satS 24 (
    if s.fld (ACQ.CORE_CFG.DEC.at (coreOff c)) = 1 then
      if h.length < 32 then Config.freeOf 112 h
      else roundHA (((upto 32).map (fun k => s.sfld (ACQ.FIR_H.H.at (coreOff c + 4 * k)) * h.getD k 0)).foldl (· + ·) 0) 256
    else if a.n = 0 then Config.freeOf 112 []
    else roundHA (256 * a.sum) a.n)

/-- R276. -/
def calibrate (s : State) (i : Nat) (r : Int) : Int :=
  satS 32 (rnd 23 (s.sfld (ACQ.IN_GAIN.GAIN.at (inputOff i)) * r) + s.sfld (ACQ.IN_OFFS.OFFS.at (inputOff i)))

/-- Write one input's results of a window. -/
def putInput (i : Nat) (valid inseq : Bool) (r tg : Nat × Int) (s : State) : State :=
  let o := inputOff i
  ((((s.setFlag (ACQ.IN_STAT.VALID.at o) valid).setFlag (ACQ.IN_STAT.INSEQ.at o) inseq).setFld (ACQ.IN_STAT.TG.at o) tg.1).setFld
    (ACQ.IN_RAW.R.at o) (unsignedOf 32 (if valid then r.2 else 0))).setFld (ACQ.IN_CAL.C.at o) (unsignedOf 32 (if valid then calibrate s i r.2 else 0))

/-- One core's window of `win` ns ends with the conversions `cs`. -/
def coreWindow (c win : Nat) (cs : List Int) (s : State) : State :=
  let o := coreOff c
  let err := acqCfgErr s c win
  let s0 := (s.setFlag (ACQ.CORE_STAT.RUN.at o) true).setFlag (ACQ.CORE_STAT.CFG_ERR.at o) err
  let s1 := if err && !s.flag (ACQ.CORE_STAT.CFG_ERR.at o) then s0.raiseBit ACQ.EVT.CFG_ERR c else s0
  let codes := windowCodes s c win cs
  let w := convert c codes.length codes 0 s1 []
  let deliver := !err && !(w.1.core c).partial_
  let s2 := (w.1.setFlag (ACQ.CORE_STAT.DELIVER.at o) deliver).setCore c { w.1.core c with partial_ := err }
  (upto 8).foldl (fun s l =>
    match (upto (s.seqL c)).find? (fun j => seqPos s c j == some l) with
    | some j => putInput (8 * c + l) deliver true (0, decimate s c l w.2) (groupDelay s c j win, 0) s
    | none => putInput (8 * c + l) false false (0, 0) (0, 0) s) s2

/-- Held GAIN and OFFS pairs whose time has come apply before the sample set (R277). -/
def applyPairs (now : Nat) (s : State) : State :=
  let due := s.acq.pairs.filter (fun p => decide (p.2.2.2 ≤ now))
  let s1 := { s with acq := { s.acq with pairs := s.acq.pairs.filter (fun p => !decide (p.2.2.2 ≤ now)) } }
  due.foldl (fun s p => (s.setFld (ACQ.IN_GAIN.GAIN.at (inputOff p.1)) p.2.1).setFld (ACQ.IN_OFFS.OFFS.at (inputOff p.1)) p.2.2.1) s1

/-- The calibrated samples of the inputs, as IN_CAL shows them. -/
def sampleSet (s : State) : List Int := (upto 32).map (fun i => s.sfld (ACQ.IN_CAL.C.at (inputOff i)))

/-! ## System calibration (R283) -/

/-- One value of r for the calibration under way. -/
def scalSample (s : State) : State :=
  let a := s.acq
  if a.scalOp = 1 ∨ a.scalOp = 2 then
    let n := 2 ^ max 4 (min 16 (s.fld ACQ.SCAL_CFG.AVG_EXP))
    let e := if a.scalErr ≠ 0 then a.scalErr else if s.deblocked then 1 else if !s.flag (ACQ.IN_STAT.VALID.at (inputOff a.scalInput)) then 2 else 0
    if a.scalN < n then
      { s with acq := { a with scalSum := a.scalSum + s.sfld (ACQ.IN_RAW.R.at (inputOff a.scalInput)), scalN := a.scalN + 1, scalErr := e } }
    else s
  else s

/-- A write of OP starts an operation. -/
def scalStart (op input : Nat) (s : State) : State :=
  let s1 := s.setFld ACQ.SCAL_STAT.STATE 1
  if op = 0 then s
  else
    let other := input ≠ s.acq.scalInput ∧ op ≠ 3
    let s2 := if other then (s1.setFld ACQ.SCAL_STAT.ZERO_OK 0).setFld ACQ.SCAL_STAT.REF_OK 0 else s1
    let e := if s.deblocked then 1
      else if op ≠ 3 ∧ s.flag (ACQ.IN_STAT.VALID.at (inputOff input)) = false then 2
      else if op = 3 ∧ ¬(s2.flag ACQ.SCAL_STAT.ZERO_OK = true ∧ s2.flag ACQ.SCAL_STAT.REF_OK = true ∧ input = s.acq.scalInput) then 6 else 0
    { s2 with acq := { s2.acq with scalOp := op, scalInput := if op = 3 then s.acq.scalInput else input, scalSum := 0, scalN := 0, scalErr := e } }

/-- The end of an operation: STATE 2, or STATE 3 with ERR. -/
def scalEnd (err : Nat) (s : State) : State :=
  let s1 := (s.setFld ACQ.SCAL_STAT.STATE (if err = 0 then 2 else 3)).setFld ACQ.SCAL_STAT.ERR err
  { s1 with acq := { s1.acq with scalOp := 0 } }

/-- R283: an operation under way ends, once its values are in or it has failed; `now` is the time in ns. -/
def scalDone (now : Nat) (s : State) : State :=
  let a := s.acq
  let n := 2 ^ max 4 (min 16 (s.fld ACQ.SCAL_CFG.AVG_EXP))
  let mean := roundHA a.scalSum n
  if a.scalOp = 0 then s
  else if a.scalErr ≠ 0 then scalEnd a.scalErr s
  else if a.scalOp = 3 then
    let rz := s.sfld ACQ.SCAL_RZ.RZ
    let d := s.sfld ACQ.SCAL_RF.RF - rz
    if d.natAbs < 2 ^ 20 then scalEnd 5 s
    else
      let x := s.sfld ACQ.SCAL_REF.X * 2 ^ 23
      let gain := if d < 0 then roundHA (-x) d.natAbs else roundHA x d.natAbs
      if satS 32 gain ≠ gain then scalEnd 7 s
      else
        let offs := -(rnd 23 (gain * rz))
        scalEnd 0 { s with acq := { a with pairs := a.pairs ++ [(a.scalInput, unsignedOf 32 gain, unsignedOf 32 (satS 32 offs), now + 1000)] } }
  else if a.scalN < n then s
  else if a.scalOp = 1 then
    let s1 := s.setFld ACQ.SCAL_RZ.RZ (unsignedOf 32 mean)
    if 2 ^ 19 < mean.natAbs then scalEnd 4 s1 else scalEnd 0 (s1.setFld ACQ.SCAL_STAT.ZERO_OK 1)
  else scalEnd 0 ((s.setFld ACQ.SCAL_RF.RF (unsignedOf 32 mean)).setFld ACQ.SCAL_STAT.REF_OK 1)

/-! ## Comparators (R284 to R290) -/

/-- A window of asserted samples. -/
def allOn (_ : Nat) : Nat := 8191

/-- Length W of the majority filter. -/
def cmpLen (s : State) (c : Nat) : Nat := match s.fld (CMP.CCFG.FILT.at (cmpOff c)) with | 0 => 5 | 2 => 13 | _ => 9

/-- Threshold voltage. -/
def cmpVth (s : State) (c : Nat) : Int := 125 * ((s.fld (CMP.CTH.CODE.at (cmpOff c)) : Int) - 0x800)

/-- Hysteresis on the clear side. -/
def cmpHyst (s : State) (c : Nat) : Int := match s.fld (CMP.CCFG.HYST.at (cmpOff c)) with | 0 => 0 | 1 => 512 | 2 => 1024 | _ => 2048

/-- The raw output for voltage `v` (R284). -/
def cmpRaw (s : State) (c : Nat) (v : Int) : Bool :=
  let h := if s.flag (CMP.CSTAT.RAW.at (cmpOff c)) then cmpHyst s c else 0
  match s.fld (CMP.CCFG.MODE.at (cmpOff c)) with
  | 1 => decide (v < cmpVth s c + h)
  | 2 => decide ((cmpVth s c).natAbs - h < v.natAbs)
  | _ => decide (cmpVth s c - h < v)

/-- The voltage the comparator watches: its pin's, or the test level (R290). -/
def cmpInput (s : State) (c : Nat) (v : Int) : Int :=
  if s.flag (CMP.CCFG.TEST.at (cmpOff c)) then (if s.fld (CMP.CCFG.MODE.at (cmpOff c)) = 1 then -256000 else 256000) else v

/-- Start of comparator `c`: window full of asserted samples, filtered output and latch asserted, PUP (R287). -/
def cmpStart (c : Nat) (s : State) : State :=
  let s1 := ((s.setFld (CMP.CSTAT.LATCH.at (cmpOff c)) 1).setFld (CMP.CSTAT.FILT.at (cmpOff c)) 1).setFld (CMP.CSTAT.PUP.at (cmpOff c)) 1
  { s1 with acq := { s1.acq with window := tabSet allOn s1.acq.window c 8191 } }

/-- Disabled: latch clear, no event. -/
def cmpStop (c : Nat) (s : State) : State :=
  ((s.setFld (CMP.CSTAT.LATCH.at (cmpOff c)) 0).setFld (CMP.CSTAT.FILT.at (cmpOff c)) 0).setFld (CMP.CSTAT.PUP.at (cmpOff c)) 0

/-- A clear edge of comparator `c` (R286). -/
def cmpClear (c : Nat) (s : State) : State :=
  if s.flag (CMP.CSTAT.FILT.at (cmpOff c)) then s else s.setFld (CMP.CSTAT.LATCH.at (cmpOff c)) 0

/-- The clear edge of every comparator with CLR_MODE 1 after a boundary or a window end. -/
def cmpPeriodClear (s : State) : State :=
  (upto 32).foldl (fun s c => if s.flag (CMP.CCFG.CLR_MODE.at (cmpOff c)) then cmpClear c s else s) s

/-- The filtered output of comparator `c` becomes `on`; a rising edge sets the latch and counts (R285, R288). -/
def cmpFilter (c : Nat) (on : Bool) (s : State) : State :=
  let o := cmpOff c
  if s.flag (CMP.CSTAT.FILT.at o) == on then s
  else if on then
    let n := tabGet zeroNat s.acq.chat c + 1
    let s1 := ((s.setFld (CMP.CSTAT.FILT.at o) 1).setFld (CMP.CSTAT.LATCH.at o) 1).count (CMP.CTRANS.TOTAL.at o) 1
    let s2 := { s1 with acq := { s1.acq with chat := tabSet zeroNat s1.acq.chat c n } }
    let th := s.fld (CMP.CCFG.CHAT_TH.at o)
    if th ≠ 0 ∧ th < n then s2.raise (CMP.CSTAT.CHATTER.at o) else s2
  else s.setFld (CMP.CSTAT.FILT.at o) 0

/-- What the filter gives for window `w`: the majority of the last W samples; while PUP is set, deasserted only once all of them are clear
(R285, R287). -/
def cmpMajority (s : State) (c w : Nat) : Bool :=
  let n := cmpLen s c
  if s.flag (CMP.CSTAT.PUP.at (cmpOff c)) then w % 2 ^ n != 0 else decide (n < 2 * popcount n w)

/-- One sample of comparator `c`, 4 ns after the one before, with voltage `v` at its pin (R285). -/
def cmpSample (c : Nat) (s : State) (v : Int) : State :=
  let o := cmpOff c
  if !s.flag (CMP.CCFG.EN.at o) then s
  else
    let raw := cmpRaw s c (cmpInput s c v)
    let w := (2 * tabGet allOn s.acq.window c + raw.toNat) % 8192
    let on := cmpMajority s c w
    let s1 := s.setFld (CMP.CSTAT.RAW.at o) raw.toNat
    let s2 := cmpFilter c on { s1 with acq := { s1.acq with window := tabSet allOn s1.acq.window c w } }
    if on then s2 else s2.setFld (CMP.CSTAT.PUP.at o) 0

/-- The test level stands at the input for a whole filter window after a write sets TEST (R290; log 143). -/
def cmpTest (c : Nat) (s : State) : State := (List.replicate 13 0).foldl (cmpSample c) s

/-- Length of a chatter window, ns (R288, R292). -/
def chatNs (s : State) : Nat := 1000 * 2 ^ max 4 (min 20 (s.fld CMP.GCFG.CHAT_EXP))

/-- R288: the chatter windows end once their time has run, `dt` ns after the last boundary: WIN takes the window's edges. -/
def execChatterWindowEnd (s : State) (dt : Nat := 0) : Host.Outcome State Fault Refusal :=
  if s.baseNs + dt < s.acq.chatFrom + chatNs s then .next s
  else
  let s1 := (upto 32).foldl (fun (s : State) c => s.setFld (CMP.CTRANS.WIN.at (cmpOff c)) (min 0xFFFF (tabGet zeroNat s.acq.chat c))) s
  .next { s1 with acq := { s1.acq with chat := [], chatFrom := s.acq.chatFrom + chatNs s } }

/-- R280: every slice of the core has had its 2^(CAL_EXP + 2) calibration conversions. -/
def execEstSettled (c : Fin 4) (s : State) : Host.Outcome State Fault Refusal :=
  let core := s.core c.val
  if (upto 8).all (fun k => decide (2 ^ (s.calExp + 2) ≤ (core.slice k).cal)) then
    .next (s.setFld (ACQ.CORE_STAT.EST_SETTLED.at (coreOff c.val)) 1)
  else .next s

/-- R289: a threshold readback of comparator `c`, with the corrected code. -/
def dacReadback (c : Nat) (code : Int) (s : State) : State :=
  let o := cmpOff c
  let s1 := (s.setFld (CMP.CDACRB.CODE.at o) (unsignedOf 16 code)).setFld (CMP.CDACRB.VALID.at o) 1
  let want : Int := ((s.fld (CMP.CTH.CODE.at o) : Int) - 0x800) * 16
  if !bitAt s.acq.codeNew c && decide (16 * s.fld CMP.GCFG.DAC_TOL < (code - want).natAbs) then s1.raise (CMP.CSTAT.DAC_ERR.at o) else s1

/-! ## Writes and reads of ACQ and CMP -/

/-- The sequence or the decimation of core `c` has changed: no window is delivered until a complete one has passed, and till then VALID
is clear and the inputs read zero (R272). -/
def dropWindow (c : Nat) (s : State) : State :=
  let s1 := (s.setCore c { s.core c with partial_ := true }).setFlag (ACQ.CORE_STAT.DELIVER.at (coreOff c)) false
  (upto 8).foldl (fun s l =>
    let o := inputOff (8 * c + l)
    ((s.setFlag (ACQ.IN_STAT.VALID.at o) false).setFld (ACQ.IN_RAW.R.at o) 0).setFld (ACQ.IN_CAL.C.at o) 0) s1

/-- Write of an ACQ register, `dt` ns after the last boundary. -/
def wrACQ (a w dt : Nat) (s : State) : WriteResult :=
  if a = ACQ.SCAL_CTRL.addr then .ok (scalStart (bitsAt w 6 2) (w % 32) (s.store a w))
  else if 0x81000 ≤ a ∧ a < 0x82000 then
    let c := (a - 0x81000) / 0x400
    let r := (a - 0x81000) % 0x400
    let old := s.rd a
    let new := (s.store a w).rd a
    if r = 0 then
      if s.deblocked ∧ (old ||| 8) ≠ (new ||| 8) then .error causeDeblocked
      else
        let s1 := s.store a w
        let s2 := if bitAt old 3 ∧ ¬bitAt new 3 then
          let core := s1.core c
          (s1.setCore c { core with slices := tabMap noSlice core.slices (fun _ x => { x with cal := 0 }) }).setFlag
            (ACQ.CORE_STAT.EST_SETTLED.at (coreOff c)) false
        else s1
        .ok (if (old ||| 8) ≠ (new ||| 8) then dropWindow c s2 else s2)
    else if r = 4 then
      if s.deblocked ∧ old ≠ new then .error causeDeblocked
      else .ok (if old ≠ new then dropWindow c (s.store a w) else s.store a w)
    else if 0x40 ≤ r ∧ r < 0xC0 then
      if r % 16 = 12 then .ok (s.store a w)
      else if !s.flag (ACQ.CORE_CFG.CAL_FREEZE.at (coreOff c)) then .error causeOther
      else
        let k := (r - 0x40) / 16
        let s1 := s.store a w
        let core := s1.core c
        let o := coreOff c + 0x10 * k
        let sl := { core.slice k with
          offs := s1.sfld (ACQ.SL_OFFS.OFFS.at o) * 256, gain := (s1.fld (ACQ.SL_GAIN.GAIN.at o) : Int) * 256, skew := s1.sfld (ACQ.SL_SKEW.SKEW.at o) * 256 }
        .ok (s1.setCore c { core with slices := tabSet noSlice core.slices k sl })
    else if 0x100 ≤ r ∧ r < 0x180 then (if s.deblocked ∧ old ≠ new then .error causeDeblocked else .ok (s.store a w))
    else .ok (s.store a w)
  else if 0x84000 ≤ a ∧ a < 0x84400 then
    let i := (a - 0x84000) / 0x20
    if a % 0x20 = 0 then .ok { s with acq := { s.acq with gainHeld := tabSet zeroNat s.acq.gainHeld i (w + 1) } }
    else if a % 0x20 = 4 then
      let held := tabGet zeroNat s.acq.gainHeld i
      let g := if held = 0 then s.fld (ACQ.IN_GAIN.GAIN.at (inputOff i)) else held - 1
      .ok { s with acq := { s.acq with
        gainHeld := tabSet zeroNat s.acq.gainHeld i 0, pairs := s.acq.pairs ++ [(i, g, w, s.baseNs + dt + 1000)] } }
    else .ok (s.store a w)
  else .ok (s.store a w)

/-- Write of a CMP register. -/
def wrCMP (a w : Nat) (s : State) : WriteResult :=
  if a < 0x90100 then .ok (s.store a w)
  else
    let c := (a - 0x90100) / 0x20
    match a % 0x20 with
    | 0 =>
      let old := s.rd a
      let new := (s.store a w).rd a
      if s.deblocked ∧ bitAt new 30 ∧ ¬bitAt old 30 then .error causeDeblocked
      else
        let s1 := s.store a w
        let s2 := if !bitAt new 31 then cmpStop c s1
          else if !bitAt old 31 || bitsAt old 28 2 != bitsAt new 28 2 || bitsAt old 26 2 != bitsAt new 26 2 || bitsAt old 20 3 != bitsAt new 20 3 then
            cmpStart c s1
          else s1
        .ok (if bitAt new 30 && !bitAt old 30 then cmpTest c s2 else s2)
    | 4 => .ok { s.store a w with acq := { s.acq with codeNew := putBit s.acq.codeNew c true } }
    | 8 =>
      let s1 := if bitAt w 31 then cmpClear c s else s
      let keep := s1.fld (CMP.CSTAT.LATCH.at (cmpOff c))
      .ok ((s1.store a w).setFld (CMP.CSTAT.LATCH.at (cmpOff c)) keep)
    | 16 =>
      if bitAt w 0 then
        .ok { ((s.setFld (CMP.CTRANS.WIN.at (cmpOff c)) 0).setFld (CMP.CTRANS.TOTAL.at (cmpOff c)) 0) with
          acq := { s.acq with chat := tabSet zeroNat s.acq.chat c 0 } }
      else .ok s
    | _ => .ok (s.store a w)

/-- Comparators the role has. -/
def State.cmpCount (s : State) : Nat := if s.isCell then 8 else 32

/-- A mask of the comparators whose flag at `f` reads one. -/
def cmpMask (s : State) (f : Fld) : Nat :=
  (upto s.cmpCount).foldl (fun m c => if s.flag (f.at (cmpOff c)) then m + 2 ^ c else m) 0

/-- Read of an ACQ register: CORE_STAT shows ALIGN_NS (R270) and whether the slices power down (R281). -/
def rdACQ (a : Nat) (s : State) : Nat :=
  if 0x81000 ≤ a ∧ a < 0x82000 ∧ (a - 0x81000) % 0x400 = 8 then
    let c := (a - 0x81000) / 0x400
    putBit (putBits (s.rd a) 24 8 (s.acq.align.getD c 8)) 4 (decide (4 ≤ s.fld (ACQ.CORE_CFG.RATE_DIV.at (coreOff c))))
  else s.rd a

/-- Read of a CMP register. In the cell role only comparators 0 to 7 hold state (R292). -/
def rdCMP (a : Nat) (s : State) : Nat :=
  if s.isCell = true ∧ 0x90200 ≤ a then 0
  else if a = CMP.LATSUM.addr then cmpMask s CMP.CSTAT.LATCH
  else if a = CMP.FILTSUM.addr then cmpMask s CMP.CSTAT.FILT
  else s.rd a

end Sys2Proof.Machine
end

