-- ==== Sys2Proof/Machine/Events.lean ====
section
/-!
DEFINITION. The event router (R293 to R303), converter block and deblock (R300, R301, R354 to R361), interrupts (R445, R446), and
the EVR and STR registers.
-/
namespace Sys2Proof.Machine

/-! ## Sources (R293, R294, R349) -/

/-- Lane `l` of a hub has a powered quad. -/
def laneUp (s : State) (l : Nat) : Bool := bitAt (s.fld SYS.QUAD_PWR.QUAD_EN) (l / 4)

/-- Does the register base + stride × l of any lane whose quad is powered have a bit of `mask` set? -/
def anyLane (s : State) (base stride mask : Nat) : Bool := (upto 128).any (fun l => laneUp s l && s.rd (base + stride * l) &&& mask != 0)

/-- The acquisition cores that are powered, as a mask. -/
def acqMask (s : State) : Nat := (upto 4).foldl (fun m c => if acqRunning s c then m + 2 ^ c else m) 0

/-- Sources of the control clod and the lanes, which are held in reset until the image is applied (R293, R540). -/
def controlSource (k : Nat) : Bool := (decide (32 ≤ k) && decide (k < 36)) || (decide (41 ≤ k) && decide (k < 116))

/-- Sources that the cell role has (R293, R294). -/
def cellHas (k : Nat) : Bool :=
  decide (k < 8) || (decide (36 ≤ k) && decide (k < 41)) || (decide (44 ≤ k) && decide (k < 54)) || (decide (103 ≤ k) && decide (k < 108))
    || k == 116 || (decide (118 ≤ k) && decide (k < 124)) || k == 127

/-- Graph tiles whose latch asserts GRAPH_LATCH (R202). -/
def graphLatch (s : State) : Bool :=
  s.img.graph.tiles.any (fun r => r.type == 0x11 && bitAt (s.cp.banks.par r.tile 0) 2 && (s.cp.eng.tile r.tile).latch)

/-- The Marl island requests safe block, or its supply was lost after it had been present (R293, R367, R423). -/
def mrlSafeBlock (s : State) : Bool := s.sys.mrlPwrSeen && (s.sys.mrlLost || s.marl.a.sb || s.marl.b.sb)

/-- A station interrupt status is set (R470). -/
def stationInt (s : State) : Bool :=
  (s.fld ETH.INT.BITS &&& s.fld ETH.INT_EN.EN) != 0
    || (upto 4).any (fun n => (s.fld (CAN.INT.BITS.at (0x1000 * n)) &&& s.fld (CAN.INT_EN.EN.at (0x1000 * n))) != 0)
    || s.rd SLT.EVT.addr != 0

/-- A source that both roles have. -/
def commonSource (s : State) (k : Nat) : Bool :=
  if k < 32 then decide (k < s.cmpCount) && s.flag (CMP.CSTAT.LATCH.at (cmpOff k))
  else match k with
    | 36 => (upto s.cmpCount).any (fun c => s.flag (CMP.CSTAT.CHATTER.at (cmpOff c)))
    | 37 => (upto s.cmpCount).any (fun c => s.flag (CMP.CSTAT.DAC_ERR.at (cmpOff c)))
    | 38 => s.fld ACQ.EVT.OVR &&& acqMask s != 0
    | 39 => s.fld ACQ.EVT.CFG_ERR &&& acqMask s != 0
    | 40 => s.fld ACQ.EVT.EST_LIM &&& acqMask s != 0
    | 116 => s.fld IMG.STAT.STATE == 6
    | 119 => s.flag THM.EVT.LIMIT || s.flag THM.EVT.RATE || s.flag THM.EVT.BROKEN
    | 120 => s.flag THM.EVT.SD
    | 121 => s.flag VRC.EVT.OV || s.flag VRC.EVT.UV || s.flag VRC.EVT.HICCUP || s.flag VRC.EVT.PFW
    | 122 => s.fld CLK.EVT.LOSS != 0
    | 123 => s.flag LSS.STAT.LOW
    | 127 => s.evr.soft
    | _ => false

/-- A source of the hub. -/
def hubSource (s : State) (k : Nat) : Bool :=
  if 32 ≤ k ∧ k < 36 then s.flag (PWM.FLT_STAT.LATCH.at (0x10 * (k - 32)))
  else if 44 ≤ k ∧ k < 50 then s.rd (MOD.ARM_FLAG.CARRY_SAT.addr + modOff (k - 44)) != 0
  else if 50 ≤ k ∧ k < 56 then s.rd (GRD.ARM_EVT.SHORT.addr + armOff (k - 50)) != 0
  else if 62 ≤ k ∧ k < 94 then (s.cp.eng.macro_ (k - 62)).evt != 0
  else if 94 ≤ k ∧ k < 103 then bitAt (s.rd LMP.EVT.addr) (k - 94)
  else if 103 ≤ k ∧ k < 108 then anyLane s LNK.EVT.addr 0x800 (2 ^ (k - 103))
  else if 108 ≤ k ∧ k < 116 then anyLane s CLT.LEVT.addr 0x200 (2 ^ (k - 108))
  else match k with
    | 41 => s.flag PWM.GSTAT.MINP
    | 42 => s.fld PWM.GSTAT.TORN != 0
    | 43 => s.fld PWM.GSTAT.HIZ != 0
    | 56 => bitAt s.cp.eng.satSum 0
    | 57 => bitAt s.cp.eng.satSum 1
    | 58 => graphLatch s
    | 59 => s.fld CEN.CAP_STAT.STATE == 3
    | 60 => (upto 4).any (fun c => s.flag (CEN.CORR_CTRL.DONE.at (injOff c)))
    | 61 => s.flag CEN.PCOMMIT_STAT.REJ
    | 117 => s.flag SYS.ALIGN_STAT.HOLDOVER
    | 118 => s.flag HST.AERR.VALID
    | 124 => mrlSafeBlock s
    | 125 => s.flag SYS.KAO_EVT.PEND || s.flag SYS.MRL_EVT.PEND
    | 126 => s.flag SYS.CLOD_PWR.STN_EN && stationInt s
    | _ => commonSource s k

/-- A source of the cell. -/
def cellSource (s : State) (k : Nat) : Bool :=
  if 44 ≤ k ∧ k < 50 then bitAt (s.rd GDC.EVT.addr) (k - 44)
  else if 103 ≤ k ∧ k < 108 then bitAt (s.rd LNK.EVT.addr) (k - 103)
  else match k with
    | 50 => s.flag GDC.FLT.VC_OV
    | 51 => s.flag CEL.STAT.LOW_ENERGY
    | 52 => s.flag CEL.STAT.HOLD_OUT
    | 53 => s.fld CEL.STAT.STAGE != 0
    | 118 => s.cell.replyErr
    | _ => commonSource s k

/-- The unit of source `k` is gated: the control clod and the lanes without an applied image or PLL0, the host and station clods of a hub
without PLL1 (R293, R480, R540). -/
def sourceGated (s : State) (k : Nat) : Bool :=
  (controlSource k && (s.fld IMG.STAT.STATE != 5 || (s.isHub && bitAt s.clk.lost 0))) || ((k == 118 || k == 126) && s.isHub && bitAt s.clk.lost 1)

/-- Is source `k` asserted? One whose unit is gated never is (R293). -/
def sourceAsserted (s : State) (k : Nat) : Bool :=
  if sourceGated s k then false
  else match s.sys.role with
  | .cell => cellSource s k
  | .hub => hubSource s k
  | _ => false

/-! ## Interrupts (R445, R446) -/

def noVector (_ : Nat) : BitVec 64 × BitVec 32 := (0, 0)

/-- The message of vector `v` goes out: its table entry's data to its address (R442, R443). -/
def msixMessage (v : Nat) (s : State) : State :=
  let e := tabGet noVector s.ep.table v
  s.emit (.msix v e.1 e.2)

/-- One MSI-X message falls due for vector `v`. -/
def msixSend (v : Nat) (s : State) : State :=
  if !s.flag HST.PCIE_STAT.MSIX_EN then s
  else if s.evr.msixFunc || bitAt s.evr.msixMask v then { s with evr := { s.evr with msixPend := putBit s.evr.msixPend v true } }
  else if s.flag HST.PCIE_STAT.LINK_UP then msixMessage v s else s

/-- Level of INT_N: low while an interrupt-mapped source of a hub is fired (R446). -/
def intN (s : State) : Bool := !(s.isHub && firedWith s (fun m => bitAt m 0))

/-- R442, R445: the driver writes table entries (vector, address, data), the vector masks and the function mask; each pending vector now
unmasked sends its one message. -/
def execMsixUnmask (mask : BitVec 64) (func : Bool) (s : State) (table : List (Fin 64 × BitVec 64 × BitVec 32) := []) :
    Host.Outcome State Fault Refusal :=
  if s.isHub = false then .next s else
  let s1 := { s.fresh with
    evr := { s.evr with msixMask := mask.toNat, msixFunc := func }
    ep := { s.ep with table := table.foldl (fun t e => tabSet noVector t e.1.val (e.2.1, e.2.2)) s.ep.table } }
  let due := (upto 64).filter (fun v => bitAt s.evr.msixPend v && !bitAt mask.toNat v && !func && s.flag HST.PCIE_STAT.MSIX_EN)
  .next (due.foldl (fun s v => msixSend v { s with evr := { s.evr with msixPend := putBit s.evr.msixPend v false } }) s1)

/-! ## Actions (R297 to R299) -/

/-- A converter block is requested; it takes effect with the next frame assembled (R301). -/
def blockRequest (s : State) : State := { s with evr := { s.evr with blockReq := true } }

/-- A freeze: the recorder and a capture triggered by it (R206, R519). -/
def freeze (src : Nat) (s : State) : State := capTrigger 4 (strataFreeze src s)

/-- TRIP_OUT[k] goes active at `now` ns; a clear that was held is cancelled. -/
def tripOn (now k : Nat) (s : State) : State :=
  let was := bitAt (s.fld EVR.TRIP_STAT.ACTIVE) k
  let s1 := (s.setFld EVR.TRIP_STAT.ACTIVE (putBit (s.fld EVR.TRIP_STAT.ACTIVE) k true)).setFld EVR.TRIP_STAT.CLR_PEND
    (putBit (s.fld EVR.TRIP_STAT.CLR_PEND) k false)
  if was then s1 else { s1 with evr := { s1.evr with minDone := putBit s1.evr.minDone k false, tripAt := tabSet zeroNat s1.evr.tripAt k now } }

/-- Level of the TRIP_OUT[k] pin (R299); undriven from a reset until the image has set its polarity (R530). -/
def tripPin (s : State) (k : Nat) : Option Bool :=
  if s.evr.polSet then some (bitAt (s.fld EVR.TRIP_STAT.ACTIVE) k != bitAt (s.fld EVR.TRIP_CFG.POL) k) else none

/-- PWM groups of a mask go to high impedance; their pairs take no carry (R315). -/
def pwmHiz (groups : Nat) (s : State) : State :=
  let s1 := s.setFld PWM.GSTAT.HIZ (s.fld PWM.GSTAT.HIZ ||| groups)
  ((upto 12).filter (fun p => bitAt groups (s.fld (PWM.PAIR_CFG.GROUP.at (0x40 * p))))).foldl
    (fun s p => s.setFld (PWM.PAIR_CARRY.C.at (0x40 * p)) 0) s1

/-- The actions of map entry `m` for source `k`, at `now` ns. -/
def takeActions (k m now : Nat) (s : State) : State :=
  if s.isCell then
    let s1 := { s with evr := { s.evr with blockSrc := putBit s.evr.blockSrc k (bitAt m 1) } }
    if bitAt m 7 then freeze k s1 else s1
  else
    let s1 := if bitAt m 0 then msixSend (bitsAt m 16 8 % 64) s else s
    let s2 := if bitAt m 1 || k == 124 || k == 120 || (k == 122 && s.fld CLK.EVT.LOSS &&& 3 != 0) then blockRequest s1 else s1
    let s3 := if bitAt m 2 then stopAll now s2 else s2
    let s4 := ((upto 4).filter (fun j => bitAt m (3 + j))).foldl (fun s j => tripOn now j s) s3
    let s5 := if bitAt m 7 then freeze k s4 else s4
    let s6 := if bitAt m 8 then pwmHiz (bitsAt m 24 4) s5 else s5
    if bitAt m 9 then s6.emit (.notify k) else s6

/-- A change `f` of what decides whether stop symbols are repeated: where it does, every lane has sent by instant `now` ns what starts
before it (R298). -/
def repeatChange (now : Nat) (f : State → State) (s : State) : State :=
  if stopRepeat (f s) == stopRepeat s then f s else f (lanesTo (5 * now) s)

/-- The latch of source `k` is set. -/
def latchSource (k : Nat) (s : State) : State :=
  let f := EVR.FIRED.BITS.at (4 * (k / 32))
  s.setFld f (putBit (s.fld f) (k % 32) true)

/-- R295: an asserted source whose latch is clear fires, at `now` ns: latch, count, first firing, strata event, actions. -/
def fireSource (k now : Nat) (s : State) : State :=
  if sourceAsserted s k && !sourceFired s k then
    let f := EVR.FIRED.BITS.at (4 * (k / 32))
    let cnt : Fld := ⟨EVR.FCNT.addr + 4 * (k / 4), 8 * (k % 4), 8⟩
    let s1 := (repeatChange now (latchSource k) s).count cnt 1
    let s2 := if s1.flag EVR.FIRST.VALID then s1
      else ((s1.setFlag EVR.FIRST.VALID true).setFld EVR.FIRST.SRC k).setFld EVR.FIRST_PCNT.PCNT (s1.period.pcnt % 2 ^ 32)
    let s3 := s2.event (0x0100 + k) (s2.fld cnt + 2 ^ 32 * s2.fld f)
    takeActions k (mapWord s3 k) now s3
  else s

/-- A source mapped to TRIP_OUT[k] is fired. -/
def tripHeld (s : State) (k : Nat) : Bool := firedWith s (fun m => bitAt m (3 + k))

/-- R299: every pin with a held clear, MIN_MS run out and no mapped source fired leaves its active level. -/
def tripRelease (s : State) : State :=
  ((upto 4).filter (fun k => bitAt (s.fld EVR.TRIP_STAT.CLR_PEND) k && bitAt s.evr.minDone k && !tripHeld s k)).foldl (fun s k =>
    (s.setFld EVR.TRIP_STAT.CLR_PEND (putBit (s.fld EVR.TRIP_STAT.CLR_PEND) k false)).setFld EVR.TRIP_STAT.ACTIVE
      (putBit (s.fld EVR.TRIP_STAT.ACTIVE) k false)) s

/-- R299: a write to TRIP_CLR: each clear is refused, held or acts. -/
def tripClear (mask : Nat) (s : State) : State :=
  tripRelease (((upto 4).filter (bitAt mask)).foldl (fun s k =>
    if tripHeld s k then s.setFlag EVR.TRIP_STAT.CLR_REJ true
    else if bitAt (s.fld EVR.TRIP_STAT.ACTIVE) k then s.setFld EVR.TRIP_STAT.CLR_PEND (putBit (s.fld EVR.TRIP_STAT.CLR_PEND) k true)
    else s) s)

/-- TRIP_OUT[k] has been active for MIN_MS at `now` ns. -/
def tripAged (s : State) (now k : Nat) : Bool :=
  bitAt (s.fld EVR.TRIP_STAT.ACTIVE) k && decide (tabGet zeroNat s.evr.tripAt k + 1000000 * max 1 (s.fld EVR.TRIP_CFG.MIN_MS) ≤ now)

/-- R299: a written MIN_MS holds for the pins already active: which of them it has run out for at `now` ns. -/
def tripRetime (now : Nat) (s : State) : State :=
  tripRelease { s with evr := { s.evr with minDone := (upto 4).foldl (fun m k => putBit m k (tripAged s now k)) s.evr.minDone } }

/-- R299: MIN_MS of TRIP_OUT[k] has run out, `dt` ns after the last boundary; a held clear acts. -/
def execTripMinMsExpire (k : Fin 4) (s : State) (dt : Nat := 0) : Host.Outcome State Fault Refusal :=
  if tripAged s (s.period.timeNs + dt) k.val then
    .next (tripRelease { s with evr := { s.evr with minDone := putBit s.evr.minDone k.val true } })
  else .next s

/-! ## Deblock (R300, R358 to R361) -/

/-- Cells of an arm that count as ranked for code 0x08 (R360). -/
def rankedForDeblock (s : State) (a : Nat) : Nat :=
  let r := (s.cp.arm a).rank.map (·.2)
  r.length + ((usedEntries s).filter (fun u => u.2.cfg.arm == a && !r.contains u.1 && (s.cp.grade u.1).stopLatched
    && (exclusion u.2 { s.cp.grade u.1 with stopLatched := false }).isNone)).length

/-- Arms with a configured cell. -/
def liveArms (s : State) : List Nat := (upto s.img.arms.length).filter (fun a => (s.img.arms.getD a {}).configured != 0)

/-- Acquisition inputs that the tile graph reads, by its tiles and its sinks (R57). -/
def graphInputs (g : Graph) : List Nat := ((g.tiles.flatMap (·.srcs) ++ g.sinks.map (·.src)).filter (fun d => d.kind == 2)).map (·.index)

/-- The quantities of an arm as the last boundary took them; before the first, those of the arrays (R172). -/
def heldQuantities (s : State) (a : Nat) : List Int := match (s.cp.arm a).quant with | [] => armQuantities s s.cp a | q => q

/-- Does the condition of REFUSE code `c` hold at time `now` in ns? -/
def deblockCond (s : State) (now c : Nat) : Bool :=
  match c with
  | 0x01 => !s.flag IMG.STAT.VALID
  | 0x02 => (upto 128).any (fun k => bitAt (mapWord s k) 1 && (sourceFired s k || sourceAsserted s k))
  | 0x03 => s.flag LMP.STAT.ESCALATED
  | 0x04 => sourceAsserted s 124
  | 0x05 => sourceAsserted s 120
  | 0x06 => s.fld EVR.TRIP_STAT.ACTIVE != 0
  | 0x07 => s.flag IMG.CT_STAT.COMMIT_PEND
  | 0x08 => (liveArms s).any (fun a => decide (rankedForDeblock s a < (s.img.arms.getD a {}).needed))
  | 0x09 => (liveArms s).any (fun a => decide ((heldQuantities s a).getD 2 0 < ((s.fld EVR.DBLK_CFG.VMIN * 2 ^ 9 : Nat) : Int)))
  | 0x0A => s.flag EVR.DBLK_CFG.REQ_SYNC && (s.img.graph.macros.zipIdx.any (fun r => r.1.type == 0x01 && !bitAt (s.cp.eng.macro_ r.2).stat 0))
  | 0x0B => s.flag EVR.DBLK_CFG.REQ_ALIGN && (bitsAt s.period.cfg.toNat 16 2 == 1 || bitsAt s.period.cfg.toNat 16 2 == 2)
      && !s.flag SYS.ALIGN_STAT.LOCKED
  | 0x0C => (graphInputs s.img.graph).any (fun i => !s.flag (ACQ.IN_STAT.VALID.at (inputOff i)))
  | 0x0D => (liveArms s).any (fun a => s.flag (GRD.ARM_EVT.BOOKS.at (armOff a))) || anyLane s CLT.LEVT.addr 0x200 0x80
  | 0x0E => match s.evr.rearmFrom with
      | none => s.fld EVR.DBLK_CFG.REARM_MS != 0
      | some t => decide (now < t + 1000000 * s.fld EVR.DBLK_CFG.REARM_MS)
  | 0x0F => s.fld LMP.STAT.STATE == 2
  | _ => false

/-- The lowest code that holds. -/
def deblockRefusal (s : State) (now : Nat) : Option Nat := (upto 16).find? (deblockCond s now)

/-- A DEBLOCK write, at time `now`: the first evaluation (R359). -/
def deblockRequest (now : Nat) (s : State) : State :=
  match deblockRefusal s now with
  | some c => (s.setFld EVR.CONV_STAT.REFUSE c).setFlag EVR.CONV_STAT.DEBLOCK_PEND false
  | none => if s.blocked then s.setFlag EVR.CONV_STAT.DEBLOCK_PEND true else s

/-- R177: what a block ends, and what a deblock starts from. -/
def copyBlocked (c : Copy) : Copy :=
  { c with
    arms := tabMap noArm c.arms (fun _ a => { a with xPrev := none })
    grades := tabMap noGrade c.grades (fun _ g => { g with recharge := none }) }

def copyDeblocked (c : Copy) : Copy :=
  { c with
    arms := tabMap noArm c.arms (fun _ a => { a with carry := 0, xPrev := none, polNeg := false, charging := true })
    grades := tabMap noGrade c.grades (fun _ g => { g with pend := none, cmdNeg := false }) }

/-- A converter block takes effect: the cells in recharge leave it and are settled (R157, R177). -/
def blockTakes (s : State) : State :=
  let cells := (s.cp.grades.filter (fun g => g.2.recharge.isSome)).map Prod.fst
  cells.foldl (fun s i => settle i false s) ((s.onCopies copyBlocked).setFlag EVR.CONV_STAT.BLOCKED true)

/-- Every cell's command counts as block, as the words of a blocked converter have it: the apply set is empty (R167, R177). -/
def cmdsBlocked (s : State) : State :=
  (usedEntries s).foldl (fun s u => if u.2.hub.cmdState = .inserted ∨ u.2.hub.cmdState = .bypassed then
    s.setHub u.1 (fun h => { h with cmdState := .blocked }) else s) s

/-- The boundary whose period is `now` ns from reset: a block takes effect, the Marl island's safe block whatever its map entry says,
else a deblock whose conditions still hold (R300, R301, R359). -/
def convBoundary (now : Nat) (s : State) : State :=
  let s0 := if s.evr.rearmFrom.isNone then { s with evr := { s.evr with rearmFrom := some now } } else s
  let s1 := if s0.evr.blockReq || (mrlSafeBlock s0 && s0.deblocked) then
      { (if s0.blocked then s0 else blockTakes s0) with evr := { s0.evr with blockReq := false, rearmFrom := some now } }
    else s0
  if s1.flag EVR.CONV_STAT.DEBLOCK_PEND && s.fld LMP.STAT.STATE != 1 then
    let s2 := s1.setFlag EVR.CONV_STAT.DEBLOCK_PEND false
    match deblockRefusal s2 now with
    | some c => s2.setFld EVR.CONV_STAT.REFUSE c
    | none => if s0.evr.blockReq || mrlSafeBlock s0 then s2 else ((cmdsBlocked s2).onCopies copyDeblocked).setFlag EVR.CONV_STAT.BLOCKED false
  else s1

/-! ## Registers (R317, R354) -/

/-- A write of an EVR register, `dt` ns after the last boundary. -/
def wrEVR (a w dt : Nat) (s : State) : WriteResult :=
  if a = EVR.CONV_CTRL.addr then
    if s.isCell then .ok s
    else .ok (if bitAt w 1 then blockRequest s else if bitAt w 0 then deblockRequest (s.baseNs + dt) s else s)
  else if a = EVR.TRIP_CLR.addr then .ok (if s.isCell then s else tripClear (w % 16) s)
  else if a = EVR.TRIP_CFG.addr then .ok (if s.isCell then s.store a w else tripRetime (s.baseNs + dt) (s.store a w))
  else if a = EVR.GCFG.addr then .ok (repeatChange (s.baseNs + dt) (fun s => s.store a w) s)
  else if a = EVR.SOFT.addr then
    .ok (if bitAt w 0 then { s with evr := { s.evr with soft := true } }
      else if bitAt w 1 then { s with evr := { s.evr with soft := false } } else s)
  else if EVR.FIRED.addr ≤ a ∧ a < EVR.FIRED.addr + 16 then
    let i := (a - EVR.FIRED.addr) / 4
    let clr := (upto 32).foldl (fun m j => if bitAt w j && !sourceAsserted s (32 * i + j) then m + 2 ^ j else m) 0
    .ok (tripRelease (repeatChange (s.baseNs + dt) (fun s => s.store a clr) s))
  else if EVR.MAP.addr ≤ a ∧ a < EVR.MAP.addr + 512 then
    if s.isCell && !cellHas ((a - EVR.MAP.addr) / 4) then .ok s
    else if s.deblocked && (s.rd a &&& 0x0F00017E) != ((s.store a w).rd a &&& 0x0F00017E) then .error causeDeblocked
    else .ok (tripRelease (repeatChange (s.baseNs + dt) (fun s => s.store a w) s))
  else if EVR.FCNT.addr ≤ a ∧ a < EVR.FCNT.addr + 128 then .ok (s.wr a 0)
  else if a = EVR.DBLK_CFG.addr then (if s.deblocked then .error causeDeblocked else .ok (s.store a w))
  else .ok (s.store a w)

/-- Live reads of the EVR block. -/
def rdEVR (a now : Nat) (s : State) : Nat :=
  if EVR.ASSERT.addr ≤ a ∧ a < EVR.ASSERT.addr + 16 then
    let i := (a - EVR.ASSERT.addr) / 4
    (upto 32).foldl (fun m j => if sourceAsserted s (32 * i + j) then m + 2 ^ j else m) 0
  else if a = EVR.DBLK_STAT.addr then
    if s.isCell then 0 else (upto 16).foldl (fun m c => if deblockCond s now c then m + 2 ^ c else m) 0
  else if s.isCell ∧ EVR.MAP.addr ≤ a ∧ a < EVR.MAP.addr + 512 ∧ cellHas ((a - EVR.MAP.addr) / 4) = false then 0
  else s.rd a

/-- A write of an STR register (R524). -/
def wrSTR (a w : Nat) (s : State) : WriteResult :=
  if a = STR.CTRL.addr then
    let s1 := slotRelease (bitsAt w 4 4) (s.store a w)
    .ok (if bitAt w 31 then freeze 0xFF s1 else s1)
  else .ok (s.store a w)

end Sys2Proof.Machine
end

