-- ==== Sys2Proof/Machine/CellTable.lean ====
section
/-!
DEFINITION. The cell table as bytes, its live and shadow banks, and commits (R56, R70, R73 to R75, R97, R175).
-/
namespace Sys2Proof.Machine

/-! ## Bytes of an entry (R70) -/

/-- PLACE, without LEVEL. -/
def placeCfg (c : CtCfg) : Nat :=
  c.arm * 2 ^ 29 + c.lane * 2 ^ 22 + c.slot * 2 ^ 17 + c.pos * 2 ^ 7 + c.type * 2 ^ 5 + c.slotFixed.toNat * 4 + c.excl.toNat * 2

/-- The sixteen words of an entry. -/
def entryWords (c : CtCfg) (h : CtHub) : List Nat :=
  let status := codeOfState h.state * 2 ^ 29 + h.neg.toNat * 2 ^ 28 + codeOfState h.cmdState * 2 ^ 25 + h.stale.toNat * 2 ^ 24
    + (h.reason % 256) * 2 ^ 16 + h.errCnt % 65536
  [c.uid % 2 ^ 32, c.uid / 2 ^ 32 % 2 ^ 32, placeCfg c + h.level * 8, h.delayEq % 65536 + (h.dC % 65536) * 65536,
    c.vcGain, c.vcOffs, c.eqPreset % 2 ^ 32, c.eqPreset / 2 ^ 32 % 2 ^ 32, h.wear]
    ++ (upto 4).map (fun k => leNat ((h.report.drop (4 * k)).take 4))
    ++ [h.lastPcnt, status, (h.admissions % 256) * 2 ^ 24 + (h.beh % 256) * 2 ^ 16]

/-- Configuration fields after a write of word `k`; none where the word is hub-owned. -/
def cfgWrite (c : CtCfg) (k w : Nat) : Option CtCfg :=
  match k with
  | 0 => some { c with uid := putBits c.uid 0 32 w }
  | 1 => some { c with uid := putBits c.uid 32 32 w }
  | 2 => some { c with
      arm := bitsAt w 29 3, lane := bitsAt w 22 7, slot := bitsAt w 17 5, pos := bitsAt w 7 10, type := bitsAt w 5 2
      slotFixed := bitAt w 2, excl := bitAt w 1 }
  | 4 => some { c with vcGain := w }
  | 5 => some { c with vcOffs := w }
  | 6 => some { c with eqPreset := putBits c.eqPreset 0 32 w }
  | 7 => some { c with eqPreset := putBits c.eqPreset 32 32 w }
  | _ => none

/-- A live entry's configuration fields with the written words over them. -/
def writtenCfg (c : CtCfg) (ws : List (Nat × Nat)) : CtCfg := ws.foldl (fun (c : CtCfg) x => (cfgWrite c x.1 x.2).getD c) c

/-- The words written in a shadow entry; none while it is clean. -/
def State.shadowWords (s : State) (i : Nat) : Option (List (Nat × Nat)) := (s.ct.shadow.find? (fun x => x.1 == i)).map (·.2)

/-- Configuration fields of a dirty shadow entry: a field not written since the last commit follows the live one (log 44). -/
def State.shadowOf (s : State) (i : Nat) : Option CtCfg := (s.shadowWords i).map (writtenCfg (s.entry i).cfg)

/-- Word `k` of entry `i` as bank 0 or 1 shows it. -/
def ctWord (s : State) (bank i k : Nat) : Nat :=
  let e := s.entry i
  let c := if bank = 1 then (s.shadowOf i).getD e.cfg else e.cfg
  (entryWords c e.hub).getD k 0

def ctBank (s : State) : Nat := s.fld IMG.CT_CTRL.BANK

/-- A commit is pending, or the loader is neither in DONE nor in FAIL (R75). -/
def ctClosed (s : State) : Bool :=
  s.flag IMG.CT_STAT.COMMIT_PEND || !(s.fld IMG.STAT.STATE == 5 || s.fld IMG.STAT.STATE == 6)

/-- Put an entry into a list by rising index. -/
def putByIndex {α : Type} (i : Nat) (c : α) : List (Nat × α) → List (Nat × α)
  | [] => [(i, c)]
  | x :: t => if i < x.1 then (i, c) :: x :: t else if i = x.1 then (i, c) :: t else x :: putByIndex i c t

/-- Word `k` joins the written words. -/
def putWord (k w : Nat) (ws : List (Nat × Nat)) : List (Nat × Nat) := (k, w) :: ws.filter (fun x => x.1 != k)

/-- A write of word `k`: UID and EQ_PRESET are one field of two words each, so either word makes both written. -/
def shadowWrite (s : State) (i k w : Nat) : List (Nat × Nat) :=
  let ws := (s.shadowWords i).getD []
  let both := k ≤ 1 ∨ 6 ≤ k
  let other := if k % 2 = 0 then k + 1 else k - 1
  putWord k w (if both then putWord other (ctWord s 1 i other) ws else ws)

/-- A write to the cell-table window (R73, R75). -/
def wrCT (a w : Nat) (s : State) : WriteResult :=
  let i := (a - 0x180000) / 64
  let k := (a - 0x180000) % 64 / 4
  if ctBank s = 0 then .error causeLiveBank
  else if ctClosed s then .error causeBusy
  else if (cfgWrite {} k 0).isNone then .ok s
  else .ok { s with ct := { s.ct with shadow := putByIndex i (shadowWrite s i k (w % 2 ^ 32)) s.ct.shadow } }

/-! ## The EQ_PRESET latch of a host path (R97) -/

def eqLatch (s : State) (p : Path) : Option (Nat × Nat × Nat) := if p = .spi then s.ct.eqLatch1 else s.ct.eqLatch0

def setEqLatch (p : Path) (x : Option (Nat × Nat × Nat)) (s : State) : State :=
  if p = .spi then { s with ct := { s.ct with eqLatch1 := x } } else { s with ct := { s.ct with eqLatch0 := x } }

/-- A read of one word of the window. -/
def rdCT (p : Path) (a : Nat) (s : State) : State × Nat :=
  let i := (a - 0x180000) / 64
  let k := (a - 0x180000) % 64 / 4
  let b := ctBank s
  if k = 6 then (setEqLatch p (some (i, b, ctWord s b i 7)) s, ctWord s b i 6)
  else if k = 7 then
    match eqLatch s p with
    | some (j, c, v) => if j = i ∧ c = b then (setEqLatch p none s, v) else (s, ctWord s b i 7)
    | none => (s, ctWord s b i 7)
  else (s, ctWord s b i k)

/-! ## Checks of a table (R56, R74) -/

/-- What a failed check names: its CT_ERR code, the entry, and the TOPO field where no entry is named. -/
structure CtFail where
  code : Nat
  entry : Option Nat
  /-- offset in TOPO of the CONFIGURED or LANE_CELLS field concerned -/
  topo : Nat := 0
  deriving DecidableEq, Repr

/-- The lowest index whose entry clashes with one of lower index. -/
def firstClash (clash : CtCfg → CtCfg → Bool) : List (Nat × CtCfg) → List (Nat × CtCfg) → Option Nat
  | _, [] => none
  | seen, x :: t => if seen.any (fun y => clash y.2 x.2) then some x.1 else firstClash clash (x :: seen) t

/-- Entries of `xs` that satisfy `p`, counted. -/
def countCfg (xs : List (Nat × CtCfg)) (p : CtCfg → Bool) : Nat := (xs.filter (fun x => p x.2)).length

/-- First used entry of the lowest-numbered arm whose count differs, then of such a lane. -/
def countFail (arms : List ArmTopo) (lanes : List Nat) (xs : List (Nat × CtCfg)) : Option CtFail :=
  let first := fun (p : CtCfg → Bool) => (xs.find? (fun x => p x.2)).map (·.1)
  match (upto arms.length).find? (fun a => countCfg xs (fun c => c.arm == a) != (arms.getD a {}).configured) with
  | some a => some { code := 4, entry := first (fun c => c.arm == a), topo := 8 + 16 * a }
  | none =>
    match (upto 128).find? (fun l => countCfg xs (fun c => c.lane == l) != lanes.getD l 0) with
    | some l => some { code := 4, entry := first (fun c => c.lane == l), topo := 0x68 + l }
    | none => none

/-- The checks in the order of the CT_ERR codes over the used entries `xs` in rising index; `identity` is what check 0x05
found. -/
def ctCheck (arms : List ArmTopo) (lanes : List Nat) (identity : Option Nat) (xs : List (Nat × CtCfg)) : Option CtFail :=
  match firstClash (fun x y => x.uid == y.uid) [] xs with
  | some j => some { code := 1, entry := some j }
  | none =>
    match xs.find? (fun x => decide (arms.length ≤ x.2.arm) || x.2.type != (arms.getD x.2.arm {}).fullBridge.toNat) with
    | some x => some { code := 2, entry := some x.1 }
    | none =>
      match firstClash (fun x y => x.slotFixed && y.slotFixed && x.lane == y.lane && x.slot == y.slot) [] xs with
      | some j => some { code := 3, entry := some j }
      | none =>
        match countFail arms lanes xs with
        | some f => some f
        | none =>
          match identity with
          | some j => some { code := 5, entry := some j }
          | none => (firstClash (fun x y => x.arm == y.arm && x.pos == y.pos) [] xs).map (fun j => { code := 6, entry := some j })

/-- The used entries as a commit would leave them. -/
def committed (s : State) : List (Nat × CtCfg) :=
  let all := s.ct.shadow.foldl (fun t x => putByIndex x.1 (writtenCfg (s.entry x.1).cfg x.2) t) (s.ct.live.map (fun e => (e.1, e.2.cfg)))
  all.filter (fun x => x.2.uid != 0)

/-- An identity field differs. -/
def identityDiffers (x y : CtCfg) : Bool :=
  x.uid != y.uid || x.arm != y.arm || x.lane != y.lane || x.slot != y.slot || x.pos != y.pos || x.type != y.type

/-- The lowest dirty entry of an active cell whose identity would change while the converter is deblocked. -/
def identityFail (s : State) : Option Nat :=
  if s.blocked then none
  else (s.ct.shadow.find? (fun x =>
    let h := (s.entry x.1).hub
    (h.state == .blocked || h.state == .bypassed || h.state == .inserted || h.state == .dormant)
      && identityDiffers (s.entry x.1).cfg (writtenCfg (s.entry x.1).cfg x.2))).map (·.1)

/-- R74: the commit checks finish. -/
def execCtCommitChecksDone (s : State) : Host.Outcome State Fault Refusal :=
  if s.flag IMG.CT_STAT.COMMIT_PEND && !s.ct.checked then
    match ctCheck s.img.arms s.img.laneCells (identityFail s) (committed s) with
    | none => .next { (s.setFld IMG.CT_STAT.CT_ERR 0) with ct := { s.ct with checked := true } }
    | some f =>
      .next (((s.setFld IMG.CT_STAT.CT_ERR f.code).setFld IMG.CT_STAT.ERR_ENTRY (f.entry.getD 0)).setFlag IMG.CT_STAT.COMMIT_PEND false)
  else .next s

/-! ## A commit takes effect (R74, R75, R175) -/

/-- Lane and slot of a cell that is joining, admitted, or holds a slot from a decision. -/
def slotOfCell (s : State) (i : Nat) : Option (Nat × Nat) :=
  s.lanes.findSome? (fun x => (x.2.slots.find? (fun r => r.2.cell == i && r.2.own != .free && !r.2.releasing)).map (fun r => (x.1, r.1)))

/-- A re-insertion still queued when a commit changes gain or offset uses the committed ones (R175): the voltage of the latest report is
calibrated anew. -/
def rekeyQueued (i : Nat) (s : State) : State :=
  let e := s.entry i
  let v := vCal e.cfg (bitsAt (leNat e.hub.report) 0 28)
  let key := cellKey s e.cfg.arm e.hub.wear v
  let queued := (s.cp.arm e.cfg.arm).queue.any (opOf i)
  if queued && (s.cp.grade i).ranked then
    (s.onArm e.cfg.arm (fun x => { x with queue := x.queue.map (fun op => if opOf i op then .insert i key v else op) })).onGrade i
      (fun g => { g with key := key, vcal := v })
  else s

/-- One dirty entry replaces the live one. -/
def ctApplyOne (i : Nat) (c : CtCfg) (s : State) : State :=
  let old := (s.entry i).cfg
  let moved := old.uid != c.uid || old.lane != c.lane || old.slot != c.slot
  let s1 := if moved then
      match slotOfCell s i with
      | some (l, k) => releaseSlot l k 0xC1 true (s.setLane l ((s.lane l).setSlot k { (s.lane l).slot k with
          own := if ((s.lane l).slot k).own = .held then .joining else ((s.lane l).slot k).own }))
      | none => s
    else s
  let leaves := moved || old.arm != c.arm || c.excl
  let s2 := if leaves then bothCopies (leaveArm old.arm i) s1 else s1
  let s3 := s2.setEntry i { (s2.entry i) with cfg := c }
  let s4 := if old.vcGain ≠ c.vcGain ∨ old.vcOffs ≠ c.vcOffs then bothCopies (rekeyQueued i) s3 else s3
  if c.uid = 0 then s4 else settle i false s4

/-- The commit whose checks have passed acts at the boundary with count `pcnt`. -/
def ctApply (pcnt : Nat) (s : State) : State :=
  if s.ct.checked && s.flag IMG.CT_STAT.COMMIT_PEND then
    let s1 := s.ct.shadow.foldl (fun s x => ctApplyOne x.1 (writtenCfg (s.entry x.1).cfg x.2) s) s
    let s2 := { s1 with ct := { s1.ct with shadow := [], checked := false } }
    (s2.setFlag IMG.CT_STAT.COMMIT_PEND false).setFld IMG.CT_COMMIT_PCNT.PCNT (pcnt % 2 ^ 32)
  else s

end Sys2Proof.Machine
end

