-- ==== Sys2Proof/Machine/Pwm.lean ====
section
/-!
DEFINITION. The PWM generator (R304 to R316, R318): period starts, edges, commits, overrides, fault inputs and high impedance.
Times within a PWM period are in 125 ps from its start S.
-/
namespace Sys2Proof.Machine

def noPair (_ : Nat) : PwmPair := {}
def noGrp (_ : Nat) : PwmGrp := {}
def noSink (_ : Nat) : Option Int := none

def State.pair (s : State) (p : Nat) : PwmPair := tabGet noPair s.pwm.pairs p
def State.setPair (s : State) (p : Nat) (x : PwmPair) : State := { s with pwm := { s.pwm with pairs := tabSet noPair s.pwm.pairs p x } }
def State.grp (s : State) (g : Nat) : PwmGrp := tabGet noGrp s.pwm.grps g
def State.setGrp (s : State) (g : Nat) (x : PwmGrp) : State := { s with pwm := { s.pwm with grps := tabSet noGrp s.pwm.grps g x } }

def grpOff (g : Nat) : Nat := 0x20 * g
def fltOff (k : Nat) : Nat := 0x10 * k
def pairOff (p : Nat) : Nat := 0x40 * p

/-- Group of a pair. -/
def pairGrp (s : State) (p : Nat) : Nat := s.fld (PWM.PAIR_CFG.GROUP.at (pairOff p))

/-- Pairs of a group. -/
def grpPairs (s : State) (g : Nat) : List Nat := (upto 12).filter (fun p => pairGrp s p == g)

/-- PER_TC in force. -/
def perTc (s : State) (g : Nat) : Nat := s.fld (PWM.GRP_ACT.PER_TCM1.at (grpOff g)) + 1

/-- Least pulse of a pair, 125 ps (R308). -/
def minPulse (s : State) (p : Nat) : Nat := max 8 (s.fld (PWM.PAIR_MINP.MIN.at (pairOff p)))

/-- Dead time of a pair in band `b`, 125 ps (R307). -/
def deadTime (s : State) (b p : Nat) : Nat := (s.img.tband.getD b {}).pwmDt.getD p 0

def inHiz (s : State) (g : Nat) : Bool := bitAt (s.fld PWM.GSTAT.HIZ) g

/-- What a pair drives by the first row of R316 that applies; none in high impedance, as before an image is applied (R530) and with the
control clod in reset (R480; log 52). -/
def pairPins (s : State) (p : Nat) : Option PwmOut :=
  let x := s.pair p
  let g := pairGrp s p
  let mode := s.fld (PWM.PAIR_CFG.OVR_MODE.at (pairOff p))
  if inHiz s g || s.fld IMG.STAT.STATE != 5 || bitAt s.clk.lost 0 then none
  else if mode = 1 ∨ mode = 3 then some .off
  else if x.blockOff then some .off
  else if mode = 2 ∧ x.forced.isSome then x.forced
  else if !s.flag (PWM.GRP_CFG.EN.at (grpOff g)) || (s.grp g).lastS.isNone then some .off
  else match x.hold with
    | some o => some o
    | none => some x.gen

/-! ## A period start (R304 to R309) -/

/-- On-time and carry after the minimum-pulse rule of R308; the flag says that a pulse was too short. -/
def minPulseRule (stretch : Bool) (mn dt t tt : Int) : Int × Int × Bool :=
  if 0 < t ∧ t - dt < mn then (if stretch then (mn + dt, 0, true) else (0, t, true))
  else if t < tt ∧ tt - t - dt < mn then (if stretch then (tt - mn - dt, 0, true) else (tt, t - tt, true))
  else (t, 0, false)

/-- Edges of a PWM period with on-time `t` that follow outputs `was`; `late` is the PWML-on edge of the period before that falls into this one.
An output that stays as it is across S makes no edge there (R306). -/
def periodEdges (centre : Bool) (was : PwmOut) (late : Option Nat) (dt t tt : Int) : List (Nat × PwmOut) :=
  let lowOn : List (Nat × PwmOut) :=
    if was = .low then [] else if was = .high then [(0, .off), (dt.toNat, .low)] else [(late.getD 0, .low)]
  if t ≤ 0 then lowOn
  else if tt ≤ t then (if was = .high then [] else [(0, .off), (dt.toNat, .high)])
  else if centre then
    let o := roundHA (tt - t) 2
    let c := roundHA (tt + t) 2
    lowOn.filter (fun e => decide ((e.1 : Int) < o)) ++ [(o.toNat, .off), ((o + dt).toNat, .high), (c.toNat, .off), ((c + dt).toNat, .low)]
  else (if was = .high then [] else [(0, .off), (dt.toNat, .high)]) ++ [(t.toNat, .off), ((t + dt).toNat, .low)]

/-- The edge that a period of length `tt` leaves for the next one, counted from its S (R306). -/
def lateEdge (tt : Nat) (es : List (Nat × PwmOut)) : Option Nat := (es.find? (fun e => e.2 == .low && decide (tt ≤ e.1))).map (fun e => e.1 - tt)

/-- Edges due at S itself act at once. -/
def startEdges (x : PwmPair) (es : List (Nat × PwmOut)) : PwmPair :=
  match es with
  | (0, o) :: rest => { x with gen := o, edges := rest }
  | es => { x with edges := es }

/-- A force takes effect: off at once, or on after the dead time unless it is on already (R312). -/
def forceTake (s : State) (p : Nat) (x : PwmPair) : PwmPair :=
  let was := (pairPins s p).getD .off
  let tgt := match s.fld (PWM.PAIR_CFG.FORCE.at (pairOff p)) with | 1 => PwmOut.low | 2 => PwmOut.high | _ => PwmOut.off
  if tgt = .off ∨ was = tgt then { x with forceDue := false, forced := some tgt, forceOn := none }
  else { x with forceDue := false, forced := some .off, forceOn := some tgt }

/-- One pair at its S: request, clamp, minimum pulse, edges; overrides and blocking that end or begin there. The period that ends was `last`
long, in 125 ps. The generator goes on from the outputs that the pair held. -/
def pairStart (last p : Nat) (s : State) : State :=
  let o := pairOff p
  let x := s.pair p
  let g := pairGrp s p
  let mode := s.fld (PWM.PAIR_CFG.OVR_MODE.at o)
  let dt := deadTime s (s.fld THM.STAT.BAND) p
  let s0 := s.setFld (PWM.PAIR_STAT.DT.at o) dt
  let blockOff := s.flag (PWM.PAIR_CFG.BLOCK_OFF.at o) && s.blocked
  let was := match x.hold with | some o => o | none => if x.blockOff || (s.grp g).lastS.isNone then .off else x.gen
  let late := if x.hold.isSome || x.blockOff then none else lateEdge last x.edges
  let x0 : PwmPair := { x with hold := none, blockOff := blockOff, gen := was }
  if mode = 1 ∨ mode = 3 then s0.setPair p { x0 with edges := [], gen := .off, forced := none, forceDue := false, forceOn := none }
  else
    let x1 := if mode = 2 ∧ x0.forceDue then forceTake s p x0 else if mode = 2 then x0 else { x0 with forced := none, forceOn := none, forceDue := false }
    let tt : Int := ((perTc s g * tcNs s.tc * 8 : Nat) : Int)
    let d0 : Int := if s.flag (PWM.PAIR_SHD.SRC.at o) then (tabGet noSink s.pwm.sinks p).getD 0 else signedOf 32 x.act
    let d := clampI 0 onePu d0
    let free := inHiz s g || blockOff
    let c : Int := if free then 0 else s.sfld (PWM.PAIR_CARRY.C.at o)
    let t0 := roundHA (d * tt) (2 ^ 24) + c
    let t1 := clampI 0 tt t0
    let r := minPulseRule (s.flag (PWM.PAIR_STAT.MINP_MODE.at o)) (minPulse s p) dt t1 tt
    let s1 := if d != d0 then s0.raise (PWM.PAIR_STAT.DCLAMP.at o) else s0
    let s2 := if t1 != t0 then s1.raise (PWM.PAIR_STAT.TCLAMP.at o) else s1
    let s3 := if r.2.2 then (s2.count (PWM.PAIR_MINP.CNT.at o) 1).raise PWM.GSTAT.MINP else s2
    let s4 := ((s3.setFld (PWM.PAIR_TON.T.at o) (unsignedOf 32 r.1)).setFld (PWM.PAIR_CARRY.C.at o) (if free then 0 else unsignedOf 32 r.2.1)).setFld
      (PWM.PAIR_DACT.DUTY.at o) (unsignedOf 32 d)
    s4.setPair p (startEdges x1 (periodEdges (s.flag (PWM.PAIR_STAT.ALIGN.at o)) x1.gen late dt r.1 tt))

/-- R309: may a commit apply with its shadow period? -/
def commitFits (s : State) (g : Nat) : Bool :=
  let tt := (s.fld (PWM.GRP_PER.PER_TCM1.at (grpOff g)) + 1) * tcNs s.tc * 8
  (grpPairs s g).all (fun p => decide (2 * (minPulse s p + (upto 4).foldl (fun m b => max m (deadTime s b p)) 0) ≤ tt))

/-- R311: PER_W equals DUTY_W for every pair of the group with SRC 0. -/
def setWhole (s : State) (g : Nat) : Bool :=
  (grpPairs s g).all (fun p => s.flag (PWM.PAIR_SHD.SRC.at (pairOff p))
    || s.flag (PWM.PAIR_STAT.DUTY_W.at (pairOff p)) == s.flag (PWM.GRP_ACT.PER_W.at (grpOff g)))

/-- The commit of group `g` at its S, at the boundary with count `pcnt` (R309 to R311). -/
def grpCommit (g pcnt : Nat) (s : State) : State :=
  let s0 := (s.setFld PWM.GSTAT.PEND (putBit (s.fld PWM.GSTAT.PEND) g false)).setGrp g { s.grp g with ready := false }
  if s.flag (PWM.GRP_CFG.TORN_CHK.at (grpOff g)) && !setWhole s g then s0.raiseBit PWM.GSTAT.TORN g
  else if !commitFits s g then s0.setFlag PWM.GSTAT.CFG_REJ true
  else
    let newPer := s.fld (PWM.GRP_PER.PER_TCM1.at (grpOff g))
    let s1 := if newPer + 1 ≠ perTc s g then
        (s0.setGrp g { s0.grp g with anchor := some pcnt }).setFld (PWM.GRP_ANCHOR.PCNT.at (grpOff g)) (pcnt % 2 ^ 32)
      else s0
    let s2 := (s1.setFld (PWM.GRP_ACT.PER_TCM1.at (grpOff g)) newPer).setFlag (PWM.GRP_ACT.PER_W.at (grpOff g)) false
    (grpPairs s g).foldl (fun s p =>
      let o := pairOff p
      let s3 := (s.setFlag (PWM.PAIR_STAT.ALIGN.at o) (s.flag (PWM.PAIR_SHD.ALIGN.at o))).setFlag (PWM.PAIR_STAT.MINP_MODE.at o)
        (s.flag (PWM.PAIR_SHD.MINP_MODE.at o))
      (s3.setFlag (PWM.PAIR_STAT.DUTY_W.at o) false).setPair p { s.pair p with act := s.fld (PWM.PAIR_DUTY.DUTY.at o) }) s2

/-- Is an S of group `g` due after the boundary with count `pcnt`? -/
def startDue (s : State) (g pcnt : Nat) : Bool :=
  s.flag (PWM.GRP_CFG.EN.at (grpOff g)) && (s.grp g).lastS != some pcnt
    && match (s.grp g).anchor with
      | none => false
      | some a => (pcnt + 2 ^ 48 - a) % 2 ^ 48 % perTc s g == 0

/-! ## Blanking (R314) -/

/-- An edge of a pair of group `g` opens the blanking windows that the group opens, `now` being the time in ns. -/
def blankOpen (g now : Nat) (s : State) : State :=
  ((upto 4).filter (fun k => bitAt (s.fld (PWM.FLT_CFG.BLANK_GRP.at (fltOff k))) g)).foldl
    (fun s k =>
      let e := max (tabGet zeroNat s.pwm.blankTo k) (now + 8 * s.fld (PWM.FLT_CFG.BLANK.at (fltOff k)))
      { s with pwm := { s.pwm with blankTo := tabSet zeroNat s.pwm.blankTo k e } }) s

/-- Does pair `p` drive other outputs after an operation than before it? -/
def pinsMoved (s0 s : State) (p : Nat) : Bool :=
  match pairPins s0 p, pairPins s p with
  | some a, some b => a != b
  | _, _ => false

/-- The edges that an operation made at `now` ns, from state `s0` to state `s`, open blanking windows. -/
def blankMoved (now : Nat) (s0 s : State) : State :=
  ((upto 4).filter (fun g => (grpPairs s g).any (pinsMoved s0 s))).foldl (fun s g => blankOpen g now s) s

/-- R304 to R313: S of group `g`, 128 ns after the last boundary. -/
def execPwmPeriodStart (g : Fin 4) (s : State) : Host.Outcome State Fault Refusal :=
  let n := s.period.pcnt
  if startDue s g.val n then
    let last := perTc s g.val * tcNs s.tc * 8
    let s1 := if (s.grp g.val).ready then grpCommit g.val n s else s
    let s2 := (grpPairs s1 g.val).foldl (fun s p => pairStart last p s) s1
    .next (blankMoved (s.period.timeNs + 128) s (s2.setGrp g.val { s2.grp g.val with lastS := some n }))
  else .next s

/-! ## Edges (R306, R312, R314) -/

/-- R306: the next edge of a pair falls due, `dt` ns after the last boundary: that of a force whose dead time has passed, else the
generator's, in whose place a FORCE_AT 0 force takes effect. Blanking opens where the pair's outputs make the edge. -/
def execPwmEdge (p : Fin 12) (dt : Nat) (s : State) : Host.Outcome State Fault Refusal :=
  let x := s.pair p.val
  let now := s.baseNs + dt
  match x.forceOn with
  | some o => .next (blankMoved now s (s.setPair p.val { x with forced := some o, forceOn := none }))
  | none =>
    match x.edges with
    | [] => .next s
    | (_, o) :: rest =>
      let x1 := { x with gen := o, edges := rest }
      let take := x.forceDue && !s.flag (PWM.PAIR_CFG.FORCE_AT.at (pairOff p.val)) && s.fld (PWM.PAIR_CFG.OVR_MODE.at (pairOff p.val)) == 2
      .next (blankMoved now s (s.setPair p.val (if take then forceTake s p.val x1 else x1)))

/-! ## Boundaries -/

/-- At a boundary with count `pcnt`: anchors of groups just enabled, commits sampled before it, duty sinks, pairs turned
off with the converter. -/
def pwmBoundary (pcnt : Nat) (s : State) : State :=
  (upto 4).foldl (fun s g =>
    let x := s.grp g
    let s2 := if s.flag (PWM.GRP_CFG.EN.at (grpOff g)) && x.anchor.isNone then
        (s.setGrp g { x with anchor := some pcnt }).setFld (PWM.GRP_ANCHOR.PCNT.at (grpOff g)) (pcnt % 2 ^ 32)
      else s
    s2.setGrp g { s2.grp g with ready := bitAt (s2.fld PWM.GSTAT.PEND) g }) s

/-- While the converter is blocked, pairs with BLOCK_OFF are off and their carry is zero (R313). -/
def pwmBlocked (s : State) : State :=
  if s.blocked then
    blankMoved s.period.timeNs s <| ((upto 12).filter (fun p => s.flag (PWM.PAIR_CFG.BLOCK_OFF.at (pairOff p)))).foldl
      (fun s p => (s.setPair p { s.pair p with blockOff := true }).setFld (PWM.PAIR_CARRY.C.at (pairOff p)) 0) s
  else s

/-! ## Fault inputs and high impedance (R314, R315) -/

/-- One sample of fault input `k` at `now` ns, its pin at `pin`: polarity, blanking, the majority of the last three; a filtered input that asserts
sets LATCH, and the groups of HIZ_GRP go to high impedance. -/
def faultSample (k now : Nat) (pin : Bool) (s : State) : State :=
  let o := fltOff k
  let raw := (pin != s.flag (PWM.FLT_CFG.POL.at o)) && decide (tabGet zeroNat s.pwm.blankTo k ≤ now)
  let w := (2 * tabGet zeroNat s.pwm.fltWin k + raw.toNat) % 8
  let on := decide (2 ≤ popcount 3 w)
  let s1 := { s.setFlag (PWM.FLT_STAT.FILT.at o) on with pwm := { s.pwm with fltWin := tabSet zeroNat s.pwm.fltWin k w } }
  if on && !s.flag (PWM.FLT_STAT.FILT.at o) then pwmHiz (s.fld (PWM.FLT_CFG.HIZ_GRP.at o)) (s1.setFlag (PWM.FLT_STAT.LATCH.at o) true) else s1

/-- Samples 4 ns apart from `now` ns on. -/
def faultSamples (k : Nat) : List Bool → Nat → State → State
  | [], _, s => s
  | pin :: rest, now, s => faultSamples k rest (now + 4) (faultSample k now pin s)

/-- R314: fault input `k` is sampled every 4 ns, the first time `dt` ns after the last boundary. -/
def execPwmFault (k : Fin 4) (s : State) (pins : List Bool := []) (dt : Nat := 0) : Host.Outcome State Fault Refusal :=
  if s.isCell || !s.flag (PWM.FLT_CFG.EN.at (fltOff k.val)) then .next s
  else .next (faultSamples k.val pins (s.baseNs + dt) s)

/-- R315: one group leaves high impedance, or the clear is rejected. -/
def hizClear (g : Nat) (s : State) : State :=
  if !inHiz s g then s
  else if (upto 4).any (fun k => s.flag (PWM.FLT_STAT.LATCH.at (fltOff k)) && bitAt (s.fld (PWM.FLT_CFG.HIZ_GRP.at (fltOff k))) g)
      || firedWith s (fun m => bitAt (bitsAt m 24 4) g) then s.setFlag PWM.GSTAT.HIZ_REJ true
  else
    (grpPairs s g).foldl (fun s p => (s.setPair p { s.pair p with hold := some .off }).setFld (PWM.PAIR_CARRY.C.at (pairOff p)) 0)
      (s.setFld PWM.GSTAT.HIZ (putBit (s.fld PWM.GSTAT.HIZ) g false))

/-! ## Registers (R318) -/

/-- A write of a pair's PAIR_CFG: override changes act under R312. -/
def wrPairCfg (p w : Nat) (s : State) : State :=
  let o := pairOff p
  let a := PWM.PAIR_CFG.OVR_MODE.addr + o
  let x := s.pair p
  let was := s.fld (PWM.PAIR_CFG.OVR_MODE.at o)
  let pins := (pairPins s p).getD .off
  let s1 := s.store a w
  let mode := s1.fld (PWM.PAIR_CFG.OVR_MODE.at o)
  let force := s1.fld (PWM.PAIR_CFG.FORCE.at o)
  let s2 := if force = 3 then s1.raise (PWM.PAIR_STAT.FORCE_ERR.at o) else s1
  let s3 := if s.blocked && s2.flag (PWM.PAIR_CFG.BLOCK_OFF.at o) then (s2.setFld (PWM.PAIR_CARRY.C.at o) 0) else s2
  let x1 : PwmPair :=
    if mode = 1 ∨ mode = 3 then { x with edges := [], gen := .off, forced := none, forceDue := false, forceOn := none, hold := none }
    else if mode = 2 then
      if was = 2 then { x with forceDue := x.forceDue || force != s.fld (PWM.PAIR_CFG.FORCE.at o) }
      else { x with forceDue := true, forced := if was = 0 then none else some .off, hold := if was = 0 then x.hold else none }
    else if was = 0 then x
    else { x with edges := [], forced := none, forceDue := false, forceOn := none, hold := some pins }
  let x2 := if s.blocked && s2.flag (PWM.PAIR_CFG.BLOCK_OFF.at o) then { x1 with blockOff := true } else x1
  let ended := (was = 2 ∧ mode ≠ 2) ∨ (was % 2 = 1 ∧ mode % 2 = 0)
  let s4 := if ended then s3.setFld (PWM.PAIR_CARRY.C.at o) 0 else s3
  s4.setPair p x2

/-- A write of GRP_CFG: enabling zeroes the carries and awaits an anchor; disabling drives the pairs off (R304, R308). -/
def wrGrpCfg (g w : Nat) (s : State) : State :=
  let a := PWM.GRP_CFG.EN.addr + grpOff g
  let was := s.flag (PWM.GRP_CFG.EN.at (grpOff g))
  let s1 := s.store a w
  if bitAt w 0 == was then s1
  else
    let s2 := s1.setGrp g { ready := (s.grp g).ready }
    (grpPairs s g).foldl (fun s p => (s.setPair p { s.pair p with gen := .off, edges := [], hold := none }).setFld (PWM.PAIR_CARRY.C.at (pairOff p)) 0) s2

/-- A write of GCTRL names groups whose commit is waiting: their COMMIT bits are discarded, as an access error (R310). -/
def commitBusy (a w : Nat) (s : State) : Bool := a == PWM.GCTRL.addr && (w % 16 &&& s.fld PWM.GSTAT.PEND != 0)

/-- What a write of the PWM block does beside the blanking its edges open. -/
def wrPwmWord (a w : Nat) (s : State) : WriteResult :=
  let pend := fun g => bitAt (s.fld PWM.GSTAT.PEND) g
  if a = PWM.GCTRL.addr then
    let want := w % 16
    let s1 := (upto 4).foldl (fun s g => if bitAt w (4 + g) then hizClear g s else s) s
    .ok (s1.setFld PWM.GSTAT.PEND (s1.fld PWM.GSTAT.PEND ||| want))
  else if 0xA0100 ≤ a ∧ a < 0xA0180 then
    let g := (a - 0xA0100) / 0x20
    match a % 0x20 with
    | 0 => .ok (wrGrpCfg g w s)
    | 4 => if pend g then .error causeBusy else .ok ((s.store a w).setFlag (PWM.GRP_ACT.PER_W.at (grpOff g)) true)
    | _ => .ok (s.store a w)
  else if 0xA0200 ≤ a ∧ a < 0xA0240 then
    let k := (a - 0xA0200) / 0x10
    if a % 0x10 = 0 then
      let s1 := s.store a w
      .ok (if bitAt w 31 then s1 else
        { (s1.setFlag (PWM.FLT_STAT.LATCH.at (fltOff k)) false).setFlag (PWM.FLT_STAT.FILT.at (fltOff k)) false with
          pwm := { s1.pwm with fltWin := tabSet zeroNat s1.pwm.fltWin k 0 } })
    else if a % 0x10 = 4 then
      .ok (if s.flag (PWM.FLT_STAT.FILT.at (fltOff k)) then s else s.store a w)
    else .ok (s.store a w)
  else if 0xA0400 ≤ a ∧ a < 0xA0700 then
    let p := (a - 0xA0400) / 0x40
    let g := pairGrp s p
    let en := s.flag (PWM.GRP_CFG.EN.at (grpOff g))
    match a % 0x40 with
    | 0 => if en && bitsAt w 0 2 != g then .error causeBusy else .ok (wrPairCfg p w s)
    | 4 =>
      if en && bitAt w 3 != s.flag (PWM.PAIR_SHD.SRC.at (pairOff p)) then .error causeOther
      else if pend g then .error causeBusy else .ok ((s.store a w).setFlag (PWM.PAIR_STAT.DUTY_W.at (pairOff p)) true)
    | 8 => if pend g then .error causeBusy else .ok ((s.store a w).setFlag (PWM.PAIR_STAT.DUTY_W.at (pairOff p)) true)
    | _ => .ok (s.store a w)
  else .ok (s.store a w)

/-- A write of the PWM block at `now` ns. -/
def wrPWM (a w now : Nat) (s : State) : WriteResult := (wrPwmWord a w s).map (blankMoved now s)

/-- A read of the PWM block at `now` ns: BLANKED shows whether a window is open (R314). -/
def rdPWM (a now : Nat) (s : State) : Nat :=
  if 0xA0200 ≤ a ∧ a < 0xA0240 ∧ a % 0x10 = 4 then putBit (s.rd a) 2 (decide (now < tabGet zeroNat s.pwm.blankTo ((a - 0xA0200) / 0x10)))
  else s.rd a

end Sys2Proof.Machine
end

