-- ==== Sys2Proof/Machine/Frames.lean ====
section
/-!
DEFINITION. The downstream frame of a lane (R112 to R117, R141 to R144, R249): header, command words, management field, trailer,
and what leaves with a frame. Instants within a period are in 0.2 ns.
-/
namespace Sys2Proof.Machine

/-- The low `n` bits of a value in transmission order, bit 0 first. -/
def bitsLsb : Nat → Nat → List Bool
  | 0, _ => []
  | n + 1, v => (v % 2 == 1) :: bitsLsb n (v / 2)

/-- HCRC over H0[63:8] and H1[47:0] (R114). -/
def hdrCrc (h0 h1 : Nat) : Nat := crcMsb 16 0x1021 0xFFFF (bitsLsb 56 (h0 / 256) ++ bitsLsb 48 h1)

/-- CRC-8 of a command word over bits [55:0] (R115). -/
def wordCrc (w : Nat) : Nat := crcMsb 8 0x2F 0xFF (bitsLsb 56 w) ^^^ 0xFF

/-- A command word (R115). -/
def cmdWord (code toffs seq flags idx : Nat) : Nat :=
  let w := code % 16 + (toffs % 4096) * 2 ^ 4 + (seq % 256) * 2 ^ 16 + (flags % 256) * 2 ^ 24 + (idx % 4096) * 2 ^ 32
  w + wordCrc w * 2 ^ 56

/-- The word of a slot without an owner: HOLD, CELL_IDX 0xFFF (R117). -/
def emptyWord (pcnt : Nat) : Nat := cmdWord 0 0 pcnt 0 0xFFF

/-- Management words M0 to M15 of a message (R141). -/
def mgmtWords (m : MgmtMsg) : List Nat :=
  let pl := (m.payload ++ List.replicate 112 0#8).take 112
  let m0 := m.addr % 4 + (m.slot % 32) * 4 + (m.msg % 256) * 256 + (m.tag % 256) * 65536 + (min 112 m.payload.length) * 2 ^ 24
  m0 :: (if m.addr = 2 then m.uid else 0) :: (upto 14).map (fun k => leNat ((pl.drop (8 * k)).take 8))

/-- An empty management field. -/
def noMgmt : List Nat := List.replicate 16 0

/-- What one frame carries beside its words. -/
structure FrameHdr where
  pcnt : Nat
  level : Nat
  tc : Nat
  hold : Bool
  blk : Bool
  quiet : Bool
  range : Bool
  offs : Nat
  cyc : Nat
  grant : Nat
  deriving DecidableEq, Repr

/-- The 51 payload words of a frame: H0, H1, 32 command words, 16 management words, the trailer (R112 to R114). -/
def frameOf (h : FrameHdr) (words mgmt : List Nat) : List Nat :=
  let h0 := 0x78 + (h.pcnt % 2 ^ 48) * 256 + h.level * 2 ^ 56 + h.tc * 2 ^ 58 + h.hold.toNat * 2 ^ 60 + h.blk.toNat * 2 ^ 61
    + h.quiet.toNat * 2 ^ 62 + h.range.toNat * 2 ^ 63
  let h1 := h.offs % 65536 + (h.cyc % 256) * 2 ^ 16 + h.grant * 2 ^ 24
  let body := h0 :: (h1 + hdrCrc h0 h1 * 2 ^ 48) :: (words ++ mgmt)
  body ++ [crc32 (body.flatMap (leBytes 8))]

/-! ## The frame start and the announced cycle (R26, R123, R127) -/

/-- Block at which the frame of a boundary at `t` ns is due: the first of the lane's grid at or after P + 160 ns (R26). -/
def frameBlock (s : State) (t : Nat) : Nat := blockAt s (5 * t + 800)

/-- φ in 0.2 ns of that block. -/
def framePhi (s : State) (t : Nat) : Nat := s.period.grid + 32 * frameBlock s t - (5 * t + 800)

/-- The cycle a frame announces, and T_u − F − 2 D_ref in 0.2 ns; none before the first anchor. -/
def announced (s : State) (phi : Nat) : Option (Nat × Int) :=
  match s.link.nextAt with
  | none => none
  | some t =>
    let d := fun (k : Nat) => 5 * ((t + 2000 * k : Nat) - (s.period.nomNs : Int)) - 800 - phi - 10 * s.fld CLT.DREF.D_REF
    match (upto 16).find? (fun k => decide (2000 ≤ d k)) with
    | some k => some (s.link.nextN + k, d k)
    | none => none

/-- CYC_OFFS in UI: 10.3125 UI per ns, rounded half away from zero. -/
def cycOffs (d : Int) : Nat := (roundHA (33 * d) 16).toNat

/-- The first frame that announces cycle `n` on a lane settles whether it is quiet (R127). -/
def announceCycle (s : State) (l n : Nat) (x : Lane) : Lane :=
  if x.annLast = some n then x
  else
    let opened := admOpen s l
    let rw := quietRw (s.fld CLT.DREF.D_REF)
    let x1 := { x with annLast := some n }
    let quiet := { x1 with quiet := x.quiet ++ [n] }
    let loud := { x1 with loud := x.loud ++ [n] }
    if n % rangePeriod s = 0 then (if opened then { quiet with runStart := some n } else { loud with runStart := none })
    else match x.runStart with
      | some b => if b < n ∧ n < b + rw then (if opened then quiet else { loud with runStart := none }) else loud
      | none => loud

/-- RANGE of the announced cycle: it ends a run that is whole. -/
def rangeFlag (s : State) (x : Lane) (n : Nat) : Bool :=
  match x.runStart with
  | some b => x.quiet.contains n && decide (n = b + quietRw (s.fld CLT.DREF.D_REF) - 1)
  | none => false

/-- A cell whose reply is due is granted an admission slot in each non-quiet cycle, but for the cycle before a run (R127, R144); a lane in
far-end loopback grants none (R107).
The mailbox's addressee comes first, in admission slot 0 on (log 32). -/
def grantOf (s : State) (l n : Nat) (x : Lane) : Nat :=
  let beforeRun := admOpen s l && decide ((n + 1) % rangePeriod s = 0)
  if x.quiet.contains n || beforeRun || loopback s l == 4 then 0
  else
    let o := cltOff l
    let m0 := memWord x.mbReq 0
    let mb := if s.fld (CLT.MSTAT.STATE.at o) = 2 then [bitsAt m0 2 5] else []
    let all := (mb ++ (x.xfers.filter (fun f => f.ended)).map (fun f => f.slot)).take 4
    (all.zipIdx.map (fun (y : Nat × Nat) => (0x20 + y.1 % 32) * 2 ^ (6 * y.2))).foldl (· + ·) 0

/-! ## The slots a receiver must hear (R90, R92, R101) -/

/-- Slot `j` of cycle `n` has an assigned cell, or is an admission slot that is open or granted. -/
def hears (s : State) (l j n : Nat) : Bool :=
  let x := s.lane l
  if j < 32 then (x.slot j).own == .joining || (x.slot j).own == .admitted
  else (j == 32 && rangeFlag s x n) || bitAt (grantOf s l n x) (6 * (j - 32) + 5)

/-- Slots from slot `k` of the running cycle on to the next one to hear, and back to the last one; 36 where there is none so near. -/
def slotsAhead (s : State) (l k : Nat) : Nat :=
  let n := (cycleNow s).getD 0
  ((upto 36).find? (fun d => hears s l ((k + d) % 36) (n + (k + d) / 36))).getD 36
def slotsBehind (s : State) (l k : Nat) : Nat :=
  let n := (cycleNow s).getD 0
  ((upto 36).find? (fun d => hears s l ((k + 36 - d) % 36) (if d ≤ k then n else n - 1))).getD 36

/-- The receiver of a lane runs without LRX_RST pulses: raw mode, or far-end loopback (R103, R108). -/
def rxContinuous (s : State) (l : Nat) : Bool := prbsMode s l == 1 || loopback s l == 4

/-- R90, R92, R101: a slot's LRX_RST pulse, from 153 to 121 UI before T_p, after which the slot's codes are loaded. In a run of at least 5
slots with nothing to hear the receiver sleeps when sleep is permitted, but for the last three slots before the next one to hear: it wakes
200 ns before that slot's pulse. -/
def execUpstreamSlot (lane : Fin 128) (slot : Fin 36) (s : State) : Host.Outcome State Fault Refusal :=
  let l := lane.val
  let k := slot.val
  let awake := LNK.STAT.US_AWAKE.at (lnkOff l)
  let ahead := slotsAhead s l k
  let run := s.flag (LNK.CTRL.US_SLEEP_EN.at (lnkOff l)) && decide (0 < ahead) && decide (6 ≤ ahead + slotsBehind s l k)
  let s0 := s.fresh
  if !s.isHub || !s.clodsUp then .next s0
  else if rxContinuous s l then .next (s0.setFlag awake true)
  else
    let s1 := (s0.emit (.lrxRst l ((slotPreamble k : Int) - 153) true)).emit (.lrxRst l ((slotPreamble k : Int) - 121) false)
    let s2 := s1.setLane l { s1.lane l with eqLoaded := presetFor s l k, adjLoaded := (bandNow s).vgaAdj }
    .next (if !run then s2.setFlag awake true else if 4 ≤ ahead then s2.setFlag awake false else s2)

/-! ## The message of a frame (R144) -/

/-- Is a reply due to a mailbox message? ADDR 1, other than IMG_CHUNK. -/
def replyDue (m0 : Nat) : Bool := m0 % 4 == 1 && bitsAt m0 8 8 != 0x20

/-- The next image message of a transfer: a chunk, or IMG_END once the image is through. -/
def xferMsg (s : State) (tag : Nat) (f : ImgXfer) : MgmtMsg :=
  let img := s.img.cellImgs.getD f.img []
  if f.next < img.length then
    { addr := 1, slot := f.slot, msg := 0x20, tag := tag
      payload := leBytes 4 f.next ++ leBytes 4 img.length ++ (((img.drop f.next) ++ List.replicate 104 0#8).take 104) }
  else
    { addr := 1, slot := f.slot, msg := 0x21, tag := tag, payload := leBytes 4 img.length ++ leBytes 4 (crc32 img) }

/-- The transfer after its next message has left. -/
def xferNext (s : State) (f : ImgXfer) : ImgXfer :=
  if f.next < (s.img.cellImgs.getD f.img []).length then { f with next := f.next + 104 } else { f with ended := true }

/-- The first transfer that has a message to send to an admitted cell. -/
def xferDue (x : Lane) : Option ImgXfer := x.xfers.find? (fun f => !f.ended && (x.slot f.slot).own == .admitted)

/-- The management words of a lane's frame and the state after they have left: link messages first, then the mailbox, then an image
transfer (R144). -/
def takeMessage (l : Nat) (s : State) : List Nat × State :=
  let x := s.lane l
  let o := cltOff l
  match x.msgs with
  | m :: rest =>
    let mark := fun (r : SlotRec) => if m.msg = 0x01 ∧ r.own ≠ .free ∧ leNat (m.payload.take 2) = r.cell then { r with admitSent := true } else r
    (mgmtWords m, s.setLane l { x with msgs := rest, slots := tabMap noSlot x.slots (fun _ r => mark r) })
  | [] =>
    if s.fld (CLT.MSTAT.STATE.at o) = 1 then
      let words := (upto 16).map (fun k => memWord x.mbReq (8 * k) + 2 ^ 32 * memWord x.mbReq (8 * k + 4))
      if replyDue (memWord x.mbReq 0) then
        let s1 := (s.setFld (CLT.MSTAT.STATE.at o) 2).count (CLT.MSTAT.TRIES.at o) 1
        (words, s1.setLane l { x with mbWait := 0 })
      else
        let s1 := ((s.setFld (CLT.MSTAT.STATE.at o) 3).setFld (CLT.MSTAT.RESULT.at o) 3).setFld (CLT.MSTAT.TRIES.at o) 1
        (words, s1.raise (CLT.LEVT.MGMT_DONE.at o))
    else match xferDue x with
      | some f =>
        let tag := (x.imgTag + 1) % 256
        let others := x.xfers.filter (fun g => g.slot != f.slot)
        (mgmtWords (xferMsg s tag f), s.setLane l { x with imgTag := tag, xfers := xferNext s f :: others })
      | none => (noMgmt, s)

/-! ## One lane's frame -/

/-- A joining cell counts from the first cycle announced as not quiet by a frame later than the one with RANGE_ADMIT (R132). -/
def startJoining (n : Nat) (x : Lane) : Lane :=
  if x.quiet.contains n then x
  else { x with slots := tabMap noSlot x.slots (fun _ r => if r.admitSent && r.startCyc.isNone then { r with startCyc := some n } else r) }

/-- An injected frame error inverts one bit of a command word's CRC-8 or of the frame CRC-32 (R106); for the CRC-8 the frame CRC
is computed over the word as assembled. -/
def corrupt (inj word : Nat) (fr : List Nat) : List Nat :=
  match inj with
  | 1 => fr.modify (2 + word % 32) (fun w => w ^^^ 2 ^ 56)
  | 2 => fr.modify 50 (fun w => w ^^^ 1)
  | _ => fr

/-- The owner of a slot whose word carries its index: admitted and not being released (R117, R136). -/
def wordOwner (x : Lane) (k : Nat) : Option Nat :=
  let r := x.slot k
  if r.own = .admitted ∧ r.releasing = false then some r.cell else none

/-- CELL_IDX of SLOT_OWNER: the owner's of a slot that is joining or admitted (R145, R249). -/
def slotOwner (x : Lane) (k : Nat) : Option Nat :=
  let r := x.slot k
  if r.own = .joining ∨ r.own = .admitted then some r.cell else none

/-- How a period's words are made: from the copies' commands, all BLOCK while the converter is blocked (R167), or by the hold framer
(R249). -/
inductive WordKind where
  | commands
  | block
  | hold
  | holdBlock
  deriving DecidableEq, Repr

/-- A frame of the hold framer. -/
def WordKind.held : WordKind → Bool
  | .hold => true
  | .holdBlock => true
  | _ => false

/-- Word of slot `k` of a lane. -/
def slotWord (kind : WordKind) (pcnt : Nat) (cmd : Nat → CellCmd) (x : Lane) (k : Nat) : Nat :=
  match if kind.held then slotOwner x k else wordOwner x k with
  | none => emptyWord pcnt
  | some i =>
    match kind with
    | .hold => cmdWord 0 0 pcnt 0 i
    | .holdBlock => cmdWord 1 0 pcnt 0 i
    | _ => cmdWord (cmd i).code (cmd i).toffs pcnt (cmd i).recharge.toNat i

/-- One lane in RUN at a boundary: its frame, its message, and what the frame announces. In raw mode none passes (R103). -/
def laneFrame (kind : WordKind) (cmd : Nat → CellCmd) (l : Nat) (s : State) : State :=
  if dsState s l ≠ dsRun ∨ prbsMode s l = 1 then s.setLane l { s.lane l with frame := [] }
  else
    let pcnt := s.period.pcnt
    let at_ := frameBlock s s.period.timeNs
    let phi := framePhi s s.period.timeNs
    let ann := announced s phi
    let n := match ann with | some a => a.1 | none => 0
    let d := match ann with | some a => a.2 | none => 0
    let x0 := if ann.isSome then startJoining n (announceCycle s l n (s.lane l)) else s.lane l
    let s0 := s.setLane l x0
    let taken := if kind.held then (noMgmt, s0) else takeMessage l s0
    let mgmt : List Nat := taken.1
    let s1 : State := taken.2
    let x := s1.lane l
    let h : FrameHdr := {
      pcnt := pcnt, level := laneLevel s l, tc := s.tc, hold := kind == .hold, blk := s.blocked
      quiet := x.quiet.contains n, range := rangeFlag s x n, offs := if ann.isSome then cycOffs d else 0
      cyc := n, grant := if ann.isSome then grantOf s1 l n x else 0 }
    let fr := frameOf h ((upto 32).map (slotWord kind pcnt cmd x)) mgmt
    let sent := corrupt (x.injFrames.headD 0) (s.fld (LNK.PRBS_CTRL.INJ_WORD.at (lnkOff l))) fr
    s1.setLane l { x with
      frame := sent, phi := phi, injFrames := x.injFrames.drop 1, wire := { x.wire with due := x.wire.due ++ [(at_, sent)] } }

/-- The frames of every powered lane. -/
def allFrames (kind : WordKind) (cmd : Nat → CellCmd) (s : State) : State :=
  (upto 128).foldl (fun s l => if bitAt (s.fld SYS.QUAD_STAT.QUAD_RDY) (l / 4) then laneFrame kind cmd l s else s) s

/-- A frame not yet handed to the quads when a restore starts: the hold framer's in its place (R248, R249). -/
def holdInstead (l : Nat) (s : State) : State :=
  let x := s.lane l
  match x.frame with
  | h0 :: h1 :: _ =>
    let blk := s.blocked || s.evr.blockReq
    let kind : WordKind := if blk then .holdBlock else .hold
    let g0 := putBit (putBit h0 60 (!blk)) 61 blk
    let g1 := h1 % 2 ^ 48
    let body := g0 :: (g1 + hdrCrc g0 g1 * 2 ^ 48) :: ((upto 32).map (slotWord kind s.period.pcnt (fun i => { cell := i, code := 0 }) x) ++ noMgmt)
    let fr := body ++ [crc32 (body.flatMap (leBytes 8))]
    s.setLane l { x with frame := fr, wire := { x.wire with due := x.wire.due.map (fun d => if d.2.length = 51 then (d.1, fr) else d) } }
  | _ => s

end Sys2Proof.Machine
end

