-- ==== Sys2Proof/Machine/Loam.lean ====
section
/-!
DEFINITION. The Loam pair (chapter 08): checkpoints, the response to a mismatch, shadow mode. While the pair is locked the copies are
equal and `cp` stands for both (log 13).
-/
namespace Sys2Proof.Machine

def lmpLocked : Nat := 0
def lmpRestoring : Nat := 1
def lmpSplit : Nat := 2
def lmpRelocking : Nat := 3
def lmpState (s : State) : Nat := s.fld LMP.STAT.STATE

/-- The hub runs: its control clod is released, its clocks are there, and no reset is in force (R66, R480, R493). -/
def State.hubUp (s : State) : Bool :=
  s.sys.role == .hub && !s.sys.inReset && s.fld IMG.STAT.STATE == 5 && s.clk.lost &&& 1 == 0 && !s.clk.relocking

/-! ## What the copies exchange (R260, R263) -/

/-- Copy B's RW words of MOD and GRD go into copy A's (R263). -/
def fieldsToA (s : State) : State :=
  let addrs := (s.reg.filter (fun e => inModGrd e.1)).map (·.1) ++ s.loam.fieldsB.map (·.1)
  addrs.foldl (fun (s : State) a =>
    match regRow? a with
    | some r => s.wr a (((maskBits 32 ^^^ r.rw) &&& s.rd a) ||| (r.rw &&& (tabGet regReset s.loam.fieldsB a).toNat))
    | none => s) s

/-- R260: the modulation and grading state of R176 that copy B takes from copy A at a boundary; its keys stay its own. -/
def takeFromA (a b : Copy) : Copy :=
  { b with
    arms := (upto 6).foldl (fun t k =>
      let x := tabGet noArm a.arms k
      tabMod noArm t k (fun y => { y with carry := x.carry, charging := x.charging, xPrev := x.xPrev })) b.arms
    grades := a.grades.foldl (fun t g =>
      tabMod noGrade t g.1 (fun y => { y with
        pend := g.2.pend, cmdNeg := g.2.cmdNeg, refresh := g.2.refresh, recharge := g.2.recharge, rechEnd := g.2.rechEnd })) b.grades }

/-- Every cell's place in a copy's rankings follows its conditions. -/
def settleAll (s : State) (c : Copy) : Copy := (usedEntries s).foldl (fun c u => settleCopy u.2 u.1 false c) c

/-! ## Pending banks (R197, R259) -/

/-- Tile whose block holds a CEN address. -/
def tileOf (a : Nat) : Nat := (a - 0x210000) / 0x800

/-- A write reaches a copy's pending bank and marks the tile or the pool dirty. -/
def bankWrite (a w : Nat) (c : Copy) : Copy :=
  let b := c.banks.put a w
  { c with banks := if a < 0x210000 then { b with cpoolDirty := true } else { b with dirty := putBit b.dirty (tileOf a) true } }

/-- A write to pending banks: to copy B alone while split, else to both. -/
def pendWrite (a w : Nat) (s : State) : State :=
  match s.cpB with
  | some b => { s with cpB := some (bankWrite a w b) }
  | none => { s with cp := bankWrite a w s.cp }

/-- Clear bits of a tile's TSAT in both copies. -/
def clearTsat (t w : Nat) (s : State) : State :=
  s.onCopies (fun c => { c with eng := c.eng.setTile t { c.eng.tile t with tsat := (c.eng.tile t).tsat &&& (0x3FF ^^^ (w % 1024)) } })

/-- Clear bits of SATSUM in both copies. -/
def clearSatSum (w : Nat) (s : State) : State :=
  s.onCopies (fun c => { c with eng := { c.eng with satSum := c.eng.satSum &&& (3 ^^^ (w % 4)) } })

/-- Clear bits of macro record `j`'s MEVT in both copies. -/
def clearMevt (j w : Nat) (s : State) : State :=
  s.onCopies (fun c => { c with eng := c.eng.setMacro j { c.eng.macro_ j with evt := (c.eng.macro_ j).evt &&& (7 ^^^ (w % 8)) } })

/-- The copy that commits and pending-bank writes act on. -/
def bankCopy (s : State) : Copy := s.cpB.getD s.cp

/-- Dirty banks of the graph's tiles or of the pool. -/
def anyDirty (c : Copy) : Bool := c.banks.dirty != 0 || c.banks.cpoolDirty

/-! ## Checkpoints (R243 to R245) -/

/-- The state of copy A that a checkpoint holds. -/
def latchCheckpoint (s : State) : Checkpoint :=
  { pcnt := s.period.pcnt, arms := s.cp.arms, grades := s.cp.grades, eng := s.cp.eng
    cmds := (usedEntries s).map (fun u => (u.1, u.2.hub.cmdState)) }

/-- The ranked cells of arm `a`, in order (R176). -/
def rebuildRank (s : State) (c : Copy) (a : Nat) : List (Nat × Nat) :=
  (usedEntries s).foldl (fun r u =>
    if u.2.cfg.arm = a ∧ (exclusion u.2 (c.grade u.1)).isNone = true then rankInsert ((c.grade u.1).key, u.1) r else r) []

/-- A cell's key and voltage made anew from the REPORT and WEAR fields of the live table (R176). -/
def rebuildKey (s : State) (i : Nat) (g : Grade) : Grade :=
  let e := s.entry i
  if g.present then
    let v := vCal e.cfg (bitsAt (leNat e.hub.report) 0 28)
    { g with vcal := v, vArr := v, key := cellKey s e.cfg.arm e.hub.wear v }
  else g

/-- A copy with its rank arrays rebuilt from the live cell table and the current exclusions, its queues empty. -/
def rebuildCopy (s : State) (c : Copy) : Copy :=
  let c1 := { c with grades := tabMap noGrade c.grades (fun i g =>
    let g1 := rebuildKey s i g
    { g1 with ranked := (s.entry i).cfg.uid != 0 && (exclusion (s.entry i) g1).isNone }) }
  (upto 6).foldl (fun c a => c.setArm a { c.arm a with rank := rebuildRank s c1 a, queue := [] }) c1

/-- A block command of the hold framer stands for cell `i`: it replaced what the checkpoint holds (R153, R249). -/
def heldBlock (s : State) (i : Nat) : Bool := s.blocked && (s.entry i).hub.cmdState == .blocked

/-- The commanded states of a checkpoint go back into the cell table, but for cells released since and cells the hold framer blocked. -/
def restoreCmds (cmds : List (Nat × CellState)) (s : State) : State :=
  cmds.foldl (fun s x => if (s.cp.grade x.1).present && !heldBlock s x.1 then s.setHub x.1 (fun h => { h with cmdState := x.2 }) else s) s

/-- A pending command of a checkpoint, unless the report in the live table has confirmed it since (R153, R176). -/
def pendSince (e : CtEntry) (repAt : Nat) : Option PendCmd → Option PendCmd := pendAfter repAt e.hub.state e.hub.neg

/-- Load a checkpoint into a copy: what R176 and R245 list comes back; reports, keys and exclusions stay those of the live cell
table, and counts of the running statistics window go on. A cell released since keeps nothing, and a block sent since stands. -/
def loadCopy (s : State) (k : Checkpoint) (c : Copy) : Copy :=
  let arms := (upto 6).foldl (fun t a =>
    let x := tabGet noArm k.arms a
    tabMod noArm t a (fun y => { y with polNeg := x.polNeg, carry := x.carry, charging := x.charging, xPrev := x.xPrev, level := x.level })) c.arms
  let grades := c.grades.foldl (fun t g =>
    let x := tabGet noGrade k.grades g.1
    if g.2.present then
      let y := { g.2 with refresh := x.refresh, recharge := x.recharge }
      tabSet noGrade t g.1 (if heldBlock s g.1 then y else { y with cmdNeg := x.cmdNeg, pend := pendSince (s.entry g.1) g.2.repAt x.pend })
    else t) c.grades
  let c1 := { c with arms := arms, grades := grades, eng := k.eng }
  if s.blocked then copyBlocked c1 else c1

/-- R262's check 0x02: copy B has dirty banks, or a commit is pending. -/
def handoverBusy (s : State) : Bool :=
  (match s.cpB with | some b => anyDirty b | none => false) || s.flag CEN.PCOMMIT_STAT.PEND

/-- A refused hand-over leaves the pair split (R262). -/
def handoverReject (code : Nat) (s : State) : State :=
  { (s.setFld LMP.SH_STAT.REJ code).raise LMP.EVT.HO_REJ with loam := { s.loam with handover := none } }

/-- R263: copy A becomes copy B's graph, banks, constants and fields; modulation and grading stay copy A's. -/
def handoverLoad (s : State) : State :=
  match s.cpB with
  | none => s
  | some b => fieldsToA { s with cp := { s.cp with eng := b.eng, banks := b.banks } }

/-- R243, R244, R261 to R263: the validation edge of period n. -/
def execCheckpointValidate (s : State) : Host.Outcome State Fault Refusal :=
  if !s.hubUp then .next s
  else
    let due := lmpState s == lmpRelocking && s.loam.handover.isSome && s.loam.abandon.isNone
    let s0 := if due then
        if handoverBusy s then (handoverReject 2 { s with loam := { s.loam with
            next := s.loam.next.map (fun k => { k with eng := s.cp.eng }) } }).setFld LMP.STAT.STATE lmpSplit
        else handoverLoad s
      else s
    match s0.loam.next with
    | none => .next { s0 with loam := { s0.loam with spoiled := false } }
    | some k =>
      if s0.loam.spoiled then .next { s0 with loam := { s0.loam with next := none, spoiled := false } }
      else
        let s1 := { s0 with loam := { s0.loam with
          valid := k, next := none, replaySload := 0, replayMctl := 0, replayCarry := 0, replayOpen := true } }
        .next ((s1.setFld LMP.STAT.CK_BUF (1 - s1.fld LMP.STAT.CK_BUF)).setFld LMP.CK_PCNT.PCNT (k.pcnt % 2 ^ 32))

/-- R263, L_{h−1}: copy B's snapshot takes the place of copy A's tile, engine, macro and injection state in the checkpoint under
construction. -/
def execHandoverExecute (s : State) : Host.Outcome State Fault Refusal :=
  match s.loam.handover, s.cpB with
  | some h, some b =>
    if s.hubUp && lmpState s == lmpSplit && s.loam.abandon.isNone && h == (s.period.pcnt + 1) % 2 ^ 48 then
      .next ({ s with loam := { s.loam with next := some { latchCheckpoint s with eng := b.eng } } }.setFld LMP.STAT.STATE lmpRelocking)
    else .next s
  | _, _ => .next s

/-! ## Mismatches (R247 to R257) -/

/-- R254: the converter blocks and every lane carries a stop from instant `t` ns on, as if the event map held both. -/
def escalate (t : Nat) (s : State) : State :=
  ((stopAll t (blockRequest s)).raise LMP.EVT.ESCALATED).setFlag LMP.STAT.ESCALATED true

/-- Mismatches within the 1 s before `now`, inclusive. -/
def recentAt (s : State) (now : Nat) : List Nat := s.loam.recent.filter (fun t => decide (now ≤ t + 1000000000))

/-- The aborts of a mismatch on one lane (R33, R247), detected `offs` ns after the boundary of the frame now due or on the lane. After V_n
it cancels the next frame, at position 1, and one in the management field or the trailer of this frame aborts it at position 36 or
later; up to V_n it cancels this frame, at position 1 where its first block has not left, else at the first position at least 6.4 ns
after the detection. -/
def placeAbort (point offs : Nat) (s : State) (l : Nat) : State :=
  if dsState s l ≠ dsRun ∨ prbsMode s l = 1 then s
  else
    let w := (s.lane l).wire
    let b := blockAt s (5 * (s.period.timeNs + offs) + 32)
    let whole := w.due.find? (fun d => decide (d.2.length = 51))
    let on := (s.lane l).frame != [] && whole.isNone
    if 340 < offs then
      let s1 := if point = 1 ∧ on = true ∧ (w.due ≠ [] ∨ w.trail = true) then abortDue l (max (w.start + 36) b) s else s
      abortDue l (frameBlock s ((s.period.timeNs : Int) + tcNs s.tc + s.period.corrNext).toNat + 1) s1
    else match whole with
      | some d => abortDue l (d.1 + 1) s
      | none => if on then abortDue l (max (w.start + 1) b) s else s

/-- R242, R247, R248, R252, R254: a difference under `point` with `index` is detected `offs` ns after the period boundary. One during a
restore starts the restore again and cancels a frame as any other. -/
def mismatch (point index offs : Nat) (s : State) : State :=
  let now := s.period.timeNs + offs
  let before := recentAt s now
  let s1 := ((s.count LMP.MM_CNT.COUNT 1).raise LMP.EVT.MISMATCH).setFld LMP.MM_PCNT.PCNT (s.period.pcnt % 2 ^ 32)
  let s2 := ((s1.setFld LMP.MM_INFO.OFFS (min 4095 offs)).setFld LMP.MM_INFO.INDEX (index % 16)).setFld LMP.MM_INFO.POINT (point % 16)
  let s3 := (s2.setFld LMP.MM_IDX.INDEX index).setFld LMP.MM_IDX.POINT point
  let s4 := (s3.event 0x0022 (point + 256 * index + 2 ^ 32 * (s.period.pcnt % 2 ^ 32))).setFld LMP.STAT.RECENT (min 2 (before.length + 1))
  let s5 := lanesTo (5 * now) { s4 with loam := { s4.loam with
    recent := now :: before, next := none, spoiled := s4.loam.spoiled || decide (340 < offs), restoring := true
    lat := if s4.loam.restoring then s4.loam.lat else 0 } }
  let s6 := if 2 ≤ before.length then escalate now s5 else s5
  let s7 := (upto 128).foldl (placeAbort point offs) (s6.setFld LMP.STAT.STATE lmpRestoring)
  if offs + 2 < 160 then (s7.lanes.map Prod.fst).foldl (fun s l => holdInstead l s) s7 else s7

/-- R242: the comparators see a difference under `point` with `index`, `offs` ns after the period boundary. -/
def execLoamMismatch (point index : Fin 256) (offs : Nat) (s : State) : Host.Outcome State Fault Refusal :=
  if !s.hubUp || decide (2 ≤ lmpState s) then .next s else .next (mismatch point.val index.val offs s.fresh)

/-- R251: the boundary's actions in their order on the loaded checkpoint: state loads, macro commands, carry clears. -/
def replayBoundary (s : State) (c : Copy) : Copy :=
  let g := s.img.graph
  let load := fun (c : Copy) (t : Nat) =>
    if bitAt s.loam.replaySload t then
      let a := tileAddr t
      let type := match g.tile? t with | some r => r.type | none => 0
      { c with eng := c.eng.setTile t (tileLoad type (c.banks.act (a + 0x20) + 2 ^ 32 * c.banks.act (a + 0x24)) (c.eng.tile t)) }
    else c
  let c1 := (upto 96).foldl load c
  let env : EvalEnv := { graph := g, banks := c1.banks, samples := s.eng.samples, quant := fun a p => (c1.arm a).quant.getD p 0, targets := [] }
  let c2 := { c1 with eng := macroCommands s env s.loam.replayMctl c1.eng }
  if s.loam.replayCarry = 1 then { c2 with arms := tabMap noArm c2.arms (fun _ a => { a with carry := 0 }) } else c2

/-- A pair ready again: REASON and the WEAR limits follow the rebuilt arrays, and the reports held during the restore are re-inserted
(R252). -/
def restored (s : State) : State :=
  let s2 := (usedEntries s).foldl (fun s u => s.setHub u.1 (fun h => { h with reason := reasonAfter (s.entry u.1) (s.cp.grade u.1) })) s
  let s3 := (upto 6).foldl (fun s a => wearMinMax a s) s2
  s3.loam.heldReports.foldl (fun s r => gradeAccept r.1 r.2.1 r.2.2 s) { s3 with loam := { s3.loam with heldReports := [] } }

/-- R248 to R252, R255: load, rebuild and replay are complete. `ecc` says what the read of the checkpoint memory found: 0 nothing,
1 a corrected error, 2 an uncorrectable one, from which both copies restart from the image-applied state. -/
def execLoamRestoreReady (ecc : Fin 3) (s : State) : Host.Outcome State Fault Refusal :=
  if s.hubUp && lmpState s == lmpRestoring then
    let s := s.fresh
    let s0 := if ecc.val = 2 then escalate (s.loam.recent.headD s.period.timeNs + 1120) (s.raise LMP.EVT.CK_ECC_UNCORR)
      else if ecc.val = 1 then s.raise LMP.EVT.CK_ECC_CORR else s
    let k : Checkpoint := if ecc.val = 2 then s0.loam.applied else s0.loam.valid
    let s1 := if ecc.val = 2 then
        { s0 with loam := { s0.loam with valid := k, replaySload := 0, replayMctl := 0, replayCarry := 0, replayOpen := false } }
      else restoreCmds k.cmds s0
    let c := replayBoundary s1 (rebuildCopy s1 (loadCopy s0 k s1.cp))
    let s2 := restored { s1 with cp := c, loam := { s1.loam with restoring := false } }
    let s3 := ((s2.setFld LMP.STAT.STATE lmpLocked).count LMP.RST_CNT.COUNT 1).raise LMP.EVT.RESTORED
    .next ((s3.setFld LMP.RESTORE_PCNT.PCNT ((s.period.pcnt + 1) % 2 ^ 32)).setFld LMP.RESTORE_LAT.LAT (s.loam.lat + 1))
  else .next s

/-! ## Splitting and relocking (R258 to R264) -/

/-- The pair splits at the boundary with count `pcnt`, once its transfers and macro commands have acted in both copies. -/
def splitAtBoundary (pcnt : Nat) (s : State) : State :=
  if s.loam.splitDue && lmpState s == lmpLocked then
    let s1 := { s with
      cpB := some s.cp
      loam := { s.loam with splitDue := false, splitAt := pcnt, fieldsB := s.reg.filter (fun e => inModGrd e.1), rsnapB := s.eng.rsnap } }
    (((s1.setFld LMP.STAT.STATE lmpSplit).raise LMP.EVT.SPLIT).setFld LMP.SH_SPLIT_PCNT.PCNT (pcnt % 2 ^ 32)).event 0x0020 (pcnt % 2 ^ 48)
  else s

/-- The pair is locked again at the boundary with count `pcnt`; `how` is 0 for copy A, 1 for a hand-over. -/
def relock (pcnt how : Nat) (s : State) : State :=
  let s1 := { s with cpB := none, loam := { s.loam with handover := none, abandon := none, fieldsB := [], rsnapB := [] } }
  let s2 := (s1.setFld LMP.STAT.STATE lmpLocked).setFld LMP.SH_HO_PCNT.PCNT (pcnt % 2 ^ 32)
  (if how = 1 then s2.raise LMP.EVT.HO_DONE else s2).event 0x0021 (pcnt % 2 ^ 48 + 2 ^ 48 * how)

/-- A boundary with count `pcnt` brings a hand-over or a relock on copy A to its end, or one period nearer. -/
def relockBoundary (pcnt : Nat) (s : State) : State :=
  if lmpState s = lmpRelocking ∧ s.loam.abandon = none ∧ s.loam.handover = some pcnt then relock pcnt 1 s
  else
    let s0 := if s.loam.handover = some pcnt then { s with loam := { s.loam with handover := none } } else s
    match s0.loam.abandon with
    | some (n + 1) =>
      if n = 0 then relock pcnt 0 s0
      else { s0 with loam := { s0.loam with abandon := some n } }.setFld LMP.STAT.STATE lmpRelocking
    | _ => s0

/-- R264: a write of ABANDON, or a split that has lasted its limit: the pair relocks on copy A at the second boundary, unless a
hand-over comes before it. -/
def abandonSplit (s : State) : State :=
  let first := match s.loam.handover with
    | some h => decide ((h + 2 ^ 48 - s.period.pcnt) % 2 ^ 48 ≤ 1)
    | none => false
  if lmpState s = lmpSplit ∧ first = false ∧ s.loam.abandon = none then
    { s with loam := { s.loam with abandon := some 2, handover := none } } else s

/-- R264: the split has lasted MAX_U × 2^20 periods. -/
def execSplitTimeout (s : State) : Host.Outcome State Fault Refusal :=
  let lim := s.fld LMP.SH_CFG.MAX_U * 2 ^ 20
  if s.hubUp && lmpState s == lmpSplit && lim != 0 && decide (lim ≤ (s.period.pcnt + 2 ^ 48 - s.loam.splitAt) % 2 ^ 48) && s.loam.abandon.isNone then
    let s1 := abandonSplit s
    .next (if s1.loam.abandon.isSome then s1.raise LMP.EVT.SPLIT_TIMEOUT else s)
  else .next s

/-- A request for hand-over at the boundary SH_PCNT names (R262). -/
def handoverRequest (s : State) : State :=
  let d := (s.fld LMP.SH_PCNT.PCNT + 2 ^ 32 - s.period.pcnt % 2 ^ 32) % 2 ^ 32
  if d < 2 ∨ 2 ^ 31 ≤ d then { (s.setFld LMP.SH_STAT.REJ 1).raise LMP.EVT.HO_REJ with loam := s.loam }
  else if handoverBusy s then { (s.setFld LMP.SH_STAT.REJ 2).raise LMP.EVT.HO_REJ with loam := s.loam }
  else if lmpState s ≠ lmpSplit then { (s.setFld LMP.SH_STAT.REJ 3).raise LMP.EVT.HO_REJ with loam := s.loam }
  else { s with loam := { s.loam with handover := some ((s.period.pcnt + d) % 2 ^ 48) } }

/-- A write of the LMP block (R256 to R258, R262, R264, R265). -/
def wrLMP (a w : Nat) (s : State) : WriteResult :=
  if a = LMP.CTRL.addr then
    let esc := bitAt w 0
    let force := bitAt w 2
    if (esc || force) && !s.blocked then .error causeDeblocked
    else if esc && lmpState s != lmpLocked then .error causeOther
    else
      let s1 := if esc then { (s.setFlag LMP.STAT.ESCALATED false).setFld LMP.STAT.RECENT 0 with loam := { s.loam with recent := [] } } else s
      let s2 := if bitAt w 1 then (s1.setFld LMP.MM_CNT.COUNT 0).setFld LMP.RST_CNT.COUNT 0 else s1
      .ok (if force then { s2 with loam := { s2.loam with force := true } } else s2)
  else if a = LMP.SH_CTRL.addr then
    let split := bitAt w 0
    let refused := s.beh == 1 || lmpState s != lmpLocked || s.flag LMP.STAT.ESCALATED || s.flag CEN.PCOMMIT_STAT.PEND
    if split && refused then .error causeOther
    else
      let s1 := s.store a w
      let s2 := if split then { s1 with loam := { s1.loam with splitDue := true } } else s1
      let s3 := if bitAt w 1 then handoverRequest s2 else s2
      .ok (if bitAt w 2 then abandonSplit s3 else s3)
  else .ok (s.store a w)

end Sys2Proof.Machine
end

