-- ==== Sys2Proof/Machine/Select.lean ====
section
/-!
DEFINITION. Modulation and grading of every arm in one period (R147 to R179): levels, directions, selection, the commanded states,
recharge, refresh countdowns and their registers, for the copy in `cp`; and the same in copy B while the pair is split.
-/
namespace Sys2Proof.Machine

/-- The six arms; one past ARM_COUNT has no cells. -/
def armList : List Nat := upto 6

/-! ## Modulation (R158 to R160, R164) -/

/-- Arm quantities as the arrays stand at the boundary (R172). -/
def takeQuantities (s : State) : State :=
  armList.foldl (fun t a => t.onArm a (fun x => { x with quant := armQuantities s s.cp a })) s

/-- Level, polarity and direction of arm `a` for the reference `vref`. -/
def modArm (vref : Int) (a : Nat) (s : State) : State :=
  let o := modOff a
  let lv := armLevel s s.cp a vref
  let i := armCurrent s a (fun k => s.eng.samples.getD k 0)
  let dir := armDirection (s.fld (MOD.ARM_IDB.IDB.at o)) (s.cp.arm a).charging lv.polNeg i
  let s1 := (s.setFld (MOD.ARM_LEVEL.L.at o) (unsignedOf 32 lv.level)).setFld (MOD.ARM_ISAMP.I.at o) (unsignedOf 32 i)
  let s2 := (s1.setFlag (MOD.ARM_DIR.DIR.at o) dir.1).setFlag (MOD.ARM_DIR.HELD.at o) dir.2
  let s3 := if lv.sat then s2.raise (MOD.ARM_FLAG.SAT.at o) else s2
  let s4 := if lv.vmeanLow then s3.raise (MOD.ARM_FLAG.VMEAN_LOW.at o) else s3
  let s5 := if lv.negHb then s4.raise (MOD.ARM_FLAG.NEG_HB.at o) else s4
  s5.onArm a (fun x => { x with level := lv.level, polNeg := lv.polNeg, charging := dir.1 })

/-! ## The snapshot (R150, R169, R179) -/

/-- The eligible set of an arm: the snapshot less the must-bypass cells, and less a cell whose recharge has just ended, which is commanded
BYPASS in this period (R157, R166). -/
def eligible (c : Copy) (a : Nat) : List Cand :=
  ((c.arm a).rank.filter (fun x => (c.grade x.2).refresh != .mustBypass && !(c.grade x.2).rechEnd)).map
    (fun x => { key := x.1, cell := x.2, pend := match (c.grade x.2).refresh with | .pending _ => true | _ => false })

/-- RANKED, ELIGIBLE and the redundancy events of an arm. -/
def snapshotArm (a : Nat) (s : State) : State :=
  let o := armOff a
  let topo := s.img.arms.getD a {}
  let r := (s.cp.arm a).rank.length
  let s1 := (s.setFld (GRD.ARM_RANKED.RANKED.at o) r).setFld (GRD.ARM_RANKED.ELIGIBLE.at o) (eligible s.cp a).length
  let spare : Int := (r : Int) - topo.needed
  let s2 := if spare ≤ (s.fld (GRD.ARM_REDUND.WARN.at o) : Int) then s1.raise (GRD.ARM_EVT.REDUND_WARN.at o) else s1
  if spare < 0 then s2.raise (GRD.ARM_EVT.REDUND_LOST.at o) else s2

/-- A TAKE that waits copies the arm's snapshot into the buffer (R179). -/
def takeRsnap (s : State) : State :=
  if s.flag GRD.RSNAP_STAT.BUSY then
    let a := s.fld GRD.RSNAP_STAT.ARM
    let r := (s.cp.arm a).rank
    let words := r.flatMap (fun x =>
      [2 ^ 31 + (match (s.cp.grade x.2).refresh with | .pending _ => 2 ^ 12 | _ => 0) + x.2 % 4096, x.1 % 2 ^ 24])
    let s1 := ((s.setFlag GRD.RSNAP_STAT.BUSY false).setFlag GRD.RSNAP_STAT.DONE true).setFld GRD.RSNAP_STAT.COUNT r.length
    { s1.setFld GRD.RSNAP_STAT.PCNT (s.period.pcnt % 65536) with eng := { s1.eng with rsnap := words } }
  else s

/-! ## Selection (R161 to R167) -/

/-- T_n in 1/5,120 ns: the period as the cells see it (R161). -/
def periodAtCells (s : State) : Int :=
  let len : Int := tcNs s.tc + s.period.corrNext
  let phi := framePhi s s.period.timeNs
  let next := framePhi s ((s.period.timeNs : Int) + len).toNat
  5120 * len + 1024 * ((next : Int) - phi)

/-- Selection of arm `a`; the answer holds the commands of its eligible cells. -/
def chooseArm (a : Nat) (s : State) : SelectOut :=
  let x := s.cp.arm a
  let ins := fun (i : Nat) => (s.entry i).hub.cmdState == .inserted && (s.cp.grade i).cmdNeg == x.polNeg
  selectArm
    { frac := s.flag (MOD.ARM_CFG.FRAC_EN.at (modOff a)), charging := x.charging, polNeg := x.polNeg, level := x.level
      carry := x.carry, xPrev := x.xPrev, t := periodAtCells s, unit := 5120 * s.unitNs, tc := 5120 * tcNs s.tc
      band := s.fld GRD.CTRL.SWAP_BAND, swapMax := s.fld GRD.CTRL.SWAP_MAX }
    x.rank.length (eligible s.cp a) ins

/-- EDGE code of MOD.ARM_OUT. -/
def edgeCode : Edge → Nat
  | .none => 0 | .rising => 1 | .falling => 2

/-- What selection leaves in the arm's state and registers. -/
def recordSelection (a : Nat) (r : SelectOut) (s : State) : State :=
  let o := modOff a
  let s1 := ((s.setFlag (MOD.ARM_OUT.POL.at o) (s.cp.arm a).polNeg).setFld (MOD.ARM_OUT.M.at o) r.m).setFld (MOD.ARM_OUT.EDGE.at o) (edgeCode r.edge)
  let s2 := (s1.setFld (MOD.ARM_OUT.U.at o) r.u.toNat).setFld (MOD.ARM_CARRY.CARRY.at o) (unsignedOf 16 (satS 16 r.carry))
  let s3 := if satS 16 r.carry ≠ r.carry then s2.raise (MOD.ARM_FLAG.CARRY_SAT.at o) else s2
  let s4 := s3.count (GRD.ARM_SWAPS.COUNT.at (armOff a)) r.swaps
  let s5 := if r.short then s4.raise (GRD.ARM_EVT.SHORT.at (armOff a)) else s4
  s5.onArm a (fun x => { x with carry := r.carry, xPrev := r.xPrev })

/-- Cells of arm `a` outside its eligible set, with their words: must-bypass, recharging, excluded (R151, R154, R156). -/
def otherCmds (a : Nat) (s : State) : List CellCmd :=
  let o := modOff a
  let idb : Int := s.fld (MOD.ARM_IDB.IDB.at o)
  let i := armCurrent s a (fun k => s.eng.samples.getD k 0)
  let elig := (eligible s.cp a).map (·.cell)
  let mine := (usedEntries s).filter (fun u => u.2.cfg.arm == a && !elig.contains u.1)
  mine.map (fun (u : Nat × CtEntry) =>
    if exclusion u.2 (s.cp.grade u.1) = some 0x51 then rechargeCmd idb i (s.img.arms.getD a {}).fullBridge u.1
    else ({ cell := u.1, code := excludedCode u.2 (s.cp.grade u.1) } : CellCmd))

/-- The words of an arm's cells while the converter is blocked (R167). -/
def blockedCmds (a : Nat) (s : State) : List CellCmd :=
  ((usedEntries s).filter (fun u => u.2.cfg.arm == a)).map (fun (u : Nat × CtEntry) =>
    ({ cell := u.1, code := if excludedCode u.2 (s.cp.grade u.1) = 0 then 0 else 1 } : CellCmd))

/-- States that R168 compares. -/
def comparedState (x : CellState) : Bool := x == .blocked || x == .bypassed || x == .inserted

/-- One command of arm `a` becomes its cell's commanded state; a change in a ranked cell is pending from its switching instant
(R153), and counts as a switch where `counted` (R168). -/
def putCmd (a : Nat) (counted : Bool) (ranked : List Nat) (s : State) (c : CellCmd) : State :=
  let h := (s.entry c.cell).hub
  let g := s.cp.grade c.cell
  let e := cmdEnds c.code h.cmdState g.cmdNeg
  if e.1 = h.cmdState ∧ e.2 = g.cmdNeg then s
  else
    let at_ := 5 * (s.period.nomNs + 400 + s.fld CLT.DREF.D_REF + c.toffs * s.unitNs) + framePhi s s.period.timeNs
    let p : Option PendCmd := if ranked.contains c.cell then some { state := e.1, neg := e.2, at_ := at_ } else none
    let s1 := s.setHub c.cell (fun h => { h with cmdState := e.1 })
    let s2 := s1.onGrade c.cell (fun g => { g with cmdNeg := e.2, pend := p })
    if counted && !c.recharge && g.recharge.isNone && !g.rechEnd && comparedState h.cmdState && comparedState e.1 then
      s2.onArm a (fun x => { x with switches := x.switches + 1 })
    else s2

/-- One arm's selection, words and commanded states. `wasBlocked` says the converter was blocked up to this boundary. -/
def selectStep (wasBlocked : Bool) (a : Nat) (r : State × List CellCmd) : State × List CellCmd :=
  let s := r.1
  let ranked := (s.cp.arm a).rank.map (·.2)
  if s.blocked then
    let cmds := blockedCmds a s
    (cmds.foldl (putCmd a false ranked) s, r.2 ++ cmds)
  else
    let sel := chooseArm a s
    let s1 := recordSelection a sel s
    let cmds := sel.cmds ++ otherCmds a s1
    (cmds.foldl (putCmd a (!wasBlocked) ranked) s1, r.2 ++ cmds)

/-! ## Recharge and refresh at a boundary (R154 to R157) -/

/-- Candidates of the copy in `cp` enter recharge up to its arm's number (R156). -/
def rechargeFill (a : Nat) (s : State) : State :=
  let o := armOff a
  if s.flag (GRD.ARM_RECH.EN.at o) && !s.blocked then
    let n := min 4 (s.fld (GRD.ARM_RECH.MAX.at o)) - (recharging s s.cp a).length
    ((rechargeCandidates s s.cp a).take n).foldl (fun s i => settleOne i false (s.onGrade i (fun g => { g with recharge := some 0 }))) s
  else s

/-- One period of a cell's countdowns. -/
def gradeTick (g : Grade) : Grade :=
  { g with
    recharge := g.recharge.map (· + 1)
    refresh := match g.refresh with | .pending (n + 1) => .pending n | r => r }

/-- The countdowns of the copy in `cp` at a boundary, and what the ends of some bring (R154, R157). -/
def countdowns (s : State) : State :=
  let s1 := { s with cp := { s.cp with grades := tabMap noGrade s.cp.grades (fun _ g => gradeTick g) } }
  let cells := s1.cp.grades.map Prod.fst
  let s2 := (cells.filter (fun i => refreshLeft (s1.cp.grade i) == some 0)).foldl (fun s i => refreshEnd i s) s1
  (cells.filter (fun i => match (s2.cp.grade i).recharge with | some n => rechargeOver s2 i n | none => false)).foldl (fun s i => rechargeEnd i s) s2

/-- Selection has dealt with the recharges that had ended. -/
def rechSettled (c : Copy) : Copy := { c with grades := tabMap noGrade c.grades (fun _ g => { g with rechEnd := false }) }

/-- WEAR_BASE follows WMIN where AUTO_BASE is set (R148). -/
def autoBase (s : State) : State :=
  if s.flag GRD.GCFG.AUTO_BASE && s.period.pcnt % 2 ^ 20 == 0 then
    armList.foldl (fun s a => if (s.cp.arm a).rank.isEmpty then s else s.setFld (GRD.ARM_WBASE.BASE.at (armOff a)) (s.fld (GRD.ARM_WMIN.WMIN.at (armOff a)))) s
  else s

/-! ## Statistics (R173) -/

/-- STAT_EXP in force: 16 to 24. -/
def statExp (s : State) : Nat := max 16 (min 24 (s.fld GRD.GCFG.STAT_EXP))

/-- R173: the statistics window of an arm ends. SWRATE of an arm without a ranked cell is a free value (log 141). -/
def statArm (a : Nat) (s : State) : State :=
  let n := (s.cp.arm a).switches
  let ranked := (s.cp.arm a).rank.length
  let rate := if ranked = 0 then unsignedOf 32 (Config.freeOf 173 [n, a]) else (roundHA ((n : Int) * 16 * 10 ^ 9) (ranked * 2 ^ statExp s * tcNs s.tc)).toNat
  let o := armOff a
  (((s.setFld (GRD.ARM_SWCNT.COUNT.at o) n).setFld (GRD.ARM_SWRATE.RATE.at o) rate)).onArm a (fun x => { x with switches := 0 })

/-- The window now over gives its counts, and the next starts. -/
def statEnd (s : State) : State :=
  bothCopies (fun s => armList.foldl (fun s a => statArm a s) s) { s with eng := { s.eng with statCnt := 0 } }

/-- 2^STAT_EXP periods of the window have begun. -/
def statDue (s : State) : Bool := decide (2 ^ statExp s ≤ s.eng.statCnt)

/-- R173: 2^STAT_EXP periods have passed: SWCNT and SWRATE are written and the next window starts. The boundary that ends the last of them
does the same where this command has not come before it. -/
def execStatWindowEnd (s : State) : Host.Outcome State Fault Refusal :=
  .next (if s.hubUp && statDue s then statEnd s else s)

/-- A boundary ends the window that is over, and begins a period of the running one. -/
def statBoundary (s : State) : State :=
  let s1 := if statDue s then statEnd s else s
  { s1 with eng := { s1.eng with statCnt := s1.eng.statCnt + 1 } }

end Sys2Proof.Machine
end

