-- ==== Sys2Proof/Machine/Period.lean ====
section
/-!
DEFINITION. The period boundary of the hub (R21 to R25, R40 to R44): the timeline and its discipline, what waits for the boundary,
the evaluation of both rates, modulation and selection, the frames, capture and the recorder, and the commands that end what a
boundary began.
-/
namespace Sys2Proof.Machine

/-! ## The timeline (R40 to R44, R122) -/

/-- SYNC_MODE in force. -/
def syncMode (s : State) : Nat := bitsAt s.period.cfg.toNat 16 2

/-- Is a discipline mode correcting? -/
def disciplined (s : State) : Bool :=
  (syncMode s == 1 || (syncMode s == 2 && s.period.ppsSeen)) && !s.flag SYS.ALIGN_STAT.HOLDOVER

/-- Station time less the offset, rounded to whole periods. `ref` is PTP time in ns, or ns since the last 1PPS edge. -/
def alignCount (s : State) (ref : Nat) : Nat :=
  let tc := tcNs s.tc
  (ref + tc - s.fld SYS.PERIOD_OFFS.OFFSET_NS % tc + tc / 2) / tc - 1

/-- Boundary time minus target time, ns. -/
def phaseErr (s : State) (ref : Nat) : Int :=
  let tc := tcNs s.tc
  ((ref + tc - s.fld SYS.PERIOD_OFFS.OFFSET_NS % tc + tc / 2) % tc : Nat) - (tc / 2 : Nat)

/-- The period that ends here: its length, its number, and a step of the boundary if one was made (R40, R42, R43). A step moves the
anchor with it: the cycle in progress is cut short (R122). -/
def advanceTime (ref : Nat) (s : State) : State :=
  let p := s.period
  let tc := tcNs s.tc
  let stepped := decide (1 < p.corrNext.natAbs)
  let s0 := if p.pcnt + 1 = 2 ^ 48 then s.raise SYS.ALIGN_FLAG.WRAP else s
  let n := if stepped && syncMode s == 1 then alignCount s ref else p.pcnt + 1
  let s1 := { s0 with period := { p with
    pcnt := n % 2 ^ 48, timeNs := ((p.timeNs : Int) + tc + p.corrNext).toNat, nomNs := p.nomNs + tc, corr := p.corrNext } }
  if stepped then { s1 with link := { s1.link with cut := s1.link.nextAt.isSome } }.raise SYS.ALIGN_FLAG.STEPPED else s1

/-- An accepted PERIOD_CFG takes effect (R45); a change of TC moves the anchor, one of SYNC_MODE starts a new discipline. -/
def takePeriodCfg (s : State) : State :=
  let w := s.rd SYS.PERIOD_CFG.addr
  let old := s.period.cfg.toNat
  let moved := bitsAt w 0 2 != bitsAt old 0 2
  let mode := bitsAt w 16 2 != bitsAt old 16 2
  let p := { s.period with cfg := BitVec.ofNat 32 w }
  let p1 := if mode then { p with lockRun := 0, ptpLoaded := false, ppsSeen := false } else p
  let s1 := { s with period := p1, link := { s.link with anchorDue := s.link.anchorDue || moved } }
  if mode then (s1.setFlag SYS.ALIGN_STAT.LOCKED false).setFlag SYS.ALIGN_STAT.HOLDOVER false else s1

/-- Holdover ends when its cause has gone (R44). -/
def leaveHoldover (s : State) : State :=
  let gone := match syncMode s with
    | 1 => s.flag ETH.PTP_STAT.LOCKED
    | 2 => s.period.ppsSeen
    | _ => true
  if s.flag SYS.ALIGN_STAT.HOLDOVER && gone then s.setFlag SYS.ALIGN_STAT.HOLDOVER false else s

/-- The phase error at this boundary and the correction of the period that starts here (R42 to R44). The spec gives the error as zero for the
free-running mode (R46) and says nothing of holdover and of 1PPS mode before its first edge, where nothing is measured: DESIGN CHOICE,
PHASE_ERR reads zero there too (log 140). -/
def discipline (ref : Nat) (s : State) : State :=
  let p := s.period
  let since := min 1024 (p.sinceCorr + 1)
  if disciplined s then
    let e := phaseErr s ref
    let s1 := s.setFld SYS.ALIGN_STAT.PHASE_ERR (unsignedOf 16 (satS 16 e))
    let run := if e.natAbs ≤ 2 then min 1024 (p.lockRun + 1) else 0
    let s2 := if 8 < e.natAbs then s1.setFlag SYS.ALIGN_STAT.LOCKED false else s1
    if s.blocked && decide (100 < e.natAbs) then
      { s2 with period := { p with corrNext := -e, sinceCorr := since, lockRun := run } }
    else if e ≠ 0 ∧ 2 ^ min 10 (bitsAt p.cfg.toNat 20 4) ≤ since then
      { s2 with period := { p with corrNext := if e < 0 then 1 else -1, sinceCorr := 0, lockRun := run } }
    else { s2 with period := { p with corrNext := 0, sinceCorr := since, lockRun := run } }
  else
    { s.setFld SYS.ALIGN_STAT.PHASE_ERR 0 with period := { p with corrNext := 0, sinceCorr := since, lockRun := 0 } }

/-- The upstream anchor: set at the first boundary after the image, moved when a move is due; a running cycle ends with the moved
grid's next boundary (R122). -/
def anchorBoundary (s : State) : State :=
  if s.link.anchorDue then
    let a := s.period.nomNs + 160 + 2 * s.fld CLT.DREF.D_REF
    let t := if s.link.nextAt.isNone then a else a - (a - s.period.nomNs - 1) / 2000 * 2000
    { s with link := { s.link with nextAt := some t, anchorDue := false, cut := s.link.nextAt.isSome } }
  else s

/-- R44: 1,024 consecutive periods within 2 ns. The first lock in PTP mode loads the counter (R41); `ptp` is PTP time at the last
boundary, ns. -/
def execAlignLocked (ptp : Nat) (s : State) : Host.Outcome State Fault Refusal :=
  if s.hubUp && disciplined s && decide (1024 ≤ s.period.lockRun) && !s.flag SYS.ALIGN_STAT.LOCKED then
    let s1 := s.setFlag SYS.ALIGN_STAT.LOCKED true
    if syncMode s = 1 ∧ s.period.ptpLoaded = false then
      .next { s1 with period := { s1.period with pcnt := alignCount s ptp % 2 ^ 48, ptpLoaded := true } }
    else .next s1
  else .next s

/-- R44: PTP is not locked, or 1.5 s have passed without an edge. -/
def execHoldoverEnter (s : State) : Host.Outcome State Fault Refusal :=
  let due := (syncMode s == 1 && !s.flag ETH.PTP_STAT.LOCKED) || (syncMode s == 2 && s.period.ppsSeen)
  if s.hubUp && due && !s.flag SYS.ALIGN_STAT.HOLDOVER then
    let s1 := ((s.setFlag SYS.ALIGN_STAT.HOLDOVER true).setFlag SYS.ALIGN_STAT.LOCKED false).setFlag SYS.ALIGN_FLAG.HOLDOVER_SEEN true
    .next { s1 with period := { s1.period with ppsSeen := if syncMode s = 2 then false else s1.period.ppsSeen, lockRun := 0, corrNext := 0 } }
  else .next s

/-! ## Acquisition at the boundary (R270 to R277) -/

/-- The windows of the running cores end, and the sample set is released. -/
def releaseSamples (conv : List (List Int)) (win : Nat) (s : State) : State :=
  let s0 := applyPairs s.period.timeNs s
  let s1 := (upto 4).foldl (fun s c => if acqRunning s c then coreWindow c win (conv.getD c []) s else s) s0
  let s2 := scalSample s1
  { s2 with eng := { s2.eng with samples := sampleSet s2 } }

/-! ## Writes that wait for the boundary (R163, R174, R179, R252, R259) -/

/-- The carries of every arm are zeroed in both copies: an action to replay, at the first boundary after the valid checkpoint (R251). -/
def clearCarries (s : State) : State :=
  let s1 := s.onCopies (fun c => { c with arms := tabMap noArm c.arms (fun _ x => { x with carry := 0 }) })
  if s1.loam.replayOpen then { s1 with loam := { s1.loam with replayCarry := 1 } } else s1

/-- Exclusion 0x52 ends for every cell of arm `a` in the copy in `cp`. -/
def clearAbandoned (a : Nat) (s : State) : State :=
  ((usedEntries s).filter (fun u => u.2.cfg.arm == a && (s.cp.grade u.1).abandoned)).foldl
    (fun s u => settleOne u.1 false (s.onGrade u.1 (fun g => { g with abandoned := false }))) s

/-- A stored field of MOD or GRD takes a write: RW bits reach copy B alone while split, and bits that a one clears are cleared in both
copies (R259, log 104). -/
def storeBound (a w : Nat) (s : State) : State :=
  let w := if s.beh = 1 ∧ 0xF0100 ≤ a ∧ (a - 0xF0100) % 0x80 = 0 then w - w % 65536 + s.rd a % 65536 else w
  match s.cpB, regRow? a with
  | some _, some r =>
    let old := (tabGet regReset s.loam.fieldsB a).toNat
    let s1 := s.wr a (writeMasked { r with rw := 0 } (s.rd a) w)
    { s1 with loam := { s1.loam with fieldsB := tabSet regReset s1.loam.fieldsB a (BitVec.ofNat 32 (writeMasked r old w)) } }
  | _, _ => s.store a w

/-- A TAKE of a rank snapshot: this boundary's snapshot is copied; ignored while a copy is in progress (R174, R179). -/
def takeBegins (w : Nat) (s : State) : State :=
  if bitAt w 3 && !s.flag GRD.RSNAP_STAT.BUSY then (s.setFlag GRD.RSNAP_STAT.BUSY true).setFld GRD.RSNAP_STAT.ARM (w % 8) else s

/-- One MOD or GRD write takes effect. -/
def boundWrite (s : State) (x : Nat × Nat) : State :=
  if x.1 = MOD.CTRL.addr then (if bitAt x.2 0 then clearCarries s else s)
  else if x.1 = GRD.RSNAP.addr then bothCopies (takeBegins x.2) s
  else if 0xF0100 ≤ x.1 ∧ x.1 < 0xF0400 ∧ (x.1 - 0xF0100) % 0x80 = 0x18 then
    (if bitAt x.2 0 then bothCopies (clearAbandoned ((x.1 - 0xF0100) / 0x80)) s else s)
  else storeBound x.1 x.2 s

/-- A write held in the entry FIFO during a restore takes effect: to a pending bank, or a clear of TSAT, SATSUM or MEVT (R248, R252). -/
def heldWrite (a w : Nat) (s : State) : State :=
  if a = CEN.SATSUM.addr then clearSatSum w s
  else if 0x300000 ≤ a then clearMevt ((a - 0x300000) / 0x100) w s
  else if 0x210000 ≤ a ∧ (a - 0x210000) % 0x800 = 4 then clearTsat (tileOf a) w s
  else pendWrite a w s

/-- Every held write takes effect, in order. -/
def takeWrites (s : State) : State :=
  let b := s.eng.boundWrites
  let h := s.loam.heldWrites
  let s0 := { s with eng := { s.eng with boundWrites := [] }, loam := { s.loam with heldWrites := [] } }
  let s1 := b.foldl boundWrite s0
  h.foldl (fun s x => heldWrite x.1 x.2 s) s1

/-! ## Parameter commits (R198, R199, R219) -/

/-- Change the copy that commits act on. -/
def onBankCopy (f : Copy → Copy) (s : State) : State :=
  match s.cpB with
  | some b => { s with cpB := some (f b) }
  | none => { s with cp := f s.cp }

/-- A refused commit transfers nothing and keeps the dirty marks. -/
def commitRefuse (s : State) : State :=
  let s1 := ((s.setFlag CEN.PCOMMIT_STAT.REJ true).setFlag CEN.PCOMMIT_STAT.PEND false).setFlag CEN.PCOMMIT_STAT.OUTER_PEND false
  { s1 with eng := { s1.eng with commit := none } }

/-- The last part of a commit has been transferred. -/
def commitDone (pcnt : Nat) (s : State) : State :=
  let s1 := ((s.setFlag CEN.PCOMMIT_STAT.PEND false).setFlag CEN.PCOMMIT_STAT.OUTER_PEND false).setFld CEN.PCOMMIT_LAST.PCNT (pcnt % 2 ^ 32)
  { s1 with eng := { s1.eng with commit := none } }

/-- The banks of one rate are transferred; loads made in a locked pair can be replayed (R251). -/
def commitRate (outer : Bool) (s : State) : State :=
  let m := if s.cpB.isNone && s.loam.replayOpen then sloadMask s.img.graph outer s.cp else 0
  let s1 := onBankCopy (transferRate s.img.graph outer) s
  { s1 with loam := { s1.loam with replaySload := s1.loam.replaySload ||| m } }

/-- A commit at the boundary with count `pcnt`; `outer` says it starts an outer evaluation. -/
def commitBoundary (pcnt : Nat) (outer : Bool) (s : State) : State :=
  match s.eng.commit with
  | none => s
  | some k =>
    let waits := dirtyTiles s.img.graph (bankCopy s).banks true != []
    match k.at_ with
    | some n =>
      if n ≠ pcnt % 2 ^ 32 then s
      else if ((k.alignOuter || waits) && !outer) || !gainsOk s.img.graph (committedPar (bankCopy s)) then commitRefuse s
      else commitDone pcnt (commitRate true (commitRate false s))
    | none =>
      if k.alignOuter && !outer then s
      else if !gainsOk s.img.graph (committedPar (bankCopy s)) then commitRefuse s
      else
        let s1 := if k.innerDone then s else commitRate false s
        if !waits then commitDone pcnt s1
        else if outer then commitDone pcnt (commitRate true s1)
        else { s1.setFlag CEN.PCOMMIT_STAT.OUTER_PEND true with eng := { s1.eng with commit := some { k with innerDone := true } } }

/-- A boundary inside a restore refuses a commit named for it (R252). -/
def commitInRestore (pcnt : Nat) (s : State) : State :=
  match s.eng.commit with
  | some k => if k.at_ = some (pcnt % 2 ^ 32) then commitRefuse s else s
  | none => s

/-! ## Evaluation (R183 to R186, R203 to R215) -/

/-- What the graph reads in this period. -/
def envOf (s : State) : EvalEnv :=
  { graph := s.img.graph, banks := s.cp.banks, samples := s.eng.samples, quant := fun a p => (s.cp.arm a).quant.getD p 0, targets := injTargets s }

/-- Change the engine of the copy in `cp`. -/
def onEngine (f : Engine → Engine) (s : State) : State := { s with cp := { s.cp with eng := f s.cp.eng } }

/-- Bit t of SATMASK0 to 2. -/
def satMasked (s : State) (t : Nat) : Bool := bitAt (s.rd (CEN.SATMASK.addr + 4 * (t / 32))) (t % 32)

/-- Macro commands, injection and the outer outputs of the last evaluation, then the inner graph. -/
def innerStep (s : State) : State :=
  let s1 := onEngine (macroCommands s (envOf s) s.eng.mctl) s
  let s2 := onEngine (fun e => holdOuter s.img.graph (injAll s e)) s1
  onEngine (sampleRate (envOf s2) (satMasked s) false) s2

/-- The outer graph of a period that R22 selects. -/
def outerStep (s : State) : State := onEngine (sampleRate (envOf s) (satMasked s) true) s

/-- The value of a sink as an inner tile reads its source (R185). -/
def sinkValue (s : State) (k : SinkRec) : Int :=
  let v := readRaw (envOf s) s.cp.eng false k.src
  if k.src.neg then satS 32 (-v) else v

/-- The reference of arm `a`. -/
def armRef (s : State) (a : Nat) : Int :=
  match s.img.graph.sinks.find? (fun k => k.kind == 1 && k.index == a) with
  | some k => sinkValue s k
  | none => 0

/-- Duty sinks go to the PWM generator. -/
def pwmSinks (s : State) : State :=
  { s with pwm := { s.pwm with
    sinks := (s.img.graph.sinks.filter (fun k => k.kind == 2)).foldl (fun t k => tabSet noSink t k.index (some (sinkValue s k))) [] } }

/-- RUN and INJ_START_PCNT of the injection sources; START and STOP are spent. -/
def injRegs (pcnt : Nat) (s : State) : State :=
  let s1 := (upto 4).foldl (fun (s : State) k =>
    let s2 := s.setFlag (CEN.INJ_CTRL.RUN.at (injOff k)) (s.cp.eng.inj_ k).run
    if bitAt s.eng.injStart k then
      let s3 := s2.setFld (CEN.INJ_START_PCNT.PCNT.at (injOff k)) (pcnt % 2 ^ 32)
      if s.fld CEN.CAP_TSEL.TSEL % 4 = k then capTrigger 2 s3 else s3
    else s2) s
  { s1 with eng := { s1.eng with injStart := 0, injStop := 0, injFreq := 0, mctl := 0 } }

/-! ## Capture, correlators and the recorder's waves (R205 to R208, R518) -/

/-- The state as a selected source word names it: copy B while split where COPY, bit 31, is set (R205, R208, R239). -/
def selView (s : State) (sel : Nat) : State :=
  match s.cpB with
  | some b => if bitAt sel 31 then viewB s b else s
  | none => s

/-- The word of capture channel `c` at one rate. -/
def capWord (s : State) (outer : Bool) (c : Nat) : Nat :=
  let sel := s.rd (CEN.CAP_SEL.addr + 4 * c)
  let v := selView s sel
  unsignedOf 32 (selValue (envOf v) v.cp.eng outer c sel)

/-- The capture unit takes a sample when its rate has evaluated. -/
def captureRate (outer : Bool) (s : State) : State :=
  if s.flag CEN.CAP_CTRL.RATE == outer then capSample s (capWord s outer) s.period.pcnt else s

/-- The correlators at a boundary: wraps of their references, and samples of the rates that have evaluated. -/
def corrStep (outerRan : Bool) (s : State) : State :=
  (upto 4).foldl (fun (s : State) c =>
    let sel := s.rd (CEN.CORR_SEL.addr + injOff c)
    let v := selView s sel
    let r := v.cp.eng.inj_ (s.fld (CEN.CORR_CTRL.REF.at (injOff c)))
    let x := corrWrap r.wrapped (s.fld (CEN.CORR_CTRL.NCYC.at (injOff c))) (s.eng.corr_ c)
    let outer := corrOuter s.img.graph sel
    let y := if outer && !outerRan then x else corrTake (selValue (envOf v) v.cp.eng outer c sel) r.theta x
    { s with eng := s.eng.setCorr c y }) s

/-- The eight words of a wave set. -/
def waveWords (s : State) : List Nat :=
  (upto 8).map (fun n =>
    let sel := s.rd (STR.WCH_SEL.addr + 4 * n)
    let src := bitsAt sel 28 3
    if src = 0 ∨ 4 ≤ src then 0
    else unsignedOf 32 (selValue (envOf s) s.cp.eng (s.img.graph.isOuter (bitsAt sel 8 7)) 0 sel))

/-! ## The boundary -/

/-- Does the boundary with count `pcnt` start an outer evaluation (R22)? -/
def outerDue (s : State) (pcnt : Nat) : Bool := pcnt % (bitsAt s.period.cfg.toNat 8 6 + 1) == 0

/-- The compare-and-latch tile that triggers a capture has its latch set (R206). -/
def capLatch (s : State) : Bool :=
  s.img.graph.tiles.any (fun r => r.type == 0x11 && r.tile == s.fld CEN.CAP_TSEL.TSEL && (s.cp.eng.tile r.tile).latch)

/-- An evaluation, and the trigger of the capture where the latch of its tile has set in it. -/
def evalTriggered (f : State → State) (s : State) : State :=
  let s1 := f s
  if capLatch s1 && !capLatch s then capTrigger 3 s1 else s1

/-- A period that evaluates; the arm quantities of its boundary have been taken (R172). `ops` are the arms whose queues completed an operation between P and P + 76 ns (R24, R150). -/
def runPeriod (wasBlocked : Bool) (ops : List (Fin 6)) (s0 : State) : State :=
  let pcnt := s0.period.pcnt
  let outer := outerDue s0 pcnt
  let s3 := commitBoundary pcnt outer s0
  let s4 := splitAtBoundary pcnt { s3 with loam := { s3.loam with replayMctl := if s3.loam.replayOpen then s3.eng.mctl else s3.loam.replayMctl } }
  let s5 := { s4 with cpB := s4.cpB.map (fun b => settleAll s4 (takeFromA s4.cp b)) }
  let s6 := evalTriggered (fun s => injRegs pcnt (bothCopies innerStep s)) s5
  let s7 := captureRate false (pwmSinks s6)
  let s8 := bothCopies (fun s => armList.foldl (fun s a => modArm (armRef s a) a s) s) s7
  let s9 := if outer then captureRate true (evalTriggered (bothCopies outerStep) s8) else s8
  let s10 := bothCopies countdowns (ops.foldl (fun s a => bothCopies (rankStep a.val) s) s9)
  let s11 := bothCopies (fun s => takeRsnap (autoBase (armList.foldl (fun s a => snapshotArm a s) s))) s10
  let s12 := bothCopies (fun s => armList.foldl (fun s a => rechargeFill a s) s) s11
  let sel := armList.foldl (fun r a => selectStep wasBlocked a r) (s12, [])
  let selB := s12.cpB.map (fun b => keepB sel.1 (armList.foldl (fun r a => selectStep wasBlocked a r) (viewB s12 b, [])).1)
  let s13 := (selB.getD sel.1).onCopies rechSettled
  let cmd := fun (i : Nat) => (sel.2.find? (fun c => c.cell == i)).getD { cell := i, code := 0 }
  let s14 := allFrames (if s13.blocked then .block else .commands) cmd s13
  let s16 := strataSample (waveWords s14) (corrStep outer s14)
  { s16 with loam := { s16.loam with next := some (latchCheckpoint s16), replayOpen := false } }

/-- A period inside a restore: hold frames, no evaluation (R248 to R253). The frames of a blocked converter carry block, which replaces
what a cell was commanded (R153, R249). -/
def holdPeriod (s : State) : State :=
  let s1 := autoBase (commitInRestore s.period.pcnt { s with loam := { s.loam with lat := s.loam.lat + 1, replayOpen := false } })
  let s2 := if s1.blocked then armList.foldl (fun s a => (selectStep true a (s, [])).1) s1 else s1
  allFrames (if s2.blocked then .holdBlock else .hold) (fun i => { cell := i, code := 0 }) s2

/-- When a tile's outputs are valid, ns after the boundary (R183). -/
def outputAt (g : Graph) (r : TileRec) : Nat := (if r.outer then g.innerDepth else 0) + r.stage + tileCycles r.type

/-- The first tile to put out a word in a period, and when. -/
def firstOutput (g : Graph) (outer : Bool) : Option (Nat × Nat) :=
  (g.tiles.filter (fun r => !r.outer || outer)).foldl (fun b r => match b with
    | some x => if outputAt g r < x.2 then some (r.tile, outputAt g r) else b
    | none => some (r.tile, outputAt g r)) none

/-- R257: an inversion of copy B's next tile output is detected under code 0x03 where the locked pair evaluates: copy B puts the word out two
cycles after copy A, and the comparison takes two more. -/
def forcedMismatch (s : State) : State :=
  if s.loam.force && lmpState s == lmpLocked then
    match firstOutput s.img.graph (outerDue s s.period.pcnt) with
    | some x => mismatch 3 x.1 (x.2 + 4) { s with loam := { s.loam with force := false } }
    | none => s
  else s

/-- R21 to R25, R40 to R44: period boundary P and the steps of its period. `ref` is station time at P (R41), `conv` the conversions
of each core since the last boundary, `ops` the rank operations completed by P + 76 ns. -/
def execPeriodBoundary (ref : Nat) (conv : List (List Int)) (ops : List (Fin 6)) (s : State) : Host.Outcome State Fault Refusal :=
  if !s.hubUp then .next s
  else
    let wasBlocked := s.blocked
    let s0 := advanceTime ref s.fresh
    let s1 := releaseSamples conv (tcNs s.tc) (lanesTo (5 * s0.period.timeNs) s0)
    let s2 := statBoundary (takePeriodCfg s1)
    let pcnt := s2.period.pcnt
    let restoring := s2.loam.restoring
    let s3 := ctApply pcnt (if restoring then s2 else takeWrites (relockBoundary pcnt s2))
    let sq := if restoring then s3 else bothCopies takeQuantities s3
    let s4 := discipline ref (leaveHoldover (convBoundary sq.period.timeNs (anchorBoundary sq)))
    let s5 := pwmBoundary pcnt s4
    let s6 := s5.setFld LMP.STAT.RECENT (min 2 (recentAt s5 s5.period.timeNs).length)
    let s7 := if s6.fld CEN.CAP_TPCNT.PCNT = pcnt % 2 ^ 32 then capTrigger 1 s6 else s6
    .next (pwmBlocked (cmpPeriodClear (if restoring then holdPeriod s7 else forcedMismatch (runPeriod wasBlocked ops s7))))

/-! ## What ends between boundaries (R204, R206, R208, R217, R283) -/

/-- R204: source `k` has run its DUR periods: it stops as on STOP. -/
def execInjDurEnd (k : Fin 4) (s : State) : Host.Outcome State Fault Refusal :=
  let dur := s.fld (CEN.INJ_DUR.DUR.at (injOff k.val))
  let x := s.cp.eng.inj_ k.val
  if x.run && dur != 0 && decide (dur ≤ x.elapsed) then
    .next (s.onCopies (fun c => { c with eng := c.eng.setInj k.val { c.eng.inj_ k.val with stopping := true } }))
  else .next s

/-- R206: every sample after the trigger has been recorded. -/
def execCaptureDone (s : State) : Host.Outcome State Fault Refusal :=
  let cap := s.eng.cap
  if cap.st = 2 ∧ cap.left = 0 then
    .next { s.setFld CEN.CAP_STAT.STATE 3 with eng := { s.eng with cap := { cap with st := 3 } } }
  else .next s

/-- R208: correlator `c` has met its last wrap, or its sample limit. -/
def execCorrDone (c : Fin 4) (s : State) : Host.Outcome State Fault Refusal :=
  let o := injOff c.val
  let x := s.eng.corr_ c.val
  let idle := (s.setFlag (CEN.CORR_CTRL.BUSY.at o) false)
  let s0 := { idle with eng := idle.eng.setCorr c.val {} }
  if x.st = 3 then
    let res := fun (v : Int) => unsignedOf 32 (satS 32 (if x.n = 0 then Config.freeOf 208 [v] else roundHA (2 * v) x.n))
    .next ((((s0.setFld (CEN.CORR_I.I.at o) (res x.s)).setFld (CEN.CORR_Q.Q.at o) (res x.c)).setFld (CEN.CORR_N.N.at o) x.n).setFlag
      (CEN.CORR_CTRL.DONE.at o) true)
  else if x.st = 4 then .next (s0.setFlag (CEN.CORR_CTRL.OVF.at o) true)
  else .next s

/-- R217: 1,024 consecutive samples of record `j` with tile 6's y1 false. -/
def execGridSyncLock (j : Fin 32) (s : State) : Host.Outcome State Fault Refusal :=
  match s.img.graph.macros[j.val]? with
  | some r =>
    if r.type = 1 then
      .next (s.onCopies (fun c => { c with eng := c.eng.setMacro j.val { c.eng.macro_ j.val with
        stat := if 1024 ≤ (c.eng.macro_ j.val).lockCnt then putBit (c.eng.macro_ j.val).stat 0 true else (c.eng.macro_ j.val).stat } }))
    else .next s
  | none => .next s

/-- R283: the system calibration under way ends, `dt` ns after the last boundary. -/
def execScalDone (dt : Nat) (s : State) : Host.Outcome State Fault Refusal := .next (scalDone (s.baseNs + dt) s)

end Sys2Proof.Machine
end

