-- ==== Sys2Proof/Machine/CellRx.lean ====
section
/-!
DEFINITION. The receiver of the cell role, block by block (R81, R82, R85 to R87, R110, R111): descrambling, sync headers, the frame
under way, control blocks, and the codes as they adapt.
-/
namespace Sys2Proof.Machine

def rxOff : Nat := 0
def rxAcquire : Nat := 1
def rxSearch : Nat := 2
def rxTrack : Nat := 3
def rxHold : Nat := 4
def rxState (s : State) : Nat := s.fld LNK.STAT.RX_STATE
def rxGo (st : Nat) (s : State) : State := s.setFld LNK.STAT.RX_STATE st

/-- Change the receive stream. -/
def State.onRx (f : CellRx → CellRx) (s : State) : State := { s with cell := { s.cell with rx := f s.cell.rx } }

/-- A word of the frame under way takes its place. -/
def CellRx.word (w : Nat) (x : CellRx) : CellRx :=
  { x with words := if x.words ≠ [] ∧ x.words.length < 51 then x.words ++ [w] else x.words }

/-- What a control block is recognised as (R110, R111). -/
inductive CtlKind where
  | frame
  | idle
  | test
  | stop
  | abort
  | error
  deriving DecidableEq, Repr

/-- Frame start, idle and test blocks by their exact type, stop and abort with their tolerances (R111). -/
def ctlKind (w : Nat) : CtlKind :=
  if w % 256 = typeFrame then .frame
  else if w % 256 = typeIdle then .idle
  else if w % 256 = typeTest then .test
  else if nearBlock stopPayload w then .stop
  else if nearBlock abortPayload w then .abort
  else .error

/-- A block error (R110, R111), or an invalid sync header (R109). -/
def blockError (s : State) : State := s.count LNK.BLOCK_ERR_CNT.COUNT 1

/-- A control block in TRACK. -/
def rxControl (w : Nat) (s : State) : State :=
  match ctlKind w with
  | .frame => s.onRx (fun x => { x with words := [w], pos := 0, taken := false, drop := false, noMgmt := false })
  | .idle => s
  | .test => if prbsMode s 0 = 2 then prbsReceive 0 56 (w / 256) s else s
  | .stop => s.onRx (fun x => { x with ctl := 1, drop := true })
  | .abort => s.onRx (fun x => { x with ctl := 2, drop := x.drop || decide (x.pos ≤ 35), noMgmt := true })
  | .error => blockError s

/-- One block arrives. In raw mode its 66 bits are pattern bits. Outside TRACK only headers are looked at; in TRACK a data block is the
next word of the frame under way, and a block with an invalid header stands for one. -/
def rxBlock (s : State) (b : BitVec 66) : State :=
  if prbsMode s 0 = 1 then prbsReceive 0 66 b.toNat s
  else
    let hdr := b.toNat % 4
    let valid := hdr == hdrData || hdr == hdrCtl
    let d := descramble s.cell.rx.dscr (b.toNat / 4)
    let s1 := s.onRx (fun x => { x with
      dscr := d.2, pos := x.pos + 1, ctl := 0, good := if valid then min 64 (x.good + 1) else 0, bad := (2 * x.bad + (!valid).toNat) % 2 ^ 64 })
    if rxState s ≠ rxTrack then s1
    else if hdr = hdrCtl then rxControl d.1 s1
    else (if valid then s1 else blockError s1).onRx (CellRx.word d.1)

/-- Blocks arrive; a far-end loopback sends them on (R107), and in a near-end loopback nothing arrives from outside. -/
def rxBlocks (blks : List (BitVec 66)) (s : State) : State :=
  if loopback s 0 = 1 ∨ loopback s 0 = 2 then s
  else
    let s1 := blks.foldl rxBlock s
    if loopback s 0 = 4 ∧ blks ≠ [] then s1.emit (.echo (blks.map (fun (b : BitVec 66) => b.toNat))) else s1

/-- The words of the frame that is complete and not yet dealt with. -/
def frameReady (s : State) : Option (List Nat) :=
  if s.cell.rx.words.length = 51 ∧ s.cell.rx.taken = false then some s.cell.rx.words else none

/-! ## Codes in TRACK (R85, R87) -/

/-- EQ code fields of the word pair RX_EQ0, RX_EQ1 in EQ_PRESET layout. -/
def rxEq (s : State) : Nat := s.rd LNK.RX_EQ0.addr + 2 ^ 32 * s.rd LNK.RX_EQ1.addr
def setRxEq (eq : Nat) (s : State) : State := (s.wr LNK.RX_EQ0.addr (eq % 2 ^ 32)).wr LNK.RX_EQ1.addr (eq / 2 ^ 32 % 2 ^ 32)

/-- Codes after sign-sign LMS steps: net steps of DFE taps 1 to 8, of VGA and of PH, each code saturating in its range (R84, R85). -/
def lmsCodes (steps : List Int) (eq : Nat) : Nat :=
  let tap := fun (acc : Nat) (k : Nat) =>
    putBits acc (6 * k) 6 (unsignedOf 6 (satS 6 (signedOf 6 (bitsAt acc (6 * k) 6) + steps.getD k 0)))
  let eq1 := (upto 8).foldl tap eq
  let eq2 := putBits eq1 52 6 (clampI 0 63 ((bitsAt eq1 52 6 : Nat) + steps.getD 8 0)).toNat
  putBits eq2 58 6 (clampI 0 63 ((bitsAt eq2 58 6 : Nat) + steps.getD 9 0)).toNat

/-- Tap 1 stands at an end of its range. -/
def tapSaturated (eq : Nat) : Bool := bitsAt eq 0 6 == 31 || bitsAt eq 0 6 == 32

/-- The codes adapt in TRACK by the time `t`: `steps` are the net steps of DFE taps 1 to 8, VGA and PH since the last frame and the
direction in which CTLE would be stepped. CTLE takes at most one step in 1 ms, while tap 1 is saturated. EQ_FREEZE keeps all codes. -/
def rxAdapt (t : Nat) (steps : List Int) (s : State) : State :=
  if s.flag LNK.CTRL.EQ_FREEZE then s
  else
    let eq := lmsCodes steps (rxEq s)
    let dir := clampI (-1) 1 (steps.getD 10 0)
    if dir ≠ 0 ∧ tapSaturated eq = true ∧ s.cell.ctleAt + 8000000 ≤ t then
      let s1 := setRxEq (putBits eq 48 4 (clampI 0 15 ((bitsAt eq 48 4 : Nat) + dir)).toNat) s
      { s1 with cell := { s1.cell with ctleAt := t } }
    else setRxEq eq s

end Sys2Proof.Machine
end

