-- ==== Sys2Proof/Machine/CellGate.lean ====
section
/-!
DEFINITION. Gate control of the cell role (chapter 11): switches and their edges, the leg interlock, resolution of commands, faults,
bypass and permanent bypass, the self-test, and the GDC registers. Times are in 125 ps of the recovered clock.
-/
namespace Sys2Proof.Machine

/-- A cell with its image applied (R322). -/
def State.cellOn (s : State) : Bool := s.isCell && s.flag IMG.STAT.VALID && !s.sys.inReset

/-- The cell drives its gates: its clocks run (R477, R480). -/
def State.cellLive (s : State) : Bool := s.cellOn && s.clk.lost &&& 3 == 0 && !s.clk.relocking

/-- Full-bridge cell. -/
def fullBridge (s : State) : Bool := s.flag GDC.CFG.TYPE

/-- Admission states of C_ADM (R146). -/
def admListen : Nat := 0
def admWait : Nat := 1
def admAnnounced : Nat := 2
def admJoining : Nat := 3
def admAdmitted : Nat := 4
def admRefused : Nat := 5
def cellAdm (s : State) : Nat := s.fld LNK.C_ADM.STATE

/-! ## Reasons and faults (R333, R348) -/

/-- A reason code is recorded. -/
def State.because (code : Nat) (s : State) : State :=
  let s1 := { s with cell := { s.cell with reason := code } }
  s1.setFld CEL.STAT.REASON (s1.cell.faults.getLast?.getD code)

def faultBit (s : State) (c : Nat) : Nat := (s.cell.faults.contains c).toNat

/-- GDC.FLT and the reported reason follow the faults in force. -/
def fltSync (s : State) : State :=
  let w := faultBit s 0x8C * 2 ^ 11 + faultBit s 0x87 * 2 ^ 10 + faultBit s 0x86 * 2 ^ 9 + faultBit s 0x85 * 2 ^ 8
    + (faultBit s 0x81 + 2 * faultBit s 0x83 + 4 * faultBit s 0x82 + 8 * faultBit s 0x84) * 2 ^ 4
    + (s.cell.faults.any (fun c => decide (0xA0 ≤ c) && decide (c ≤ 0xAB))).toNat * 2 ^ 3
    + faultBit s 0x8A * 2 ^ 2 + faultBit s 0x88 * 2 + (s.flag GDC.STAT.BYP_CMD).toNat
  (s.wr GDC.FLT.addr w).setFld CEL.STAT.REASON (s.cell.faults.getLast?.getD s.cell.reason)

/-- A fault comes into force, and ends an override (R333, R350). -/
def faultOn (code : Nat) (s : State) : State :=
  fltSync { (s.setFlag GDC.OVR.EN false) with
    cell := { s.cell with faults := s.cell.faults.filter (fun c => c != code) ++ [code], reason := code } }

/-- Faults clear. -/
def faultsOff (p : Nat → Bool) (s : State) : State :=
  fltSync { s with cell := { s.cell with faults := s.cell.faults.filter (fun c => !p c) } }

/-- Faults whose action is bypass (R333). -/
def bypassFault (c : Nat) : Bool :=
  c == 0x81 || c == 0x82 || c == 0x86 || c == 0x88 || c == 0xA0 || c == 0xA4 || (decide (0xA8 ≤ c) && decide (c ≤ 0xAB))

/-- Latching faults (R333). -/
def latchingFault (c : Nat) : Bool := c == 0x81 || c == 0x82 || c == 0x86 || (decide (0xA0 ≤ c) && decide (c ≤ 0xAB))

/-- Permanent faults (R333). -/
def permanentFault (c : Nat) : Bool := c == 0x83 || c == 0x84 || c == 0x85 || c == 0x87 || c == 0x8C

/-! ## Edges (R323 to R325) -/

/-- The other switch of a switch's leg (R320). -/
def legMate (k : Nat) : Nat := if k % 2 = 0 then k + 1 else k - 1

/-- Dead time of a switch's leg in the present temperature band. -/
def legDt (s : State) (k : Nat) : Nat := 8 * ((s.img.tband.getD (s.fld THM.STAT.BAND) {}).legDt.getD (k / 2) 0)

/-- An edge takes its place among those scheduled; of two at one instant the one scheduled first stands first. -/
def edgeInsert (e : GateEdge) : List GateEdge → List GateEdge
  | [] => [e]
  | x :: xs => if e.at_ < x.at_ then e :: x :: xs else x :: edgeInsert e xs

def Cell.schedule (c : Cell) (e : GateEdge) : Cell := { c with edges := edgeInsert e c.edges }

/-- Edges of one kind are taken back. -/
def Cell.cancel (c : Cell) (k : Nat) (pin : GatePin) (level : Bool) : Cell :=
  { c with edges := c.edges.filter (fun e => !(e.sw == k && e.pin == pin && e.level == level)) }

/-- A turn-on of switch `k` is still to come. -/
def Cell.onPending (c : Cell) (k : Nat) : Bool := c.edges.any (fun e => e.sw == k && e.pin == .on && e.level) || bitAt c.held k

/-- Switch `k` is no longer wanted on: a pending turn-on is cancelled, else its turn-off edge falls at `te`; one in soft
turn-off finishes it. -/
def driveOff (te k : Nat) (s : State) : State :=
  let c : Cell := { s.cell with want := putBit s.cell.want k false }
  if bitAt c.soft k then { s with cell := c }
  else if c.onPending k then { s with cell := { c.cancel k .on true with held := putBit c.held k false } }
  else { s with cell := { c.schedule { at_ := te, sw := k, pin := .on, level := false } with offAt := tabSet zeroNat c.offAt k (te + 1) } }

/-- Switch `k` is wanted on: its turn-on edge. -/
def driveOn (te k : Nat) (s : State) : State :=
  let after := fun j => match tabGet zeroNat s.cell.offAt j with | 0 => 0 | t + 1 => t + legDt s k
  let t := max te (max (after (legMate k)) (after k))
  let c : Cell := { s.cell with want := putBit s.cell.want k true }
  { s with cell := c.schedule { at_ := t, sw := k, pin := .on, level := true } }

/-- The switches a pattern leaves on in the present stage: a dormant cell never turns an upper switch on (R344, R346). -/
def stagePattern (s : State) (pat : Nat) : Nat := if s.fld CEL.STAT.STAGE = 3 then pat &&& 0b1010 else pat

/-- The gate pattern `pat` is taken, its edges placed from `te`: turn-offs first. -/
def drive (te pat : Nat) (s : State) : State :=
  let p := stagePattern s pat
  let s1 := (upto 4).foldl (fun (s : State) k => if bitAt s.cell.want k && !bitAt p k then driveOff te k s else s) s
  (upto 4).foldl (fun (s : State) k => if bitAt p k && !bitAt s.cell.want k then driveOn te k s else s) s1

/-- Gate pattern of a STATE code (R321): 0 block, 1 bypass, 2 insert positive, 3 insert negative, 4 diode insertion. -/
def statePattern (full : Bool) (code : Nat) : Nat :=
  match code with
  | 1 => if full then 0b1010 else 0b0010
  | 2 => if full then 0b1001 else 0b0001
  | 3 => if full then 0b0110 else 0
  | _ => 0

/-- The cell takes a state. -/
def takeState (te code : Nat) (s : State) : State :=
  (drive te (statePattern (fullBridge s) code) s).setFld GDC.STAT.STATE code

/-- A turn-on of switch `k` that is still to come, or that its mate's feedback holds back, falls at `t` at the earliest (R323). -/
def postpone (t k : Nat) (c : Cell) : Cell :=
  if c.onPending k then
    let at_ := ((c.edges.find? (fun e => e.sw == k && e.pin == .on && e.level)).map (·.at_)).getD 0
    { (c.cancel k .on true).schedule { at_ := max at_ t, sw := k, pin := .on, level := true } with held := putBit c.held k false }
  else c

/-- Switch `k` falls with a soft turn-off: GD_STO rises now, and a turn-on of the leg's other switch waits for the fall and DT (R323,
R325). -/
def softOff (t k : Nat) (s : State) : State :=
  let c : Cell := { s.cell.cancel k .on true with held := putBit s.cell.held k false, want := putBit s.cell.want k false }
  if bitAt (s.fld GDC.STAT.ON) k && !bitAt c.soft k then
    let fall := t + 160 * max 1 (s.fld GDC.CFG.STO_T)
    let c1 := postpone (fall + legDt s k) (legMate k) (c.cancel k .on false)
    { (s.setFld GDC.STAT.STO (putBit (s.fld GDC.STAT.STO) k true)) with
      cell := { c1 with soft := putBit c1.soft k true, offAt := tabSet zeroNat c1.offAt k (fall + 1) } }
  else { s with cell := c }

/-- GD_ON[k] falls at `t`; GD_MC[k] follows MC_DLY ns later (R324). -/
def gateFall (t k : Nat) (s : State) : State :=
  let c := s.cell.schedule { at_ := t + 8 * s.fld GDC.CFG.MC_DLY, sw := k, pin := .mc, level := true }
  { (s.setFld GDC.STAT.ON (putBit (s.fld GDC.STAT.ON) k false)) with cell := c }

/-- GD_ON[k] rises at `t` and GD_MC[k] falls with it (R324). -/
def gateRise (t k : Nat) (s : State) : State :=
  let c := s.cell.cancel k .mc true
  { ((s.setFld GDC.STAT.ON (putBit (s.fld GDC.STAT.ON) k true)).setFld GDC.STAT.MC (putBit (s.fld GDC.STAT.MC) k false)) with
    cell := { c with turnOns := c.turnOns + 1, onAt := tabSet zeroNat c.onAt k t, held := putBit c.held k false } }

/-- BYP_CMD rises at `t` (R335). -/
def bypRise (t : Nat) (s : State) : State :=
  fltSync { (s.setFlag GDC.STAT.BYP_CMD true) with cell := { s.cell with bypAt := if s.flag GDC.STAT.BYP_CMD then s.cell.bypAt else t } }

/-! ## Resolving commands (R328 to R332, R335) -/

/-- A source mapped to "block this cell" is fired (R329, R349). -/
def routedBlock (s : State) : Bool := (upto 128).any (fun k => sourceFired s k && bitAt s.evr.blockSrc k)

/-- Gates of permanent bypass: the bypass pattern while BYP_FB is low after PERM_BYPASS, else all off (R335). -/
def permState (s : State) : Nat := if s.cell.perm = 1 ∧ s.flag GDC.STAT.BYP_FB = false then 1 else 0

/-- Rows 1 to 4 of R329: the state they force. A requested thermal shutdown blocks as a routed block does (R512). -/
def forcedState (s : State) : Option Nat :=
  if s.flag CEL.STAT.STOP_LATCHED || routedBlock s || s.thm.sd.isSome then some 0
  else if s.cell.perm ≠ 0 then some (permState s)
  else if s.cell.faults.any bypassFault then some 1
  else if s.flag CEL.STAT.HOLD_OUT || (cellAdm s == admAdmitted && s.cell.loader) then some 0
  else none

/-- A forcing condition that arises between command edges acts at once. -/
def force (te : Nat) (s : State) : State :=
  match forcedState s with
  | some c => (takeState te c s).setFlag GDC.STAT.OVR_ACT false
  | none => s

/-- Permanent bypass starts (R335): by command at `te`, after a fault at once; a fault before BYP_FB reads high in one started by command
makes it one after a fault, all gates off. -/
def permStart (how te : Nat) (s : State) : State :=
  if s.cell.perm = 1 ∧ how = 2 ∧ s.flag GDC.STAT.BYP_FB = false then bypRise te { s with cell := { s.cell with perm := 2 } }
  else if s.cell.perm ≠ 0 then s
  else
    let s1 := { s with cell := { s.cell with perm := how } }
    if how = 1 then { s1 with cell := s1.cell.schedule { at_ := te, sw := 0, pin := .byp, level := true } } else bypRise te s1

/-- The pattern of GDC.OVR through the leg interlock (R326), and the legs it requests both switches of. -/
def ovrPattern (s : State) : Nat × List Nat :=
  let on := s.fld GDC.OVR.ON &&& (if fullBridge s then 15 else 3)
  let both := (upto 2).filter (fun l => bitAt on (2 * l) && bitAt on (2 * l + 1))
  (both.foldl (fun p l => putBits p (2 * l) 2 0) on, both)

/-- The STATE code of a gate pattern, with the polarity of an insertion (R321, R347); a pattern of no state counts as block (log 83). -/
def patternState (pat : Nat) (s : State) : State :=
  let full := fullBridge s
  let code := ((upto 4).find? (fun c => decide (1 ≤ c) && statePattern full c == pat && pat != 0)).getD 0
  { s.setFld GDC.STAT.STATE code with cell := { s.cell with neg := code == 3 } }

/-- The leg interlock's action on legs of which both switches are requested: both off at `t` without soft turn-off, count, event and
fault (R326). -/
def interlock (t : Nat) (legs : List Nat) (s : State) : State :=
  if legs.isEmpty then s
  else
    let off := (legs.flatMap (fun l => [2 * l, 2 * l + 1])).filter (bitAt s.cell.want)
    faultOn 0x8A (((off.foldl (fun s k => driveOff t k s) s).count GDC.CNT.INTERLOCK legs.length).raise GDC.EVT.INTERLOCK)

/-- The override in force at a command edge: the interlock's action at the edge itself, and its pattern (R326, R329). -/
def takeOverride (te : Nat) (s : State) : State :=
  let p := ovrPattern s
  (patternState p.1 (drive te p.1 (interlock s.cell.now p.2 s))).setFlag GDC.STAT.OVR_ACT true

/-- A write of GDC.OVR at cell time `t` that requests both switches of a leg, where no row of R329 above it is in force (R326). -/
def ovrWritten (t : Nat) (s : State) : State :=
  let legs := (ovrPattern s).2
  if s.cellLive && s.flag GDC.OVR.EN && !legs.isEmpty && (forcedState s).isNone then
    let s1 := interlock t legs { s with cell := { s.cell with now := t } }
    patternState s1.cell.want s1
  else s

/-- An insertion by command (R330): refused in low energy and while the bootstrap condition is in force. -/
def takeInsertion (te : Nat) (neg recharge : Bool) (s : State) : State :=
  let s1 := { s with cell := { s.cell with neg := neg } }
  if recharge then takeState te 4 s1
  else if s.flag CEL.STAT.LOW_ENERGY then takeState te 1 (s.because (if s.fld CEL.STAT.STAGE = 3 then 0x91 else 0x90))
  else if s.flag CEL.STAT.BOOT_UV then takeState te 1 (s.because 0x89)
  else takeState te (if neg then 3 else 2) s1

/-- R330, R331: the response to an accepted word; `armed` says the last received frame armed a permanent bypass. -/
def takeWord (te : Nat) (armed : Bool) (f : CellFrame) (s : State) : State :=
  match f.code with
  | 1 => takeState te 0 s
  | 2 => takeState te 1 s
  | 3 => takeInsertion te false f.recharge s
  | 4 => takeInsertion te true f.recharge s
  | 5 => if f.confirm && armed then
      let s1 := permStart 1 te s
      takeState te (permState s1) s1
    else s
  | _ => s

/-- R329 at a command edge whose edges are placed from `te`. -/
def resolve (te : Nat) (armed : Bool) (f : CellFrame) (s : State) : State :=
  match forcedState s with
  | some c => (takeState te c s).setFlag GDC.STAT.OVR_ACT false
  | none =>
    if s.flag GDC.OVR.EN then takeOverride te s
    else
      let s1 := s.setFlag GDC.STAT.OVR_ACT false
      if f.word then takeWord te armed f s1 else s1

/-- E_c in 125 ps. -/
def cellEq (s : State) : Nat := 8 * s.fld LNK.C_EQ.DELAY_EQ

/-- Units of 125 ps in one TOFFS unit (R115). -/
def toffsUnit (s : State) : Nat := if s.cell.tc = 3 then 16 else 8

/-- An override requests both switches of a leg. -/
def bothRequested (s : State) : Bool := s.flag GDC.OVR.EN && !(ovrPattern s).2.isEmpty

/-- What a command edge ends: the hold limit (R332), non-latching faults whose cause has gone (R334), the bootstrap condition (R338). -/
def edgeClears (s : State) : State :=
  let s1 := s.setFlag CEL.STAT.HOLD_OUT false
  let s2 := if s1.flag (CMP.CSTAT.LATCH.at (cmpOff 4)) then s1 else s1.setFlag CEL.STAT.BOOT_UV false
  let ov := s2.flag (CMP.CSTAT.LATCH.at (cmpOff 0))
  let both := bothRequested s2
  faultsOff (fun c => (c == 0x88 && !ov) || (c == 0x8A && !both)) s2

/-- R27, R328: the apply instant of the frame received longest ago: a command edge. -/
def execApplyInstant (s : State) : Host.Outcome State Fault Refusal :=
  match s.cell.frames with
  | [] => .next s
  | f :: rest =>
    let a := f.start + 1920 + cellEq s
    let te := a + f.toffs * toffsUnit s + 288
    let armed := s.cell.permArmed
    let arms := f.word && f.code == 5 && f.confirm
    let s1 := { s with cell := { s.cell with
      frames := rest, now := a, permArmed := arms, seqEcho := if f.word then f.seq else s.cell.seqEcho } }
    let s2 := if f.clearStop then s1.setFlag CEL.STAT.STOP_LATCHED false else s1
    if s.cellLive then .next (resolve te armed f (edgeClears s2)) else .next s2

/-- R332: the expected apply instant of a missing frame passes; at the H-th the cell blocks. -/
def execHoldMissingFrame (s : State) : Host.Outcome State Fault Refusal :=
  if s.cellLive then
    let m := min 15 (s.fld CEL.STAT.MISS + 1)
    let at_ := s.cell.gridStart + m * (8 * tcNs s.cell.tc) + 1920 + cellEq s
    let s1 := ((s.setFld CEL.STAT.MISS m).count LNK.C_MISS.COUNT 1)
    let s2 := { s1 with cell := { s1.cell with now := at_, permArmed := false } }
    if s2.fld CEL.CFG.HOLD_H ≤ m ∧ s2.flag CEL.STAT.HOLD_OUT = false then
      .next (force (at_ + 288) ((s2.setFlag CEL.STAT.HOLD_OUT true).because 0x92))
    else .next s2
  else .next s

/-- R37, R111, R120: `blks` arrive, the last of them a block that may be a stop symbol; one that is recognised acts at `t`. A cell without
an image latches it too, its gates being held (R322). -/
def execStopSymbolRx (t : Nat) (s : State) (blks : List (BitVec 66) := []) : Host.Outcome State Fault Refusal :=
  if s.isCell && !s.sys.inReset then
    let s0 := rxBlocks blks s.fresh
    if s0.cell.rx.ctl = 1 then
      let s1 := { ((s0.setFlag CEL.STAT.STOP_LATCHED true).setFlag GDC.OVR.EN false) with
        cell := { s0.cell with frames := [], now := t, permArmed := false } }
      .next (if s.cellLive then force t s1 else s1)
    else .next s0
  else .next s

/-- R34, R111: `blks` arrive, the last of them a block that may be an abort block. At position 35 of its frame or earlier a recognised one
discards the frame's words, and at any position its management field. -/
def execAbortBlockRx (blks : List (BitVec 66)) (s : State) : Host.Outcome State Fault Refusal :=
  if s.isCell && !s.sys.inReset then
    let s0 := rxBlocks blks s.fresh
    if s0.cell.rx.ctl = 2 then
      let c := s0.cell
      let hold := fun (f : CellFrame) => if c.rx.drop = true ∧ c.rx.taken = true ∧ some f.start = c.lastStart then { f with word := false } else f
      .next { s0 with cell := { c with mgmt := none, frames := c.frames.map hold } }
    else .next s0
  else .next s

/-- R323, R324, R327: the earliest scheduled edge falls due; `fb` is the level of GD_FB[3:0]. -/
def execGateEdgeDue (fb : Fin 16) (s : State) : Host.Outcome State Fault Refusal :=
  match s.cell.edges with
  | [] => .next s
  | e :: rest =>
    let s1 := { (s.setFld GDC.STAT.FB fb.val) with cell := { s.cell with edges := rest, now := e.at_ } }
    match e.pin with
    | .byp => .next (bypRise e.at_ s1)
    | .mc => .next (s1.setFld GDC.STAT.MC (putBit (s1.fld GDC.STAT.MC) e.sw e.level))
    | .on =>
      if e.level then
        if s1.flag GDC.CFG.FB_EN && bitAt fb.val (legMate e.sw) then .next { s1 with cell := { s1.cell with held := putBit s1.cell.held e.sw true } }
        else .next (gateRise e.at_ e.sw s1)
      else .next (gateFall e.at_ e.sw s1)

/-- R327: GD_FB[k] falls at `t`, and a turn-on of the other switch of its leg that it held back is made. -/
def execGdFbFall (k : Fin 4) (t : Nat) (s : State) : Host.Outcome State Fault Refusal :=
  let s1 := { (s.setFld GDC.STAT.FB (putBit (s.fld GDC.STAT.FB) k.val false)) with cell := { s.cell with now := t } }
  if s.isCell then
    if bitAt s.cell.held (legMate k.val) then .next (gateRise t (legMate k.val) s1) else .next s1
  else .next s

/-- When GD_ON[k] last went to its present level, in 125 ps (R327). -/
def gateEdgeAt (s : State) (k : Nat) : Nat :=
  if bitAt (s.fld GDC.STAT.ON) k then tabGet zeroNat s.cell.onAt k else tabGet zeroNat s.cell.offAt k - 1

/-- R327: GD_FB[k] has stayed at level `high` up to `t`, FB_TMO or more after GD_ON[k] went to the other level. -/
def execGateFbTimeout (k : Fin 4) (high : Bool) (t : Nat) (s : State) : Host.Outcome State Fault Refusal :=
  let on := bitAt (s.fld GDC.STAT.ON) k.val
  if s.cellLive && s.flag GDC.CFG.FB_EN && on != high && decide (gateEdgeAt s k.val + 80 * max 1 (s.fld GDC.CFG.FB_TMO) ≤ t) then
    let s1 := { (s.setFld GDC.STAT.FB (putBit (s.fld GDC.STAT.FB) k.val high)) with cell := { s.cell with now := t } }
    let s2 := s1.raise GDC.EVT.BYPASS_FAIL
    if on && k.val % 2 == 0 then .next (force t (faultOn 0x86 s2))
    else .next (force t (permStart 2 t (faultOn (if on then 0x85 else 0x8C) s2)))
  else .next s

/-- Switches the cell has. -/
def switchMask (s : State) : Nat := if fullBridge s then 15 else 3

/-- Detector `k` is armed at `t`: its switch is on, not in soft turn-off, and its blanking time has passed (R333). -/
def dsatArmed (s : State) (k t : Nat) : Bool :=
  s.cellLive && bitAt (s.fld GDC.STAT.ON) k && bitAt (s.fld GDC.DSAT_CFG.EN &&& switchMask s) k && !bitAt s.cell.soft k
    && decide (tabGet zeroNat s.cell.onAt k + 400 * max 1 (s.fld GDC.DSAT_CFG.BLANK) ≤ t)

/-- Desaturation of switch `k`, detected at `t` (R333). -/
def desaturate (k t : Nat) (s : State) : State :=
  let s1 := (({ s with cell := { s.cell with now := t } }).count GDC.CNT.DESAT 1).raise GDC.EVT.DESAT
  if k % 2 = 0 then force t (faultOn (if k = 0 then 0x81 else 0x82) (softOff t k s1))
  else force t (permStart 2 t (faultOn (if k = 1 then 0x83 else 0x84) ((upto 4).foldl (fun s j => softOff t j s) s1)))

/-- One sample of DSAT[k] at `t`: above its threshold or not. The detector's output is asserted by the fourth sample above it while armed. -/
def dsatSample (k t : Nat) (above : Bool) (s : State) : State :=
  let n := if above && dsatArmed s k t then tabGet zeroNat s.cell.dsatRun k + 1 else 0
  let s1 := { s.setFld GDC.STAT.DSAT (putBit (s.fld GDC.STAT.DSAT) k (decide (4 ≤ n))) with
    cell := { s.cell with dsatRun := tabSet zeroNat s.cell.dsatRun k n } }
  if n = 4 then desaturate k t s1 else s1

/-- Samples 2 ns apart from `t` on. -/
def dsatSamples (k : Nat) : List Bool → Nat → State → State
  | [], _, s => s
  | above :: rest, t, s => dsatSamples k rest (t + 16) (dsatSample k t above s)

/-- R333: DSAT[k] is sampled every 2 ns, from `t` on. -/
def execDesatDetect (k : Fin 4) (above : List Bool) (s : State) (t : Nat := 0) : Host.Outcome State Fault Refusal :=
  if s.cellLive then .next (dsatSamples k.val above t s) else .next s

/-- R325: cell time has reached `t`; STO_T after GD_STO[k] rose, GD_ON[k] and GD_STO[k] fall together. -/
def execSoftTurnoffEnd (k : Fin 4) (t : Nat) (s : State) : Host.Outcome State Fault Refusal :=
  let k := k.val
  let fall := tabGet zeroNat s.cell.offAt k - 1
  if bitAt s.cell.soft k && decide (fall ≤ t) then
    let s1 := (s.setFld GDC.STAT.STO (putBit (s.fld GDC.STAT.STO) k false)).setFld GDC.STAT.DSAT (putBit (s.fld GDC.STAT.DSAT) k false)
    .next (gateFall fall k { s1 with cell := { s1.cell with now := t, soft := putBit s1.cell.soft k false, dsatRun := tabSet zeroNat s1.cell.dsatRun k 0 } })
  else .next s

/-- R333: BYP_FB is still low at `t`, BYP_TMO ms or more after BYP_CMD rose. -/
def execBypTimeout (t : Nat) (s : State) : Host.Outcome State Fault Refusal :=
  if s.cellLive && s.flag GDC.STAT.BYP_CMD && !s.flag GDC.STAT.BYP_FB
      && decide (s.cell.bypAt + 8000000 * max 1 (s.fld GDC.BYP_CFG.BYP_TMO) ≤ t) then
    .next ((faultOn 0x87 { s with cell := { s.cell with now := t } }).raise GDC.EVT.BYPASS_FAIL)
  else .next s

/-- R335: BYP_FB reads high from `t` on. -/
def execBypFbHigh (t : Nat) (s : State) : Host.Outcome State Fault Refusal :=
  if s.isCell then
    let s1 := { (s.setFlag GDC.STAT.BYP_FB true) with cell := { s.cell with now := t } }
    if s.cellLive = true ∧ s.cell.perm ≠ 0 then .next (force t (if s.cell.perm = 1 then s1.because 0x8B else s1)) else .next s1
  else .next s

/-! ## Comparators and routed events -/

/-- The latch of comparator `c` as the cell's own actions see it: a self-test of it is suppressed (R336). -/
def actingLatch (s : State) (c : Nat) : Bool := s.flag (CMP.CSTAT.LATCH.at (cmpOff c)) && s.cell.stItem != some c

/-- The latch of comparator 0 acts: capacitor overvoltage (R333). -/
def overvoltage (te : Nat) (s : State) : State := force te (faultOn 0x88 s)

/-- The bootstrap condition (R338). -/
def bootNote (s : State) : State := ((s.count CEL.BOOT_CNT.UV 1).raise GDC.EVT.BOOT_UV).setFlag CEL.STAT.BOOT_UV true

/-- Latches that stand when the image has been applied: the fault and the bootstrap condition are in force, while the cell stays in block
until its first command edge (R287, R322, R333, R338; log 157). -/
def latchesStand (s : State) : State :=
  let s1 := if actingLatch s 0 then faultOn 0x88 s else s
  if actingLatch s 4 then bootNote s1 else s1

/-- The latch of comparator 4 sets: bootstrap undervoltage (R338); rows 1 to 4 of R329 come first. -/
def bootUv (te : Nat) (s : State) : State :=
  let s1 := bootNote s
  match forcedState s1 with
  | some _ => force te s1
  | none => (takeState te 1 s1).setFlag GDC.STAT.OVR_ACT false

/-- The cell's own actions on latches that stand set now and did not act before. -/
def latchActions (te : Nat) (s0 s : State) : State :=
  if s.cellLive then
    let s1 := if actingLatch s 0 && !actingLatch s0 0 then overvoltage te s else s
    if actingLatch s1 4 && !actingLatch s0 4 then bootUv te s1 else s1
  else s

/-- The voltages stand on the local input that comparator `c` watches: SRC, or the one named none (R284). -/
def cmpWatches (s : State) (c : Nat) (pin : Option (Fin 8)) : Bool :=
  match pin with
  | none => true
  | some p => s.fld (CMP.CCFG.SRC.at (cmpOff c)) == p.val

/-- R284, R285, R333, R338: samples of comparator `c` every 4 ns, with these voltages on local input `pin` of its core, the last at cell
time `t`; a comparator takes those of its SRC alone. -/
def execComparatorCrossing (c : Fin 32) (vs : List Int) (t : Nat) (s : State) (pin : Option (Fin 8) := none) : Host.Outcome State Fault Refusal :=
  if !s.clodsUp || !cmpWatches s c.val pin then .next s
  else if s.isCell then
    if c.val < 8 then
      let s1 := vs.foldl (cmpSample c.val) s
      .next (latchActions t s { s1 with cell := { s1.cell with now := t } })
    else .next s
  else .next (vs.foldl (cmpSample c.val) s)

/-- R295, R329: source `k` fires if it is asserted and its latch is clear, `dt` ns after the last boundary, in a cell after its last window
end; in a cell, "block this cell" acts at once. -/
def execEventFire (k : Fin 128) (s : State) (dt : Nat := 0) : Host.Outcome State Fault Refusal :=
  let s1 := if s.clodsUp then fireSource k.val (s.period.timeNs + dt) s.fresh else s.fresh
  if s.cellLive && !sourceFired s k.val && sourceFired s1 k.val && bitAt (mapWord s k.val) 1 then
    let t := 8 * (s.baseNs + dt)
    .next (force t ({ s1 with cell := { s1.cell with now := t } }.because 0x93))
  else .next s1

/-! ## Self-test (R336) -/

/-- The next item starts, or the test is done. -/
def stNext (s : State) : State :=
  match s.cell.stLeft with
  | [] => ({ s with cell := { s.cell with stItem := none } }.setFld GDC.ST_RES.STATE 2).setFlag GDC.STAT.ST_BUSY false
  | i :: rest =>
    let s1 := { s with cell := { s.cell with stItem := some i, stLeft := rest } }
    if i < 8 then cmpTest i (s1.setFlag (CMP.CCFG.TEST.at (cmpOff i)) true) else s1

/-- The items of a test, in order. -/
def stItems (cmps dsats : Nat) : List Nat := (upto 8).filter (bitAt cmps) ++ ((upto 4).filter (bitAt dsats)).map (· + 8)

/-- A request for a self-test with masks `cmps` and `dsats`. -/
def stStart (cmps dsats : Nat) (s : State) : WriteResult :=
  let st := s.fld GDC.STAT.STATE
  if 2 ≤ st ∨ s.flag GDC.OVR.EN = true ∨ s.fld GDC.STAT.ON &&& dsats ≠ 0 ∨ s.fld GDC.ST_RES.STATE = 1 then .error causeOther
  else
    let s1 := ((s.wr GDC.ST_RES.addr 0).setFld GDC.ST_RES.STATE 1).setFlag GDC.STAT.ST_BUSY true
    .ok (stNext { s1 with cell := { s1.cell with stLeft := stItems cmps dsats } })

/-- The test source of the running item is removed: a comparator's pin gives the samples `vs` from then on, and its latch is cleared. -/
def stRemove (vs : List Int) (s : State) : State :=
  match s.cell.stItem with
  | some i => if i < 8 then cmpClear i (vs.foldl (cmpSample i) (s.setFlag (CMP.CCFG.TEST.at (cmpOff i)) false)) else s
  | none => s

/-- A detector whose samples are these asserts: four in a row stand above the threshold. -/
def dsatAsserts : Nat → List Bool → Bool
  | _, [] => false
  | n, b :: bs => (b && decide (3 ≤ n)) || dsatAsserts (if b then n + 1 else 0) bs

/-- The running item `i` passes: the comparator's latch has set under the test level, and its filtered output has cleared without it; the
detector has asserted with the test current, and deasserted without it. `s1` is the state after the test source was removed. -/
def stPass (i : Nat) (up dn : List Bool) (s s1 : State) : Bool :=
  if i < 8 then s.flag (CMP.CSTAT.LATCH.at (cmpOff i)) && s.flag (CMP.CCFG.EN.at (cmpOff i)) && !s1.flag (CMP.CSTAT.FILT.at (cmpOff i))
  else dsatAsserts 0 up && !(dn.reverse.take 4).all id

/-- A command word that would turn on a switch, or insert, has been accepted: the test is aborted. -/
def stAbort (s : State) : State :=
  if s.cell.stItem.isSome then
    let s1 := stRemove [] s
    (({ s1 with cell := { s1.cell with stItem := none, stLeft := [] } }.setFld GDC.ST_RES.STATE 3).setFlag GDC.STAT.ST_BUSY false)
  else s

/-- R336: the running item is over: `vs` are the comparator's pin voltages in the 1 µs after TEST was removed, `up` and `dn` the detector's
samples in the 10 µs with ITEST and after it. The next item starts, at `t`. -/
def execSelftestItemDone (vs : List Int) (s : State) (up : List Bool := []) (dn : List Bool := []) (t : Nat := 0) : Host.Outcome State Fault Refusal :=
  match s.cell.stItem with
  | none => .next s
  | some i =>
    let s1 := stRemove vs s
    let ok := stPass i up dn s s1
    let s2 := { s1 with cell := { s1.cell with stPassed := putBit s1.cell.stPassed i ok, now := t } }
    let s3 := if ok then s2 else
      let s4 := if i < 8 then s2.setFld GDC.ST_RES.CMP_FAIL (putBit (s2.fld GDC.ST_RES.CMP_FAIL) i true)
        else s2.setFld GDC.ST_RES.DSAT_FAIL (putBit (s2.fld GDC.ST_RES.DSAT_FAIL) (i - 8) true)
      force t (faultOn (0xA0 + i) (s4.raise GDC.EVT.SELFTEST))
    .next (latchActions t s (stNext s3))

/-! ## Registers (R334, R350, R351) -/

/-- The cause of a latching fault has gone (R334). -/
def causeGone (s : State) (c : Nat) : Bool :=
  if c = 0x81 then !bitAt (s.fld GDC.STAT.DSAT) 0
  else if c = 0x82 then !bitAt (s.fld GDC.STAT.DSAT) 2
  else if c = 0x86 then s.fld GDC.STAT.ON &&& 0b0101 &&& (15 - s.fld GDC.STAT.FB) == 0
  else bitAt s.cell.stPassed (c - 0xA0)

/-- A write of FLT_CLR.CLR (R334). -/
def fltClear (s : State) : WriteResult :=
  if 2 ≤ s.fld GDC.STAT.STATE ∨ (s.cell.faults.filter latchingFault).any (fun c => !causeGone s c) then .error causeOther
  else .ok (faultsOff latchingFault s)

/-- A write to the GDC block at cell time `t`. -/
def wrGDC (a w t : Nat) (s : State) : WriteResult :=
  let inserted := decide (2 ≤ s.fld GDC.STAT.STATE)
  if a = GDC.CFG.addr ∨ a = GDC.DSAT_CFG.addr ∨ a = GDC.BYP_CFG.addr then (if inserted then .error causeOther else .ok (s.store a w))
  else if a = GDC.OVR.addr then
    if inserted || (bitAt w 31 && !s.cell.hdrBlk) then .error causeOther
    else .ok (if bitAt w 31 then ovrWritten t (s.store a w) else (s.store a w).setFlag GDC.STAT.OVR_ACT false)
  else if a = GDC.FLT_CLR.addr then (if bitAt w 0 then fltClear s else .ok s)
  else if a = GDC.SELFTEST.addr then
    if bitAt w 31 then
      match stStart (bitsAt w 0 8) (bitsAt w 8 4) s with
      | .ok s1 => .ok (s1.store a w)
      | .error c => .error c
    else .ok (s.store a w)
  else .ok (s.store a w)

end Sys2Proof.Machine
end

