-- ==== Sys2Proof/Machine/CellLink.lean ====
section
/-!
DEFINITION. The link side of the cell role (chapters 03 and 04): receiver states, frames received, admission, bursts sent, and the
management messages that need no register access. Times are in 125 ps of the recovered clock.
-/
namespace Sys2Proof.Machine

/-! ## Receiver (R85, R86) -/

/-- OFF to ACQUIRE: CTLE 8, VGA 24, DFE 0, PH 32. -/
def rxPower (s : State) : State := rxGo rxAcquire ((s.wr LNK.RX_EQ0.addr 0).wr LNK.RX_EQ1.addr 0x81880000)

/-- The receiver leaves TRACK: PLL0 on the recovered clock holds its frequency (R478). -/
def clkHold (s : State) : State := if s.flag CLK.STAT.CELL_SRC then s.setFlag CLK.STAT.HOLDOVER true else s

/-- The receiver is in TRACK: PLL0 takes the recovered clock where CELL_REC selects it (R478). -/
def clkTrack (s : State) : State :=
  if s.isCell && s.flag CLK.REF_CFG.CELL_REC then (s.setFlag CLK.STAT.CELL_SRC true).setFlag CLK.STAT.HOLDOVER false else s

/-- SD: the receiver's own amplitude detector, or the LSD pin where SD_PIN_EN admits it (R85). -/
def sdLevel (amp lsd : Bool) (s : State) : Bool := amp || (s.flag LNK.CTRL.SD_PIN_EN && lsd)

/-- R85: signal detect in ACQUIRE; the CDR locks and the sweep starts. -/
def execRxSignalDetect (s : State) (amp : Bool := true) (lsd : Bool := true) : Host.Outcome State Fault Refusal :=
  if s.isCell && s.clodsUp then
    let s1 := s.setFlag LNK.STAT.SD (sdLevel amp lsd s)
    .next (if sdLevel amp lsd s = true ∧ rxState s = rxAcquire then s1.setFlag LNK.STAT.CDR_LOCK true else s1)
  else .next s

/-- BLOCK_SEARCH: headers are counted afresh. -/
def searchStart (s : State) : State := (rxGo rxSearch s).onRx (fun x => { x with good := 0, bad := 0, words := [], taken := true })

/-- R85: the adaptation ends with these codes, in EQ_PRESET layout. -/
def execRxAdaptDone (eq0 eq1 : W32) (s : State) : Host.Outcome State Fault Refusal :=
  if s.isCell = true ∧ rxState s = rxAcquire ∧ s.flag LNK.STAT.CDR_LOCK = true then
    .next (searchStart ((s.wr LNK.RX_EQ0.addr eq0.toNat).wr LNK.RX_EQ1.addr eq1.toNat))
  else .next s

/-- R85: `blks` arrive by `t`, and 64 consecutive blocks have had valid sync headers: TRACK. -/
def execBlockLock (s : State) (t : Nat := 0) (blks : List (BitVec 66) := []) : Host.Outcome State Fault Refusal :=
  if s.isCell = true ∧ rxState s = rxSearch then
    let s0 := rxBlocks blks s.fresh
    if s0.cell.rx.good = 64 then
      let s1 := (clkTrack (rxGo rxTrack (s0.setFlag LNK.STAT.BLOCK_LOCK true))).onRx (fun x => { x with bad := 0 })
      .next { s1 with cell := { s1.cell with lastStart := none, hdrSeen := false, trackAt := t } }
    else .next s0
  else .next s

/-- R85: no lock 200 µs after BLOCK_SEARCH was entered. -/
def execBlockSearchTimeout (s : State) : Host.Outcome State Fault Refusal :=
  if s.isCell = true ∧ rxState s = rxSearch then
    .next (rxGo rxAcquire ((s.count LNK.BLOCK_ERR_CNT.COUNT 1).setFlag LNK.STAT.CDR_LOCK false))
  else .next s

/-- R85: `blks` arrive, and 16 of the last 64 blocks had invalid sync headers. -/
def execLockLost (blks : List (BitVec 66)) (s : State) : Host.Outcome State Fault Refusal :=
  if s.isCell = true ∧ rxState s = rxTrack then
    let s0 := rxBlocks blks s.fresh
    if 16 ≤ popcount 64 s0.cell.rx.bad then
      .next (searchStart (((clkHold s0).setFlag LNK.STAT.BLOCK_LOCK false).raise LNK.EVT.LOCK_LOST))
    else .next s0
  else .next s

/-- LTX_EN goes to a level at the cell's present instant (R89, R108). -/
def ltxSet (level : Bool) (s : State) : State :=
  if s.cell.ltxEn = level then s
  else { s with cell := { s.cell with ltxEn := level } }.emit (.ltxEn (165 * s.cell.now) level)

/-- A loopback ends; LTX_EN falls (R108). -/
def loopEnd (s : State) : State := ltxSet false ((s.setFld LNK.CTRL.LOOPBACK 0).setFlag LNK.STAT.LB_ACTIVE false)

/-- R85, R108: SD has been low for 100 ns. -/
def execLos (s : State) (amp : Bool := false) (lsd : Bool := false) : Host.Outcome State Fault Refusal :=
  if s.isCell = false ∨ sdLevel amp lsd s = true then .next s
  else
    let s1 := s.fresh.setFlag LNK.STAT.SD false
    if rxState s = rxTrack ∨ rxState s = rxSearch then
      let s2 := (rxGo rxHold ((clkHold s1).setFlag LNK.STAT.BLOCK_LOCK false)).raise LNK.EVT.LOS
      let s3 := { s2 with cell := { s2.cell with frozen := some (s.rd LNK.RX_EQ0.addr, s.rd LNK.RX_EQ1.addr) } }
      .next (if s3.fld LNK.CTRL.LOOPBACK = 4 then loopEnd s3 else s3)
    else .next (if rxState s = rxAcquire then s1.setFlag LNK.STAT.CDR_LOCK false else s1)

/-- R85: SD returns within 1 ms of LOS; the frozen codes resume. -/
def execHoldResume (s : State) (amp : Bool := true) (lsd : Bool := true) : Host.Outcome State Fault Refusal :=
  if s.isCell = true ∧ rxState s = rxHold ∧ sdLevel amp lsd s = true then
    let eq := s.cell.frozen.getD (s.rd LNK.RX_EQ0.addr, s.rd LNK.RX_EQ1.addr)
    let s1 := ((s.wr LNK.RX_EQ0.addr eq.1).wr LNK.RX_EQ1.addr eq.2).setFlag LNK.STAT.SD true
    .next (searchStart { s1 with cell := { s1.cell with frozen := none } })
  else .next s

/-- R85: 1 ms of LOS; the frozen codes are discarded. -/
def execHoldTimeout (s : State) : Host.Outcome State Fault Refusal :=
  if s.isCell = true ∧ rxState s = rxHold then
    .next { (rxGo rxAcquire (s.setFlag LNK.STAT.CDR_LOCK false)) with cell := { s.cell with frozen := none } }
  else .next s

/-- R108: 1 s without a renewal ends the far-end loopback. -/
def execFeLoopbackTimeout (s : State) : Host.Outcome State Fault Refusal :=
  .next (if s.isCell = true ∧ s.fld LNK.CTRL.LOOPBACK = 4 then (loopEnd s.fresh).raise LNK.EVT.FE_TIMEOUT else s)

/-! ## Admission (R131, R132) -/

/-- The cell's factory unique ID. -/
def cellUid : Nat := Config.die 1 % 2 ^ 64

def admGo (st : Nat) (s : State) : State := s.setFld LNK.C_ADM.STATE st

/-- Draw r uniformly from 0 to 2^b − 1 (R131): a free value. -/
def redraw (s : State) : State :=
  { s with cell := { s.cell with draw := s.draw 130 % 2 ^ s.fld LNK.C_CNT.BACKOFF_EXP } }.drawn

/-- b ← min(b + 1, 8), draw, WAIT. -/
def backOff (s : State) : State :=
  admGo admWait (redraw (s.setFld LNK.C_CNT.BACKOFF_EXP (min 8 (s.fld LNK.C_CNT.BACKOFF_EXP + 1))))

/-- The cell stops reporting: its index, slot and level are no longer its own. -/
def stopReporting (s : State) : State :=
  { (((s.setFld LNK.C_ADM.CELL_IDX 0xFFF).setFld LNK.C_ADM.SLOT 0).setFld LNK.C_ADM.LEVEL 0) with
    cell := { s.cell with loader := false, foreign := 0, annCyc := none, replies := [], testBurst := false, wordErr := false
                          wordErrDue := false, joinStart := none, joined := 0, joinSeen := none } }

/-- b ← 2 and LISTEN. -/
def toListen (s : State) : State := admGo admListen ((stopReporting s).setFld LNK.C_CNT.BACKOFF_EXP 2)

/-- CAD of a stage (R344). -/
def stageCad (stage : Nat) : Nat := match stage with | 0 => 0 | 1 => 1 | 2 => 1 | _ => 2

/-- A change of cadence that a report has announced acts in a cycle with n mod 64 = 0 (R126). -/
def cadTurn (cyc : Nat) (s : State) : State :=
  if cyc % 64 = 0 ∧ s.cell.cadSent = true then s.setFld LNK.C_ADM.CAD (stageCad (s.fld CEL.STAT.STAGE)) else s

/-- Start of cycle `num` (modulo 256, within 128 of the announced one) on a grid, 1/128 UI (R125). -/
def cycleStart (g : Nat × Nat) (num : Nat) : Int := g.2 + 2640000 * signedOf 8 (num + 256 - g.1 % 256)

/-- Cycle, modulo 256, that runs at `t` (1/128 UI) on the cell's grid. -/
def cycleAt (g : Nat × Nat) (t : Nat) : Nat := (((g.1 : Int) + ((t : Int) - g.2) / 2640000) % 256).toNat

/-- A valid header whose frame starts at `start` re-aligns the grid: the announced cycle starts CYC_OFFS after it (R124, R125). -/
def realign (start num offs : Nat) (s : State) : State :=
  { s with cell := { s.cell with grid := some (num, 165 * start + 128 * offs), gridPrev := s.cell.grid, alignAt := start } }

/-- A header announces a cycle: what the cell keeps of it, and what an unadmitted or joining cell does (R131, R132). Each announced cycle is
judged once, whichever of its frames is the first to reach the cell in that state. -/
def announceToCell (num grants : Nat) (quiet range : Bool) (s : State) : State :=
  let c := s.cell
  let fresh := match c.cycles.head? with | some x => x.num != num | none => true
  let ann : CycAnn := { num := num, quiet := quiet, grants := grants }
  let s2 := { s with cell := { c with
    cycles := if fresh then (ann :: c.cycles).take 8 else ann :: c.cycles.drop 1
    rangeCyc := if fresh then none else c.rangeCyc, joinSeen := if fresh then none else c.joinSeen } }
  let st := cellAdm s
  if st = admListen then admGo admWait (redraw s2)
  else if st = admWait then
    if range && s2.cell.rangeCyc.isNone then
      let s3 := { s2 with cell := { s2.cell with rangeCyc := some num } }
      if c.draw = 0 then admGo admAnnounced { s3 with cell := { s3.cell with annCyc := some num } }
      else { s3 with cell := { s3.cell with draw := c.draw - 1 } }
    else s2
  else if st = admJoining then
    if !quiet && s2.cell.joinSeen.isNone then
      { s2 with cell := { s2.cell with joinStart := some (c.joinStart.getD num), joinSeen := some num, joined := c.joined + 1 } }
    else s2
  else s2

/-- R131: 64 periods without an answer. -/
def execAnnounceTimeout (s : State) : Host.Outcome State Fault Refusal :=
  .next (if s.isCell = true ∧ cellAdm s = admAnnounced then backOff { s with cell := { s.cell with annCyc := none } } else s)

/-- R131: JOIN_CYC + 5 non-quiet cycles have passed since s. -/
def execJoiningTimeout (s : State) : Host.Outcome State Fault Refusal :=
  .next (if s.isCell = true ∧ cellAdm s = admJoining ∧ s.cell.joinCyc + 5 ≤ s.cell.joined then backOff (stopReporting s) else s)

/-- R131: the 1 s timer of a refused cell ends. -/
def execRefusedTimerEnd (s : State) : Host.Outcome State Fault Refusal :=
  .next (if s.isCell = true ∧ cellAdm s = admRefused then toListen s else s)

/-- R131: the receiver has been out of TRACK for more than 1 ms. -/
def execTrackLost1ms (s : State) : Host.Outcome State Fault Refusal :=
  .next (if s.isCell = true ∧ rxState s ≠ rxTrack then admGo admListen (stopReporting s) else s)

/-! ## Frames (R116, R118, R119) -/

/-- R116: the own word `w` is accepted under a header whose PCNT is `pcnt` and whose TC is `tc`. -/
def wordAccepted (s : State) (pcnt tc w : Nat) : Bool :=
  let st := bitsAt w 0 4
  bitsAt w 56 8 == wordCrc w && bitsAt w 32 12 == s.fld LNK.C_ADM.CELL_IDX && bitsAt w 16 8 == pcnt % 256
    && decide (st ≤ 5) && !(st == 4 && !fullBridge s) && decide (bitsAt w 4 12 * (if tc = 3 then 2 else 1) < tcNs tc)

/-- PERM_BYPASS with CONFIRM stood in the frame received before this one (R331). -/
def permAwaits (s : State) : Bool :=
  match s.cell.frames.getLast? with
  | some f => f.word && f.code == 5 && f.confirm
  | none => s.cell.permArmed

/-- The accepted word of `f` would turn on a switch, or insert (R336). -/
def wordActs (s : State) (f : CellFrame) : Bool :=
  f.code == 3 || f.code == 4
    || ((f.code == 2 || (f.code == 5 && f.confirm && permAwaits s)) && stagePattern s (statePattern (fullBridge s) 1) &&& (15 - s.cell.want % 16) != 0)

/-- The frame counts as received (R118): m is zero, an override ends with CONV_BLK (R350), and the frame waits for its apply instant, at
which it may end a stop latch (R120, R361). -/
def frameCounted (f : CellFrame) (blk : Bool) (s : State) : State :=
  let c := s.cell
  let s1 := s.setFld CEL.STAT.MISS 0
  let f := { f with clearStop := !blk && c.lastBlk }
  let s3 := if blk then s1 else (s1.setFlag GDC.OVR.EN false).setFlag GDC.STAT.OVR_ACT false
  let s4 := { s3 with cell := { s3.cell with lastBlk := blk, gridStart := f.start, frames := (c.frames ++ [f]).take 4 } }
  if f.word && wordActs s f then stAbort s4 else s4

/-- Consecutive valid frames whose own word carries another index, after one more (R131); a word with an invalid CRC-8 changes nothing. -/
def foreignRun (s : State) (w : Nat) : Nat :=
  if bitsAt w 56 8 ≠ wordCrc w then s.cell.foreign
  else if cellAdm s = admAdmitted ∧ bitsAt w 32 12 ≠ s.fld LNK.C_ADM.CELL_IDX then s.cell.foreign + 1
  else 0

/-- The own word of a frame whose header is valid: admission (R131), the foreign-index count, WORD_ERR (R116), and the received frame.
`drop` says that a control block has discarded its words. -/
def ownWord (start pcnt tc w : Nat) (hold blk onTime drop : Bool) (s : State) : State :=
  let st := cellAdm s
  if st ≠ admJoining ∧ st ≠ admAdmitted then s
  else
    let ok := wordAccepted s pcnt tc w
    let foreign := foreignRun s w
    let s1 := { s with cell := { s.cell with foreign := foreign, wordErr := !ok, wordErrDue := s.cell.wordErrDue || !ok } }
    let s2 := if ok then s1 else s1.count LNK.C_ERR.WORD_ERR 1
    let s3 := if st = admJoining ∧ ok = true ∧ hold = false then admGo admAdmitted s2 else s2
    if cellAdm s3 ≠ admAdmitted then s3
    else if 8 ≤ foreign then toListen s3
    else if onTime && (ok || hold) then
      let f : CellFrame := if hold || drop then { start := start, word := false }
        else { start := start, code := bitsAt w 0 4, toffs := bitsAt w 4 12, recharge := bitAt w 24, confirm := bitAt w 25, seq := bitsAt w 16 8 }
      frameCounted f blk s3
    else s3

/-- The management words of a frame whose CRC-32 is valid (R114, R119). -/
def frameMgmt (ws : List Nat) : Option (List (BitVec 64)) :=
  if ws.getD 50 0 % 2 ^ 32 = crc32 ((ws.take 50).flatMap (leBytes 8)) then some (((ws.drop 34).take 16).map (BitVec.ofNat 64)) else none

/-- R118: a frame of 51 words has been received whole, its first bit at `start`. -/
def frameArrives (start : Nat) (ws : List Nat) (s0 : State) : State :=
  let h0 := ws.getD 0 0
  let h1 := ws.getD 1 0
  let prev := s0.cell.lastStart
  let seen := s0.cell.hdrSeen
  let drop := s0.cell.rx.drop
  let noMgmt := s0.cell.rx.noMgmt
  let s1 := s0.onRx (fun x => { x with taken := true })
  let s2 := { s1 with cell := { s1.cell with lastStart := some start, now := start, mgmt := none } }
  if hdrCrc h0 h1 ≠ bitsAt h1 48 16 then s2.count LNK.C_ERR.HDR_ERR 1
  else
    let onTime := match prev with | none => true | some p => !seen || decide (start ≤ p + 8 * tcNs s2.cell.tc + 160)
    let tc := bitsAt h0 58 2
    let s3 := { s2 with cell := { s2.cell with
      tc := tc, hdrSeen := true, hdrBlk := bitAt h0 61, mgmt := if noMgmt then none else frameMgmt ws } }
    let s4 := match s3.cell.grid with | some g => cadTurn (cycleAt g (165 * start)) s3 | none => s3
    let s5 := announceToCell (bitsAt h1 16 8) (bitsAt h1 24 24) (bitAt h0 62) (bitAt h0 63) (realign start (bitsAt h1 16 8) (bitsAt h1 0 16) s4)
    ownWord start (bitsAt h0 8 48) tc (ws.getD (2 + s5.fld LNK.C_ADM.SLOT) 0) (bitAt h0 60) (bitAt h0 61) onTime drop s5

/-- R85 to R87, R110, R118: `blks` arrive, and with them the end of a frame whose first bit reached the cell pins at `start`; `lms` is how the
codes have stepped since the last one. A frame that started before TRACK was entered is not received. -/
def execCellFrameReceived (start : Nat) (blks : List (BitVec 66)) (lms : List Int) (s : State) : Host.Outcome State Fault Refusal :=
  if s.isCell = false ∨ s.clodsUp = false then .next s
  else
    let s0 := rxBlocks blks s.fresh
    if rxState s ≠ rxTrack then .next s0
    else
      let s1 := rxAdapt start lms s0
      match frameReady s1 with
      | none => .next s1
      | some ws => .next (if start < s1.cell.trackAt then s1.onRx (fun x => { x with taken := true }) else frameArrives start ws s1)

/-! ## Bursts (R124, R126 to R130, R133, R143) -/

/-- State and polarity that a report shows (R347). -/
def reportState (s : State) : Nat × Bool :=
  let st := s.fld GDC.STAT.STATE
  if s.flag GDC.STAT.BYP_FB then (5, false)
  else if s.fld CEL.STAT.STAGE = 3 then (4, 2 ≤ st && s.cell.neg)
  else if 2 ≤ st then (3, s.cell.neg)
  else (if st = 1 then 2 else 1, false)

/-- Tenths of a volt of a supply on local input `i` (R339). -/
def supplyCode (s : State) (i : Nat) : Nat := (clampI 0 255 (roundHA (100 * s.sfld (ACQ.IN_CAL.C.at (inputOff i))) (2 ^ 24))).toNat

/-- VC of the report (R339). -/
def cellVc (s : State) : Int := clampI 0 0x0FFFFFFF (s.sfld CEL.VC.C)

/-- The 128-bit report field (R129). -/
def reportField (s : State) : Nat :=
  let r := reportState s
  (cellVc s).toNat + r.1 * 2 ^ 28 + r.2.toNat * 2 ^ 31 + s.fld CEL.TEMP.TJ * 2 ^ 32 + s.fld CEL.TEMP.TNTC * 2 ^ 44
    + s.fld CEL.STAT.REASON * 2 ^ 56 + (s.flag CEL.STAT.REFRESH_DUE).toNat * 2 ^ 64 + (s.flag CEL.STAT.LOW_ENERGY).toNat * 2 ^ 65
    + (s.flag CEL.STAT.STOP_LATCHED).toNat * 2 ^ 66 + (!s.cell.faults.isEmpty).toNat * 2 ^ 67 + (s.cell.wordErr || s.cell.wordErrDue).toNat * 2 ^ 68
    + (!s.cell.replies.isEmpty).toNat * 2 ^ 69 + stageCad (s.fld CEL.STAT.STAGE) * 2 ^ 70 + supplyCode s 4 * 2 ^ 80 + supplyCode s 5 * 2 ^ 88
    + (if s.fld LNK.C_ADM.LEVEL = 2 ∧ s.cell.loader = false then s.fld CEL.WEAR.WEAR * 2 ^ 96 else 0)

/-- Highest frame level the cell offers (R133). -/
def offerLevel (s : State) : Nat := if s.flag IMG.STAT.VALID && !s.sys.lvl1 then s.img.maxLevel else 1

/-- The announcement's report field (R133). -/
def announceField (s : State) : Nat :=
  let v := s.flag IMG.STAT.VALID
  cellUid + offerLevel s * 2 ^ 64 + s.img.cellType % 4 * 2 ^ 66 + (if v then s.beh * 2 ^ 68
    + s.fld IMG.INFO_LVL.COMPAT_MIN * 2 ^ 76 + s.fld IMG.INFO_LVL.COMPAT_MAX * 2 ^ 84 else 0)
    + s.fld IMG.CAP.BEH_MIN * 2 ^ 92 + s.fld IMG.CAP.BEH_MAX * 2 ^ 100 + s.fld LNK.C_CNT.BACKOFF_EXP * 2 ^ 108

/-- The 192-bit payload of a burst (R128). -/
def burstPayload (btype slot idx seq level field : Nat) : Nat :=
  let p := btype + slot * 2 ^ 4 + idx * 2 ^ 9 + seq * 2 ^ 21 + level * 2 ^ 29 + field * 2 ^ 32
  p + crc32 (leBytes 20 p) * 2 ^ 160

/-- The headers and payloads of the three data blocks that carry a payload (R128). -/
def payloadBlocks (p : Nat) : List (Nat × Nat) := (upto 3).map (fun k => (hdrData, bitsAt p (64 * k) 64))

/-- Three test blocks (R104) with the next 168 pattern bits, injected errors among them (R106). -/
def testBlocks (s : State) : List (Nat × Nat) × State :=
  let x := s.lane 0
  let g := genBits true 4 (injGap s 0) 168 x.wire
  ((upto 3).map (fun k => (hdrCtl, typeTest + 256 * bitsAt g.1 (56 * k) 56)), s.setLane 0 { x with wire := g.2 })

/-- A burst with the cell's own slot and index. -/
def ownBurst (btype field : Nat) (s : State) : List (Nat × Nat) :=
  payloadBlocks (burstPayload btype (s.fld LNK.C_ADM.SLOT) (s.fld LNK.C_ADM.CELL_IDX) s.cell.seqEcho (s.fld LNK.C_ADM.LEVEL) field)

/-- The announcement burst: CELL_IDX 0xFFF and slot 0; its format is that of neither frame level, and LEVEL is sent as 0 (R128, R133, log 129). -/
def announceBurst (s : State) : List (Nat × Nat) := payloadBlocks (burstPayload 2 0 0xFFF s.cell.seqEcho 0 (announceField s))

/-- A joining cell reports in every cycle from s on, an admitted one in those its cadence gives, none in a quiet cycle (R126, R127, R131). -/
def reportsIn (s : State) (x : CycAnn) : Bool :=
  let from_ := match s.cell.joinStart with | some b => decide ((x.num + 256 - b) % 256 < 128) | none => false
  !x.quiet && ((cellAdm s == admAdmitted && x.num % cadDiv (s.fld LNK.C_ADM.CAD) == 0) || (cellAdm s == admJoining && from_))

/-- The cell holds grant `a` of a cycle (R113). -/
def grantMine (s : State) (x : CycAnn) (a : Nat) : Bool :=
  !x.quiet && (cellAdm s == admAdmitted || cellAdm s == admJoining) && bitsAt x.grants (6 * a) 6 == 32 + s.fld LNK.C_ADM.SLOT

/-- The blocks the cell sends in a slot of a cycle; none when it has no burst there. A test burst needs service mode and the generator
(R104). -/
def burstFor (x : CycAnn) (slot : Nat) (s : State) : Option (List (Nat × Nat) × State) :=
  if slot < 32 then
    if slot = s.fld LNK.C_ADM.SLOT ∧ reportsIn s x = true then
      some (ownBurst 1 (reportField s) s, { s with cell := { s.cell with cadSent := true, wordErrDue := false } })
    else none
  else if slot = 32 ∧ s.cell.annCyc = some x.num then
    some (announceBurst s, { (s.count LNK.C_CNT.ANNOUNCE 1) with cell := { s.cell with annCyc := none } })
  else if grantMine s x (slot - 32) then
    if s.cell.testBurst && prbsMode s 0 == 2 && genOn s 0 then
      let t := testBlocks s
      some (t.1, { t.2 with cell := { t.2.cell with testBurst := false } })
    else
      let r := s.cell.replies.headD (leBytes 16 0x80)
      some (ownBurst 3 (leNat r) s, { s with cell := { s.cell with replies := s.cell.replies.drop 1 } })
  else none

/-- Cycle `cyc` as the last header that announced it had it; one that no header announced stands on the running grid (R125) and is
neither quiet nor granted. -/
def gridCycle (s : State) (cyc : Nat) : Option CycAnn :=
  if s.cell.cycles.isEmpty then none
  else some ((s.cell.cycles.find? (fun x => x.num == cyc)).getD { num := cyc, quiet := false, grants := 0 })

/-- Preamble start of a burst of slot `slot` in cycle `cyc` at the cell pins, 1/128 UI (R124); an unadmitted cell has no advance. A burst that
started less than 200 ns after the last re-alignment keeps its place on the grid as it was (R125). -/
def burstStart (s : State) (cyc slot : Nat) : Option Int :=
  let adv := if cellAdm s = admJoining ∨ cellAdm s = admAdmitted then s.sfld LNK.C_EQ.ADVANCE else 0
  let on := fun (g : Nat × Nat) => cycleStart g cyc + 128 * ((slotPreamble slot : Int) + adv)
  match s.cell.grid with
  | none => none
  | some g =>
    let near := fun (t : Int) => decide (165 * (s.cell.alignAt : Int) ≤ t) && decide (t < 165 * (s.cell.alignAt + 1600 : Nat))
    match s.cell.gridPrev with
    | some h => if near (on h) then some (on h) else some (on g)
    | none => some (on g)

/-- The grid has been re-aligned within the 4 µs before a burst (R125). -/
def gridFresh (s : State) (t : Int) : Bool := decide (t ≤ 165 * (s.cell.alignAt + 32000 : Nat))

/-- The serialiser is asleep: the next burst lies 1 µs or more ahead, and sleep is permitted (R102). -/
def usSleeps (s : State) : Bool := s.cell.usIdle && s.flag LNK.CTRL.US_SLEEP_EN

/-- A burst at the pins: LTX_EN rises 60 UI before the preamble and falls with the last payload bit (R89), and the blocks go out scrambled from
the seed of R82 behind preamble and delimiter (R91). -/
def sendBurst (t : Int) (blks : List (Nat × Nat)) (s : State) : State :=
  ((s.emit (.ltxEn (t - 7680) true)).emit (.burst t burstDelim (scrambleAll burstSeed blks))).emit (.ltxEn (t + 41728) false)

/-- UI of a slot, from its start to the next one's (R123). -/
def slotLength (k : Nat) : Nat := slotStart (k + 1) - slotStart k

/-- R102, R124, R125, R130: the scheduled instant of a burst in `slot` of cycle `cyc`; the next one lies `ahead` ns off. The cell transmits
in TRACK, on a grid re-aligned within 4 µs; in raw mode the bits of the slot's length go out (R103). -/
def execCellBurstTx (cyc : Fin 256) (slot : Fin 36) (ahead : Nat) (s : State) : Host.Outcome State Fault Refusal :=
  if !s.isCell || loopback s 0 == 4 then .next s.fresh
  else
  let s0 := { s.fresh with cell := { s.cell with usIdle := decide (1000 ≤ ahead) } }
  if prbsMode s 0 = 1 then .next (cellRaw (slotLength slot.val) s0)
  else if s.flag LNK.STAT.LB_ACTIVE || rxState s != rxTrack || usSleeps s then .next s0
  else
    match gridCycle s cyc.val, burstStart s cyc.val slot.val with
    | some x, some t =>
      if gridFresh s t then
        match burstFor x slot.val (if slot.val < 32 then cadTurn x.num s0 else s0) with
        | none => .next s0
        | some r => .next (sendBurst t r.1 r.2)
      else .next s0
    | _, _ => .next s0

/-- R102: the next burst lies less than 1 µs ahead: a sleeping upstream serialiser wakes 500 ns before it (log 156). -/
def execCellUsWake (s : State) : Host.Outcome State Fault Refusal := .next { s with cell := { s.cell with usIdle := false } }

/-! ## Management messages (R141 to R144) -/

/-- The message in the management words of a frame. -/
def mgmtDecode (ws : List (BitVec 64)) : MgmtMsg :=
  let m0 := (ws.getD 0 0#64).toNat
  { addr := bitsAt m0 0 2, slot := bitsAt m0 2 5, msg := bitsAt m0 8 8, tag := bitsAt m0 16 8, uid := (ws.getD 1 0#64).toNat
    payload := ((ws.drop 2).flatMap (fun (w : BitVec 64) => leBytes 8 w.toNat)).take (bitsAt m0 24 7) }

/-- ADDR values of a message type (R142). -/
def msgAddrOk (msg addr : Nat) : Bool := if msg = 1 ∨ msg = 2 then addr == 2 else if msg = 0x11 then addr == 1 || addr == 3 else addr == 1

/-- The message is addressed to this cell (R141). -/
def addressed (s : State) (m : MgmtMsg) : Bool :=
  let member := cellAdm s == admJoining || cellAdm s == admAdmitted
  msgAddrOk m.msg m.addr && (match m.addr with
    | 1 => member && m.slot == s.fld LNK.C_ADM.SLOT
    | 2 => m.uid == cellUid
    | 3 => member
    | _ => false)

/-- The message of type `code` that the last frame carries for this cell. -/
def cellMsg (code : Nat) (s : State) : Option MgmtMsg :=
  if s.isCell then
    match s.cell.mgmt with
    | none => none
    | some ws =>
      let m := mgmtDecode ws
      if m.msg = code ∧ addressed s m = true then some m else none
  else none

/-- The frame's message has been dealt with. -/
def msgTaken (s : State) : State := { s with cell := { s.cell with mgmt := none } }

/-- Payload byte of a message. -/
def MgmtMsg.byte (m : MgmtMsg) (j : Nat) : Nat := (m.payload.getD j 0#8).toNat

/-- Little-endian value of `n` payload bytes from `j`. -/
def MgmtMsg.val (m : MgmtMsg) (j n : Nat) : Nat := leNat ((m.payload.drop j).take n ++ List.replicate n 0#8) % 2 ^ (8 * n)

/-- A link message is executed, and its TAG kept; with the TAG kept it is a repeat, unless it is zero (R144). -/
def linkRepeat (m : MgmtMsg) (s : State) : Bool := m.tag != 0 && s.cell.tagLink == some m.tag
def linkDone (m : MgmtMsg) (s : State) : State := { s with cell := { s.cell with tagLink := some m.tag } }

/-- The 16 bytes of a reply (R143). -/
def replyBytes (m : MgmtMsg) (status : Nat) (data : List Byte) : List Byte :=
  [BitVec.ofNat 8 (m.msg ||| 0x80), BitVec.ofNat 8 m.tag, BitVec.ofNat 8 status, 0#8] ++ (data ++ List.replicate 12 0#8).take 12

/-- A reply waits for a grant, where the message is one that is answered. -/
def answer (m : MgmtMsg) (bs : List Byte) (s : State) : State :=
  if m.addr = 1 ∧ m.msg ≠ 0x20 then
    { s with cell := { s.cell with replies := s.cell.replies ++ [bs], replyErr := (bs.getD 2 0#8) != 0#8 } }
  else s

/-- A message of the class of all other messages: executed by `f`, which gives its status, its data and the state after it, unless it
repeats the last one. -/
def otherMsg (code : Nat) (f : MgmtMsg → State → Nat × List Byte × State) (s : State) : State :=
  match cellMsg code s with
  | none => s
  | some m =>
    let s1 := msgTaken s
    if s.cell.tagReg = some m.tag then answer m s.cell.doneReg s1
    else
      let r := f m s1
      let bs := replyBytes m r.1 r.2.1
      answer m bs { r.2.2 with cell := { r.2.2.cell with tagReg := some m.tag, doneReg := bs } }

/-- R131, R142: an announced cell takes its admission. -/
def execRangeAdmit (s : State) : Host.Outcome State Fault Refusal :=
  match cellMsg 0x01 s with
  | none => .next s
  | some m =>
    let s1 := msgTaken s
    if linkRepeat m s then .next s1
    else if cellAdm s = admAnnounced then
      let s2 := ((s1.setFld LNK.C_ADM.CELL_IDX (m.val 0 2)).setFld LNK.C_ADM.SLOT (m.byte 2)).setFld LNK.C_ADM.LEVEL (m.byte 3)
      let s3 := (s2.setFld LNK.C_EQ.DELAY_EQ (m.val 4 2)).setFld LNK.C_EQ.ADVANCE (m.val 6 4)
      let s4 := { s3 with cell := { s3.cell with
        joinCyc := m.byte 12, joinStart := none, joined := 0, joinSeen := none, loader := m.byte 11 == 1, foreign := 0, annCyc := none } }
      .next (linkDone m (admGo admJoining s4))
    else .next s1

/-- R131, R369: REFUSE for this cell's UID: the reason, and a strata event for every refusal. -/
def execRefuse (s : State) : Host.Outcome State Fault Refusal :=
  match cellMsg 0x02 s with
  | none => .next s
  | some m =>
    let s1 := msgTaken s
    let code := m.byte 0
    let retry := code == 0x0B || code == 0x0C
    let st := cellAdm s
    if linkRepeat m s then .next s1
    else if st = admAnnounced ∨ (st = admJoining ∧ retry = true) then
      let s2 := (linkDone m ((s1.setFld LNK.C_ADM.REASON code).count LNK.C_CNT.REFUSALS 1)).event 0x0010 (256 * code + 2 ^ 32 * (cellUid % 2 ^ 32))
      if retry then .next (backOff (stopReporting s2))
      else .next (admGo admRefused { s2 with cell := { s2.cell with annCyc := none } })
    else .next s1

/-- R131: RELEASE of this cell's slot. -/
def execRelease (s : State) : Host.Outcome State Fault Refusal :=
  match cellMsg 0x03 s with
  | none => .next s
  | some m =>
    if linkRepeat m s then .next (answer m (replyBytes m 0 []) (msgTaken s))
    else .next (linkDone m (toListen ((msgTaken s).setFld LNK.C_ADM.REASON (m.byte 0))))

/-- R139: TIMING_ADJ adds to A_c from the next burst. -/
def execTimingAdj (s : State) : Host.Outcome State Fault Refusal :=
  match cellMsg 0x04 s with
  | none => .next s
  | some m =>
    let s1 := msgTaken s
    if linkRepeat m s then .next (answer m (replyBytes m 0 []) s1)
    else
      let a := s1.sfld LNK.C_EQ.ADVANCE + signedOf 32 (m.val 0 4)
      .next (answer m (replyBytes m 0 []) (linkDone m (s1.setFld LNK.C_EQ.ADVANCE (unsignedOf 18 a))))

/-- LINK_TEST with operation `op` (R142); a payload shorter than the operation byte is out of range. -/
def linkTest (op : Nat) (f : MgmtMsg → State → State) (s : State) : State :=
  match cellMsg 0x12 s with
  | none => s
  | some m => if m.payload.length < 1 ∧ op = 0 then otherMsg 0x12 (fun _ s => (3, [], s)) s
    else if m.byte 0 = op ∨ (op = 0 ∧ 4 ≤ m.byte 0) then
      otherMsg 0x12 (fun m s => if 4 ≤ m.byte 0 then (3, [], s) else (0, [], f m s)) s
    else s

/-- R108, R142: operation 0 ends the loopback or the PRBS test. -/
def execLinkTestEnd (s : State) : Host.Outcome State Fault Refusal :=
  .next (linkTest 0 (fun _ s => ((loopEnd s).setFld LNK.PRBS_CTRL.MODE 0).setFlag LNK.STAT.PRBS_LOCK false) s.fresh)

/-- R107, R108: operation 1 starts or renews the far-end loopback, LTX_EN held high. -/
def execLinkTestFarEnd (s : State) : Host.Outcome State Fault Refusal :=
  .next (linkTest 1 (fun _ s => ltxSet true ((s.setFld LNK.CTRL.LOOPBACK 4).setFlag LNK.STAT.LB_ACTIVE true)) s.fresh)

/-- R103: operation 2 puts the cell in raw mode with the pattern of payload byte 1; generator and checker start afresh, not locked (R105). -/
def execLinkTestRawPrbs (s : State) : Host.Outcome State Fault Refusal :=
  .next (linkTest 2 (fun m s => (prbsSeed 0 (((s.setFld LNK.PRBS_CTRL.MODE 1).setFld LNK.PRBS_CTRL.PATTERN (m.byte 1 % 16)).setFlag
    LNK.PRBS_CTRL.GEN_EN true)).setFlag LNK.STAT.PRBS_LOCK false) s)

/-- R104: operation 3: one test burst in the next granted slot. -/
def execLinkTestTestBurst (s : State) : Host.Outcome State Fault Refusal :=
  .next (linkTest 3 (fun _ s => { s with cell := { s.cell with testBurst := true } }) s)

/-- R142: up to three strata words. -/
def execStrataRead (s : State) : Host.Outcome State Fault Refusal :=
  .next (otherMsg 0x30 (fun m s =>
    let a := m.val 0 4
    let n := m.byte 4
    if m.payload.length < 5 ∨ n = 0 ∨ 3 < n then (3, [], s)
    else if 2 ^ 21 < a + 4 * n then (1, [], s)
    else (0, memRead s.strata.mram a (4 * n), s)) s)

/-! ## LNK registers in the cell (R107, R109) -/

/-- A write to lane 0's LNK registers, by management message (`msg`) or by an image record. An admitted cell takes a near-end loopback by
message while blocked, and any cell a far-end one by message only (R107); raw mode comes by message or before admission (R103). -/
def wrLnkCell (msg : Bool) (a w : Nat) (s : State) : WriteResult :=
  let admitted := cellAdm s == admAdmitted
  if a = LNK.CTRL.addr then
    let lb := bitsAt w 7 3
    let near := lb == 1 || lb == 2
    let bad := (near && admitted && (!msg || s.fld GDC.STAT.STATE != 0)) || (lb == 4 && !msg)
    if lb ≠ s.fld LNK.CTRL.LOOPBACK ∧ bad = true then .error causeOther
    else .ok (ltxSet (lb == 4) ((s.store a (w &&& 0xFFFFFFDE)).setFlag LNK.STAT.LB_ACTIVE (near || lb == 4)))
  else if a = LNK.PRBS_CTRL.addr then
    if bitsAt w 4 2 = 1 ∧ prbsMode s 0 ≠ 1 ∧ admitted = true ∧ msg = false then .error causeOther
    else .ok (prbsCtrl 0 a (w &&& 0xFF07FFFF) s)
  else if a = LNK.PRBS_INJ.addr then
    .ok (if bitAt w 0 && s.fld LNK.PRBS_CTRL.INJ_TGT == 0 then injectBit 0 s else s)
  else if a = LNK.ADM_PRESET_LO.addr ∨ a = LNK.ADM_PRESET_HI.addr ∨ a = LNK.EQ_ADAPT.addr then .ok s
  else .ok (s.store a w)

/-- Live reads of lane 0's LNK registers in the cell: fields marked hub read zero, DS_EN reads 1. -/
def rdLnkCell (a : Nat) (s : State) : Nat :=
  if a = LNK.CTRL.addr then putBit (putBit (s.rd a) 5 false) 0 true
  else if a = LNK.PRBS_BITS_LO.addr then (s.lane 0).prbsBits % 2 ^ 32
  else if a = LNK.ADM_PRESET_LO.addr ∨ a = LNK.ADM_PRESET_HI.addr ∨ a = LNK.EQ_ADAPT.addr ∨ a = LNK.BURST_MISS_CNT.addr then 0
  else s.rd a

end Sys2Proof.Machine
end

