-- ==== Sys2Proof/Machine/CellSupervise.lean ====
section
/-!
DEFINITION. Supervision of the cell role (chapter 11): the window end, stages, bootstrap, temperatures, junction rise, wear and its
records, and the CEL registers.
-/
namespace Sys2Proof.Machine

/-! ## Wear (R342, R343) -/

/-- add(a, tmax): one half cycle of height `a` up to `tmax`, in 0.125 °C codes. -/
def wearAdd (a tmax : Int) (s : State) : State :=
  let b := (min 15 (a / 32)).toNat
  let t := (clampI 0 7 ((tmax + 320) / 160)).toNat
  let w := s.rd (CEL.WTAB.addr + 4 * b) % 65536 * (s.rd (CEL.TTAB.addr + 4 * t) % 65536)
  s.setFld CEL.WEAR.WEAR (min 0xFFFFFFFF (s.fld CEL.WEAR.WEAR + (roundHA w 256).toNat))

/-- R342 at a window end with junction temperature `tj`. -/
def wearCount (tj : Int) (s : State) : State :=
  let c := s.cell
  let hys : Int := s.fld CEL.TJ1.TJ_HYS
  if !c.wearOn then { s with cell := { c with wearOn := true, peak := tj, valley := tj, rising := true } }
  else if c.rising then
    if c.peak < tj then { s with cell := { c with peak := tj } }
    else if hys ≤ c.peak - tj then wearAdd (c.peak - c.valley) c.peak { s with cell := { c with valley := tj, rising := false } }
    else s
  else if tj < c.valley then { s with cell := { c with valley := tj } }
  else if hys ≤ tj - c.valley then wearAdd (c.peak - c.valley) c.peak { s with cell := { c with peak := tj, rising := true } }
  else s

/-- A wear record: its sequence count, WEAR, and the CRC-32 of R49 over both (R343; the layout is the model's, log 157). -/
def wearBytes (seq w : Nat) : List Byte := leBytes 4 seq ++ leBytes 4 w ++ leBytes 4 (crc32 (leBytes 4 seq ++ leBytes 4 w))

/-- The sequence count and WEAR of a record whose CRC-32 holds. -/
def wearOf (r : List Byte) : Option (Nat × Nat) :=
  if r.length = 12 ∧ leNat (r.drop 8) = crc32 (r.take 8) then some (leNat (r.take 4), leNat ((r.drop 4).take 4)) else none

/-- One more than the count of a valid wear record; 0 for an invalid one, which is the older. -/
def wearSeq (r : List Byte) : Nat := match wearOf r with | some x => x.1 + 1 | none => 0

/-- The wear records after a commit of `w`: the older one takes the next count. -/
def wearStore (w : Nat) (rs : List (List Byte)) : List (List Byte) :=
  let a := rs.headD []
  let b := (rs.drop 1).headD []
  let n := max (wearSeq a) (wearSeq b)
  if wearSeq a ≤ wearSeq b then [wearBytes n w, b] else [a, wearBytes n w]

/-- The valid record with the higher count. -/
def wearLoad (rs : List (List Byte)) : Option Nat :=
  let a := rs.headD []
  let b := (rs.drop 1).headD []
  (wearOf (if wearSeq a ≤ wearSeq b then b else a)).map (·.2)

/-- A commit of WEAR asks for its energy; one granted is written (R343, R500). -/
def wearCommit (vhold : Nat) (s : State) : State :=
  let r := lssRequest .wear 1 0 vhold s
  if r.2 then
    { (r.1.count CEL.WEAR_REC.COMMITS 1) with cell := { r.1.cell with wearRec := wearStore (r.1.fld CEL.WEAR.WEAR) r.1.cell.wearRec } }
  else r.1

/-- R343: cell time reaches `t`, and another 2^24 µs of powered time have passed. -/
def execWearCommitTimer (t : Nat) (s : State) (vhold : Nat := 0) : Host.Outcome State Fault Refusal :=
  if s.cellLive && decide (8000 * 2 ^ 24 * (s.cell.wearTicks + 1) ≤ t) then
    .next (wearCommit vhold { s with cell := { s.cell with wearTicks := s.cell.wearTicks + 1, now := t } })
  else .next s

/-! ## Temperatures (R340, R341) -/

/-- Interpolated temperature of a calibrated NTC value, 0.125 °C; the table states none above full scale. -/
def ntcTemp (s : State) (x : Int) : Int :=
  if 2 ^ 24 < x then Config.freeOf 131 [x]
  else
    let p := 32 * x.toNat
    let j := min 31 (p / 2 ^ 24)
    let at_ := fun k => signedOf 12 (s.rd (CEL.NTC_TAB.addr + 4 * k))
    roundHA (at_ j * 2 ^ 24 + (at_ (j + 1) - at_ j) * ((p : Int) - (j : Int) * 2 ^ 24)) (2 ^ 24)

/-- NTC `k` (local input 2 + k) stands outside its limits. -/
def ntcBad (s : State) (k : Nat) : Bool :=
  let x := s.sfld (ACQ.IN_CAL.C.at (inputOff (2 + k)))
  decide (x < (s.fld CEL.NTC_LIM.MIN : Int) * 512) || decide ((s.fld CEL.NTC_LIM.MAX : Int) * 512 < x)

/-- The hotter valid NTC; none with both broken. -/
def hottest (s : State) : Option Int :=
  let t := fun k => ntcTemp s (s.sfld (ACQ.IN_CAL.C.at (inputOff (2 + k))))
  match ntcBad s 0, ntcBad s 1 with
  | false, false => some (max (t 0) (t 1))
  | false, true => some (t 0)
  | true, false => some (t 1)
  | true, true => none

/-- One update of the junction rise (R341): `num` is ΔT_ss × 2^48 in 1/256 °C. -/
def riseStep (num : Int) (tau : Nat) (dT : Int) : Int := clampI 0 (255 * 256) (dT + roundHA (num - dT * 2 ^ 48) (2 ^ (48 + tau)))

/-- The updates of a window of `d` cycles. -/
def riseSteps (num : Int) (tau : Nat) : Nat → Int → Int
  | 0, dT => dT
  | n + 1, dT => riseSteps num tau n (riseStep num tau dT)

/-- ΔT_ss × 2^48 of the window (R341). -/
def riseTarget (s : State) : Int :=
  let i : Int := if s.flag CEL.CFG.ISENS then (s.sfld (ACQ.IN_CAL.C.at (inputOff 1))).natAbs else 0
  s.fld CEL.TJ0.KA * i * 2 ^ 24 + s.fld CEL.TJ0.KB * i * i + s.fld CEL.TJ1.KS * s.cell.turnOns * i * cellVc s

/-- Temperatures, junction rise and wear of a window of `d` cycles. -/
def windowTemps (d : Nat) (s : State) : State :=
  let bad := (ntcBad s 0).toNat + 2 * (ntcBad s 1).toNat
  let was := s.fld CEL.TEMP.NTC_BAD
  let s1 := s.setFld CEL.TEMP.NTC_BAD bad
  let s2 := if bad &&& (3 - was % 4) ≠ 0 then s1.because 0x98 else s1
  match hottest s with
  | none => (s2.setFld CEL.TEMP.TNTC 0x800).setFld CEL.TEMP.TJ 0x800
  | some t =>
    let dT := riseSteps (riseTarget s) (s.fld CEL.TJ1.TAU_EXP) d s.cell.dT
    let tj := satS 12 (t + roundHA dT 32)
    let s3 := { ((s2.setFld CEL.TEMP.TNTC (unsignedOf 12 (satS 12 t))).setFld CEL.TEMP.TJ (unsignedOf 12 tj)) with cell := { s2.cell with dT := dT } }
    wearCount tj s3

/-! ## Bootstrap warning (R337) -/

def bootWarning (s : State) : State :=
  let v := supplyCode s 4
  let due := s.flag CEL.STAT.REFRESH_DUE
  if v < s.fld CEL.BOOT.WARN then
    let s1 := s.setFlag CEL.STAT.REFRESH_DUE true
    if due then s1 else (s1.count CEL.BOOT_CNT.WARN 1).raise GDC.EVT.BOOT_WARN
  else if s.fld CEL.BOOT.WARN + s.fld CEL.BOOT.HYS ≤ v then s.setFlag CEL.STAT.REFRESH_DUE false
  else s

/-! ## Stages (R344, R345) -/

/-- The thresholds as the registers give them, when their order is valid. -/
def vlimRead (s : State) : Option (List Nat) :=
  let a := s.fld CEL.VLIM0.SHED1
  let b := s.fld CEL.VLIM0.SWMIN
  let c := s.fld CEL.VLIM1.SHED2
  let d := s.fld CEL.VLIM1.DORM
  let h := s.fld CEL.VLIM2.HYS
  if b + h < a ∧ c + h < b ∧ d + h < c then some [a, b, c, d, h] else none

/-- The thresholds in force after a window end. -/
def takeVlim (s : State) : State :=
  match vlimRead s with
  | some v => { (s.setFlag CEL.STAT.CFG_ERR false) with cell := { s.cell with vlim := v } }
  | none => s.setFlag CEL.STAT.CFG_ERR true

/-- Threshold `k` of the set in force, in Q7.24: 0 SHED1, 1 SWMIN, 2 SHED2, 3 DORM, 4 HYS. -/
def vlimAt (s : State) (k : Nat) : Int := (s.cell.vlim.getD k 0 : Int) * 512

/-- Entry threshold of a stage. -/
def stageIn (s : State) (n : Nat) : Int := match n with | 1 => vlimAt s 0 | 2 => vlimAt s 2 | _ => vlimAt s 3

/-- The stage after a window end with capacitor voltage `v`: at most one stage on. -/
def stageNext (s : State) (v : Int) (n : Nat) : Nat :=
  if n < 3 ∧ v < stageIn s (n + 1) then n + 1
  else if 0 < n ∧ stageIn s n + vlimAt s 4 ≤ v then n - 1
  else n

/-- The largest RATE_DIV not above `lim` for which R272 holds with a window of `d` cycles and L positions. -/
def rateFor (lim d l : Nat) : Nat := ((upto (lim + 1)).reverse.find? (fun r => 2000 * d % (5 * 2 ^ r * l) == 0)).getD 0

/-- RATE_DIV of a stage entered with cadence divisor `d` in force (R344). -/
def stageRate (s : State) (stage d : Nat) : Nat :=
  if stage ≤ 1 then s.cell.rateDiv
  else
    let lim := if stage = 2 then 4 else 7
    if s.seqL 0 = 8 then lim else rateFor lim (min d (cadDiv (stageCad stage))) (s.seqL 0)

/-- A cell with no slot runs the windows of its stage at once (R271, R355). -/
def cadFollow (s : State) : State :=
  if cellAdm s = admJoining ∨ cellAdm s = admAdmitted then s else s.setFld LNK.C_ADM.CAD (stageCad (s.fld CEL.STAT.STAGE))

/-- The cell takes a stage: cadence to announce, RATE_DIV from here on, and a wear commit on entry to stage 3. -/
def takeStage (stage d vhold : Nat) (s : State) : State :=
  let old := s.fld CEL.STAT.STAGE
  if stage = old then s
  else
    let s1 := (s.setFld CEL.STAT.STAGE stage).setFld ACQ.CORE_CFG.RATE_DIV (stageRate s stage d)
    let s2 := if stageCad stage = stageCad old then s1 else { s1 with cell := { s1.cell with cadSent := false } }
    let s3 := cadFollow s2
    if stage = 3 then wearCommit vhold s3 else s3

/-- LOW_ENERGY (R345). -/
def lowEnergy (v : Int) (s : State) : State :=
  if v < vlimAt s 1 then s.setFlag CEL.STAT.LOW_ENERGY true
  else if vlimAt s 1 + vlimAt s 4 ≤ v then s.setFlag CEL.STAT.LOW_ENERGY false
  else s

/-- Cadence divisor in force (R126). -/
def cellDiv (s : State) : Nat := cadDiv (s.fld LNK.C_ADM.CAD)

/-- The words of a wave set in the cell: acquisition inputs (R518, R524). -/
def cellWave (s : State) : List Nat :=
  (upto 8).map (fun n =>
    let sel := s.rd (STR.WCH_SEL.addr + 4 * n)
    if bitsAt sel 28 3 = 2 then s.fld (ACQ.IN_CAL.C.at (inputOff (bitsAt sel 8 7))) else 0)

/-- R271: an acquisition window ends at cell time `t` with the conversions `conv` of core 0. -/
def execCellWindowEnd (conv : List Int) (t vhold : Nat) (s : State) : Host.Outcome State Fault Refusal :=
  if s.cellLive then
    let d := cellDiv s
    let s0 := { s with acq := { s.acq with winNs := t / 8 }, cell := { s.cell with now := t } }
    let s1 := if acqRunning s 0 then scalSample (coreWindow 0 (2000 * d) conv (applyPairs (t / 8) s0)) else s0
    let s2 := s1.setFld CEL.VC.C (unsignedOf 32 (s1.sfld (ACQ.IN_CAL.C.at (inputOff 0))))
    let v := cellVc s2
    let s3 := windowTemps d (bootWarning (takeVlim s2))
    let s4 := takeStage (stageNext s3 v (s3.fld CEL.STAT.STAGE)) d vhold (lowEnergy v s3)
    let s5 := strataSample (cellWave s4) { s4 with cell := { s4.cell with turnOns := 0 } }
    .next (cmpPeriodClear s5)
  else .next s

/-! ## Registers (R352) -/

/-- A write to the CEL block. -/
def wrCEL (a w : Nat) (s : State) : WriteResult := .ok (s.store a w)

end Sys2Proof.Machine
end

