-- ==== Sys2Proof/Machine/ControlRegs.lean ====
section
/-!
DEFINITION. Writes and reads of the MOD, GRD, CEN and FUN blocks (R174, R178, R179, R197 to R200, R204 to R209, R213, R215, R237,
R259).
-/
namespace Sys2Proof.Machine

/-! ## MOD and GRD (R174, R178, R179) -/

/-- The RW word of a MOD or GRD register that a write would change: copy B's while split (R259). -/
def boundOld (a : Nat) (s : State) : Nat := if s.cpB.isSome then (tabGet regReset s.loam.fieldsB a).toNat else s.rd a

/-- A MOD or GRD write waits for the boundary. -/
def holdWrite (a w : Nat) (s : State) : State := { s with eng := { s.eng with boundWrites := s.eng.boundWrites ++ [(a, w)] } }

/-- A write of MOD. ISRC, ISIGN and NORM stand while the converter is deblocked. -/
def wrMOD (a w : Nat) (s : State) : WriteResult :=
  let cfg := decide (0xE0100 ≤ a) && decide (a < 0xE0280) && a % 0x40 == 0
  if cfg && s.deblocked && (boundOld a s &&& 0x301F) != (w &&& 0x301F) then .error causeDeblocked
  else .ok (holdWrite a w s)

/-- A write of GRD. STAT_EXP stands while the converter is deblocked. -/
def wrGRD (a w : Nat) (s : State) : WriteResult :=
  if a = GRD.GCFG.addr ∧ s.deblocked = true ∧ bitsAt (boundOld a s) 8 5 ≠ bitsAt w 8 5 then .error causeDeblocked
  else .ok (holdWrite a w s)

/-- Reads return copy B while split with RD_B set (R259). -/
def readsB (s : State) : Bool := s.cpB.isSome && s.flag LMP.SH_CTRL.RD_B

/-- The copy that reads return. -/
def readCopy (s : State) : Copy := if readsB s then s.cpB.getD s.cp else s.cp

/-- A read of MOD or GRD. Status of GRD follows RD_B; its other registers read as copy A holds them. -/
def rdModGrd (a : Nat) (s : State) : Nat :=
  if 0xF8000 ≤ a then (let k := (a - 0xF8000) / 4; if k < 2048 then (if readsB s then s.loam.rsnapB else s.eng.rsnap).getD k 0 else 0)
  else
    let status := match regRow? a with | some r => r.rw == 0 | none => false
    let x := if readsB s && (decide (a < 0xF0000) || status) then (tabGet regReset s.loam.fieldsB a).toNat else s.rd a
    if s.beh = 1 ∧ 0xF0100 ≤ a ∧ (a - 0xF0100) % 0x80 = 0 then x - x % 65536 else x

/-! ## Tile blocks, in CEN and through FUN (R197, R200, R209, R213) -/

/-- Does a tile-block offset hold a banked word: TCTL, TPRESET, or a parameter the tile's type has? -/
def bankedWord (r : TileRec) (o : Nat) : Bool :=
  o == 0 || o == 0x20 || o == 0x24 || (decide (0x40 ≤ o) && decide ((o - 0x40) / 4 < tileParams r.type))

/-- A write to a pending bank, or a clear of TSAT, SATSUM or MEVT: held in the entry FIFO during a restore, and behind writes held there
(R248, R252), else taken at once. -/
def putPending (a w : Nat) (s : State) : State :=
  if lmpState s = lmpRestoring ∨ s.loam.heldWrites ≠ [] then { s with loam := { s.loam with heldWrites := s.loam.heldWrites ++ [(a, w % 2 ^ 32)] } }
  else heldWrite a (w % 2 ^ 32) s

/-- Pending banks take no write: a commit is pending, or a hand-over has been accepted (R200, R262). -/
def banksClosed (s : State) : Option Nat :=
  if s.flag CEN.PCOMMIT_STAT.PEND then some causeBusy
  else if s.loam.handover.isSome then some causeOther
  else none

/-- A parameter word that a write may not put there: outside the range of its type (R196), or a fixed setting of the tile's macro
(R211, R213). -/
def refusedParam (g : Graph) (r : TileRec) (t k w : Nat) : Bool :=
  !paramOk r.type k w || (match g.macroOf t with
    | some x => changesFixed x.2 t k w
    | none => false)

/-- A write of a banked word, and the N that follows it (R234). -/
def putTile (t o w : Nat) (s : State) : State :=
  let s1 := putPending (tileAddr t + o) w s
  match trackerTwin s.img.graph t with
  | some u => if o = 0x44 then putPending (tileAddr u + o) w s1 else s1
  | none => s1

/-- A write of word offset `o` of tile `t`'s block; `fun_` says through the FUN window. -/
def wrTile (fun_ : Bool) (t o w : Nat) (s : State) : WriteResult :=
  match s.img.graph.tile? t with
  | none => .error causeOther
  | some r =>
    if bankedWord r o then
      let m := s.img.graph.macroOf t
      if m.isSome != fun_ then .error causeOther
      else
        if 0x40 ≤ o ∧ refusedParam s.img.graph r t ((o - 0x40) / 4) (w % 2 ^ 32) = true then .error causeOther
        else match banksClosed s with
          | some c => .error c
          | none =>
            if o = 0x44 ∧ trackerFollower s.img.graph t = true then
              (if (bankCopy s).banks.pend (tileAddr t + o) = w % 2 ^ 32 then .ok s else .error causeOther)
            else .ok (putTile t o (if o = 0 then w % 2 else w) s)
    else if o = 4 ∧ fun_ = false then .ok (putPending (tileAddr t + 4) w s)
    else .ok s

/-- Main state of a tile in 64 bits (R209). -/
def tileState (type : Nat) (x : TileSt) : Nat :=
  match type with
  | 0x03 => unsignedOf 64 x.acc
  | 0x10 => unsignedOf 64 x.acc
  | 0x06 => unsignedOf 32 x.prev
  | 0x11 => x.latch.toNat + 2 * x.inst.toNat + 256 * (x.cnt % 256)
  | _ => 0

/-- A banked word as read: active, or pending under RD_PEND. -/
def rdBank (a : Nat) (s : State) : Nat :=
  let b := (readCopy s).banks
  if s.flag CEN.CTRL.RD_PEND then b.pend a else b.act a

/-- A read of word offset `o` of tile `t`'s block. -/
def rdTile (t o : Nat) (s : State) : Nat :=
  match s.img.graph.tile? t with
  | none => 0
  | some r =>
    let x := (readCopy s).eng.tile t
    if o = 0 then 2 ^ 31 + r.outer.toNat * 2 ^ 30 + r.stage * 2 ^ 24 + r.type * 2 ^ 16 + rdBank (tileAddr t) s % 2
    else if o = 4 then x.tsat
    else if 0x10 ≤ o ∧ o < 0x20 then unsignedOf 32 (x.out ((o - 0x10) / 4))
    else if o = 0x28 then tileState r.type x % 2 ^ 32
    else if o = 0x2C then tileState r.type x / 2 ^ 32
    else if 0x30 ≤ o ∧ o < 0x40 then unsignedOf 32 (x.x.getD ((o - 0x30) / 4) 0)
    else if bankedWord r o then rdBank (tileAddr t + o) s
    else 0

/-! ## CEN (R198, R199, R204 to R209) -/

/-- A GO of PCOMMIT is sampled. -/
def commitGo (w : Nat) (s : State) : State :=
  let p := s.period.pcnt
  let n := s.fld CEN.PCOMMIT_PCNT.PCNT
  let d := (n + 2 ^ 32 - p % 2 ^ 32) % 2 ^ 32
  let at_ := bitAt w 1
  let waits := bitAt w 2 || dirtyTiles s.img.graph (bankCopy s).banks true != []
  let bad := at_ && (d == 0 || decide (2 ^ 31 ≤ d) || (waits && !outerDue s ((p + d) % 2 ^ 48)))
  if bad || !gainsOk s.img.graph (committedPar (bankCopy s)) then commitRefuse s
  else { (s.setFlag CEN.PCOMMIT_STAT.PEND true).setFlag CEN.PCOMMIT_STAT.OUTER_PEND (onlyOuterDirty s.img.graph (bankCopy s).banks) with
    eng := { s.eng with commit := some { at_ := if at_ then some n else none, alignOuter := bitAt w 2 } } }

/-- A write of INJ_CTRL of source `k`. -/
def wrInjCtrl (k w : Nat) (s : State) : WriteResult :=
  let a := CEN.INJ_CTRL.addr + injOff k
  if (s.cp.eng.inj_ k).run && (s.rd a &&& 0x067F3000) != (w &&& 0x067F3000) then .error causeOther
  else
    let s1 := s.store a w
    .ok { s1 with eng := { s1.eng with
      injStart := if bitAt w 29 then putBit s.eng.injStart k true else s.eng.injStart
      injStop := if bitAt w 30 then putBit s.eng.injStop k true else s.eng.injStop } }

/-- A write of CORR_CTRL of correlator `c` (R208). -/
def wrCorrCtrl (c w : Nat) (s : State) : State :=
  let o := injOff c
  let s1 := s.store (CEN.CORR_CTRL.addr + o) w
  if bitAt w 29 then
    let r := s1.fld (CEN.CORR_CTRL.REF.at o)
    if (s.cp.eng.inj_ r).run && decide (s.fld (CEN.INJ_CTRL.WAVE.at (injOff r)) < 2) then
      { s1.setFlag (CEN.CORR_CTRL.BUSY.at o) true with eng := s1.eng.setCorr c { st := 1 } }
    else s1.setFlag (CEN.CORR_CTRL.ERR.at o) true
  else s1

/-- A write of CAP_CTRL: ARM, then FORCE; ABORT last (R206). -/
def wrCapCtrl (w : Nat) (s : State) : State :=
  let s1 := s.store CEN.CAP_CTRL.addr w
  let s2 := if bitAt w 31 then
      { s1.setFld CEN.CAP_STAT.STATE 1 with eng := { s1.eng with cap := { ring := s1.eng.cap.ring, wr := s1.eng.cap.wr, st := 1 } } }
    else s1
  let s3 := if bitAt w 29 && s2.eng.cap.st == 1 then { s2 with eng := { s2.eng with cap := { s2.eng.cap with trig := true } } } else s2
  if bitAt w 30 then
    { s3.setFld CEN.CAP_STAT.STATE 0 with eng := { s3.eng with cap := { s3.eng.cap with st := 0, trig := false, left := 0 } } }
  else s3

/-- A write of CEN. -/
def wrCEN (a w : Nat) (s : State) : WriteResult :=
  if a = CEN.PCOMMIT.addr then
    if !bitAt w 0 then .ok s
    else if s.flag CEN.PCOMMIT_STAT.PEND then .error causeBusy
    else .ok (commitGo w s)
  else if a = CEN.SATSUM.addr then
    .ok (putPending a w s)
  else if 0x200100 ≤ a ∧ a < 0x200200 then
    let k := (a - 0x200100) / 0x40
    if (a - 0x200100) % 0x40 = 0 then wrInjCtrl k w s
    else if (a - 0x200100) % 0x40 = 0x0C ∧ (s.cp.eng.inj_ k).run = true then
      .ok { s.store a w with eng := { s.eng with injFreq := putBit s.eng.injFreq k true } }
    else .ok (s.store a w)
  else if 0x200200 ≤ a ∧ a < 0x200300 ∧ (a - 0x200200) % 0x40 = 0 then .ok (wrCorrCtrl ((a - 0x200200) / 0x40) w s)
  else if a = CEN.CAP_CTRL.addr then .ok (wrCapCtrl w s)
  else if 0x201000 ≤ a ∧ a < 0x201400 then
    match banksClosed s with
    | some c => .error c
    | none => .ok (putPending a w s)
  else if 0x210000 ≤ a ∧ a < 0x240000 then wrTile false (tileOf a) ((a - 0x210000) % 0x800) w s
  else .ok (s.store a w)

/-- Bits [32 i + 31 : 32 i] of a mask over tiles. -/
def tileMask (i : Nat) (p : Nat → Bool) : Nat := (upto 32).foldl (fun m j => if p (32 * i + j) then m + 2 ^ j else m) 0

/-- A read of CEN. -/
def rdCEN (a : Nat) (s : State) : Nat :=
  let g := s.img.graph
  let c := readCopy s
  if a = CEN.STAT.addr then g.tiles.length + 256 * g.innerDepth + 65536 * g.outerDepth
  else if a = CEN.PCOMMIT_STAT.addr then putBit (s.rd a) 3 c.banks.cpoolDirty
  else if CEN.DIRTY.addr ≤ a ∧ a < CEN.DIRTY.addr + 12 then tileMask ((a - CEN.DIRTY.addr) / 4) (fun t => bitAt c.banks.dirty t)
  else if a = CEN.SATSUM.addr then s.cp.eng.satSum
  else if CEN.SATMAP.addr ≤ a ∧ a < CEN.SATMAP.addr + 12 then tileMask ((a - CEN.SATMAP.addr) / 4) (fun t => (s.cp.eng.tile t).tsat != 0)
  else if 0x201000 ≤ a ∧ a < 0x201400 then rdBank a s
  else if 0x210000 ≤ a ∧ a < 0x240000 then rdTile (tileOf a) ((a - 0x210000) % 0x800) s
  else if 0x280000 ≤ a ∧ a < 0x300000 then
    (if s.fld CEN.CAP_STAT.STATE = 3 then tabGet zeroNat s.eng.cap.ring ((a - 0x280000) / 4) else 0)
  else s.rd a

/-! ## FUN (R213 to R215, R237) -/

/-- Does a MACRO_TYPE have a command? -/
def hasCommand (type : Nat) : Bool := type == 0x01 || type == 0x08 || type == 0x09 || type == 0x0A

/-- A write of FUN. -/
def wrFUN (a w : Nat) (s : State) : WriteResult :=
  if 0x308000 ≤ a ∧ a < 0x338000 then wrTile true ((a - 0x308000) / 0x800) ((a - 0x308000) % 0x800) w s
  else if a < 0x302000 then
    let j := (a - 0x300000) / 0x100
    match s.img.graph.macros[j]? with
    | none => .ok s
    | some r =>
      match a % 0x100 with
      | 0x08 => .ok (putPending a w s)
      | 0x0C => .ok (if w % 4 = 1 ∧ hasCommand r.type = true then { s with eng := { s.eng with mctl := putBit s.eng.mctl j true } } else s)
      | _ => .ok (s.store a w)
  else .ok s

/-- A read of FUN. -/
def rdFUN (a : Nat) (s : State) : Nat :=
  let e := (readCopy s).eng
  if a = FUN.EVSUM.addr then (upto 32).foldl (fun m j => if (e.macro_ j).evt != 0 then m + 2 ^ j else m) 0
  else if 0x308000 ≤ a ∧ a < 0x338000 then rdTile ((a - 0x308000) / 0x800) ((a - 0x308000) % 0x800) s
  else if a < 0x302000 then
    let j := (a - 0x300000) / 0x100
    match s.img.graph.macros[j]? with
    | none => 0
    | some r =>
      let m := e.macro_ j
      match a % 0x100 with
      | 0x00 => r.type * 2 ^ 24 + r.instance_ * 2 ^ 16 + r.firstTile * 2 ^ 8 + r.tileCnt
      | 0x04 => m.stat
      | 0x08 => m.evt
      | 0x10 => s.rd a
      | o => if 0x20 ≤ o ∧ o < 0x30 then unsignedOf 32 (m.vals.getD ((o - 0x20) / 4) 0) else 0
  else 0

end Sys2Proof.Machine
end

