-- ==== Sys2Proof/Machine/ImageCheck.lean ====
section
/-!
DEFINITION. The Buvex image as bytes and the loader's checks of it (R47 to R65, R76, R78, R196, R210, R211).
-/
namespace Sys2Proof.Machine

/-! ## Reading the bytes -/

/-- The little-endian value of `n` bytes at offset `o`. -/
def le (bs : List Byte) (o n : Nat) : Nat := leNat ((bs.drop o).take n)

/-- A failed check: the ERR code and ERR_OFFS (R78). -/
abbrev LoadErr := Nat × Nat

/-- Offset of the first check that fails. -/
def firstBad (xs : List (Bool × Nat)) : Option Nat := (xs.find? (fun (x : Bool × Nat) => x.1)).map (·.2)

/-- Not all of `n` bytes at `o` are zero. -/
def nonZero (bs : List Byte) (o n : Nat) : Bool := le bs o n != 0

/-! ## Header (R48, R68), checked field by field as the bytes come in -/

/-- Reserved bytes of the header. -/
def hdrReserved : List Nat := ((upto 5).map (· + 0x1B)) ++ ((upto 200).map (· + 0x38))

/-- Header checks in the order their last byte comes in: bytes needed, failed, ERR, offset. `role` is 0 hub, 1 cell; `own` says the
image is for this device. -/
def hdrChecks (role : Nat) (own : Bool) (h : List Byte) : List (Nat × Bool × Nat × Nat) :=
  let total := le h 8 4
  let beh := le h 0x0D 1
  [(4, le h 0 4 != 0x49585642, 0x02, 0x00), (6, le h 4 2 != 1, 0x03, 0x04), (8, le h 6 2 != 0x100, 0x03, 0x06),
    (12, total % 64 != 0 || decide (total < 1024) || decide (8388608 < total), 0x04, 0x08), (13, le h 0x0C 1 != role, 0x05, 0x0C),
    (14, own && !(decide (1 ≤ beh) && decide (beh ≤ 2)), 0x0D, 0x0D),
    (16, !(decide (le h 0x0E 1 ≤ beh) && decide (beh ≤ le h 0x0F 1)), 0x03, 0x0D)]
    ++ (if own then [] else
      [(0x1A, !(decide (1 ≤ le h 0x18 2) && decide (le h 0x18 2 ≤ 64)), 0x06, 0x18), (0x1B, decide (3 < le h 0x1A 1), 0x0A, 0x1A)])
    ++ hdrReserved.map (fun (o : Nat) => (o + 1, nonZero h o 1, 0x03, o))

/-- The first header check that fails on the bytes that are in. -/
def headerFail (role : Nat) (own : Bool) (bs : List Byte) : Option LoadErr :=
  let h := bs.take 256
  ((hdrChecks role own h).find? (fun (x : Nat × Bool × Nat × Nat) => decide (x.1 ≤ h.length) && x.2.1)).map (fun x => (x.2.2.1, x.2.2.2))

def totalLen (bs : List Byte) : Nat := le bs 8 4

/-! ## Section table (R49 to R51) -/

/-- One entry of the section table; `entry` is its offset. -/
structure Sect where
  type : Nat
  flags : Nat
  off : Nat
  len : Nat
  crc : Nat
  entry : Nat
  deriving DecidableEq, Repr

def sectCount (bs : List Byte) : Nat := le bs 0x18 2
def tableEnd (bs : List Byte) : Nat := 0x100 + 16 * sectCount bs

def sectAt (bs : List Byte) (i : Nat) : Sect :=
  let b := (bs.drop (0x100 + 16 * i)).take 16
  { type := le b 0 2, flags := le b 2 2, off := le b 4 4, len := le b 8 4, crc := le b 12 4, entry := 0x100 + 16 * i }

def sectsOf (bs : List Byte) : List Sect := (upto (min 64 (sectCount bs))).map (sectAt bs)

/-- Hub and cell columns (0 not permitted, 1 optional, 2 required) and limit of an assigned type (R50). -/
def sectRow (type : Nat) : Option (Nat × Nat × Nat) :=
  [(2, 2, 1), (2, 0, 1), (2, 0, 1), (2, 0, 1), (2, 2, 1), (2, 2, 1), (2, 2, 1), (1, 1, 8), (1, 0, 1), (1, 0, 1), (1, 0, 4)][type - 1]?.filter
    (fun _ => decide (1 ≤ type))

/-- The type's column for a role. -/
def sectCol (role : Nat) (r : Nat × Nat × Nat) : Nat := if role = 0 then r.1 else r.2.1

/-- An entry makes the table invalid; `seen` are the entries before it (R49, R50).  A tool
annotation is taken whatever its flags (R51, log 40). -/
def sectBad (role total tend : Nat) (seen : List Sect) (x : Sect) : Bool :=
  let overlaps := fun (y : Sect) => decide (0 < x.len) && decide (0 < y.len) && decide (y.off < x.off + x.len) && decide (x.off < y.off + y.len)
  let notAllowed := match sectRow x.type with
    | some r => sectCol role r == 0 || decide (r.2.2 ≤ (seen.filter (fun y => y.type == x.type)).length)
    | none => false
  (decide (x.type < 0x8000) && decide (1 < x.flags)) || x.off % 64 != 0 || decide (x.off < tend) || decide (total < x.off + x.len + 128) || seen.any overlaps || notAllowed

/-- The checks of the entries that are in, in table order. -/
def entriesFail (role total tend : Nat) : List Sect → List Sect → Option LoadErr
  | _, [] => none
  | seen, x :: t =>
    if sectBad role total tend seen x then some (0x06, x.entry)
    else if (sectRow x.type).isNone && decide (x.type < 0x8000) && x.flags % 2 == 1 then some (0x09, x.entry)
    else entriesFail role total tend (x :: seen) t

/-- The section table as far as it is in. -/
def tableFail (role : Nat) (bs : List Byte) : Option LoadErr :=
  if bs.length < 0x100 then none
  else
    let n := sectCount bs
    if n = 0 ∨ 64 < n then some (0x06, 0x18)
    else
      let here := (upto n).filter (fun i => decide (0x110 + 16 * i ≤ bs.length))
      match entriesFail role (totalLen bs) (tableEnd bs) [] (here.map (sectAt bs)) with
      | some e => some e
      | none =>
        let missing := fun (t : Nat) => match sectRow t with
          | some r => sectCol role r == 2 && !((sectsOf bs).any (fun x => x.type == t))
          | none => false
        if here.length = n ∧ ((upto 12).any missing) = true then some (0x08, 0x100) else none

/-! ## Section CRCs (R49) -/

def Sect.body (x : Sect) (bs : List Byte) : List Byte := (bs.drop x.off).take x.len

/-- The CRCs of the sections that completed since `old` bytes were in, in order of offset. -/
def crcFail (old : Nat) (bs : List Byte) : Option LoadErr :=
  if bs.length < tableEnd bs ∨ bs.length < 0x100 then none
  else
    let done := (sectsOf bs).filter (fun x => decide (old < x.off + x.len) && decide (x.off + x.len ≤ bs.length) && crc32 (x.body bs) != x.crc)
    match done.map (·.off) with
    | [] => none
    | o :: t => some (0x07, t.foldl min o)

/-- Steps 1 to 3 of R76 on the bytes that are in. -/
def arrivalFail (role old : Nat) (bs : List Byte) : Option LoadErr :=
  match headerFail role true bs with
  | some e => some e
  | none => match tableFail role bs with
    | some e => some e
    | none => crcFail old bs

/-! ## Key and signature (R65, R67) -/

/-- Step 4 of R76: `prog`, `revoked` and `hash` are the OTP slots. -/
def signatureFail (prog revoked : Nat) (hash : Nat → Nat) (bs : List Byte) : Option LoadErr :=
  let k := le bs 0x1A 1
  let n := totalLen bs
  let q := (bs.drop (n - 128)).take 64
  let rs := (bs.drop (n - 64)).take 64
  if 3 < k ∨ bitAt prog k = false ∨ bitAt revoked k = true then some (0x0A, 0x1A)
  else if leNat (sha256Bytes q) ≠ hash k then some (0x0B, n - 128)
  else if ecdsaVerify (beNat (q.take 32)) (beNat (q.drop 32)) (beNat (rs.take 32)) (beNat (rs.drop 32)) (sha256 (bs.take (n - 64))) then none
  else some (0x0C, n - 64)

/-! ## ROLE, TOPO and TBAND (R52 to R54, R62) -/

/-- The first section of a type. -/
def sectOf (bs : List Byte) (type : Nat) : Option Sect := (sectsOf bs).find? (fun x => x.type == type)
def bodyOf (bs : List Byte) (type : Nat) : List Byte := match sectOf bs type with | some x => x.body bs | none => []
def offOf (bs : List Byte) (type : Nat) : Nat := match sectOf bs type with | some x => x.off | none => 0

/-- Checks of a section of fixed size; a wrong size is reported at its start. -/
def fieldsFail (err size off : Nat) (b : List Byte) (xs : List (Bool × Nat)) : Option LoadErr :=
  if b.length ≠ size then some (err, off) else (firstBad xs).map (fun o => (err, off + o))

def hubRoleChecks (b : List Byte) : List (Bool × Nat) :=
  let tcNs := [1000, 2000, 4000, 5000].getD (le b 0 1) 0
  [(decide (3 < le b 0 1), 0), (decide (63 < le b 1 1), 1), (decide (2 < le b 2 1), 2), (decide (15 < le b 3 1), 3),
    (decide (tcNs ≤ le b 4 2), 4), (decide (2000 < le b 6 2), 6), (decide (15 < le b 0x0C 1), 0x0C), (decide (1 < le b 0x0D 1), 0x0D),
    (decide (15 < le b 0x0E 1), 0x0E), (nonZero b 0x0F 1, 0x0F), (nonZero b 0x20 32, 0x20)]

def cellRoleChecks (b : List Byte) : List (Bool × Nat) :=
  [(decide (1 < le b 0 1), 0), (!(decide (1 ≤ le b 1 1) && decide (le b 1 1 ≤ 8)), 1), (!(decide (1 ≤ le b 2 1) && decide (le b 2 1 ≤ 2)), 2),
    (nonZero b 3 61, 3)]

def topoChecks (b : List Byte) : List (Bool × Nat) :=
  let n := le b 0 1
  [(n == 0 || decide (6 < n), 0), (nonZero b 1 7, 1)]
    ++ (upto 6).flatMap (fun (a : Nat) =>
      let o := 8 + 16 * a
      let c := le b o 2
      [(decide (1024 < c) || (decide (n ≤ a) && c != 0), o), (decide (c < le b (o + 2) 2), o + 2), (decide (1 < le b (o + 4) 1), o + 4),
        (nonZero b (o + 5) 1, o + 5), (nonZero b (o + 8) 8, o + 8)])
    ++ (upto 128).map (fun (l : Nat) => (decide (32 < le b (0x68 + l) 1), 0x68 + l))

/-- Arms 0 to ARM_COUNT − 1 of TOPO. -/
def topoArms (b : List Byte) : List ArmTopo :=
  (upto (le b 0 1)).map (fun (a : Nat) =>
    let o := 8 + 16 * a
    { configured := le b o 2, needed := le b (o + 2) 2, fullBridge := le b (o + 4) 1 == 1, vnomV := le b (o + 6) 2 })

def topoLanes (b : List Byte) : List Nat := (upto 128).map (fun (l : Nat) => le b (0x68 + l) 1)

def tbandChecks (role : Nat) (b : List Byte) : List (Bool × Nat) :=
  (upto 4).flatMap (fun (k : Nat) =>
    let o := 64 * k
    let mv := le b o 2
    [(decide (mv < 750) || decide (950 < mv) || mv % 5 != 0, o), (role == 1 && nonZero b (o + 2) 1, o + 2), (role == 1 && nonZero b (o + 3) 1, o + 3),
      (role == 1 && nonZero b (o + 4) 24, o + 4), (role == 0 && nonZero b (o + 0x1C) 4, o + 0x1C), (nonZero b (o + 0x20) 32, o + 0x20)])

def tbandOf (b : List Byte) : List TBand :=
  (upto 4).map (fun (k : Nat) =>
    let o := 64 * k
    { avsMv := le b o 2, ctleAdj := signedOf 8 (le b (o + 2) 1), vgaAdj := signedOf 8 (le b (o + 3) 1)
      pwmDt := (upto 12).map (fun (p : Nat) => le b (o + 4 + 2 * p) 2), legDt := (upto 2).map (fun (j : Nat) => le b (o + 0x1C + 2 * j) 2) })

/-! ## CELLTAB (R55, R56) -/

/-- Configuration fields of an entry of 64 bytes. -/
def entryCfg (e : List Byte) : CtCfg := (upto 8).foldl (fun (c : CtCfg) k => (cfgWrite c k (le e (4 * k) 4)).getD c) {}

/-- The entries of the section: index, bytes. -/
def tabEntries (b : List Byte) : List (Nat × List Byte) :=
  (upto (le b 2 2)).map (fun (j : Nat) => (le b 0 2 + j, (b.drop (4 + 64 * j)).take 64))

def celltabFail (off topoOff : Nat) (arms : List ArmTopo) (lanes : List Nat) (b : List Byte) : Option LoadErr :=
  let n := le b 2 2
  let first := le b 0 2
  if b.length ≠ 4 + 64 * n ∨ 4096 < first + n then some (0x0F, off)
  else
    let used := ((tabEntries b).map (fun (x : Nat × List Byte) => (x.1, entryCfg x.2))).filter (fun x => x.2.uid != 0)
    match ctCheck arms lanes none used with
    | none => none
    | some f => match f.entry with
      | some j => some (0x0F, off + 4 + 64 * (j - first))
      | none => some (0x0F, topoOff + f.topo)

/-! ## GRAPH (R57 to R59, R196, R210, R211) -/

/-- Counts of the sub-header. -/
structure GraphHdr where
  tiles : Nat
  sinks : Nat
  consts : Nat
  words : Nat
  macros : Nat
  deriving DecidableEq, Repr

def graphHdr (b : List Byte) : GraphHdr :=
  { tiles := le b 0 2, sinks := le b 2 2, consts := le b 4 2, words := le b 6 2, macros := le b 10 2 }

/-- Offsets of the parts. -/
def GraphHdr.tileOff (_ : GraphHdr) (i : Nat) : Nat := 16 + 24 * i
def GraphHdr.macroOff (h : GraphHdr) (j : Nat) : Nat := 16 + 24 * h.tiles + 8 * j
def GraphHdr.sinkOff (h : GraphHdr) (k : Nat) : Nat := h.macroOff h.macros + 8 * k
def GraphHdr.constOff (h : GraphHdr) (w : Nat) : Nat := h.sinkOff h.sinks + 4 * w
def GraphHdr.wordOff (h : GraphHdr) (w : Nat) : Nat := h.constOff h.consts + 4 * w

/-- A source descriptor at offset `o`. -/
def srcAt (b : List Byte) (o : Nat) : SrcDesc := { kind := le b o 1, index := le b (o + 1) 1, port := le b (o + 2) 1, neg := le b (o + 3) 1 % 2 == 1 }

def tileRec (b : List Byte) (i : Nat) : TileRec :=
  let o := 16 + 24 * i
  { tile := le b o 1, type := le b (o + 1) 1, outer := le b (o + 2) 1 == 1, stage := le b (o + 3) 1
    srcs := (upto 4).map (fun (k : Nat) => srcAt b (o + 4 + 4 * k)) }

def macroRec (b : List Byte) (o : Nat) : MacroRec :=
  { type := le b o 1, instance_ := le b (o + 1) 1, firstTile := le b (o + 2) 1, tileCnt := le b (o + 3) 1 }

def graphOf (b : List Byte) : Graph :=
  let h := graphHdr b
  { tiles := (upto h.tiles).map (tileRec b), macros := (upto h.macros).map (fun (j : Nat) => macroRec b (h.macroOff j))
    sinks := (upto h.sinks).map (fun (k : Nat) => { kind := le b (h.sinkOff k) 1, index := le b (h.sinkOff k + 1) 1, src := srcAt b (h.sinkOff k + 4) })
    innerDepth := le b 8 1, outerDepth := le b 9 1 }

/-- Parameter word `k` of tile record `i` as loaded: words beyond PARAM_CNT are zero (R196). -/
def recPar (b : List Byte) (i k : Nat) : Nat :=
  if k < le b (16 + 24 * i + 22) 2 then le b ((graphHdr b).wordOff (le b (16 + 24 * i + 20) 2 + k)) 4 else 0

/-- Parameter word `k` of tile `t`. -/
def graphPar (b : List Byte) (t k : Nat) : Nat :=
  match (upto (graphHdr b).tiles).find? (fun i => le b (16 + 24 * i) 1 == t) with
  | some i => recPar b i k
  | none => 0

/-- Is the descriptor at offset `o` well formed, and does what it names exist? -/
def srcOk (b : List Byte) (g : Graph) (consts arms o : Nat) : Bool :=
  let i := le b (o + 1) 1
  let p := le b (o + 2) 1
  decide (le b (o + 3) 1 ≤ 1) && (match le b o 1 with
    | 0 => !nonZero b o 4
    | 1 => (g.tile? i).isSome && decide (p ≤ 3)
    | 2 => decide (i ≤ 31) && p == 0
    | 3 => decide (i < consts) && p == 0
    | 4 => decide (i < arms) && decide (p ≤ 5)
    | 5 => decide (i ≤ 3) && p == 0
    | _ => false)

/-- Failures of tile record `i`: its own fields, then its parameter words. -/
def tileFail (b : List Byte) (h : GraphHdr) (i : Nat) : Option Nat :=
  let o := h.tileOff i
  let t := tileRec b i
  let cnt := le b (o + 22) 2
  let idx := le b (o + 20) 2
  if 95 < t.tile ∨ ((upto i).any (fun j => le b (h.tileOff j) 1 == t.tile)) = true ∨ t.type = 0 ∨ 0x11 < t.type ∨ 1 < le b (o + 2) 1 ∨ 63 < t.stage
      ∨ tileParams t.type < cnt ∨ h.words < idx + cnt then some o
  else match (upto (tileParams t.type)).find? (fun k => !paramOk t.type k (recPar b i k)) with
    | some k => some (if k < cnt then h.wordOff (idx + k) else o)
    | none => none

/-- The timing rule of R59 for input `k` of a tile. -/
def timingOk (g : Graph) (r : TileRec) (k : Nat) : Bool :=
  let d := r.src k
  d.kind != 1 || (match g.tile? d.index with
    | some u => u.outer != r.outer || u.type == 0x0F || decide (u.stage + tileCycles u.type ≤ r.stage)
    | none => false)

/-- Largest stage plus cycle count of a rate. -/
def depthOf (g : Graph) (outer : Bool) : Nat := ((g.tiles.filter (fun r => r.outer == outer)).map (fun r => r.stage + tileCycles r.type)).foldl max 0

/-- Failures of sink record `k`. -/
def sinkFail (b : List Byte) (h : GraphHdr) (g : Graph) (arms : List ArmTopo) (k : Nat) : Option Nat :=
  let o := h.sinkOff k
  let kind := le b o 1
  let i := le b (o + 1) 1
  let lim := [0, 6, 12, 16].getD kind 0
  let twice := kind == 1 && (upto k).any (fun j => le b (h.sinkOff j) 1 == 1 && le b (h.sinkOff j + 1) 1 == i)
  let unused := kind == 1 && (arms.getD i {}).configured == 0
  if lim ≤ i ∨ nonZero b (o + 2) 2 = true ∨ srcOk b g h.consts arms.length (o + 4) = false ∨ twice = true ∨ unused = true then some o else none

/-- Failures of macro record `j`: its tiles and wiring, its instance, a tile in two macros. -/
def macroFail (b : List Byte) (h : GraphHdr) (g : Graph) (j : Nat) : Option Nat :=
  let o := h.macroOff j
  match g.macros[j]? with
  | none => none
  | some r =>
    let before := g.macros.take j
    let shares := before.any (fun x => (x.type == r.type && x.instance_ == r.instance_) || (upto 96).any (fun t => x.has t && r.has t))
    if nonZero b (o + 4) 4 = true ∨ shares = true ∨ macroOk g (graphPar b) r = false then some o else none

/-- The checks of GRAPH; offsets count from the section's start. -/
def graphBad (arms : List ArmTopo) (b : List Byte) : Option Nat :=
  let h := graphHdr b
  let g := graphOf b
  match firstBad [(decide (b.length < 16), 0), (h.tiles == 0 || decide (96 < h.tiles), 0), (decide (64 < h.sinks), 2), (decide (256 < h.consts), 4),
      (decide (16384 < h.words), 6), (decide (32 < h.macros), 10), (nonZero b 12 4, 12), (b.length != h.wordOff h.words, 0)] with
  | some o => some o
  | none =>
    match (upto h.tiles).findSome? (tileFail b h) with
    | some o => some o
    | none =>
      let srcBad := fun (i : Nat) => (upto 4).any (fun k => !srcOk b g h.consts arms.length (h.tileOff i + 4 + 4 * k) || !timingOk g (tileRec b i) k)
      match (upto h.tiles).find? srcBad with
      | some i => some (h.tileOff i)
      | none =>
        let depthBad := fun (outer : Bool) (n : Nat) => n != depthOf g outer || decide (64 < n)
        let noRef := (upto arms.length).any (fun a => (arms.getD a {}).configured != 0 && !(g.sinks.any (fun k => k.kind == 1 && k.index == a)))
        match firstBad [(depthBad false g.innerDepth, 8), (depthBad true g.outerDepth, 9), (noRef, 2)] with
        | some o => some o
        | none => match (upto h.sinks).findSome? (sinkFail b h g arms) with
          | some o => some o
          | none => (upto h.macros).findSome? (macroFail b h g)

/-! ## EVMAP and register records (R60, R61) -/

def evmapBad (role : Nat) (b : List Byte) : Option Nat :=
  if b.length ≠ 512 then some 0
  else
    let bad := fun (k : Nat) =>
      let w := le b (4 * k) 4
      let act := bitsAt w 0 16
      if role = 1 then (act &&& 0xFF7D) != 0 || decide (65536 ≤ w)
      else decide (1024 ≤ act) || decide (63 < bitsAt w 16 8) || decide (15 < bitsAt w 24 8)
    ((upto 128).find? bad).map (4 * ·)

/-- A register record: offset in the image, OFFSET, VALUE. -/
def recordsOf (x : Sect) (bs : List Byte) : List (Nat × Nat × Nat) :=
  let b := x.body bs
  (upto (b.length / 8)).map (fun (k : Nat) => (x.off + 8 * k, le b (8 * k) 4, le b (8 * k + 4) 4))

/-- The register sections in the order of application. -/
def regSects (bs : List Byte) : List Sect := (sectsOf bs).filter (fun x => x.type == 6) ++ (sectsOf bs).filter (fun x => x.type == 8)

/-- May a record of a section address this block (R61)? -/
def blockAllowed (role type a : Nat) : Bool :=
  let hubs := [0x80000, 0xA0000, 0xE0000, 0xF0000, 0x1D0000, 0x1E0000, 0x20000]
  let in64 := fun (bases : List Nat) => bases.contains (a / 0x10000 * 0x10000)
  if type = 6 then in64 [0x90000, 0x50000, 0x30000] || (role == 1 && in64 [0xC0000, 0xB0000])
  else
    let lnk := decide (0x100000 ≤ a) && decide (a < 0x140000)
    let otp := a == 0x10060 || a == 0x10064 || (decide (0x10080 ≤ a) && decide (a < 0x100A0))
    otp || (if role = 1 then in64 [0x80000, 0x20000] || (lnk && decide (a < 0x100800))
      else in64 hubs || lnk || (decide (0x140000 ≤ a) && decide (a < 0x180000)) || (decide (0x200000 ≤ a) && decide (a < 0x400000)))

/-- Tile whose block an address of CEN or FUN lies in. -/
def recordTile (a : Nat) : Option (Bool × Nat × Nat) :=
  if 0x210000 ≤ a ∧ a < 0x240000 then some (false, (a - 0x210000) / 0x800, (a - 0x210000) % 0x800)
  else if 0x308000 ≤ a ∧ a < 0x338000 then some (true, (a - 0x308000) / 0x800, (a - 0x308000) % 0x800)
  else none

/-- Is a record permitted under R61? -/
def recordOk (role type : Nat) (g : Graph) (a w : Nat) : Bool :=
  a % 4 == 0 && blockAllowed role type a && (match recordTile a with
    | none => true
    | some (fun_, t, o) => match g.tile? t with
      | none => false
      | some r =>
        let k := (o - 0x40) / 4
        let par := decide (0x40 ≤ o) && decide (k < tileParams r.type)
        match g.macroOf t with
        | none => !fun_ && (!par || paramOk r.type k w)
        | some x => fun_ && (!par || (paramOk r.type k w && !changesFixed x.2 t k w && !(k == 1 && trackerFollower g t))))

/-- The records in order: the first that is not permitted, or the 8,193rd. -/
def recordsFail (role : Nat) (g : Graph) : Nat → List (Nat × Nat × Nat × Nat) → Option LoadErr
  | _, [] => none
  | n, (type, off, a, w) :: t =>
    if n = 8192 then some (0x13, off)
    else if recordOk role type g a w then recordsFail role g (n + 1) t
    else some (0x12, off)

def regFail (role : Nat) (g : Graph) (bs : List Byte) : Option LoadErr :=
  match (regSects bs).find? (fun x => x.len % 8 != 0) with
  | some x => some (0x12, x.off)
  | none => recordsFail role g 0 ((regSects bs).flatMap (fun (x : Sect) => (recordsOf x bs).map (fun (r : Nat × Nat × Nat) => (x.type, r))))

/-! ## CELLIMG (R64) and the content checks as a whole -/

def cellimgFail (x : Sect) (bs : List Byte) : Option LoadErr :=
  let b := x.body bs
  if b.length < 256 then some (0x17, x.off)
  else match headerFail 1 false b with
    | some e => some (0x17, x.off + e.2)
    | none => if totalLen b ≠ x.len then some (0x17, x.off) else none

/-- The first failure of a list of checks. -/
def firstFail (xs : List (Option LoadErr)) : Option LoadErr := xs.findSome? id

/-- Step 5 of R76 for a hub image. -/
def hubFail (bs : List Byte) : Option LoadErr :=
  let topo := bodyOf bs 2
  let arms := topoArms topo
  let graph := bodyOf bs 4
  firstFail [fieldsFail 0x0E 64 (offOf bs 1) (bodyOf bs 1) (hubRoleChecks (bodyOf bs 1)),
    fieldsFail 0x0E 232 (offOf bs 2) topo (topoChecks topo),
    celltabFail (offOf bs 3) (offOf bs 2) arms (topoLanes topo) (bodyOf bs 3),
    (graphBad arms graph).map (fun o => (0x10, offOf bs 4 + o)),
    (evmapBad 0 (bodyOf bs 5)).map (fun o => (0x11, offOf bs 5 + o)),
    regFail 0 (graphOf graph) bs,
    fieldsFail 0x0E 256 (offOf bs 7) (bodyOf bs 7) (tbandChecks 0 (bodyOf bs 7)),
    ((sectsOf bs).filter (fun x => x.type == 11)).findSome? (fun x => cellimgFail x bs)]

/-- Step 5 of R76 for a cell image. -/
def cellFail (bs : List Byte) : Option LoadErr :=
  firstFail [fieldsFail 0x0E 64 (offOf bs 1) (bodyOf bs 1) (cellRoleChecks (bodyOf bs 1)),
    (evmapBad 1 (bodyOf bs 5)).map (fun o => (0x11, offOf bs 5 + o)),
    regFail 1 {} bs,
    fieldsFail 0x0E 256 (offOf bs 7) (bodyOf bs 7) (tbandChecks 1 (bodyOf bs 7))]

end Sys2Proof.Machine
end

