-- ==== Sys2Proof/Machine/Power.lean ====
section
/-!
DEFINITION. The supply controller and the clock synthesiser (chapter 16): R475 to R491.
-/
namespace Sys2Proof.Machine

/-! ## Supply controller -/

/-- A target code as 0.1 mV: 600 mV + 5 mV × code, codes above 120 acting as 120 (R484). -/
def vrcCodeUv (code : Nat) : Nat := 6000 + 50 * min code 120

/-- The target that TSRC selects, before VMAX, 0.1 mV (R484). -/
def vrcSelected (s : State) : Nat :=
  match s.fld VRC.CFG.TSRC with
  | 1 => vrcCodeUv (s.fld VRC.VSW.CODE)
  | 2 => 10 * (s.img.tband.getD (s.fld THM.STAT.BAND) {}).avsMv
  | _ => vrcCodeUv (s.fld (VRC.VSET.CODE.at (4 * s.vrc.vsel)))

/-- The limit VMAX, 0.1 mV. -/
def vrcMax (s : State) : Nat := vrcCodeUv (s.fld VRC.VMAX.CODE)

/-- The slewed target after `dt` µs more towards the target: at SS_RATE in a soft start, else at SLEW; 0 acts as 1
(R485, R488, R502). -/
def vrcSlew (s : State) (dt : Nat) : Nat :=
  let rate := max 1 (if s.vrc.soft then s.fld VRC.SLEW.SS_RATE else s.fld VRC.SLEW.SLEW)
  if s.vrc.slewed ≤ s.vrc.target then min s.vrc.target (s.vrc.slewed + rate * dt)
  else if s.vrc.soft then s.vrc.slewed
  else max s.vrc.target (s.vrc.slewed - rate * dt)

/-- Bring the slewed target up to date; a soft start ends when the output reaches the target, and one that began above it stays at its
start, in diode emulation (R488). -/
def vrcAdvance (dt : Nat) (s : State) : State :=
  { s with vrc := { s.vrc with slewed := vrcSlew s dt, soft := s.vrc.soft && vrcSlew s dt != s.vrc.target } }

/-- The output is measured, in mV: a pre-charged output that has fallen to the target ends the soft start (R488). -/
def vrcMeasured (mv : Nat) (s : State) : State :=
  let s1 := s.setFld VRC.VOUT.VDD mv
  if s1.vrc.soft && decide (s1.vrc.target < s1.vrc.slewed) && decide (10 * mv ≤ s1.vrc.target) then
    { s1 with vrc := { s1.vrc with slewed := s1.vrc.target, soft := false } }
  else s1

/-- A new target takes effect at once from the present slewed value, limited by VMAX, and masks power-good (R484, R485). -/
def vrcNewTarget (s : State) : State :=
  let t := vrcSelected s
  let s1 := { s with vrc := { s.vrc with target := min t (vrcMax s), masked := true } }
  s1.setFld VRC.EVT.VMAX_CLAMP (if t > vrcMax s then 1 else s.fld VRC.EVT.VMAX_CLAMP)

/-- Active phases. -/
def vrcActive (s : State) : Nat := popcount 6 (s.fld VRC.STAT.PH_EN)

/-- Least active phases: 0 acts as 1, above NPH as NPH (R502). -/
def vrcMinPh (s : State) : Nat := min (max 1 (s.fld VRC.CFG.MIN_PH)) (s.fld VRC.STAT.NPH)

/-- I_SHED not below I_ADD: CFG_ERR, and every configured phase is active (R486). -/
def vrcShedBad (s : State) : Bool := decide (s.fld VRC.SHED.I_ADD ≤ s.fld VRC.SHED.I_SHED)

def vrcShedFix (s : State) : State :=
  if vrcShedBad s then (s.raise VRC.EVT.CFG_ERR).setFld VRC.STAT.PH_EN s.vrc.phMask else s

/-- Phases come back until MIN_PH of those configured are active; which ones is open (R486, R502; site 134, log 11). -/
def vrcPhFloor (s : State) : State :=
  let en := s.fld VRC.STAT.PH_EN
  let idle := (upto 6).filter (fun k => bitAt s.vrc.phMask k && !bitAt en k)
  let pick := fun k => bitAt (s.draw 134) k
  let add := (idle.filter pick ++ idle.filter (fun k => !pick k)).take (vrcMinPh s - vrcActive s)
  if add = [] then s else s.drawn.setFld VRC.STAT.PH_EN (add.foldl (fun m k => putBit m k true) en)

/-- R486: the firing position of active phase `k` in switching cycle `c`, of the n active ones 360/n degrees apart: the assignment moves by
one position every cycle. -/
def firePos (s : State) (c k : Nat) : Option Nat :=
  let act := (upto 6).filter (bitAt (s.fld VRC.STAT.PH_EN))
  if act.contains k then some (((act.takeWhile (fun j => j != k)).length + c) % act.length) else none

/-- Start of switching with a soft start from the measured output (R487, R488). -/
def vrcSoftStart (mv : Nat) (s : State) : State :=
  let s1 := { s with vrc := { s.vrc with slewed := 10 * mv, soft := true, masked := true } }
  (s1.setFld VRC.VOUT.VDD mv).setFlag VRC.STAT.RUN true

/-- A write to the VRC block (R484, R502). -/
def wrVRC (a w : Nat) (s : State) : WriteResult :=
  let s1 := s.store a w
  let isTarget := decide (a = VRC.CFG.addr ∧ s1.fld VRC.CFG.TSRC ≠ s.fld VRC.CFG.TSRC)
    || decide (a = VRC.VSW.addr ∧ s.fld VRC.CFG.TSRC = 1)
    || decide (a = VRC.VSET.addr + 4 * s.vrc.vsel ∧ (s.fld VRC.CFG.TSRC = 0 ∨ s.fld VRC.CFG.TSRC = 3))
    || (decide (a = VRC.VMAX.addr) && min (vrcSelected s1) (vrcMax s1) != s.vrc.target)
  let s1 := if a = VRC.CFG.addr then
      let s2 := if vrcShedBad s1 then s1 else vrcPhFloor s1
      s2.count VRC.CNT.PH_CHG (vrcActive s2 - vrcActive s1)
    else s1
  .ok (if isTarget then vrcNewTarget s1 else if a = VRC.SHED.addr then vrcShedFix s1
    else if a = VRC.SYNC.addr ∧ s1.fld VRC.SYNC.SRC ≠ s.fld VRC.SYNC.SRC then s1.setFlag VRC.STAT.SYNC_LOCK false else s1)

/-- Live bits of VRC.STAT (R502). -/
def rdVRC (a : Nat) (s : State) : Nat :=
  if a = VRC.STAT.addr then
    let code := fun u => (u - 6000) / 50
    let w0 := putBits (s.rd a) 29 3 (vrcActive s)
    let w1 := putBits w0 13 7 (code s.vrc.target)
    let w2 := putBits w1 6 7 (code s.vrc.slewed)
    putBit w2 4 (s.vrc.slewed != s.vrc.target)
  else s.rd a

/-- R493, R483: VDDA above 1.70 V for 1 ms. `cfgd` are the phases whose ISENP reads 50 mV or more, `active` the phases the
controller starts with (the spec gives no number: log 11), `mv` the measured output, `vin` VRC_VIN. -/
def execVddStart (cfgd active : Fin 64) (mv vin : Nat) (s : State) : Host.Outcome State Fault Refusal :=
  if s.flag VRC.STAT.RUN || s.flag VRC.STAT.HIC_OFF || bitAt s.sys.railsLow 3 then .next s
  else
    let m := if s.vrc.counted then s.vrc.phMask else cfgd.val
    let s1 := { s with vrc := { s.vrc with phMask := m, counted := true } }
    let s2 := (s1.setFld VRC.STAT.NPH (popcount 6 m)).setFld VRC.STAT.PH_EN (active.val &&& m)
    let s3 := vrcShedFix (vrcPhFloor (s2.setFld VRC.VOUT.VIN vin))
    let ok := decide (s3.fld VRC.PFW.UVLO_MV ≤ vin)
    let s4 := vrcSoftStart mv (vrcNewTarget (s3.setFlag VRC.STAT.VIN_OK ok))
    let s5 := { s4.setFlag VRC.STAT.RUN ok with vrc := { s4.vrc with uvloStop := !ok } }
    .next s5

/-- R485: a VSEL value unchanged for 2 µs; `dt` µs have passed since the slewed target was last brought up to date. -/
def execVselAccept (vsel : Fin 16) (dt : Nat) (s : State) : Host.Outcome State Fault Refusal :=
  let s1 := vrcAdvance dt s
  let s2 := { s1 with vrc := { s1.vrc with vsel := vsel.val } }
  .next (if vsel.val = s.vrc.vsel ∨ s.fld VRC.CFG.TSRC = 1 ∨ s.fld VRC.CFG.TSRC = 2 then s2 else vrcNewTarget s2)

/-- R485: the output has stayed within ±PG_WIN of the reached target for SETTLE µs. -/
def execPgUnmask (mv dt : Nat) (s : State) : Host.Outcome State Fault Refusal :=
  let s1 := vrcMeasured mv (vrcAdvance dt s)
  let inWin := decide (10 * mv ≤ s1.vrc.target + 10 * s1.fld VRC.PG.PG_WIN ∧ s1.vrc.target ≤ 10 * mv + 10 * s1.fld VRC.PG.PG_WIN)
  if s1.vrc.masked && s1.vrc.slewed == s1.vrc.target && inWin && s1.flag VRC.STAT.RUN then
    .next ({ s1 with vrc := { s1.vrc with masked := false, soft := false }, sys := { s1.sys with pgoodSeen := true } }.setFlag VRC.STAT.PGOOD true)
  else .next s1

/-- R485: the output rises above target + OV_MV; the target the output is regulated to is the slewed one (log 12). -/
def execVrcOv (mv dt : Nat) (s : State) : Host.Outcome State Fault Refusal :=
  let s1 := vrcMeasured mv (vrcAdvance dt s)
  .next (if 10 * mv > s1.vrc.slewed + 10 * s1.fld VRC.PG.OV_MV then s1.raise VRC.EVT.OV else s1)

/-- R491: the output has been below target − PG_WIN for 10 µs while power-good is not masked. -/
def execVrcUv (mv : Nat) (s : State) : Host.Outcome State Fault Refusal :=
  let s1 := vrcMeasured mv s
  .next (if !s1.vrc.masked && decide (10 * mv + 10 * s1.fld VRC.PG.PG_WIN < s1.vrc.target) then s1.raise VRC.EVT.UV else s1)

/-- R486: total current `i` (0.25 A codes) above n × I_ADD adds the shed phase `k`. -/
def execPhaseAdd (i : Nat) (k : Fin 6) (s : State) : Host.Outcome State Fault Refusal :=
  let s1 := s.setFld VRC.IOUT.I i
  let en := s1.fld VRC.STAT.PH_EN
  if s1.flag VRC.STAT.RUN && decide (i > vrcActive s1 * s1.fld VRC.SHED.I_ADD) && bitAt s1.vrc.phMask k.val && !bitAt en k.val && !vrcShedBad s1 then
    .next ((s1.setFld VRC.STAT.PH_EN (putBit en k.val true)).count VRC.CNT.PH_CHG 1)
  else .next (vrcShedFix s1)

/-- R486: total current below (n − 1) × I_SHED for `us` µs; SHED_T of it sheds phase `k`, never below MIN_PH. -/
def execPhaseShed (i : Nat) (k : Fin 6) (s : State) (us : Nat := 0) : Host.Outcome State Fault Refusal :=
  let s1 := s.setFld VRC.IOUT.I i
  let en := s1.fld VRC.STAT.PH_EN
  let n := vrcActive s1
  if s1.flag VRC.STAT.RUN && decide (i < (n - 1) * s1.fld VRC.SHED.I_SHED) && decide (10 * s1.fld VRC.SHED.SHED_T ≤ us)
      && decide (vrcMinPh s1 < n) && bitAt en k.val && !vrcShedBad s1 then
    .next ((s1.setFld VRC.STAT.PH_EN (putBit en k.val false)).count VRC.CNT.PH_CHG 1)
  else .next (vrcShedFix s1)

/-- R487: `n` consecutive cycles reached ILIM; at HIC_N of them, below 8 acting as 8, all phases stop. -/
def execHiccup (s : State) (n : Nat := 0) : Host.Outcome State Fault Refusal :=
  if s.flag VRC.STAT.RUN && decide (max 8 (s.fld VRC.HICCUP.HIC_N) ≤ n) then
    .next (((((s.setFlag VRC.STAT.RUN false).setFlag VRC.STAT.PGOOD false).setFlag VRC.STAT.HIC_OFF true).raise VRC.EVT.HICCUP).count VRC.CNT.HICCUPS 1)
  else .next s

/-- R487: `ms` ms of off time have passed; after HIC_OFF + 1, soft start from the output voltage measured now. -/
def execHiccupRetry (mv : Nat) (s : State) (ms : Nat := 0) : Host.Outcome State Fault Refusal :=
  if s.flag VRC.STAT.HIC_OFF && decide (s.fld VRC.HICCUP.HIC_OFF + 1 ≤ ms) then
    let s1 := vrcSoftStart mv (s.setFlag VRC.STAT.HIC_OFF false)
    .next { (s1.setFlag VRC.STAT.RUN (s.flag VRC.STAT.VIN_OK)) with vrc := { s1.vrc with uvloStop := !s.flag VRC.STAT.VIN_OK } }
  else .next s

/-- A sync source is selected: 1 the pin, 2 the hub's period boundary; 3, and 2 in the cell, act as 0 (R489, R502). -/
def vrcSyncOn (s : State) : Bool :=
  s.fld VRC.SYNC.SRC == 1 || (s.fld VRC.SYNC.SRC == 2 && s.sys.role == .hub)

/-- R489: the sync source has been absent for two of its periods. -/
def execSyncLost (s : State) : Host.Outcome State Fault Refusal :=
  .next (if vrcSyncOn s then (s.setFlag VRC.STAT.SYNC_LOCK false).raise VRC.EVT.SYNC_LOST else s)

/-- R489: a sync edge returns. -/
def execSyncEdgeResync (s : State) : Host.Outcome State Fault Refusal :=
  .next (if vrcSyncOn s then s.setFlag VRC.STAT.SYNC_LOCK true else s)

/-- R490: VRC_VIN crosses UVLO_MV. -/
def execVrcVinUvlo (vin : Nat) (s : State) : Host.Outcome State Fault Refusal :=
  let s1 := s.setFld VRC.VOUT.VIN vin
  if vin < s1.fld VRC.PFW.UVLO_MV then
    .next { ((s1.setFlag VRC.STAT.VIN_OK false).setFlag VRC.STAT.RUN false) with
      vrc := { s1.vrc with uvloStop := s1.vrc.uvloStop || s1.flag VRC.STAT.RUN } }
  else
    .next { ((s1.setFlag VRC.STAT.VIN_OK true).setFlag VRC.STAT.RUN (s1.flag VRC.STAT.RUN || s1.vrc.uvloStop)) with
      vrc := { s1.vrc with uvloStop := false } }

/-! ## Clock synthesiser -/

/-- Source frequency of a clock output, kHz (R476, R482). -/
def clkSrcKhz (s : State) (src : Nat) : Nat :=
  match src with
  | 1 => 20625000
  | 2 => 10000000
  | 3 => if s.flag CLK.REF_CFG.SRC then 25000 else 156250
  | _ => 0

/-- A clock-output setting is within its limit: 200 MHz for CMOS, 400 MHz for LVDS and HCSL (R482). -/
def clkOutOk (s : State) (w : Nat) : Bool :=
  let div := max 1 (bitsAt w 0 12)
  let lim := if bitsAt w 29 2 = 2 then 200000 else 400000
  decide (clkSrcKhz s (bitsAt w 27 2) ≤ lim * div)

/-- A write to the CLK block; `busy` says a cell is joining or admitted (hub), or this cell is admitted (R477, R482). -/
def wrCLK (busy : Bool) (a w : Nat) (s : State) : WriteResult :=
  if a = CLK.REF_CFG.addr then
    if busy || (bitsAt w 4 2 == 1 && bitAt w 0) then .error causeOther
    else
      let s1 := s.store a w
      let s2 := if !bitAt w 1 then (s1.setFlag CLK.STAT.CELL_SRC false).setFlag CLK.STAT.HOLDOVER false
        else if rxState s1 = rxTrack then clkTrack s1 else s1
      .ok { s2 with clk := { s2.clk with relocking := true } }
  else if CLK.OUT_CFG.addr ≤ a ∧ a < CLK.OUT_CFG.addr + 16 then
    if clkOutOk s w then .ok (s.store a w) else .error causeOther
  else .ok (s.store a w)

/-- R477: the clocks of a commanded relock restart. -/
def execPllRelockDone (s : State) : Host.Outcome State Fault Refusal :=
  .next (if s.clk.relocking then { s with clk := { s.clk with relocking := false } } else s)

/-- A cell is joining or admitted (hub), or this cell is admitted: REF_CFG takes no write (R477). -/
def refBusy (s : State) : Bool := if s.isCell then cellAdm s == admAdmitted else anyBusy s

/-- REFCLK (0) or REFALT (1) is present: the selected input is while PLL0 and PLL1 keep their lock; the presence of the other one is an
input level that no command gives (R479, R501; site 135, log 52). -/
def refOk (s : State) (j : Nat) : Bool :=
  if j = (s.flag CLK.REF_CFG.SRC).toNat ∧ s.clk.lost &&& 3 = 0 then true else bitAt (s.draw 135) j

/-- Live bits of CLK.STAT: the clods run on a PLL0 and a PLL1 that are locked but for a loss and a relock (R476, R501). -/
def rdCLK (a : Nat) (s : State) : Nat :=
  if a = CLK.STAT.addr then
    let lock := fun k => !bitAt s.clk.lost k && !s.clk.relocking
    putBit (putBit (putBit (putBit (s.rd a) 0 (lock 0)) 1 (lock 1)) 4 (refOk s 0)) 5 (refOk s 1)
  else s.rd a

end Sys2Proof.Machine
end

