-- ==== Sys2Proof/Machine/Kaolin.lean ====
section
/-!
DEFINITION. The Kaolin island (chapter 13): R371 to R403. Commands are atomic, so a reader never sees an update in progress in the
view (R392, R393); island time moves at block ends.
-/
namespace Sys2Proof.Machine

/-! ## The set in force (R398) -/

/-- `n` bytes of a payload from offset `a`, little-endian. -/
def setNat (p : List Byte) (a n : Nat) : Nat := leNat ((p.drop a).take n)

def setDir (p : List Byte) : Bool := bitAt (setNat p 2 1) 0
def setAc (p : List Byte) : Bool := bitAt (setNat p 2 1) 1
def setMin (p : List Byte) : Nat := setNat p 3 1
def setGain (p : List Byte) (c g : Nat) : Int := s32 (setNat p (0x20 + 64 * c + 8 * g) 4)
def setOffs (p : List Byte) (c g : Nat) : Int := s32 (setNat p (0x24 + 64 * c + 8 * g) 4)
def setPulse (p : List Byte) (k : Nat) : Nat × Nat × Nat :=
  (setNat p (0x1A0 + 8 * k) 1, setNat p (0x1A2 + 8 * k) 2, setNat p (0x1A4 + 8 * k) 4)
def setPeriod (p : List Byte) (k : Nat) : Nat := setNat p (0x1B0 + 4 * k) 2

/-- INTERVAL_MIN values (R382). -/
def intervalMins : List Nat := [1, 2, 3, 4, 5, 6, 10, 12, 15, 20, 30, 60]

/-- A payload of the declared length is valid: format, reserved bytes and ranges (R396, R398). -/
def kaoSetOk (len : Nat) (p : List Byte) : Bool :=
  len == 512 && p.length == 512 && setNat p 0 2 == 1 && decide (setNat p 2 1 < 4) && intervalMins.contains (setMin p)
    && decide (1 ≤ setNat p 4 4 ∧ setNat p 4 4 < 2 ^ 31 ∧ 1 ≤ setNat p 8 4 ∧ setNat p 8 4 < 2 ^ 31)
    && decide (setNat p 0xC 4 ≤ setNat p 4 4 ∧ setNat p 0x10 4 ≤ setNat p 8 4)
    && ((p.drop 0x14).take 12).all (· == 0) && ((p.drop 0x1C0).take 64).all (· == 0)
    && (upto 4).all (fun c => (upto 8).all (fun g => decide ((setOffs p (c + 2) g).natAbs ≤ 15625)))
    && (upto 2).all (fun k => decide ((setPulse p k).1 < 4) && setNat p (0x1A1 + 8 * k) 1 == 0
        && decide (30 ≤ (setPulse p k).2.1 ∧ (setPulse p k).2.1 ≤ 1000 ∧ 1 ≤ (setPulse p k).2.2))
    && (upto 4).all (fun k => decide (10 ≤ setPeriod p k) && decide (1 ≤ setNat p (0x1B2 + 4 * k) 2))

/-- Check value of a set; zero while there is none (R397). -/
def checkOf (p : List Byte) : Nat := if p.isEmpty then 0 else crc32 p

/-! ## Records (R384, R392, R399) -/

/-- Change what the next commit saves. -/
def State.kl (s : State) (f : KaoLive → KaoLive) : State := { s with kao := { s.kao with live := f s.kao.live } }

/-- A record of 0x7C bytes, with its CRC, goes to the ring and the island's MRAM. -/
def kaoRecord (body : List Byte) (s : State) : State :=
  let r := body ++ leBytes 4 (crc32 body)
  let s1 := { s with kao := { s.kao with recs := (r :: s.kao.recs).take 2048 } }
  s1.kl (fun l => { l with seq := (l.seq + 1) % 2 ^ 32 })

/-- `n` bytes of `bs`, zeros behind. -/
def padTo (n : Nat) (bs : List Byte) : List Byte := (bs ++ List.replicate n 0#8).take n

/-- An event record; it crosses S-KAO and sets PEND. -/
def kaoEvent (code : Nat) (data : List Byte) (s : State) : State :=
  (kaoRecord (padTo 0x7C ([2#8, BitVec.ofNat 8 code, 0#8, 0#8] ++ leBytes 4 s.kao.live.seq ++ leBytes 8 (s.kao.live.tenths / 10) ++ data)) s).setFlag
    SYS.KAO_EVT.PEND true

/-- R497: the host clod copies STATE and UNSEAL_CNT while KAO_PWR reads one. -/
def kaoMirror (old s : State) : State :=
  if s.sys.vddm && (old.kao.live.state != s.kao.live.state || old.kao.live.unsealCnt != s.kao.live.unsealCnt) then
    ((s.setFld LSS.SEAL_MIR.UNSEAL_CNT s.kao.live.unsealCnt).setFld LSS.SEAL_MIR_ST.STATE s.kao.live.state).setFlag LSS.SEAL_MIR_ST.VALID true
  else s

/-- Whole mWh of a total. -/
def mwh (x : Nat) : Nat := x / 2 ^ 32 % 2 ^ 64
def mwhI (x : Int) : Int := x / (2 ^ 32 : Nat)

/-- The identity of R379. -/
def booksHold (f : KaoFam) : Bool := (f.imp : Int) - (f.exp_ : Int) == f.net

/-- Next multiple of INTERVAL_MIN minutes after `t`; 0 with no set. -/
def nextEnd (set : List Byte) (t : Nat) : Nat :=
  let m := setMin set * 60
  if m = 0 then 0 else (t / m + 1) * m

/-- R388: the time since the last interval record exceeds 2^32 × MIN_PERIOD of an input. -/
def s0Gap (l : KaoLive) : Bool :=
  match l.lastRec with
  | none => false
  | some t => !l.set.isEmpty && (upto 4).any (fun k => decide ((l.tenths / 10 - t) * 1000 > 2 ^ 32 * setPeriod l.set k))

/-- FLAGS of the interval that ends now. -/
def ivlFlags (l : KaoLive) : Nat :=
  l.flags ||| (2 * l.set.isEmpty.toNat) ||| (32 * (!(booksHold l.dc && booksHold l.ac)).toNat) ||| (64 * (s0Gap l).toNat) ||| (128 * l.timeInvalid.toNat)

/-- The interval record (R384). -/
def ivlRecord (l : KaoLive) : List Byte :=
  let d := l.dc
  let a := l.ac
  padTo 0x7C ([1#8, BitVec.ofNat 8 (ivlFlags l)] ++ leBytes 2 d.rev ++ leBytes 4 l.seq ++ leBytes 8 (l.tenths / 10)
    ++ leBytes 8 (mwh d.imp) ++ leBytes 8 (mwh d.exp_) ++ leBytes 8 (unsignedOf 64 (mwhI d.net))
    ++ leBytes 8 (mwh d.imp - d.imp0) ++ leBytes 8 (mwh d.exp_ - d.exp0) ++ leBytes 8 (mwh a.imp) ++ leBytes 8 (mwh a.exp_)
    ++ leBytes 8 (mwh a.imp - a.imp0) ++ leBytes 8 (mwh a.exp_ - a.exp0) ++ l.ins.flatMap (leBytes 4)
    ++ leBytes 4 (checkOf l.set) ++ leBytes 4 l.unsealCnt ++ leBytes 2 l.noload ++ leBytes 2 a.rev ++ leBytes 1 (l.segs.getD 0 0))

/-- An interval ends: books, record, and the next interval, which starts with FLAGS `flags` beside UNSEALED (R380, R382, R383). -/
def ivlEndNow (flags : Nat) (s : State) : State :=
  let l := s.kao.live
  let s1 := if booksHold l.dc then s else kaoEvent 0x0A (leBytes 4 0) s
  let s2 := if booksHold l.ac then s1 else kaoEvent 0x0A (leBytes 4 1) s1
  let s3 := kaoRecord (ivlRecord s2.kao.live) s2
  s3.kl (fun l => { l with
    dc := { l.dc with rev := 0, imp0 := mwh l.dc.imp, exp0 := mwh l.dc.exp_ }
    ac := { l.ac with rev := 0, imp0 := mwh l.ac.imp, exp0 := mwh l.ac.exp_ }
    noload := 0, lastRec := some (l.tenths / 10), flags := flags ||| (l.state == 2).toNat, ivlEnd := nextEnd l.set (l.tenths / 10) })

/-! ## Samples and blocks (R373 to R379) -/

/-- One sample's energy joins a family's block sums (R377). -/
def famSample (e : Int) (f : KaoFam) : KaoFam :=
  { f with sImp := f.sImp + e.toNat, sExp := f.sExp + (-e).toNat, sNet := f.sNet + e }

/-- R376: 2^−12 W for 31.25 µs, in 2^−32 mWh, signed by DIR. -/
def sampleEnergy (dir : Bool) (p : Int) : Int :=
  let e := roundHA (p * 2048) 225
  if dir then -e else e

/-- R374: the code that channel `c` takes in segment `g` where its decimator puts out `code`: channels 2 to 5 take the output delayed by PHASE
ns, given in `late` as channel, delay and code; one that is not given is a free value (log 158). -/
def kaoDelayed (set : List Byte) (late : List (Nat × Int × Int)) (c g : Nat) (code : Int) : Int :=
  let phase := setOffs set c g
  if c < 2 ∨ phase = 0 then code
  else match late.find? (fun x => x.1 == c && x.2.1 == phase) with
    | some x => satS 24 x.2.2
    | none => satS 24 (Config.freeOf 374 [code, phase])

/-- R374: corrected sample of channel `c` in segment `g`; for channels 2 to 5 the code is the decimator's after PHASE. -/
def kaoCorrect (set : List Byte) (c g : Nat) (code : Int) : Int :=
  satS 32 (rnd 24 ((if c < 2 then code - setOffs set c g else code) * setGain set c g))

/-- Segment of channel `c`. -/
def segOf (l : KaoLive) (c : Nat) : Nat := l.segs.getD (c / 2) 0

/-- R373, R374, R376: one sample of the six channels; `codes` are the decimators' outputs, `late` those that a PHASE delays. -/
def execKaoSample (codes : List Int) (s : State) (late : List (Nat × Int × Int) := []) : Host.Outcome State Fault Refusal :=
  let code := fun c => satS 24 (codes.getD c 0)
  let s1 := (upto 6).foldl (fun s c => if (code c).natAbs = 2 ^ 23 - 1 then kaoEvent 0x0E (leBytes 4 c) s else s) s
  let l := s1.kao.live
  if !s.sys.vddm || decide (3200 ≤ l.k) then .next s
  else if l.set.isEmpty then .next (s1.kl (fun l => { l with k := l.k + 1 }))
  else
    let x := fun c => kaoCorrect l.set c (segOf l c) (kaoDelayed l.set late c (segOf l c) (code c))
    let dir := setDir l.set
    .next (s1.kl (fun l => { l with
      k := l.k + 1, abs1 := l.abs1 + (x 1).natAbs, sq3 := l.sq3 + (x 3).natAbs ^ 2, sq5 := l.sq5 + (x 5).natAbs ^ 2
      dc := famSample (sampleEnergy dir (x 0 * x 1)) l.dc
      ac := if setAc l.set then famSample (sampleEnergy dir (x 2 * x 3 + x 4 * x 5)) l.ac else l.ac }))

/-- Segment boundaries in hundredths of the nominal current (R375). -/
def segBounds : List Nat := [1, 2, 5, 10, 20, 50, 100]

/-- R375: the segment after a block; `reached b` says whether the measure is at least b ten-thousandths of the nominal current. -/
def segNext (old : Nat) (reached : Nat → Bool) : Nat :=
  let up := (segBounds.filter (fun b => reached (100 * b))).length
  if old ≤ up then up else ((segBounds.take old).filter (fun b => reached (98 * b))).length

/-- R379: a block that registers is added to the totals; its sign may turn the direction (R382). -/
def famRegister (f : KaoFam) : KaoFam :=
  let turn := if f.export_ then decide (0 < f.sNet) else decide (f.sNet < 0)
  { f with imp := f.imp + f.sImp, exp_ := f.exp_ + f.sExp, net := f.net + f.sNet
           export_ := if turn then !f.export_ else f.export_, rev := if turn then (f.rev + 1) % 2 ^ 16 else f.rev }

/-- The block sums start at zero. -/
def famClear (f : KaoFam) : KaoFam := { f with sImp := 0, sExp := 0, sNet := 0 }

/-- Register that pulse output SRC `src` follows, mWh. -/
def pulseReg (l : KaoLive) (src : Nat) : Nat :=
  match src with
  | 0 => mwh l.dc.imp
  | 1 => mwh l.dc.exp_
  | 2 => mwh l.ac.imp
  | _ => mwh l.ac.exp_

/-- R385: growth of output `k`'s register in `old` to `new`: pulses due, and whether one was lost. -/
def pulseGrow (old new : KaoLive) (k : Nat) : KaoOut × Bool :=
  let o := new.outs.getD k {}
  let cfg := setPulse new.set k
  let acc := o.acc + (pulseReg new cfg.1 - pulseReg old cfg.1)
  let per := 1000 * max 1 cfg.2.2
  let due := acc / per
  ({ o with acc := acc % per, backlog := min 65535 (o.backlog + due) }, decide (65535 < o.backlog + due))

/-- The count of the next commit. -/
def kaoTop (s : State) : Nat := (s.kao.commits.map (fun c => match c with | some x => x.1 + 1 | none => 0)).foldl max 0

/-- The island commits: the record in turn takes count and contents; `done` says the write finished (R390). The record of an unfinished
one stays in turn, so that the newest valid record is never overwritten (R391). -/
def kaoCommit (done : Bool) (s : State) : State :=
  let top := kaoTop s
  { s with kao := { s.kao with
    commits := s.kao.commits.set s.kao.nextCommit (if done then some (top, s.kao.live) else none)
    nextCommit := if done then 1 - s.kao.nextCommit else s.kao.nextCommit, torn := !done } }

/-- R396: an accepted set applies at a block start; a new INTERVAL_MIN splits the running interval there (R383). -/
def kaoApplySet (s : State) : State :=
  let l := s.kao.live
  match l.nextSet with
  | none => s
  | some p =>
    let change := setMin p != setMin l.set
    let atEnd := !l.set.isEmpty && l.tenths == 10 * l.ivlEnd
    if atEnd then s
    else if change then
      let s1 := ivlEndNow 8 (s.kl (fun l => { l with flags := l.flags ||| 8 }))
      s1.kl (fun l => { l with set := p, nextSet := none, ivlEnd := nextEnd p (l.tenths / 10) })
    else s.kl (fun l => { l with set := p, nextSet := none, flags := l.flags ||| 8 })

/-- R378: a block of 3,200 samples ends; `warn` is whether VDDM lies below the warning threshold. -/
def execKaoBlockEnd (warn : Bool) (s : State) : Host.Outcome State Fault Refusal :=
  let l := s.kao.live
  if !s.sys.vddm || l.k != 3200 then .next s
  else
    let inDc := setNat l.set 4 4
    let inAc := setNat l.set 8 4
    let have_ := !l.set.isEmpty
    let dcOn := have_ && decide (3200 * setNat l.set 0xC 4 ≤ l.abs1)
    let acOn := have_ && decide (3200 * setNat l.set 0x10 4 ^ 2 ≤ max l.sq3 l.sq5)
    let l1 := { l with
      dc := if dcOn then famRegister l.dc else l.dc
      ac := if acOn then famRegister l.ac else l.ac
      noload := if dcOn then l.noload else (l.noload + 1) % 2 ^ 16
      segs := if have_ then
          [segNext (segOf l 0) (fun b => decide (3200 * b * inDc ≤ 10000 * l.abs1)),
           segNext (segOf l 2) (fun b => decide (3200 * (b * inAc) ^ 2 ≤ 10000 ^ 2 * l.sq3)),
           segNext (segOf l 4) (fun b => decide (3200 * (b * inAc) ^ 2 ≤ 10000 ^ 2 * l.sq5))]
        else l.segs }
    let g := (upto 2).map (pulseGrow l l1)
    let outs := if have_ then g.map (·.1) else l.outs
    let s1 := s.kl (fun _ => { l1 with outs := outs })
    let s2 := if have_ then (upto 2).foldl (fun s k =>
        if (g.getD k ({}, false)).2 then
          kaoEvent 0x0D (leBytes 4 k) { s with kao := { s.kao with pstat := s.kao.pstat ||| 2 ^ (8 + k) } }
        else s) s1 else s1
    let s3 := s2.kl (fun l => { l with
      dc := famClear l.dc, ac := famClear l.ac, k := 0, abs1 := 0, sq3 := 0, sq5 := 0
      tenths := (l.tenths + 1) % (10 * 2 ^ 64), blkSeq := (l.blkSeq + 1) % (2 ^ 32 - 1) })
    let s4 := kaoApplySet { s3 with kao := { s3.kao with vddmWarn := warn } }
    .next (kaoCommit true s4)

/-- R382: an interval ends. Without a set INTERVAL_MIN is unknown, and the command itself says that one ends (log 130). An accepted
set that was waiting for this block start applies to the next interval. -/
def execKaoIntervalEnd (s : State) : Host.Outcome State Fault Refusal :=
  let l := s.kao.live
  if s.sys.vddm && l.k == 0 && (l.set.isEmpty || decide (10 * l.ivlEnd ≤ l.tenths)) then
    let s1 := ivlEndNow 0 s
    .next (match l.nextSet with
      | some p => s1.kl (fun l => { l with set := p, nextSet := none, flags := l.flags ||| 8, ivlEnd := nextEnd p (l.tenths / 10) })
      | none => s1)
  else .next s

/-- R390: VDDM falls through 1.70 V: a warning commit, which finishes or does not (`done`); `off` says that the supply is then lost. -/
def execKaoVddmWarn (done off : Bool) (s : State) : Host.Outcome State Fault Refusal :=
  if s.sys.vddm then
    let s1 := kaoCommit done { s with kao := { s.kao with vddmWarn := true } }
    .next { s1 with sys := { s1.sys with vddm := !off } }
  else .next s

/-- The newer of the two commit records. -/
def kaoNewest (k : Kao) : Option (Nat × KaoLive) :=
  match k.commits.getD 0 none, k.commits.getD 1 none with
  | some a, some b => if b.1 ≤ a.1 then some a else some b
  | some a, none => some a
  | none, some b => some b
  | none, none => none

/-- R394: SEAL_N is released: an UNSEALED island seals, or is BLANK again when no set was ever accepted. -/
def kaoRelease (s : State) : State :=
  let l := s.kao.live
  if l.state ≠ 2 then s
  else
    let p := l.nextSet.getD l.set
    if p.isEmpty then s.kl (fun l => { l with state := 0 })
    else
      let s1 := { s with kao := { s.kao with sealSet := some (p, checkOf p, kaoTop s) } }
      kaoEvent 0x02 (leBytes 4 (checkOf p)) (s1.kl (fun l => { l with state := 1 }))

/-- The set that MRAM holds sealed since commit number `n` was made: it is accepted again (R394). -/
def sealedSince (k : Kao) (n : Option Nat) : Option (List Byte) :=
  match k.sealSet, n with
  | some x, some n => if n < x.2.2 ∧ checkOf x.1 = x.2.1 then some x.1 else none
  | some x, none => some x.1
  | none, _ => none

/-- R391, R372: VDDM comes up, whatever the role straps say; `sealLow` is SEAL_N asserted. The unseal counter, the record sequence and a set
sealed since the commit that is loaded stand in the island's MRAM and go on whatever commit is loaded (R392, R394). -/
def execKaoPowerUp (sealLow : Bool) (s : State) : Host.Outcome State Fault Refusal :=
  if s.sys.vddm = true then .next s
  else
  let old := kaoNewest s.kao
  let l0 : KaoLive := match old with | some x => x.2 | none => {}
  let kept := sealedSince s.kao (old.map (·.1))
  let l := { l0 with unsealCnt := s.kao.live.unsealCnt, seq := s.kao.live.seq, nextSet := match kept with | some p => some p | none => l0.nextSet }
  let k0 := { s.kao with live := { l with timeInvalid := true, flags := l.flags ||| 4 }, sealLow := sealLow, vddmWarn := false
                         active := 0, pstat := 0, torn := false }
  let s1 := { s with kao := k0, sys := { s.sys with vddm := true } }
  let t := leBytes 8 (l.tenths / 10)
  let s2 := if s.kao.torn && old.isSome then kaoEvent 0x06 t s1 else s1
  let s3 := if old.isSome then kaoEvent 0x07 t s2 else s2
  .next (kaoMirror s (if sealLow then s3 else kaoRelease s3))

/-! ## Seal (R394 to R397) -/

/-- R395: the host clod sends the unseal command with the offer buffer as it stands. -/
def kaoCommand (w : Nat) (s : State) : WriteResult :=
  if s.flag SYS.KAO_EVT.CMD_BUSY then .error causeBusy
  else if bitsAt w 24 8 != 0xA5 || !bitAt w 0 then .ok s
  else .ok ({ s with kao := { s.kao with arg := some s.kao.offer } }.setFlag SYS.KAO_EVT.CMD_BUSY true)

/-- The island's level. -/
def kaoLevel : Nat := 1

/-- R396: the island takes an argument. -/
def kaoTake (arg : Option (List Byte × Nat × Nat × Nat)) (s : State) : State :=
  match arg with
  | none => s
  | some (p, len, cmin, cmax) =>
    if ¬ (cmin ≤ kaoLevel ∧ kaoLevel ≤ cmax) then (kaoEvent 0x05 (leBytes 4 1 ++ leBytes 4 cmin ++ leBytes 4 cmax) s).setFld IMG.STAT.KAO_PROP 2
    else if !kaoSetOk len p then (kaoEvent 0x05 (leBytes 4 2 ++ leBytes 4 cmin ++ leBytes 4 cmax) s).setFld IMG.STAT.KAO_PROP 3
    else
      let s1 := kaoEvent 0x04 (leBytes 4 (checkOf s.kao.live.set) ++ leBytes 4 (checkOf p)) s
      (s1.kl (fun l => { l with nextSet := some p })).setFld IMG.STAT.KAO_PROP 1

/-- R394, R396: the island takes the unseal command that crosses the seam, and the host sees its outcome. -/
def execKaoUnseal (s : State) : Host.Outcome State Fault Refusal :=
  match s.kao.arg with
  | none => .next s
  | some arg =>
    let s0 := { s with kao := { s.kao with arg := none } }.setFlag SYS.KAO_EVT.CMD_BUSY false
    if !s.sys.vddm then .next s0
    else if !s.kao.sealLow then .next (kaoEvent 0x03 [] s0)
    else
      let n := min (2 ^ 32 - 1) (s.kao.live.unsealCnt + 1)
      let s1 := if s.kao.live.state = 1 then
          kaoEvent 0x01 (leBytes 4 n) (s0.kl (fun l => { l with unsealCnt := n, state := 2, flags := l.flags ||| 1 }))
        else s0.kl (fun l => { l with state := 2, flags := l.flags ||| 1 })
      .next (kaoMirror s (kaoTake arg s1))

/-- R394: SEAL_N has been low for 10 ms. -/
def execSealNAssert (s : State) : Host.Outcome State Fault Refusal := .next { s with kao := { s.kao with sealLow := true } }

/-- R394: SEAL_N has been high for 10 ms. -/
def execSealNRelease (s : State) : Host.Outcome State Fault Refusal :=
  let s1 := { s with kao := { s.kao with sealLow := false } }
  .next (if s.sys.vddm then kaoMirror s (kaoRelease s1) else s1)

/-! ## Pulses (R385, R386) -/

/-- R385: output `k` emits its next pulse, `since` ms after its last one began: on for WIDTH ms, and off for as long at least before it. -/
def execKaoPulseOut (k : Fin 2) (s : State) (since : Nat := 0) : Host.Outcome State Fault Refusal :=
  let o := s.kao.live.outs.getD k.val {}
  let width := (setPulse s.kao.live.set k.val).2.1
  if s.sys.vddm && decide (0 < o.backlog) && decide (2 * width ≤ since) then
    .next ((s.fresh.emit (.pulse k.val width)).kl (fun l => { l with
      outs := l.outs.set k.val { o with backlog := o.backlog - 1, count := (o.count + 1) % 2 ^ 32 } }))
  else .next s.fresh

/-- R386: input `k` enters the active state, `since` ms after its last counted entry. -/
def execKaoS0Input (k : Fin 4) (since : Nat) (s : State) : Host.Outcome State Fault Refusal :=
  if !s.sys.vddm || bitAt s.kao.active k.val then .next s
  else
    let s1 := { s with kao := { s.kao with active := putBit s.kao.active k.val true } }
    if s.kao.live.set.isEmpty then .next s1
    else if since < setPeriod s.kao.live.set k.val then
      .next (kaoEvent 0x0C (leBytes 4 k.val) { s1 with kao := { s1.kao with pstat := putBit s1.kao.pstat (4 + k.val) true } })
    else .next (s1.kl (fun l => { l with ins := l.ins.set k.val ((l.ins.getD k.val 0 + 1) % 2 ^ 32) }))

/-- R386: input `k` has been active for `held` ms; longer than STUCK_S it is stuck. -/
def execKaoS0Stuck (k : Fin 4) (s : State) (held : Nat := 0) : Host.Outcome State Fault Refusal :=
  if s.sys.vddm && bitAt s.kao.active k.val && !bitAt s.kao.pstat k.val
      && decide (1000 * setNat s.kao.live.set (0x1B2 + 4 * k.val) 2 < held) then
    .next (kaoEvent 0x0B (leBytes 4 k.val) { s with kao := { s.kao with pstat := putBit s.kao.pstat k.val true } })
  else .next s

/-- R386: input `k` leaves the active state. -/
def execKaoS0Release (k : Fin 4) (s : State) : Host.Outcome State Fault Refusal :=
  .next { s with kao := { s.kao with active := putBit s.kao.active k.val false, pstat := putBit s.kao.pstat k.val false } }

/-! ## Verification port (R389, R400)

The manual fixes no number format for the replies: numbers are in decimal, bytes in hex, values in the manual's order with one
space between (log 131). -/

def chars (t : String) : List Nat := t.toList.map Char.toNat

/-- Hex digits, most significant first. -/
def hexDigit (v : Nat) : Nat := if v < 10 then 48 + v else 55 + v
def hexOf : Nat → Nat → List Nat
  | 0, _ => []
  | n + 1, v => hexDigit (v / 16 ^ n % 16) :: hexOf n v

/-- Decimal digits of `v`, at most `n`. -/
def decDigits : Nat → Nat → List Nat → List Nat
  | 0, _, acc => acc
  | n + 1, v, acc => if v < 10 then (48 + v) :: acc else decDigits n (v / 10) ((48 + v % 10) :: acc)
def decOf (v : Nat) : List Nat := decDigits 40 v []
def decOfI (v : Int) : List Nat := if v < 0 then 45 :: decOf v.natAbs else decOf v.natAbs

/-- Words with one space between. -/
def spaced : List (List Nat) → List Nat
  | [] => []
  | [w] => w
  | w :: ws => w ++ 32 :: spaced ws

/-- A reply: its text, "*" and the CRC-16 of R114 over it, each byte entering in the order the port sends it. -/
def vReply (t : List Nat) (s : State) : State :=
  let bits := t.flatMap (fun c => (upto 8).map (fun i => bitAt c i))
  (s.fresh).emit (.line (t ++ 42 :: hexOf 4 (crcMsb 16 0x1021 0xFFFF bits)))

/-- The port answers only while VDDM is present. -/
def vPort (t : State → List Nat) (s : State) : Host.Outcome State Fault Refusal := .next (if s.sys.vddm then vReply (t s) s else s.fresh)

/-- R400: ID. -/
def execKaoVportId (s : State) : Host.Outcome State Fault Refusal :=
  vPort (fun s =>
    let l := s.kao.live
    spaced [hexOf 4 0x4096, decOf kaoLevel, decOf l.state, hexOf 8 (checkOf l.set), decOf l.unsealCnt, decOf (l.tenths / 10), decOf l.timeInvalid.toNat]) s

/-- Totals and residues of a family, in the order of R379. -/
def famWords (f : KaoFam) : List (List Nat) :=
  [decOf (mwh f.imp), decOf (f.imp % 2 ^ 32), decOf (mwh f.exp_), decOf (f.exp_ % 2 ^ 32), decOfI (mwhI f.net), decOfI (f.net % (2 ^ 32 : Nat))]

/-- R400: TOT. -/
def execKaoVportTot (s : State) : Host.Outcome State Fault Refusal :=
  vPort (fun s => spaced (famWords s.kao.live.dc ++ famWords s.kao.live.ac)) s

/-- R400: SET. -/
def execKaoVportSet (s : State) : Host.Outcome State Fault Refusal :=
  vPort (fun s => spaced [s.kao.live.set.flatMap (fun b => hexOf 2 b.toNat), hexOf 8 (checkOf s.kao.live.set)]) s

/-- R400: REC n. -/
def execKaoVportRec (n : Nat) (s : State) : Host.Outcome State Fault Refusal :=
  vPort (fun s =>
    match s.kao.recs.find? (fun r => leNat ((r.drop 4).take 4) == n) with
    | some r => r.flatMap (fun b => hexOf 2 b.toNat)
    | none => chars "NONE") s

/-- R389: TIME t. -/
def execKaoVportTime (t : Nat) (s : State) : Host.Outcome State Fault Refusal :=
  let l := s.kao.live
  let now := l.tenths / 10
  let t := t % 2 ^ 64
  let free := decide (l.state ≠ 1) || l.timeInvalid
  let stepOk := decide (t ≤ now + 10 ∧ now ≤ t + 10) && (match l.lastStep with | none => true | some u => decide (u + 86400 ≤ now))
  if !s.sys.vddm then .next s.fresh
  else if free || stepOk then
    let s1 := kaoEvent 0x08 (leBytes 8 now ++ leBytes 8 t) s
    .next (vReply (chars "TIME") (s1.kl (fun l => { l with
      tenths := 10 * t, timeInvalid := false, flags := l.flags ||| 16, lastStep := if free then l.lastStep else some t
      ivlEnd := nextEnd l.set t })))
  else .next (vReply (chars "TIME") (kaoEvent 0x09 (leBytes 8 t) s))

/-- R400: anything else. -/
def execKaoVportOther (s : State) : Host.Outcome State Fault Refusal := vPort (fun _ => chars "ERR") s

/-! ## View (R402) -/

/-- Word `i` of the six totals, low words first. -/
def kaoTotWord (l : KaoLive) (i : Nat) : Nat :=
  let v := [mwh l.dc.imp, mwh l.dc.exp_, unsignedOf 64 (mwhI l.dc.net), mwh l.ac.imp, mwh l.ac.exp_, unsignedOf 64 (mwhI l.ac.net)].getD (i / 2) 0
  bitsAt v (32 * (i % 2)) 32

/-- R402: a read of the KAO view. -/
def rdKAO (a : Nat) (s : State) : Nat :=
  let l := s.kao.live
  let off := a - KAO.ID.addr
  if 0x4000 ≤ off ∧ off < 0x8000 then
    let j := (off - 0x4000) / 128
    match s.kao.recs.find? (fun r => leNat ((r.drop 4).take 4) % 128 == j) with
    | some r => leNat ((r.drop ((off - 0x4000) % 128)).take 4)
    | none => 0
  else if 0x20 ≤ off ∧ off < 0x50 then kaoTotWord l ((off - 0x20) / 4)
  else if 0x60 ≤ off ∧ off < 0x70 then l.ins.getD ((off - 0x60) / 4) 0
  else if off = 0x70 ∨ off = 0x74 then (l.outs.getD ((off - 0x70) / 4) {}).count
  else match off with
    | 0x00 => 0x01010000
    | 0x04 => l.state + 4 * l.dc.export_.toNat + 8 * l.ac.export_.toNat + 512 * s.kao.sealLow.toNat + 1024 * s.kao.vddmWarn.toNat
        + 2048 * l.timeInvalid.toNat
    | 0x08 => checkOf l.set
    | 0x0C => l.unsealCnt
    | 0x10 => bitsAt (l.tenths / 10) 0 32
    | 0x14 => bitsAt (l.tenths / 10) 32 32
    | 0x18 => l.blkSeq
    | 0x50 => segOf l 0 + 16 * segOf l 2 + 256 * segOf l 4
    | 0x54 => l.noload + 65536 * l.dc.rev
    | 0x78 => s.kao.pstat
    | 0x80 => (l.seq + 2 ^ 32 - 1) % 2 ^ 32
    | _ => 0

end Sys2Proof.Machine
end

