-- ==== Sys2Proof/Machine/Marl.lean ====
section
/-!
DEFINITION. The Marl island (chapter 14): R404 to R441. Each of its two channels ticks by a command of its own, in which it takes the
telegrams that have arrived, with the parameter set that it holds in force.
-/
namespace Sys2Proof.Machine

/-! ## The set in force (R431) -/

def mResetIn (p : List Byte) : Nat := setNat p 2 1
def mSbMask (p : List Byte) : Nat := setNat p 4 8
def mInEn (p : List Byte) (k : Nat) : Bool := bitAt (setNat p (0x10 + 8 * k) 1) 0
def mInAnti (p : List Byte) (k : Nat) : Bool := bitAt (setNat p (0x10 + 8 * k) 1) 1
def mDiscMs (p : List Byte) (k : Nat) : Nat := setNat p (0x12 + 8 * k) 2
def mOutMask (p : List Byte) (k : Nat) : Nat := setNat p (0x90 + 16 * k) 8
def mOutEn (p : List Byte) (k : Nat) : Bool := bitAt (setNat p (0x98 + 16 * k) 1) 0
def mOutAuto (p : List Byte) (k : Nat) : Bool := bitAt (setNat p (0x98 + 16 * k) 1) 1
/-- TP in 10 µs, and TP_INT in 100 ms. -/
def mTp (p : List Byte) (k : Nat) : Nat := setNat p (0x99 + 16 * k) 1
def mTpInt (p : List Byte) (k : Nat) : Nat := setNat p (0x9A + 16 * k) 2
def mOffChk (p : List Byte) (k : Nat) : Nat := setNat p (0x9C + 16 * k) 2
def mPairEn (p : List Byte) (i : Nat) : Bool := bitAt (setNat p (0x110 + 16 * i) 1) 0
/-- NOM, BAND, BROKEN_LO, BROKEN_HI, XTOL, HOLD_MS of a pair: index 0 to 5. -/
def mPair (p : List Byte) (i f : Nat) : Nat := setNat p (0x112 + 16 * i + 2 * f) 2
def mConnFlags (p : List Byte) (c : Nat) : Nat := setNat p (0x130 + 16 * c) 1
def mConnEn (p : List Byte) (c : Nat) : Bool := bitAt (mConnFlags p c) 0
def mSeqGap (p : List Byte) (c : Nat) : Nat := setNat p (0x131 + 16 * c) 1
def mTxMs (p : List Byte) (c : Nat) : Nat := setNat p (0x132 + 16 * c) 2
def mWdMs (p : List Byte) (c : Nat) : Nat := setNat p (0x134 + 16 * c) 2
def mRxByte (p : List Byte) (c : Nat) : Nat := setNat p (0x136 + 16 * c) 1
def mTxId (p : List Byte) (c : Nat) : Nat := setNat p (0x138 + 16 * c) 4
def mRxId (p : List Byte) (c : Nat) : Nat := setNat p (0x13C + 16 * c) 4
def mNotify (p : List Byte) (k : Nat) : Bool := bitAt (setNat p 0x170 16) k

/-- Terms that a mask may name: neither reserved nor of a disabled input, pair or connection (R431). -/
def mTermOk (p : List Byte) (t : Nat) : Bool :=
  if t < 16 then mInEn p t else if t < 18 then mPairEn p (t - 16) else if t = 18 then true
  else if t < 32 then false else mConnEn p ((t - 32) / 8)

def mMaskOk (p : List Byte) (mask : Nat) : Bool := (upto 64).all (fun t => !bitAt mask t || mTermOk p t)

/-- Bytes that must be zero. -/
def mReservedZero (p : List Byte) : Bool :=
  let z := fun a n => ((p.drop a).take n).all (· == 0)
  z 3 1 && z 0xC 4 && (upto 16).all (fun k => z (0x11 + 8 * k) 1 && z (0x14 + 8 * k) 4) && (upto 8).all (fun k => z (0x9E + 16 * k) 2)
    && (upto 2).all (fun i => z (0x111 + 16 * i) 1 && z (0x11E + 16 * i) 2) && (upto 4).all (fun c => z (0x137 + 16 * c) 1) && z 0x180 128

/-- Is `v` in lo … hi? -/
def within (lo hi v : Nat) : Bool := decide (lo ≤ v ∧ v ≤ hi)

/-- No two of a list are equal. -/
def allDiffer : List Nat → Bool
  | [] => true
  | x :: xs => !xs.contains x && allDiffer xs

/-- A payload of the declared length is valid (R431, R433). -/
def marlSetOk (len : Nat) (p : List Byte) : Bool :=
  let conns := (upto 4).filter (mConnEn p)
  len == 512 && p.length == 512 && setNat p 0 2 == 1 && decide (mResetIn p < 16) && mInEn p (mResetIn p) && mReservedZero p
    && mMaskOk p (mSbMask p)
    && (upto 16).all (fun k => decide (setNat p (0x10 + 8 * k) 1 < 4) && within 10 2000 (mDiscMs p k))
    && (upto 8).all (fun k => mMaskOk p (mOutMask p k) && decide (setNat p (0x98 + 16 * k) 1 < 4) && within 10 50 (mTp p k)
        && within 10 600 (mTpInt p k) && within 1 100 (mOffChk p k))
    && (upto 2).all (fun i => decide (setNat p (0x110 + 16 * i) 1 < 2) && within 0 4095 (mPair p i 0) && within 1 1023 (mPair p i 1)
        && decide (mPair p i 2 + mPair p i 1 < mPair p i 0) && within (mPair p i 0 + mPair p i 1 + 1) 4095 (mPair p i 3)
        && within 1 255 (mPair p i 4) && within 10 10000 (mPair p i 5))
    && (upto 4).all (fun c => decide (mConnFlags p c < 16) && within 1 64 (mSeqGap p c) && within 1 500 (mTxMs p c) && within 2 1000 (mWdMs p c)
        && decide (mTxMs p c < mWdMs p c) && within 0 15 (mRxByte p c) && mTxId p c != 0 && mRxId p c != 0
        && (upto 4).all (fun d => mRxId p c != mTxId p d) && (!mConnEn p c || bitsAt (mConnFlags p c) 2 2 != 0))
    && allDiffer (conns.map (mTxId p)) && allDiffer (conns.map (mRxId p))

/-! ## Events (R441) -/

def State.marlMod (s : State) (f : Marl → Marl) : State := { s with marl := f s.marl }

/-- A channel, and changing it. -/
def Marl.ch (m : Marl) (b : Bool) : MarlCh := if b then m.b else m.a
def State.chMod (s : State) (b : Bool) (f : MarlCh → MarlCh) : State :=
  s.marlMod (fun m => if b then { m with b := f m.b } else { m with a := f m.a })

/-- The set in force, as the view shows it: Marl A's. -/
def Marl.set (m : Marl) : List Byte := m.a.set

/-- An event record crosses the view seam. -/
def marlEvent (code index data : Nat) (s : State) : State :=
  let r := leBytes 4 s.marl.seq ++ leBytes 1 code ++ leBytes 1 index ++ leBytes 2 0 ++ leBytes 4 data ++ leBytes 4 s.marl.a.ticks
  (s.marlMod (fun m => { m with recs := (r :: m.recs).take 64, seq := (m.seq + 1) % 2 ^ 32 })).setFlag SYS.MRL_EVT.PEND true

/-! ## Terms (R421) -/

/-- Does term `t` read 1 in a channel? -/
def termOn (p : List Byte) (c : MarlCh) (t : Nat) : Bool :=
  if t < 16 then mInEn p t && (c.ins.getD t {}).on && !(c.ins.getD t {}).disc
  else if t < 18 then
    let x := c.pairs.getD (t - 16) {}
    mPairEn p (t - 16) && x.term && !x.broken && !x.xc
  else if t = 18 then !c.notify
  else if t < 32 then false
  else
    let n := (t - 32) / 8
    let x := c.conns.getD n {}
    mConnEn p n && x.st == 2 && bitAt (x.data.getD (mRxByte p n) 0).toNat (t % 8)

/-- Does every term of a mask read 1? -/
def termsOn (p : List Byte) (c : MarlCh) (mask : Nat) : Bool := (upto 64).all (fun t => !bitAt mask t || termOn p c t)

/-! ## One tick of one channel (R406) -/

/-- Contacts of input `k` show the safe pattern, the on pattern (R408). -/
def showsSafe (p : List Byte) (k c1 c2 : Nat) : Bool := !bitAt c1 k && (bitAt c2 k == mInAnti p k)
def showsOn (p : List Byte) (k c1 c2 : Nat) : Bool := bitAt c1 k && (bitAt c2 k != mInAnti p k)

/-- R409, but for the latching of the fault, which MARL_DISC_FAULT or the next tick does. -/
def inTick (p : List Byte) (k c1 c2 : Nat) (x : MarlIn) : MarlIn :=
  if !mInEn p k then {}
  else if showsOn p k c1 c2 then { x with count := 0, on := (x.on || x.bothSafe) && !x.disc }
  else if showsSafe p k c1 c2 then { x with count := 0, on := false, bothSafe := true }
  else { x with count := x.count + 1, on := false, bothSafe := false }

/-- A discrepancy fault is due. -/
def discDue (p : List Byte) (k : Nat) (x : MarlIn) : Bool := mInEn p k && !x.disc && decide (mDiscMs p k ≤ x.count)

/-- R420, R419: a pair's step with the two codes of this tick. -/
def pairTick (p : List Byte) (i own other : Nat) (x : MarlPair) : MarlPair :=
  let brk := fun r => decide (r < mPair p i 2 ∨ mPair p i 3 < r)
  let absent := fun (r : Nat) => decide (((r : Int) - (mPair p i 0 : Nat)).natAbs ≤ mPair p i 1)
  let b := brk own || brk other
  let xd := decide (((own : Int) - (other : Int)).natAbs > mPair p i 4)
  let bRun := if b then x.brokenRun + 1 else 0
  let xRun := if xd then x.xcRun + 1 else 0
  let both := absent own && absent other
  let hold := if both then min (x.hold + 1) (mPair p i 5) else 0
  let broken := x.broken || decide (2 ≤ bRun)
  let xc := x.xc || decide (3 ≤ xRun)
  if !mPairEn p i then {}
  else { term := both && decide (mPair p i 5 ≤ hold) && !broken && !xc, hold := hold, broken := broken, xc := xc, brokenRun := bRun, xcRun := xRun }

/-- R417: STUCK and LOST of an output with its readback; `open_` says that a test window of the output is open. A tick in a window, or less than
a tick after its end, is none that LOST counts, and breaks the run. -/
def outCheck (p : List Byte) (k : Nat) (open_ rb : Bool) (x : MarlOut) : MarlOut :=
  let age := if open_ then 0 else min 2 (x.winAge + 1)
  let off := if x.cmd then 0 else x.offTicks + 1
  let low := if x.cmd && !rb && age == 2 then x.lowRun + 1 else 0
  let stuck := !x.cmd && rb && decide (mOffChk p k ≤ off)
  let lost := decide (2 ≤ low)
  if !mOutEn p k then { x with winAge := age }
  else { x with winAge := age, winTicks := x.winTicks + 1, offTicks := off, lowRun := low
                faults := x.faults ||| stuck.toNat ||| (2 * lost.toNat) }

/-- CRC of a telegram's first 28 bytes for a connection identity (R426). -/
def telegramCrc (ident : Nat) (bs : List Byte) : Nat :=
  crcMsb 32 0x1EDC6F41 ident ((bs.take 28).flatMap (fun b => bitsMsb 8 b.toNat)) ^^^ 0xFFFFFFFF

/-- R428, R429: one channel takes a telegram of connection `n`. -/
def connRx (p : List Byte) (n : Nat) (t : List Byte) (x : MarlConn) : MarlConn :=
  let seq := leNat ((t.drop 4).take 4)
  let good := t.length == 32 && leNat ((t.drop 28).take 4) == telegramCrc (mRxId p n) t && leNat (t.take 4) == mRxId p n
    && (t.getD 8 0) == 1#8
  let d := (seq + 2 ^ 32 - x.last) % 2 ^ 32
  let take := fun (x : MarlConn) => { x with last := seq, wd := 0, data := (t.drop 12).take 16, echo := leNat ((t.drop 10).take 2) }
  if !good then { x with crcErr := satAdd 16 x.crcErr 1 }
  else if x.st = 0 then { x with last := seq, wd := 0, st := 1, acc := 0 }
  else if d = 0 then { x with dup := satAdd 16 x.dup 1 }
  else if d ≤ mSeqGap p n then
    let y := take x
    if x.st = 1 && bitAt (mConnFlags p n) 1 then { y with acc := x.acc + 1, st := if 2 ≤ x.acc + 1 then 2 else 1 } else y
  else { x with seqErr := satAdd 16 x.seqErr 1 }

/-- The connection a telegram belongs to: by CONN_ID, else none in particular and every enabled connection counts it (log 116). -/
def telegramTo (p : List Byte) (t : List Byte) : List Nat :=
  let en := (upto 4).filter (mConnEn p)
  match en.filter (fun n => mRxId p n == leNat (t.take 4)) with
  | [] => en
  | l => l

/-- A watchdog expires: back to SYNC, received terms 0, its event due (R429). -/
def connExpire (x : MarlConn) : MarlConn := { x with st := 0, wd := 0, acc := 0, data := List.replicate 16 0#8, expired := true }

/-- R428, R429: connection `n` in a tick: it takes the telegrams that have arrived in order, and its watchdog expires at the tick at which
WD_MS ticks have passed since the last acceptance. -/
def connTick (p : List Byte) (ts : List (List Byte)) (n : Nat) (x : MarlConn) : MarlConn :=
  if !mConnEn p n then x
  else
    let x1 := if x.st = 0 then x else { x with wd := x.wd + 1 }
    let x2 := (ts.filter (fun t => (telegramTo p t).contains n)).foldl (fun x t => connRx p n t x) x1
    if x2.st ≠ 0 ∧ mWdMs p n ≤ x2.wd then connExpire x2 else x2

/-- R422 without the awaiting-restart condition. -/
def outCond (run : Bool) (p : List Byte) (c : MarlCh) (k : Nat) : Bool :=
  run && mOutEn p k && termsOn p c (mOutMask p k) && (c.outs.getD k {}).faults == 0

/-- R413: a reset request that completes in this tick. -/
def resetTick (run : Bool) (p : List Byte) (other : MarlCh) (c : MarlCh) : MarlCh :=
  let ok := fun i =>
    let lo := mPair p i 2
    let hi := mPair p i 3
    let x := c.codes.getD i 0
    let y := other.codes.getD i 0
    within lo hi x && within lo hi y && decide (((x : Int) - (y : Int)).natAbs ≤ mPair p i 4)
  let c1 := { c with
    ins := c.ins.zipIdx.map (fun (x : MarlIn × Nat) => if x.2 != mResetIn p && showsSafe p x.2 c.c1 c.c2 then { x.1 with disc := false, count := 0 } else x.1)
    pairs := c.pairs.zipIdx.map (fun (x : MarlPair × Nat) => if ok x.2 then { x.1 with broken := false, xc := false } else x.1)
    notify := false
    conns := c.conns.map (fun (x : MarlConn) => if x.st = 1 then { x with st := 2 } else x) }
  { c1 with outs := c.outs.zipIdx.map (fun (x : MarlOut × Nat) =>
      if x.1.faults != 0 then
        (if !x.1.cmd && !bitAt c.rb x.2 then { x.1 with faults := 0, wait := true } else x.1)
      else if outCond run p c1 x.2 then { x.1 with wait := false } else x.1) }

/-- R422: the output commands. -/
def outsTick (run : Bool) (p : List Byte) (c : MarlCh) : MarlCh :=
  { c with outs := c.outs.zipIdx.map (fun (x : MarlOut × Nat) =>
      let on := outCond run p c x.2 && !x.1.wait
      { x.1 with cmd := on, wait := x.1.wait || (x.1.cmd && !on && !mOutAuto p x.2 && run), offTicks := if on then 0 else x.1.offTicks }) }

/-- The items that the channels compare (R407). -/
def compared (c : MarlCh) : List Nat :=
  c.ins.map (·.on.toNat) ++ c.pairs.map (·.term.toNat) ++ c.conns.map (·.st) ++ c.outs.map (·.cmd.toNat) ++ [c.sb.toNat]

/-- Consecutive ticks of difference, item by item. -/
def diffTick : List Nat → List Nat → List Nat → List Nat
  | x :: xs, y :: ys, d => (if x = y then 0 else d.headD 0 + 1) :: diffTick xs ys d.tail
  | _, _, _ => []

/-- One tick of a channel: the channel after it, and whether a reset request was taken. `other` is its partner. -/
def chTick (run : Bool) (p : List Byte) (other : MarlCh) (c1 c2 rb : Nat) (codes : List Nat) (c : MarlCh) : MarlCh × Bool :=
  let r := mResetIn p
  -- samples, and the partner's latched faults
  let x0 := { c with
    c1 := c1, c2 := c2, rb := rb, codes := codes, ticks := (c.ticks + 1) % 2 ^ 32, rx := []
    ins := c.ins.zipWith (fun (x y : MarlIn) => { x with disc := x.disc || y.disc }) other.ins
    outs := c.outs.zipWith (fun (x y : MarlOut) => { x with faults := x.faults ||| y.faults }) other.outs
    pairs := c.pairs.zipWith (fun (x y : MarlPair) => { x with broken := x.broken || y.broken, xc := x.xc || y.xc }) other.pairs }
  let wasOn := (c.ins.getD r {}).on
  -- inputs, pairs, connections, readbacks
  let x1 := { x0 with
    ins := x0.ins.zipIdx.map (fun (x : MarlIn × Nat) => inTick p x.2 c1 c2 x.1)
    pairs := x0.pairs.zipIdx.map (fun (x : MarlPair × Nat) => pairTick p x.2 (codes.getD x.2 0) (other.codes.getD x.2 0) x.1)
    conns := x0.conns.zipIdx.map (fun (x : MarlConn × Nat) => connTick p c.rx x.2 x.1)
    outs := x0.outs.zipIdx.map (fun (x : MarlOut × Nat) => outCheck p x.2 (x.1.win || (other.outs.getD x.2 {}).win) (bitAt rb x.2) x.1) }
  let safe := showsSafe p r c1 c2
  let x2 := { x1 with
    safeRun := if safe then c.safeRun + 1 else 0
    ins := if decide (1000 ≤ c.safeRun) then x1.ins.set r { (x1.ins.getD r {}) with disc := false } else x1.ins }
  let isOn := (x2.ins.getD r {}).on
  let done := wasOn && !isOn && within 50 2000 c.onRun && !c.supp
  let x3 := { x2 with onRun := if isOn then c.onRun + 1 else 0, supp := c.supp && !(safe || (wasOn && !isOn)) }
  let x4 := if done then resetTick run p other x3 else x3
  let x5 := outsTick run p x4
  ({ x5 with sb := !run || !termsOn p x5 (mSbMask p) }, done)

/-- Channel faults that are new against both channels before: their events (R409, R417, R420). -/
def faultEvents (old other new : MarlCh) (s : State) : State :=
  let s1 := (upto 8).foldl (fun s k =>
    let f := (new.outs.getD k {}).faults &&& (15 ^^^ ((old.outs.getD k {}).faults ||| (other.outs.getD k {}).faults))
    if f != 0 then marlEvent 0x08 k f s else s) s
  (upto 2).foldl (fun s i =>
    let n := new.pairs.getD i {}
    let o := old.pairs.getD i {}
    let q := other.pairs.getD i {}
    if (n.broken && !o.broken && !q.broken) || (n.xc && !o.xc && !q.xc) then marlEvent 0x09 i 0 s else s) s1

/-- Latch the discrepancy faults of channel `b` that are due, of the inputs in `ks`. -/
def discLatch (b : Bool) (ks : List Nat) (s : State) : State :=
  ks.foldl (fun s k =>
    let x := (s.marl.ch b).ins.getD k {}
    if discDue (s.marl.ch b).set k x then
      let s1 := s.chMod b (fun c => { c with ins := c.ins.set k { x with disc := true } })
      if ((s.marl.ch (!b)).ins.getD k {}).disc then s1 else marlEvent 0x06 k 0 s1
    else s) s

/-- The watchdogs of channel `b` that have expired, of the connections in `cs`, are counted, with their events. -/
def connLatch (b : Bool) (cs : List Nat) (s : State) : State :=
  cs.foldl (fun s c =>
    let x := (s.marl.ch b).conns.getD c {}
    if x.expired then
      let s1 := s.chMod b (fun h => { h with conns := h.conns.set c { x with expired := false, timeouts := satAdd 16 x.timeouts 1 } })
      if b then s1 else marlEvent 0x0A c 0 s1
    else s) s

/-- An internal fault halts the channels in FAULT (R437, R438). -/
def marlHalt (s : State) : State :=
  if s.marl.found = 0 ∨ s.marl.state = 2 then s
  else
    let off := fun (c : MarlCh) => { c with sb := true, outs := c.outs.map (fun (o : MarlOut) => { o with cmd := false, win := false }) }
    (marlEvent 0x0E s.marl.found 0 s).marlMod (fun m => { m with state := 2, fault := m.found, found := 0, a := off m.a, b := off m.b })

/-- R407, R438: supervision of the partner after a tick of channel `b`. -/
def superviseTick (b : Bool) (s : State) : State :=
  let c := s.marl.ch b
  let o := s.marl.ch (!b)
  let d := diffTick (compared c) (compared o) c.diff
  let full := decide (100 ≤ c.own + 1)
  let bad := if d.any (fun n => decide (3 ≤ n)) then 1
    else if full && !within 99 101 c.partner then 2 else if 3 ≤ c.gap + 1 then 5 else 0
  let s1 := s.chMod b (fun c => { c with diff := d, own := if full then 0 else c.own + 1, partner := if full then 0 else c.partner, gap := c.gap + 1 })
  let s2 := s1.chMod (!b) (fun o => { o with partner := o.partner + 1, gap := 0 })
  s2.marlMod (fun m => if m.found = 0 then { m with found := bad } else m)

/-- What channel `b` finds of the confirmation value `w` with its latest samples: 0 accepted, else the reason (R434). -/
def confFinds (m : Marl) (b : Bool) (w : Nat) : Nat :=
  match m.held with
  | none => 1
  | some p => if w ≠ checkOf p then 2 else if showsOn p (mResetIn p) (m.ch b).c1 (m.ch b).c2 then 0 else 3

/-- After a tick of channel `b`: it evaluates a confirmation that waits, and once both have, the outcome stands (R434). -/
def confTick (b : Bool) (s : State) : State :=
  match s.marl.conf with
  | none => s
  | some w =>
    let m := s.marl
    let fa := if b then m.confA else some (m.confA.getD (confFinds m false w))
    let fb := if b then some (m.confB.getD (confFinds m true w)) else m.confB
    let s1 := s.marlMod (fun m => { m with confA := fa, confB := fb })
    match fa, fb with
    | some x, some y =>
      let s2 := s1.marlMod (fun m => { m with conf := none, confA := none, confB := none })
      if x ≠ y then marlEvent 0x04 4 0 s2
      else if x = 0 then s2.marlMod (fun m => { m with storing := m.held })
      else marlEvent 0x04 x 0 s2
    | _, _ => s1

/-- A mask of a list of truth values. -/
def maskOf (l : List Bool) : Nat := l.foldr (fun b m => b.toNat + 2 * m) 0

/-- A channel with set `p` newly in force: inputs restart with their recorded contacts in the safe pattern, outputs await restart, connections
are in SYNC (R411, R416, R429, R435); latched faults stay till their own clearing conditions hold (R412, R417, R420; log 116). -/
def chRestart (p : List Byte) (c : MarlCh) : MarlCh :=
  { c with
    set := p, next := none, c1 := 0, c2 := maskOf ((upto 16).map (mInAnti p))
    ins := c.ins.map (fun (x : MarlIn) => { disc := x.disc })
    pairs := c.pairs.map (fun (x : MarlPair) => { broken := x.broken, xc := x.xc })
    outs := c.outs.map (fun (o : MarlOut) => { o with cmd := false, wait := true, offTicks := if o.cmd then 0 else o.offTicks, lowRun := 0
                                                      win := false, winOk := false, winTicks := 0, winMid := false })
    conns := c.conns.map (fun (x : MarlConn) => { x with st := 0, wd := 0, acc := 0, data := List.replicate 16 0#8 })
    notify := false, onRun := 0, safeRun := 0, supp := true }

/-- R435: at its next tick channel `b` takes a set that has been stored; with Marl A's the event and the outcome come. -/
def takeSet (b : Bool) (s : State) : State :=
  match (s.marl.ch b).next with
  | none => s
  | some p =>
    let s1 := (s.chMod b (chRestart p)).marlMod (fun m => { m with state := 1 })
    if b then s1
    else (marlEvent 0x03 0 (checkOf p) (s1.marlMod (fun m => { m with held := none, txTicks := [0, 0, 0, 0], mismatch := [0, 0, 0, 0] }))).setFld
      IMG.STAT.MRL_PROP 1

/-- R415, R416: what a change of commands from `old` to `new` in one channel does to the test windows that are open in either: their results
are discarded. -/
def winDemand (old new : List MarlOut) (c : MarlCh) : MarlCh :=
  { c with outs := c.outs.zipIdx.map (fun (x : MarlOut × Nat) =>
      if (old.getD x.2 {}).cmd == (new.getD x.2 {}).cmd then x.1 else { x.1 with winOk := false }) }

/-- What a channel says of itself in a telegram: safe block, inputs, commands, pair and notify terms, discrepancies, output faults, and for
each connection RUN and the SEQ accepted last (R425). -/
def said (c : MarlCh) : List Nat :=
  [c.sb.toNat] ++ c.ins.map (·.on.toNat) ++ c.outs.map (·.cmd.toNat) ++ [16, 17, 18].map (fun t => (termOn c.set c t).toNat)
    ++ c.ins.map (·.disc.toNat) ++ c.outs.map (fun o => (o.faults != 0).toNat) ++ c.conns.map (fun x => (x.st == 2).toNat)
    ++ c.conns.map (fun x => x.last % 65536)

/-- The states in agreement, item by item: where the channels differ, the one that they agreed on last. -/
def agree : List Nat → List Nat → List Nat → List Nat
  | x :: xs, y :: ys, d => (if x = y then x else d.headD 0) :: agree xs ys d.tail
  | _, _, _ => []

/-- R406: one tick of Marl A, or of Marl B (`b`), with what it samples. -/
def execMarlTick (b : Bool) (c1 c2 : Fin 65536) (rb : Fin 256) (code0 code1 : Fin 4096) (s : State) : Host.Outcome State Fault Refusal :=
  let s0 := marlHalt s
  if !s.sys.vddf || s0.marl.state == 2 then .next s0
  else
    let s1 := takeSet b (connLatch b (upto 4) (discLatch b (upto 16) s0))
    let m := s1.marl
    let c := m.ch b
    let r := chTick (m.state == 1 && !c.set.isEmpty) c.set (m.ch (!b)) c1.val c2.val rb.val [code0.val, code1.val] c
    let sd := (s1.chMod b (fun _ => winDemand c.outs r.1.outs r.1)).chMod (!b) (winDemand c.outs r.1.outs)
    let s2 := faultEvents (m.ch b) (m.ch (!b)) r.1 (sd.marlMod (fun m => { m with agreed := agree (said m.a) (said m.b) m.agreed }))
    let s3 := if r.2 && !b then marlEvent 0x0C 0 0 s2 else s2
    let s4 := if b then s3
      else (upto 16).foldl (fun s k => if (m.a.ins.getD k {}).disc && !(r.1.ins.getD k {}).disc then marlEvent 0x07 k 0 s else s) s3
    let s5 := if b then s4
      else (upto 4).foldl (fun s c => if (m.a.conns.getD c {}).st = 1 && (r.1.conns.getD c {}).st == 2 then marlEvent 0x0B c 0 s else s) s4
    let s6 := if b then s5 else s5.marlMod (fun m => { m with txTicks := m.txTicks.map (· + 1) })
    .next (superviseTick b (confTick b s6))

/-- R409: the discrepancy count of input `k` has reached DISC_MS. -/
def execMarlDiscFault (k : Fin 16) (s : State) : Host.Outcome State Fault Refusal :=
  .next (if s.sys.vddf && s.marl.state != 2 then discLatch true [k.val] (discLatch false [k.val] s) else s)

/-- R429: WD_MS ticks have passed without an accepted telegram, and the connection went back to SYNC at that tick: its event and count. -/
def execConnTimeout (c : Fin 4) (s : State) : Host.Outcome State Fault Refusal :=
  .next (if s.sys.vddf && s.marl.state != 2 then connLatch true [c.val] (connLatch false [c.val] s) else s)

/-- A test window of output `k` is due: of Marl A every TP_INT, of Marl B at the midpoint between two of Marl A (R415). -/
def windowDue (m : Marl) (b : Bool) (k : Nat) : Bool :=
  let x := m.a.outs.getD k {}
  let n := mTpInt (m.ch b).set k
  if b then !x.winMid && decide (50 * n ≤ x.winTicks) else decide (100 * n ≤ x.winTicks)

/-- The windows of output `k` are counted from the one made now. -/
def windowMade (b : Bool) (k : Nat) (s : State) : State :=
  s.chMod false (fun c => { c with outs := c.outs.set k (
    let x := c.outs.getD k {}
    if b then { x with winMid := true } else { x with winTicks := 0, winMid := false }) })

/-- Change output `k` of channel `b`. -/
def State.outMod (s : State) (b : Bool) (k : Nat) (f : MarlOut → MarlOut) : State :=
  s.chMod b (fun c => { c with outs := c.outs.set k (f (c.outs.getD k {})) })

/-- R415: a test window of Marl A or B on output `k` opens where one is due: its owner holds its pin low for TP. -/
def windowOpen (b : Bool) (k : Nat) (s : State) : State :=
  let m := s.marl
  let x := (m.ch b).outs.getD k {}
  if windowDue m b k && !x.win then
    windowMade b k ((s.emit (.window b k (10 * mTp (m.ch b).set k))).outMod b k (fun x => { x with win := true, winOk := x.cmd }))
  else s

/-- R415 to R417: the open window of Marl A or B on output `k` ends, `rb` being its readback sample: where the command was on throughout and no
demand arose, a high readback is a fault of the owner's switch. -/
def windowEnd (b : Bool) (k : Nat) (rb : Bool) (s : State) : State :=
  let c := s.marl.ch b
  let x := c.outs.getD k {}
  if x.win then
    let bit := if b then 8 else 4
    let hit := x.winOk && x.cmd && rb
    let s1 := s.outMod b k (fun x => { x with
      win := false, winOk := false, winAge := 0, faults := (if hit then x.faults ||| bit else x.faults), cmd := x.cmd && !hit
      wait := x.wait || (hit && !mOutAuto c.set k) })
    let s2 := s1.outMod (!b) k (fun x => { x with winAge := 0 })
    if hit && x.faults &&& bit == 0 then marlEvent 0x08 k bit s2 else s2
  else s

/-- R415, R417: a test window of Marl A or B on output `k` opens, or the one that is open ends (`ends`) with readback sample `rb`. -/
def execMarlTestWindow (b : Bool) (k : Fin 8) (rb ends : Bool) (s : State) : Host.Outcome State Fault Refusal :=
  let m := s.marl
  if !s.sys.vddf || m.state != 1 || !mOutEn (m.ch b).set k.val then .next s.fresh
  else .next (if ends then windowEnd b k.val rb s.fresh else windowOpen b k.val s.fresh)

/-! ## Telegrams (R425 to R429) -/

/-- The telegram of connection `n` as a channel with set `p` has it, from the states that both channels held in agreement at the last tick (R427). -/
def telegram (m : Marl) (p : List Byte) (n : Nat) : List Byte :=
  let at_ := fun (i k : Nat) => maskOf (((m.agreed.drop i).take k).map (· != 0))
  let body := leBytes 4 (mTxId p n) ++ leBytes 4 (m.txSeq.getD n 0) ++ [1#8]
    ++ leBytes 1 ((m.state == 1).toNat + 2 * at_ 0 1 + 4 * at_ (52 + n) 1)
    ++ leBytes 2 (m.agreed.getD (56 + n) 0) ++ leBytes 2 (at_ 1 16) ++ leBytes 1 (at_ 17 8) ++ leBytes 1 (at_ 25 3)
    ++ leBytes 2 (at_ 28 16) ++ leBytes 1 (at_ 44 8) ++ leBytes 9 0
  body ++ leBytes 4 (telegramCrc (mTxId p n) body)

/-- Six address bytes. -/
def macBytes (lo hi : Nat) : List Byte := leBytes 4 lo ++ leBytes 2 hi

/-- R457: the Ethernet frame of a telegram on port `p`. -/
def telegramFrame (s : State) (n p : Nat) (t : List Byte) : List Byte :=
  let lo := s.rd (ETH.MRL_DA_LO.addr + 8 * n)
  let hi := s.rd (ETH.MRL_DA_HI.addr + 8 * n)
  let tag := if bitAt hi 31 then [0x81#8, 0x00#8] ++ (leBytes 2 (bitsAt hi 28 3 * 8192 + bitsAt hi 16 12)).reverse else []
  let f := macBytes lo hi ++ macBytes (s.rd (ETH.MAC_LO.addr + 0x1000 * p)) (s.rd (ETH.MAC_HI.addr + 0x1000 * p)) ++ tag
    ++ [0x88#8, 0xB5#8] ++ t ++ List.replicate 14 0#8
  f ++ leBytes 4 (crc32 f)

/-- Station clod running. -/
def stationOn (s : State) : Bool := s.sys.role == .hub && !s.sys.inReset && s.flag SYS.CLOD_PWR.STN_EN && !bitAt s.clk.lost 1

/-- Port `p` can send: enabled, and its link is up. -/
def portUp (s : State) (p : Nat) : Bool := stationOn s && s.flag (ETH.PCFG.EN.at (0x1000 * p)) && s.flag (ETH.PSTAT.LINK.at (0x1000 * p))

def State.stMod (s : State) (f : Station → Station) : State := { s with station := f s.station }
def State.port (s : State) (p : Nat) : EthPort := s.station.ports.getD p {}
def State.portMod (s : State) (p : Nat) (f : EthPort → EthPort) : State := s.stMod (fun t => { t with ports := t.ports.set p (f (t.ports.getD p {})) })

/-- A frame leaves over port `p`; over one that is not up it goes nowhere (log 118). -/
def portEmit (p : Nat) (f : List Byte) (s : State) : State := if portUp s p then s.emit (.bytes p f) else s

/-- A port with nothing on the wire starts its next frame: a telegram that waits before a host frame not yet started (R452, R457). -/
def portStart (p : Nat) (s : State) : State :=
  match (s.port p).wire, (s.port p).telegrams, (s.port p).host with
  | none, f :: fs, _ => (portEmit p f s).portMod p (fun x => { x with wire := some true, telegrams := fs })
  | none, [], some f => (portEmit p f s).portMod p (fun x => { x with wire := some false, host := none })
  | _, _, _ => s

/-- R427: TX_MS ticks of Marl A have passed: connection `n` builds, checks and sends its telegram. -/
def execMarlTelegramSend (n : Fin 4) (s : State) : Host.Outcome State Fault Refusal :=
  let m := s.marl
  if !s.sys.vddf || m.state != 1 || !mConnEn m.set n.val || decide (m.txTicks.getD n.val 0 < mTxMs m.set n.val) then .next s.fresh
  else
    let ta := telegram m m.a.set n.val
    let s1 := s.fresh.marlMod (fun m => { m with txTicks := m.txTicks.set n.val 0 })
    if ta = telegram m m.b.set n.val then
      let s2 := s1.marlMod (fun m => { m with txSeq := m.txSeq.set n.val ((m.txSeq.getD n.val 0 + 1) % 2 ^ 32), mismatch := m.mismatch.set n.val 0 })
      let ports := (upto 2).filter (fun p => bitAt (mConnFlags m.set n.val) (2 + p) && portUp s p)
      .next (ports.foldl (fun s p =>
        portStart p (s.portMod p (fun x => { x with telegrams := x.telegrams ++ [telegramFrame s n.val p ta] }))) s2)
    else
      let k := m.mismatch.getD n.val 0 + 1
      .next (s1.marlMod (fun m => { m with mismatch := m.mismatch.set n.val k, found := if decide (3 ≤ k) && m.found == 0 then 3 else m.found }))

/-- R428, R458: the oldest telegram at the telegram seam arrives at both channels; each takes it, accepts, drops or counts it, in its next
tick (R406). An island that does not tick takes none. -/
def execMarlTelegramRx (s : State) : Host.Outcome State Fault Refusal :=
  match s.marl.seam with
  | [] => .next s
  | t :: ts =>
    let f := fun (c : MarlCh) => if s.sys.vddf && s.marl.state != 2 then { c with rx := c.rx ++ [padTo 32 t] } else c
    .next (s.marlMod (fun m => { m with a := f m.a, b := f m.b, seam := ts }))

/-- R424: the number of a routed event arrives over S-PRM. -/
def execMarlNotify (k : Fin 128) (s : State) : Host.Outcome State Fault Refusal :=
  if s.sys.vddf && s.marl.state != 2 && mNotify s.marl.set k.val then
    let f := fun (c : MarlCh) => { c with notify := c.notify || mNotify c.set k.val }
    .next (marlEvent 0x0D k.val 0 (s.marlMod (fun m => { m with a := f m.a, b := f m.b })))
  else .next s

/-! ## Proposal and confirmation (R432 to R436) -/

/-- R433: the island decides on what the loader handed over. -/
def execMarlProposal (s : State) : Host.Outcome State Fault Refusal :=
  match s.marl.handed with
  | none => .next s
  | some h =>
    let s0 := s.marlMod (fun m => { m with handed := none })
    if !s.sys.vddf || s.marl.state == 2 then .next s0
    else match h with
      | none => .next ((s0.marlMod (fun m => { m with held := none })).setFld IMG.STAT.MRL_PROP 0)
      | some (p, len, cmin, cmax) =>
        if ¬ (cmin ≤ 1 ∧ 1 ≤ cmax) then .next ((marlEvent 0x02 1 0 s0).setFld IMG.STAT.MRL_PROP 2)
        else if !marlSetOk len p then .next ((marlEvent 0x02 2 0 s0).setFld IMG.STAT.MRL_PROP 3)
        else if !s.marl.set.isEmpty && checkOf p == checkOf s.marl.set then .next ((s0.marlMod (fun m => { m with held := none })).setFld IMG.STAT.MRL_PROP 1)
        else .next ((marlEvent 0x01 0 (checkOf p) (s0.marlMod (fun m => { m with held := some p }))).setFld IMG.STAT.MRL_PROP 4)

/-- CONF_BUSY: a confirmation awaits its outcome, is being stored, or a channel has not yet taken the set (R434, R435). -/
def confBusy (m : Marl) : Bool := m.conf.isSome || m.storing.isSome || m.a.next.isSome || m.b.next.isSome

/-- R434: a write to MRL.CONFIRM crosses the command seam and awaits its outcome. -/
def marlConfirm (w : Nat) (s : State) : WriteResult :=
  let m := s.marl
  if confBusy m then .error causeBusy
  else if !s.sys.vddf || m.state == 2 then .ok s
  else .ok (s.marlMod (fun m => { m with conf := some w, confA := none, confB := none }))

/-- One more than the count of a channel's parameter record; 0 for one that is not valid. -/
def recCount (r : Option (Nat × List Byte)) : Nat := match r with | some x => x.1 + 1 | none => 0

/-- A channel stores a set into the older of its two records, an invalid one being the older; `done` says that the storing finished. -/
def chStore (p : List Byte) (done : Bool) (c : MarlCh) : MarlCh :=
  let r0 := recCount (c.recs.getD 0 none)
  let r1 := recCount (c.recs.getD 1 none)
  { c with recs := c.recs.set (if r0 ≤ r1 then 0 else 1) (if done then some (max r0 r1, p) else none) }

/-- R435: both channels have stored the accepted set; each takes it at its next tick. -/
def execMarlConfirmStored (s : State) : Host.Outcome State Fault Refusal :=
  match s.marl.storing with
  | none => .next s
  | some p =>
    if !s.sys.vddf || s.marl.state == 2 then .next s
    else
      let f := fun c => { chStore p true c with next := some p }
      .next (s.marlMod (fun m => { m with a := f m.a, b := f m.b, storing := none }))

/-- A channel's valid record with the higher count. -/
def chLoad (c : MarlCh) : Option (List Byte) :=
  match c.recs.getD 0 none, c.recs.getD 1 none with
  | some a, some b => some (if b.1 ≤ a.1 then a.2 else b.2)
  | some a, none => some a.2
  | none, some b => some b.2
  | none, none => none

/-- R436, R16: VDDF comes up, in a hub. A channel that has ever held a record holds a valid one, since a storing overwrites the older. The
telegram sequence numbers start from values of a noise source (R427). -/
def execMarlPowerOn (s : State) : Host.Outcome State Fault Refusal :=
  if s.sys.role ≠ Role.hub ∨ s.sys.vddf = true then .next s
  else
  let old := s.marl
  let la := chLoad old.a
  let lb := chLoad old.b
  let set := match la, lb with
    | some p, some q => if checkOf p = checkOf q then p else []
    | _, _ => []
  let f := fun (c : MarlCh) => { ({} : MarlCh) with recs := c.recs, set := set, c2 := maskOf ((upto 16).map (mInAnti set)) }
  let seqs := (upto 4).map (fun i => Config.free 121 (s.freeCtr + i) % 2 ^ 32)
  let m : Marl := { a := f old.a, b := f old.b, state := if set.isEmpty then 0 else 1, txSeq := seqs }
  let s1 := { s with marl := m, freeCtr := s.freeCtr + 4
                     sys := { s.sys with vddf := true, mrlPwrSeen := s.sys.mrlPwrSeen || (s.sys.role == .hub && !s.sys.inReset) } }
  let s2 := marlEvent 0x0F 0 0 s1
  .next (if set.isEmpty && (la.isSome || lb.isSome) then marlEvent 0x05 0 0 s2 else s2)

/-- R367: VDDF is lost. A storing under way was finished by Marl A, by Marl B, or not (R436). -/
def execVddfLoss (doneA doneB : Bool) (s : State) : Host.Outcome State Fault Refusal :=
  if !s.sys.vddf then .next s
  else
    let s1 := match s.marl.storing with
      | some p => s.marlMod (fun m => { m with a := chStore p doneA m.a, b := chStore p doneB m.b, storing := none })
      | none => s
    let off := fun (c : MarlCh) => { c with sb := true, rx := [], next := none, outs := c.outs.map (fun (o : MarlOut) => { o with cmd := false, win := false }) }
    .next { s1.marlMod (fun m => { m with a := off m.a, b := off m.b, handed := none, conf := none, confA := none, confB := none }) with
      sys := { s1.sys with vddf := false, mrlLost := s1.sys.mrlLost || s1.sys.mrlPwrSeen } }

/-- R438: the 10 s self-test of a channel's state memory; `ok` is its result. -/
def execMarlSelfTest (ok : Bool) (s : State) : Host.Outcome State Fault Refusal :=
  .next (if !s.sys.vddf || s.marl.state == 2 || ok then s else s.marlMod (fun m => if m.found = 0 then { m with found := 4 } else m))

/-- R438: the internal fault found is written, and the channels halt. -/
def execMarlInternalFault (s : State) : Host.Outcome State Fault Refusal := .next (if s.sys.vddf then marlHalt s else s)

/-! ## View (R440) -/

/-- Level of the MRL_QA, MRL_QB pin of output `k`: low in the owner's test window, else with the command (R414 to R416). -/
def marlPin (m : Marl) (b : Bool) (k : Nat) : Bool := m.state == 1 && ((m.ch b).outs.getD k {}).cmd && !((m.ch b).outs.getD k {}).win

/-- STATE code of connection `n` in the view. -/
def connCode (m : Marl) (n : Nat) : Nat := if mConnEn m.set n then (m.a.conns.getD n {}).st else 3

/-- R440: a read of the MRL view. -/
def rdMRL (a : Nat) (s : State) : Nat :=
  let m := s.marl
  let off := a - MRL.ID.addr
  if 0x1000 ≤ off ∧ off < 0x1400 then
    let j := (off - 0x1000) / 16
    match m.recs.find? (fun r => leNat (r.take 4) % 64 == j) with
    | some r => leNat ((r.drop ((off - 0x1000) % 16)).take 4)
    | none => 0
  else if 0x100 ≤ off ∧ off < 0x140 then
    let n := (off - 0x100) / 16
    let x := m.a.conns.getD n {}
    if x.st = 2 then leNat ((x.data.drop ((off - 0x100) % 16)).take 4) else 0
  else if 0x40 ≤ off ∧ off < 0x80 then
    let n := (off - 0x40) / 16
    let x := m.a.conns.getD n {}
    match (off - 0x40) % 16 with
    | 0 => connCode m n + 256 * x.echo
    | 4 => x.crcErr + 65536 * x.timeouts
    | 8 => x.dup + 65536 * x.seqErr
    | _ => x.last
  else match off with
    | 0x00 => 0x01010000
    | 0x04 => m.state + 16 * m.a.notify.toNat + 32 * (m.a.sb || m.b.sb).toNat + 64 * m.held.isSome.toNat + 128 * (confBusy m).toNat
        + 2 ^ 24 * m.fault
    | 0x08 => checkOf m.set
    | 0x0C => match m.held with | some p => checkOf p | none => 0
    | 0x14 => maskOf (m.a.ins.map (·.on)) + 65536 * maskOf (m.a.ins.map (·.disc))
    | 0x18 => m.a.c1 + 65536 * m.a.c2
    | 0x1C => maskOf (m.a.outs.map (·.cmd)) + 256 * m.a.rb + 65536 * maskOf (m.a.outs.map (fun o => o.faults != 0))
        + 2 ^ 24 * maskOf (m.a.outs.map (·.wait))
    | 0x20 => m.a.outs.foldr (fun o v => o.faults + 16 * v) 0
    | 0x24 => m.a.pairs.foldr (fun x v => (x.term && !x.broken && !x.xc).toNat + 2 * x.broken.toNat + 4 * x.xc.toNat + 16 * v) 0
    | 0x28 => m.a.codes.getD 0 0 + 65536 * m.b.codes.getD 0 0
    | 0x2C => m.a.codes.getD 1 0 + 65536 * m.b.codes.getD 1 0
    | 0x80 => (m.seq + 2 ^ 32 - 1) % 2 ^ 32
    | _ => 0

end Sys2Proof.Machine
end

