-- ==== Sys2Proof/Machine/Station.lean ====
section
/-!
DEFINITION. The host interfaces, the station Ethernet ports, the PTP clock, the CAN FD controllers and the silt pool (chapter 15):
R442 to R474.
-/
namespace Sys2Proof.Machine

/-- Bytes of a station memory, by BAR0 address. -/
def stRead (s : State) (a n : Nat) : List Byte := memRead s.station.mem a n
def stWrite (a : Nat) (bs : List Byte) (s : State) : State := s.stMod (fun t => { t with mem := memWrite t.mem a bs })

/-! ## PCI Express endpoint (R444) -/

/-- The link is down; one that was up has been lost. -/
def linkDown (s : State) : State :=
  let s1 := if s.flag HST.PCIE_STAT.LINK_UP then s.setFlag HST.PCIE_STAT.LDOWN_SEEN true else s
  ((s1.setFlag HST.PCIE_STAT.LINK_UP false).setFld HST.PCIE_STAT.WIDTH 0).setFld HST.PCIE_STAT.SPEED 0

/-- The endpoint's configuration space, its MSI-X table and its AER status are reset (R444; log 31); it stands in D0. -/
def configReset (s : State) : State :=
  { s.setFlag HST.PCIE_STAT.MSIX_EN false with
    evr := { s.evr with msixMask := 2 ^ 64 - 1, msixFunc := false, msixPend := 0 }, ep := {} }

/-- R442: the identity in configuration space: Device ID and Vendor ID at 0x00, class code and Revision ID at 0x08. -/
def configWord (a : Nat) (s : State) : Nat :=
  match a with
  | 0x00 => 0x4096 * 2 ^ 16 + Config.die 442 % 2 ^ 16
  | 0x08 => 0x118000 * 2 ^ 8 + s.fld SYS.ID.DIE_REV
  | _ => 0

/-- R442: a word of BAR2: the MSI-X table's address, data and mask of each vector, and the pending-bit array. -/
def bar2Word (a : Nat) (s : State) : Nat :=
  if a < 0x400 then
    let e := tabGet noVector s.ep.table (a / 16)
    match a % 16 with
    | 0 => e.1.toNat % 2 ^ 32
    | 4 => e.1.toNat / 2 ^ 32
    | 8 => e.2.toNat
    | 12 => (bitAt s.evr.msixMask (a / 16)).toNat
    | _ => 0
  else if a = 0x2000 ∨ a = 0x2004 then bitsAt s.evr.msixPend (8 * (a - 0x2000)) 32
  else 0

/-- The endpoint and its configuration space are reset, and its link goes down (R444). -/
def endpointReset (s : State) : State := linkDown (configReset s)

/-- R444: 0 PCIE_PERST_N, 1 a hot reset, 2 a link-down, 3 D3hot. -/
def execPcieReset (kind : Fin 4) (s : State) : Host.Outcome State Fault Refusal :=
  if s.isHub = false then .next s else
  .next (if kind.val = 3 then { configReset s with ep := { d3hot := true } } else endpointReset s)

/-- R444: the link comes up, in D0, with `lanes` (0 ×1, 1 ×2, 2 ×4) at speed code `speed`; `msixEn` is MSI-X enabled by the driver. -/
def execPcieLinkUp (lanes speed : Fin 3) (msixEn : Bool) (s : State) : Host.Outcome State Fault Refusal :=
  if s.isHub = false then .next s else
  .next ((((({ s with ep := { s.ep with d3hot := false } }.setFld CLK.STAT.LOCKED 4).setFlag HST.PCIE_STAT.LINK_UP true).setFld HST.PCIE_STAT.WIDTH (2 ^ lanes.val)).setFld HST.PCIE_STAT.SPEED (speed.val + 1)).setFlag
    HST.PCIE_STAT.MSIX_EN msixEn)

/-! ## Image flash (R448, R449) -/

/-- Base of the SPI controller buffer. -/
def spicBuf : Nat := 0x1C0100

/-- A write of HST.SPIC_CMD: GO sends a command to the flash. -/
def wrHST (a w : Nat) (s : State) : WriteResult :=
  if a = HST.AERR.addr then
    .ok (if bitAt w 31 then (s.setFlag HST.AERR.VALID false).setFld HST.AERR.COUNT 0 else s)
  else if 0x1C0100 ≤ a ∧ a < 0x1C0200 then .ok (stWrite a (leBytes 4 w) s)
  else if a = HST.SPIC_CMD.addr && bitAt w 31 then
    if s.flag HST.SPIC_STAT.BUSY || s.fld IMG.STAT.STATE == 2 then .error causeBusy
    else
      let s1 := (s.store a w).setFlag HST.SPIC_STAT.BUSY true
      let n := min 256 (s1.fld HST.SPIC_CMD.LEN)
      .ok (s1.emit (.flash (s1.rd HST.SPIC_CMD.addr) (s1.fld HST.SPIC_ADDR.ADDR)
        (if s1.flag HST.SPIC_CMD.WRITE then stRead s1 spicBuf n else [])))
  else .ok (s.store a w)

/-- R449: the flash command completes; `data` is what the flash answered. -/
def execSpicDone (data : List Byte) (s : State) : Host.Outcome State Fault Refusal :=
  if s.flag HST.SPIC_STAT.BUSY then
    let n := min 256 (s.fld HST.SPIC_CMD.LEN)
    let s1 := s.setFlag HST.SPIC_STAT.BUSY false
    .next (if s.flag HST.SPIC_CMD.WRITE then s1 else stWrite spicBuf (padTo n data) s1)
  else .next s

/-! ## PTP clock (R453 to R456): units of 6.4 ns / (1,024 × 10^9) -/

def ptpTick : Int := 1024000000000
def ptpSecond : Int := 156250000 * ptpTick

/-- PTP time `ticks` steps of 6.4 ns after the last step or change of ADJ. -/
def ptpAt (s : State) (ticks : Int) : Int := s.station.ptp + ticks * (ptpTick + s.sfld ETH.PTP_ADJ.ADJ)

/-- Seconds and nanoseconds of a PTP time. -/
def ptpSec (x : Int) : Nat := (x / ptpSecond % (2 ^ 48 : Nat)).toNat
def ptpNs (x : Int) : Nat := ((x % ptpSecond) * 32 / (5 * ptpTick)).toNat

/-- 0.125 ns in these units. -/
def ptpLat : Int := 20000000000

def ethInt (k : Nat) (s : State) : State := s.raiseBit ETH.INT.BITS k

/-- LOCKED falls. -/
def ptpUnlock (s : State) : State :=
  if s.flag ETH.PTP_STAT.LOCKED then ethInt 7 (s.setFlag ETH.PTP_STAT.LOCKED false) else s

/-- A write of PTP_CTRL, `ticks` steps of the clock after the last step or change of ADJ (R453, R455). -/
def wrPtpCtrl (w ticks : Nat) (s : State) : State :=
  let s1 := s.store ETH.PTP_CTRL.addr w
  let s2 := if bitAt w 0 then (s1.stMod (fun t => { t with lockAt := ptpAt s ticks })).setFlag ETH.PTP_STAT.LOCKED true else ptpUnlock s1
  if bitAt w 31 then
    let step := s2.sfld ETH.STEP_SEC.SEC * ptpSecond + s2.sfld ETH.STEP_NS.NS * 5 * ptpTick / 32
    ptpUnlock ((s2.stMod (fun t => { t with ptp := ptpAt s2 ticks + step })).setFlag ETH.PTP_STAT.STEPPED true)
  else s2

/-- R455: at a clock step LOCK_TO seconds or more have passed since the last renewal. -/
def execPtpLockTimeout (s : State) (ticks : Nat := 0) : Host.Outcome State Fault Refusal :=
  .next (if decide (s.station.lockAt + (max 1 (s.fld ETH.PTP_CTRL.LOCK_TO) : Nat) * ptpSecond ≤ ptpAt s ticks) then ptpUnlock s else s)

/-- R456: a rising 1PPS edge, at a clock step; it crosses S-STC (R41). -/
def execPpsInEdge (ticks : Nat) (s : State) : Host.Outcome State Fault Refusal :=
  if stationOn s then
    let t := ptpAt s ticks
    let s1 := ethInt 6 ((s.stMod (fun x => { x with ppsSec := ptpSec t })).setFld ETH.PPS_NS.NS (ptpNs t))
    .next { s1 with period := { s1.period with ppsSeen := true } }
  else .next s

/-- R456: a whole second of PTP time. -/
def execPpsOutSecond (s : State) : Host.Outcome State Fault Refusal :=
  .next (if stationOn s && s.flag ETH.PPS_CFG.OUT_EN then s.fresh.emit (.pps (s.fld ETH.PPS_CFG.WIDTH)) else s.fresh)

/-! ## Ethernet ports (R450 to R452, R457, R458) -/

def ethOff (p : Nat) : Nat := 0x1000 * p

/-- Offset of a frame's EtherType: after the addresses, or after one 802.1Q tag. -/
def ethTagged (f : List Byte) : Bool := (f.drop 12).take 2 == [0x81#8, 0x00#8]
def etherAt (f : List Byte) : Nat := if ethTagged f then 16 else 12

/-- Addresses the port takes (R451). -/
def ethAccepts (s : State) (p : Nat) (f : List Byte) : Bool :=
  let da := f.take 6
  let mac := macBytes (s.rd (ETH.MAC_LO.addr + ethOff p)) (s.rd (ETH.MAC_HI.addr + ethOff p))
  da == mac || da == List.replicate 6 0xFF#8 || (s.flag (ETH.PCFG.MCAST_ALL.at (ethOff p)) && bitAt (da.getD 0 0).toNat 0)
    || s.flag (ETH.PCFG.PROMISC.at (ethOff p))

/-- A telegram frame (R458). -/
def isTelegram (f : List Byte) : Bool :=
  (f.drop (etherAt f)).take 2 == [0x88#8, 0xB5#8] && decide (46 ≤ (f.drop (etherAt f + 2)).length)

/-- A PAUSE frame. -/
def isPause (f : List Byte) : Bool := (f.drop 12).take 4 == [0x88#8, 0x08#8, 0x00#8, 0x01#8]

/-- Base of a port's receive ring and transmit buffer. -/
def rxRing (p : Nat) : Nat := 0x1D8000 + 0x4000 * p
def txBuf (p : Nat) : Nat := 0x1D4000 + 0x1000 * p

/-- A frame goes to the receive ring, or is dropped when its entry would reach RX_RD (R451). -/
def ringStore (p : Nat) (mrl : Bool) (stamp : Int) (f : List Byte) (s : State) : State :=
  let wr := s.fld (ETH.RX_WR.WR.at (ethOff p))
  let rd := s.fld (ETH.RX_RD.RD.at (ethOff p))
  let pad := (f.length + 15) / 16 * 16
  let size := 16 + pad
  let used := (wr + 16384 - rd) % 16384
  let wrap := decide (16384 < wr + size)
  let skip := if wrap then 16384 - wr else 0
  if used + skip + size ≥ 16384 then (s.count (ETH.RX_DROP.COUNT.at (ethOff p)) 1).setFlag (ETH.PSTAT.RING_FULL.at (ethOff p)) true
  else
    let at_ := if wrap then 0 else wr
    let hdr := leBytes 4 (f.length + 65536 * (ethTagged f).toNat + 131072 * mrl.toNat) ++ leBytes 4 (ptpNs stamp) ++ leBytes 6 (ptpSec stamp) ++ leBytes 2 0
    let s1 := if wrap && wr < 16384 then stWrite (rxRing p + wr) (List.replicate 16 0#8) s else s
    let s2 := stWrite (rxRing p + at_) (hdr ++ padTo pad f) s1
    ethInt p ((s2.setFld (ETH.RX_WR.WR.at (ethOff p)) ((at_ + size) % 16384)).count (ETH.RX_OK.COUNT.at (ethOff p)) 1)

/-- R450, R451, R458: a frame with its FCS arrives at port `p`; `ticks` are the clock steps from the last step or change of ADJ to the
capture of its start. -/
def execEthFrameRx (p : Fin 2) (bytes : List Byte) (ticks : Nat) (s : State) : Host.Outcome State Fault Refusal :=
  let o := ethOff p.val
  let f := bytes.take (bytes.length - 4)
  if !portUp s p.val || decide (1522 < bytes.length) then .next s
  else if decide (bytes.length < 64) || leNat (bytes.drop (bytes.length - 4)) != crc32 f then .next (s.count (ETH.RX_FCS.COUNT.at o) 1)
  else if isPause f then .next (s.count (ETH.RX_PAUSE.COUNT.at o) 1)
  else if !ethAccepts s p.val f then .next s
  else
    let stamp := ptpAt s ticks - s.fld (ETH.LAT.RX_LAT.at o) * ptpLat
    if isTelegram f then
      let s1 := (s.marlMod (fun m => { m with seam := m.seam ++ [(f.drop (etherAt f + 2)).take 32] })).count (ETH.MRL_RX.COUNT.at o) 1
      .next (if s.flag ETH.MRL_CFG.COPY_HOST then ringStore p.val true stamp f s1 else s1)
    else .next (ringStore p.val false stamp f s)

/-- A host frame of port `p` has left: BUSY clears, and a timestamp asked for is stored (R452). -/
def hostFrameSent (p ticks : Nat) (s : State) : State :=
  let o := ethOff p
  let s1 := ethInt (2 + p) (s.setFlag (ETH.TX_CTRL.BUSY.at o) false)
  let t := ptpAt s ticks + s.fld (ETH.LAT.TX_LAT.at o) * ptpLat
  if s.flag (ETH.TX_CTRL.TS_REQ.at o) then
    ((((s1.setFld (ETH.TX_TS_NS.NS.at o) (ptpNs t)).setFlag (ETH.TX_TS_NS.VALID.at o) true).setFld (ETH.TX_TS_SEC_LO.SEC.at o)
      (ptpSec t % 2 ^ 32)).setFld (ETH.TX_TS_SEC_HI.SEC.at o) (ptpSec t / 2 ^ 32))
  else s1

/-- R452: the last bit of the frame on port `p`'s wire leaves, and the next one starts; `ticks` as for a received frame. -/
def execEthTxDone (p : Fin 2) (ticks : Nat) (s : State) : Host.Outcome State Fault Refusal :=
  match (s.port p.val).wire with
  | none => .next s.fresh
  | some telegram =>
    let s1 := (s.fresh.count (ETH.TX_OK.COUNT.at (ethOff p.val)) 1).portMod p.val (fun x => { x with wire := none })
    .next (portStart p.val (if telegram then s1 else hostFrameSent p.val ticks s1))

/-- R455: a port's link changes. -/
def execEthLinkChange (p : Fin 2) (up anDone : Bool) (s : State) : Host.Outcome State Fault Refusal :=
  let o := ethOff p.val
  if stationOn s then
    let s1 := ethInt (4 + p.val) ((s.setFlag (ETH.PSTAT.LINK.at o) up).setFlag (ETH.PSTAT.AN_DONE.at o) anDone)
    .next (if !up && s.fld ETH.PTP_CTRL.PTP_PORT == p.val then ptpUnlock s1 else s1)
  else .next s

/-- A write of an ETH register or transmit buffer (R452, R453, R455, R472). -/
def wrETH (a w dt : Nat) (s : State) : WriteResult :=
  if a = ETH.PTP_CTRL.addr then .ok (wrPtpCtrl w dt s)
  else if a = ETH.PTP_ADJ.addr then .ok ((s.stMod (fun t => { t with ptp := ptpAt s dt })).store a w)
  else if 0x1D1000 ≤ a ∧ a < 0x1D3000 then
    let p := (a - 0x1D1000) / 0x1000
    let o := ethOff p
    let r := a - o
    if r = ETH.PCFG.addr then
      if s.flag (ETH.PCFG.EN.at o) && (w ^^^ s.rd a) &&& 6 != 0 then .error causeOther else .ok (s.store a w)
    else if r = ETH.RX_RD.addr then
      if w % 16 ≠ 0 then .error causeOther else .ok ((s.store a w).setFlag (ETH.PSTAT.RING_FULL.at o) false)
    else if r = ETH.TX_CTRL.addr then
      if bitAt w 31 then
        if s.flag (ETH.TX_CTRL.BUSY.at o) then .error causeBusy
        else if bitsAt w 0 11 < 14 ∨ 1518 < bitsAt w 0 11 then .error causeOther
        else
          let n := bitsAt w 0 11
          let f := padTo (max 60 n) (stRead s (txBuf p) n)
          let s1 := ((s.store a w).setFlag (ETH.TX_CTRL.BUSY.at o) true).setFlag (ETH.TX_TS_NS.VALID.at o) false
          .ok (portStart p (s1.portMod p (fun x => { x with host := some (f ++ leBytes 4 (crc32 f)) })))
      else .ok (s.store a w)
    else if ETH.RX_OK.addr ≤ r ∧ r ≤ ETH.MRL_RX.addr then .ok (s.wr a 0)
    else .ok (s.store a w)
  else if 0x1D4000 ≤ a ∧ a < 0x1D6000 then
    let p := (a - 0x1D4000) / 0x1000
    if s.flag (ETH.TX_CTRL.BUSY.at (ethOff p)) then .error causeBusy
    else if 0x800 ≤ (a - 0x1D4000) % 0x1000 then .ok s
    else .ok (stWrite a (leBytes 4 w) s)
  else .ok (s.store a w)

/-- A read of an ETH register, ring or buffer; a read of PTP_NS or PPS_NS latches the seconds. -/
def rdETH (a dt : Nat) (s : State) : State × Nat :=
  let latch := fun (lo hi : Fld) (sec : Nat) (s : State) => (s.setFld lo (sec % 2 ^ 32)).setFld hi (sec / 2 ^ 32)
  if a = ETH.PTP_NS.addr then
    let t := ptpAt s dt
    (latch ETH.PTP_SEC_LO.SEC ETH.PTP_SEC_HI.SEC (ptpSec t) s, ptpNs t)
  else if a = ETH.PPS_NS.addr then (latch ETH.PPS_SEC_LO.SEC ETH.PPS_SEC_HI.SEC s.station.ppsSec s, s.rd a)
  else if 0x1D4000 ≤ a ∧ a < 0x1E0000 then (s, leNat (stRead s a 4))
  else (s, s.rd a)

/-! ## Silt pool (R460, R461) -/

def own (s : State) (b : Nat) : Nat := s.fld (SLT.META.OWNER.at (4 * b))

def ownFree : Nat := 0
def ownHost : Nat := 1
def ownSlot : Nat := 3
def ownReserve : Nat := 4
def ownFifo : Nat := 5
def ownMailbox : Nat := 6

def ownTransit : Nat := 2

/-- Buffers with an owner that `p` holds of. -/
def ownCount (s : State) (p : Nat → Bool) : Nat := ((upto 512).filter (fun b => p (own s b))).length

/-- R460: free + owned + in transit = 512, checked at every edge; its failure sets BOOKS. -/
def siltBooks (s : State) : State :=
  let owned := fun o => decide (o = ownHost) || (decide (ownSlot ≤ o) && decide (o ≤ ownMailbox))
  if ownCount s (· == ownFree) + ownCount s owned + ownCount s (· == ownTransit) = 512 then s else s.raise SLT.EVT.BOOKS

/-- Buffer `b` goes to an owner and a controller, in one cycle (R460). -/
def give (b o n : Nat) (s : State) : State := siltBooks ((s.setFld (SLT.META.OWNER.at (4 * b)) o).setFld (SLT.META.CTRL.at (4 * b)) n)

/-- Buffer `b` goes to an owner and a controller through transit (R460). -/
def move (b o n : Nat) (s : State) : State := give b o n (give b ownTransit n s)

/-- Buffers that controller `n` owns: slots, reserve, FIFO and mailboxes. -/
def ownedBy (s : State) (n : Nat) : Nat :=
  ((upto 512).filter (fun b => decide (3 ≤ own s b ∧ own s b ≤ 6) && s.fld (SLT.META.CTRL.at (4 * b)) == n)).length

/-- The controller may own one more. -/
def belowQuota (s : State) (n : Nat) : Bool := decide (ownedBy s n < bitsAt (s.rd SLT.QUOTA.addr) (8 * n) 8)

/-- The lowest-numbered free buffer. -/
def lowestFree (s : State) : Option Nat := (upto 512).find? (fun b => own s b == ownFree)

/-- Address of silt buffer `b`. -/
def siltAt (b : Nat) : Nat := 0x1F4000 + 72 * b

/-! ## CAN FD controllers -/

def canOff (n : Nat) : Nat := 0x1000 * n
def State.can (s : State) (n : Nat) : Can := s.station.cans.getD n {}
def State.canMod (s : State) (n : Nat) (f : Can → Can) : State := s.stMod (fun t => { t with cans := t.cans.set n (f (t.cans.getD n {})) })

def canFlag (s : State) (n : Nat) (f : Fld) : Bool := s.flag (f.at (canOff n))
def canFld (s : State) (n : Nat) (f : Fld) : Nat := s.fld (f.at (canOff n))
def canSet (n : Nat) (f : Fld) (v : Nat) (s : State) : State := s.setFld (f.at (canOff n)) v
def canInt (n k : Nat) (s : State) : State := s.raiseBit (CAN.INT.BITS.at (canOff n)) k

/-- Fields of transmit slot `k` of controller `n`. -/
def slotF (n k : Nat) (f : Fld) : Fld := f.at (canOff n + 4 * k)

/-- Timestamp `cyc` CAN-clock cycles after the last write of the prescaler (R468). -/
def canTime (s : State) (cyc : Nat) : Nat := (s.station.canTs + cyc / (s.fld CAN.TS_CFG.PRESC + 1)) % 2 ^ 32

/-- An enabled controller without a reserve claims the lowest free buffer when its quota allows (R467). -/
def claimReserve (n : Nat) (s : State) : State :=
  if canFlag s n CAN.CTRL.EN && (s.can n).reserve.isNone && belowQuota s n then
    match lowestFree s with
    | some b => (give b ownReserve n s).canMod n (fun c => { c with reserve := some b })
    | none => s
  else s

def claimAll (s : State) : State := claimReserve 3 (claimReserve 2 (claimReserve 1 (claimReserve 0 s)))

/-- R464: slot `k` completes. -/
def slotComplete (n k status : Nat) (s : State) : State :=
  let b := s.fld (slotF n k CAN.TXSLOT.BUF)
  let c := s.can n
  let ident := leNat (stRead s (siltAt b) 4)
  let ts := match c.sof.getD k none with | some t => t | none => s.draw 122 % 2 ^ 32
  let s0 := if (c.sof.getD k none).isSome then s else s.drawn
  let e : TxEvt := { status := status, slot := k, buf := b, ident := ident % 2 ^ 30, ts := ts }
  let full := decide (16 ≤ c.evts.length)
  let s1 := s0.canMod n (fun c => { c with
    evts := (if full then c.evts.drop 1 else c.evts) ++ [e], tries := c.tries.set k 0, cancel := c.cancel.set k false, sof := c.sof.set k none
    first := if c.first = some k then none else c.first, atOff := if c.atOff = some k then none else c.atOff })
  let s2 := if full then canInt n 8 s1 else s1
  claimAll (give b ownFree 0 (canInt n 2 (s2.wr (CAN.TXSLOT.addr + canOff n + 4 * k) 0)))

def stTransmitted : Nat := 1
def stCancelled : Nat := 2
def stExhausted : Nat := 3

/-- The slot in an attempt. -/
def inAttempt (s : State) (n : Nat) : Option Nat := (upto 3).find? (fun k => s.fld (slotF n k CAN.TXSLOT.STATE) == 2)

/-- A failed attempt of slot `k`: it completes, or is in state `st` again (R463, R465). -/
def failAttempt (n k st : Nat) (s : State) : State :=
  let tries := (s.can n).tries.getD k 0 + 1
  let s1 := (s.setFld (slotF n k CAN.TXSLOT.ATTEMPTS) (min 15 tries)).canMod n (fun c => { c with tries := c.tries.set k tries })
  if (s.can n).cancel.getD k false then slotComplete n k stCancelled s1
  else if canFlag s n CAN.CTRL.RETRY_EN && decide (canFld s n CAN.CTRL.RETRY + 1 ≤ tries) then slotComplete n k stExhausted s1
  else s1.setFld (slotF n k CAN.TXSLOT.STATE) st

/-- TEC and REC after a frame, and what follows from them (R466). -/
def canErr (n tec rxc : Nat) (s : State) : State :=
  let st := canFld s n CAN.STAT.STATE
  let passive := decide (128 ≤ tec ∨ 128 ≤ rxc)
  let warn := decide (96 ≤ tec ∨ 96 ≤ rxc)
  let s1 := canSet n CAN.STAT.REC (min 255 rxc) (canSet n CAN.STAT.TEC (min 511 tec) s)
  let s2 := if warn && !canFlag s n CAN.STAT.WARN then canInt n 6 s1 else s1
  let s3 := canSet n CAN.STAT.WARN warn.toNat s2
  if 2 ≤ st then s3
  else if passive && st == 0 then canInt n 5 (canSet n CAN.STAT.STATE 1 s3) else canSet n CAN.STAT.STATE passive.toNat s3

/-- TEC passes 255: the controller is bus-off; the attempt under way has failed, and every pending slot is held (R466). -/
def busOff (n tec : Nat) (s : State) : State :=
  let auto := canFlag s n CAN.CTRL.AUTO_REC
  let k? := inAttempt s n
  let s1 := match k? with | some k => failAttempt n k 3 s | none => s
  let s2 := (upto 3).foldl (fun s k => if s.fld (slotF n k CAN.TXSLOT.STATE) = 1 then s.setFld (slotF n k CAN.TXSLOT.STATE) 3 else s) s1
  let s3 := s2.canMod n (fun c => { c with atOff := if auto then k?.filter (fun k => s2.fld (slotF n k CAN.TXSLOT.STATE) == 3) else none })
  let s4 := if canFlag s3 n CAN.STAT.WARN then s3 else canInt n 6 (canSet n CAN.STAT.WARN 1 s3)
  canInt n 3 (canSet n CAN.STAT.STATE (if auto then 3 else 2) (canSet n CAN.STAT.TEC (min 511 tec) s4))

/-- R462: a write of TXSLOTk with REQ. -/
def slotSubmit (n k w : Nat) (s : State) : WriteResult :=
  let b := bitsAt w 0 9
  if s.fld (slotF n k CAN.TXSLOT.STATE) ≠ 0 then .error causeBusy
  else if own s b ≠ ownHost ∨ belowQuota s n = false ∨ canFlag s n CAN.CTRL.EN = false then .error causeOther
  else
    let st := if 2 ≤ canFld s n CAN.STAT.STATE then 3 else 1
    .ok ((move b ownSlot n (s.wr (CAN.TXSLOT.addr + canOff n + 4 * k) (b + 2 ^ 29 * st))).canMod n (fun c => { c with
      tries := c.tries.set k 0, cancel := c.cancel.set k false, sof := c.sof.set k none }))

/-- The arbitration field of a buffer's frame as a number: the frame with the lower one wins (ISO 11898-1, log 133). -/
def arbKey (s : State) (b : Nat) : Nat :=
  let w := leNat (stRead s (siltAt b) 4)
  let base := bitsAt w 18 11
  let rtr := (bitAt w 30 && !bitAt w 31).toNat
  if bitAt w 29 then base * 2 ^ 21 + 2 ^ 20 + 2 ^ 19 + bitsAt w 0 18 * 2 + rtr else base * 2 ^ 21 + rtr * 2 ^ 20

/-- Controller `n` may put the frame of slot `k` on its bus: FD frames only while FD_EN permits them (R473; log 160). -/
def slotPermitted (s : State) (n k : Nat) : Bool :=
  canFlag s n CAN.CTRL.FD_EN || !bitAt (leNat (stRead s (siltAt (s.fld (slotF n k CAN.TXSLOT.BUF))) 4)) 31

/-- The slot that R462 and R466 pick. -/
def pickSlot (s : State) (n : Nat) : Option Nat :=
  let pend := (upto 3).filter (fun k => s.fld (slotF n k CAN.TXSLOT.STATE) == 1 && slotPermitted s n k)
  let inOrder :=
    if canFlag s n CAN.CTRL.TXORDER then pend.head?
    else pend.foldl (fun best k => match best with
      | none => some k
      | some j => if arbKey s (s.fld (slotF n k CAN.TXSLOT.BUF)) < arbKey s (s.fld (slotF n j CAN.TXSLOT.BUF)) then some k else some j) none
  match (s.can n).first with
  | some k => if pend.contains k then some k else inOrder
  | none => inOrder

/-- Bus monitoring: MODE 2, and 5 to 7. -/
def busMonitoring (s : State) (n : Nat) : Bool := canFld s n CAN.CTRL.MODE == 2 || decide (5 ≤ canFld s n CAN.CTRL.MODE)

/-- Restricted operation: no frame is sent and the error counters stand (R459, ISO 11898-1; log 160). -/
def canRestricted (s : State) (n : Nat) : Bool := canFld s n CAN.CTRL.MODE == 1

/-- Internal or external loopback: the controller receives its own frames and not its CAN_RX pin (R459, R473). -/
def canLoopback (s : State) (n : Nat) : Bool := canFld s n CAN.CTRL.MODE == 3 || canFld s n CAN.CTRL.MODE == 4

/-- R462: an arbitration attempt starts, its start of frame `cyc` CAN-clock cycles after the last write of the prescaler. -/
def execCanTxAttempt (n : Fin 4) (cyc : Nat) (s : State) : Host.Outcome State Fault Refusal :=
  let busy := (upto 3).any (fun k => s.fld (slotF n.val k CAN.TXSLOT.STATE) == 2)
  if !canFlag s n.val CAN.CTRL.EN || busMonitoring s n.val || canRestricted s n.val || decide (2 ≤ canFld s n.val CAN.STAT.STATE) || busy then .next s.fresh
  else match pickSlot s n.val with
    | none => .next s.fresh
    | some k =>
      let s1 := (s.fresh.setFld (slotF n.val k CAN.TXSLOT.STATE) 2).canMod n.val (fun c => { c with
        sof := c.sof.set k (some (canTime s cyc)), first := none })
      .next (if canFld s n.val CAN.CTRL.MODE = 3 then s1 else s1.emit (.can n.val (s.fld (slotF n.val k CAN.TXSLOT.BUF))))

/-- TEC after a transmitter's error, `more` further counts of 8 with it (R466, ISO 11898-1). -/
def tecFailed (s : State) (n more : Nat) : Nat := canFld s n CAN.STAT.TEC + 8 * (1 + more)

/-- R466: a transmitter's error makes TEC pass 255. The attempt under way has failed. -/
def execCanBusOff (n : Fin 4) (more : Nat) (s : State) : Host.Outcome State Fault Refusal :=
  if !canFlag s n.val CAN.CTRL.EN || decide (2 ≤ canFld s n.val CAN.STAT.STATE) || decide (tecFailed s n.val more ≤ 255) then .next s
  else .next (busOff n.val (tecFailed s n.val more) s)

/-- R466: recovery ends. -/
def execCanRecoveryDone (n : Fin 4) (s : State) : Host.Outcome State Fault Refusal :=
  if canFld s n.val CAN.STAT.STATE = 3 then
    let s1 := (upto 3).foldl (fun s k => if s.fld (slotF n.val k CAN.TXSLOT.STATE) = 3 then s.setFld (slotF n.val k CAN.TXSLOT.STATE) 1 else s) s
    let s2 := s1.canMod n.val (fun c => { c with first := c.atOff, atOff := none })
    .next (canInt n.val 4 (s2.wr (CAN.STAT.addr + canOff n.val) 0))
  else .next s

/-- R465: CANCEL of the slots of a mask. -/
def slotCancel (n mask : Nat) (s : State) : State :=
  ((upto 3).filter (fun k => bitAt mask k)).foldl (fun s k =>
    match s.fld (slotF n k CAN.TXSLOT.STATE) with
    | 0 => s
    | 2 => s.canMod n (fun c => { c with cancel := c.cancel.set k true })
    | _ => slotComplete n k stCancelled s) s

/-- Clearing EN cancels every slot that is not empty (R459). -/
def canOffBus (n : Nat) (s : State) : State :=
  (upto 3).foldl (fun s k => if s.fld (slotF n k CAN.TXSLOT.STATE) = 0 then s else slotComplete n k stCancelled s) s

/-- The first enabled filter that matches (R467). -/
def filterFor (s : State) (n ident : Nat) : Option Nat :=
  (upto 32).find? (fun j =>
    let o := canOff n + 0x10 * j
    s.flag (CAN.FID.EN.at o) && (s.flag (CAN.FID.XTD.at o) == bitAt ident 29)
      && (((ident ^^^ s.fld (CAN.FID.ID.at o)) &&& s.fld (CAN.FMASK.MASK.at o)) % 2 ^ 29 == 0))

/-- A received frame with timestamp `ts` and its description are written to buffer `b`; bytes beyond its data are not written (R460, R467). -/
def siltReceive (b : Nat) (o : CanObs) (ts : Nat) (s : State) : State :=
  let s1 := stWrite (siltAt b) (leBytes 4 o.ident ++ leBytes 4 ts ++ o.data.take 64) s
  ((s1.setFld (SLT.META.DLC.at (4 * b)) o.dlc).setFlag (SLT.META.BRS.at (4 * b)) o.brs).setFlag (SLT.META.ESI.at (4 * b)) o.esi

/-- Every frame is received into reserve `r` (R467). Filter `j` then names a mailbox, which takes a copy (R469) while the reserve is
reused, or the FIFO, which takes the reserve unless it is full. -/
def deliver (n r j : Nat) (o : CanObs) (ts : Nat) (s : State) : State :=
  let f := canOff n + 0x10 * j
  if s.flag (CAN.FTGT.MB.at f) then
    let b := s.fld (CAN.FTGT.BUF.at f)
    let s1 := (siltReceive b o ts s).setFld (SLT.META.FILTER.at (4 * b)) j
    canInt n 1 ((s1.setFld (SLT.META.SEQ.at (4 * b)) ((s1.fld (SLT.META.SEQ.at (4 * b)) + 1) % 16)).setFlag (SLT.META.ND.at (4 * b)) true)
  else if 64 ≤ (s.can n).fifo.length then canInt n 7 (s.count (CAN.CNT.FIFO_FULL.at (canOff n)) 1)
  else
    let s1 := (move r ownFifo n s).setFld (SLT.META.FILTER.at (4 * r)) j
    claimReserve n (canInt n 0 (s1.canMod n (fun c => { c with fifo := c.fifo ++ [r], reserve := none })))

/-- R467, R469: a frame without errors is received, its start of frame stamped `ts`. -/
def canReceive (n : Nat) (o : CanObs) (ts : Nat) (s : State) : State :=
  match (s.can n).reserve, filterFor s n o.ident with
  | none, none => s
  | none, some _ => claimReserve n (canInt n 7 (s.count (CAN.CNT.NOBUF.at (canOff n)) 1))
  | some r, none => siltReceive r o ts s
  | some r, some j => deliver n r j o ts (siltReceive r o ts s)

/-- REC after a received frame (R466, ISO 11898-1): an error counts one, with `more` further counts of 8; a good frame takes one away, from an
error passive receiver down to a value of 119 to 127. -/
def recAfter (s : State) (n : Nat) (err : Bool) (more : Nat) : Nat :=
  let r := canFld s n CAN.STAT.REC
  if err then r + 1 + 8 * more else if r ≤ 127 then r - 1 else 119 + Config.die 466 % 9

/-- The error counters stand in restricted operation. -/
def canRxErr (n : Nat) (err : Bool) (more : Nat) (s : State) : State :=
  if canRestricted s n then s else canErr n (canFld s n CAN.STAT.TEC) (recAfter s n err more) s

/-- R459, R466, R467, R469: a frame, an error or a protocol exception on the bus. An FD frame that FD_EN does not permit is a protocol exception
too, and one under PXHD a form error (log 160). -/
def execCanFrameRx (n : Fin 4) (o : CanObs) (s : State) : Host.Outcome State Fault Refusal :=
  if !canFlag s n.val CAN.CTRL.EN || decide (2 ≤ canFld s n.val CAN.STAT.STATE) || canLoopback s n.val then .next s
  else if o.pxe || (bitAt o.ident 31 && !canFlag s n.val CAN.CTRL.FD_EN) then
    .next (if canFlag s n.val CAN.CTRL.PXHD then canRxErr n.val true o.more s else canInt n.val 9 s)
  else if o.err then .next (canRxErr n.val true o.more s)
  else .next (canReceive n.val o (canTime s o.cyc) (canRxErr n.val false 0 s))

/-- The frame of transmit slot `k` as its own controller receives it in loopback. -/
def ownFrame (s : State) (n k : Nat) : CanObs :=
  let b := s.fld (slotF n k CAN.TXSLOT.BUF)
  { ident := leNat (stRead s (siltAt b) 4), dlc := s.fld (SLT.META.DLC.at (4 * b)), brs := s.flag (SLT.META.BRS.at (4 * b))
    esi := s.flag (SLT.META.ESI.at (4 * b)), data := stRead s (siltAt b + 8) 64 }

/-- R463 to R466: the attempt ends: sent, lost, or in an error that counts 8, `more` further counts of 8 with it, unless the standard exempts it
(`exempt` not 0). In loopback the controller receives what it has sent. -/
def execCanTxAttemptEnd (n : Fin 4) (how : CanEnd) (more exempt : Nat) (s : State) : Host.Outcome State Fault Refusal :=
  match inAttempt s n.val with
  | none => .next s
  | some k =>
    let tec := canFld s n.val CAN.STAT.TEC
    let rxc := canFld s n.val CAN.STAT.REC
    match how with
    | .sent =>
      let s1 := canErr n.val (tec - 1) rxc s
      let s2 := if canLoopback s n.val then canReceive n.val (ownFrame s n.val k) (((s.can n.val).sof.getD k none).getD 0) s1 else s1
      .next (slotComplete n.val k stTransmitted s2)
    | .lost => .next (failAttempt n.val k 1 s)
    | .error =>
      if exempt ≠ 0 then .next (failAttempt n.val k 1 s)
      else if 255 < tecFailed s n.val more then .next (busOff n.val (tecFailed s n.val more) s)
      else .next (failAttempt n.val k 1 (canErr n.val (tecFailed s n.val more) rxc s))

/-- A write of FIDj: a mailbox filter takes or returns its buffer (R467). -/
def wrFilter (n j w : Nat) (s : State) : WriteResult :=
  let o := canOff n + 0x10 * j
  let b := s.fld (CAN.FTGT.BUF.at o)
  let mb := s.flag (CAN.FTGT.MB.at o)
  let was := s.flag (CAN.FID.EN.at o)
  let s1 := s.store (CAN.FID.addr + o) w
  if mb && bitAt w 31 && !was then
    if own s b ≠ ownHost ∨ belowQuota s n = false then .error causeOther else .ok (give b ownMailbox n s1)
  else if mb && !bitAt w 31 && was then .ok (claimAll (give b ownHost 0 s1))
  else .ok s1

/-- A write of a CAN register; `dt` is CAN-clock cycles after the last write of the prescaler, `ticks` of TS_SNAP the steps of the
PTP clock (R462 to R468, R473). -/
def wrCAN (a w dt ticks : Nat) (s : State) : WriteResult :=
  if a = CAN.TS_CFG.addr then .ok ((s.stMod (fun t => { t with canTs := canTime s dt })).store a w)
  else if a = CAN.TS_SNAP.addr then
    if bitAt w 0 then
      let t := ptpAt s ticks
      .ok ((((s.setFld CAN.SNAP_TS.TS (canTime s dt)).setFld CAN.SNAP_NS.NS (ptpNs t)).setFld CAN.SNAP_SEC_LO.SEC (ptpSec t % 2 ^ 32)).setFld
        CAN.SNAP_SEC_HI.SEC (ptpSec t / 2 ^ 32))
    else .ok s
  else if a < CAN.TS.addr then
    let n := (a - CAN.CTRL.addr) / 0x1000
    let r := a - canOff n
    let en := canFlag s n CAN.CTRL.EN
    if r = CAN.CTRL.addr then
      if en && (w ^^^ s.rd a) &&& 0x3E != 0 then .error causeOther
      else
        let s1 := s.store a w
        .ok (if en && !bitAt w 0 then canOffBus n s1 else claimReserve n s1)
    else if r = CAN.NBT.addr ∨ r = CAN.DBT.addr then if en then .error causeOther else .ok (s.store a w)
    else if r = CAN.CMD.addr then
      let s1 := slotCancel n (w % 8) s
      .ok (if bitAt w 3 && canFld s n CAN.STAT.STATE == 2 then canSet n CAN.STAT.STATE 3 s1 else s1)
    else if CAN.TXSLOT.addr ≤ r ∧ r < CAN.TXSLOT.addr + 12 then
      if bitAt w 31 then slotSubmit n ((r - CAN.TXSLOT.addr) / 4) w s else .ok s
    else if r = CAN.TXEVT_POP.addr then .ok (if bitAt w 0 then s.canMod n (fun c => { c with evts := c.evts.drop 1 }) else s)
    else if r = CAN.RXPOP.addr then
      match bitAt w 0, (s.can n).fifo with
      | true, b :: bs => .ok (claimAll (give b ownHost 0 (s.canMod n (fun c => { c with fifo := bs }))))
      | _, _ => .ok s
    else if r = CAN.CNT.addr then .ok (s.wr a 0)
    else if CAN.FID.addr ≤ r ∧ r < CAN.FID.addr + 0x200 then
      let j := (r - CAN.FID.addr) / 16
      match (r - CAN.FID.addr) % 16 with
      | 0 => wrFilter n j w s
      | 8 => if s.flag (CAN.FID.EN.at (canOff n + 0x10 * j)) then .error causeOther else .ok (s.store a w)
      | _ => .ok (s.store a w)
    else .ok (s.store a w)
  else .ok (s.store a w)

/-- A read of a CAN register. -/
def rdCAN (a dt : Nat) (s : State) : Nat :=
  if a = CAN.TS.addr then canTime s dt
  else if a < CAN.TS.addr then
    let n := (a - CAN.CTRL.addr) / 0x1000
    let r := a - canOff n
    let c := s.can n
    let h := c.evts.headD {}
    if r = CAN.TXEVT.addr then
      if c.evts.isEmpty then 0 else 2 ^ 31 + h.status * 2 ^ 29 + h.slot * 2 ^ 27 + h.buf * 2 ^ 18
    else if r = CAN.TXEVT_ID.addr then h.ident
    else if r = CAN.TXEVT_TS.addr then h.ts
    else if r = CAN.RXFIFO.addr then
      if c.fifo.isEmpty then 0 else 2 ^ 31 + c.fifo.length * 2 ^ 16 + c.fifo.headD 0
    else s.rd a
  else s.rd a

/-- A write of an SLT register, META word or buffer (R461, R469, R474). -/
def wrSLT (a w : Nat) (s : State) : WriteResult :=
  if a = SLT.FREE.addr then
    let b := bitsAt w 0 9
    .ok (if own s b = ownHost then claimAll (give b ownFree 0 s) else s.raise SLT.EVT.FREE_ERR)
  else if a = SLT.ND_CLR.addr then
    let b := bitsAt w 0 9
    .ok (if s.fld (SLT.META.SEQ.at (4 * b)) = bitsAt w 12 4 then s.setFlag (SLT.META.ND.at (4 * b)) false else s)
  else if SLT.META.addr ≤ a ∧ a < SLT.META.addr + 2048 then
    if own s ((a - SLT.META.addr) / 4) = ownHost then .ok (s.store a w) else .error causeOther
  else if 0x1F4000 ≤ a ∧ a < 0x1F4000 + 72 * 512 then
    if own s ((a - 0x1F4000) / 72) = ownHost then .ok (stWrite a (leBytes 4 w) s) else .error causeOther
  else if a = SLT.QUOTA.addr then .ok (claimAll (s.store a w))
  else .ok (s.store a w)

/-- A read of an SLT register, META word or buffer; a read of ALLOC allocates. -/
def rdSLT (a : Nat) (s : State) : State × Nat :=
  if a = SLT.ALLOC.addr then
    match lowestFree s with
    | some b => (give b ownHost 0 s, 2 ^ 31 + b)
    | none => (s.raise SLT.EVT.ALLOC_FAIL, 0)
  else if a = SLT.COUNT.addr then
    let free := ownCount s (· == ownFree)
    let transit := ownCount s (· == ownTransit)
    (s, free + 2 ^ 10 * (512 - free - transit) + 2 ^ 20 * transit)
  else if 0x1F4000 ≤ a ∧ a < 0x1F4000 + 72 * 512 then (s, leNat (stRead s a 4))
  else (s, s.rd a)

end Sys2Proof.Machine
end

