-- ==== Sys2Proof/Machine/Reset.lean ====
section
/-!
DEFINITION. Reset: what PORST_N, an internal reset and a restart leave (R3, R444, R481, R493, R513, R530); the rail monitors; loss
of clocks (R478 to R481); the power-fail warning (R490).
-/
namespace Sys2Proof.Machine

/-- Causes in RST_CAUSE (R503). -/
def causePorst : Nat := 2
def causeRail : Nat := 3
def causeClock : Nat := 4
def causeThermal : Nat := 5

/-- Registers that a reset of the device leaves: what the running supply controller shows (R530), the loess domain with the refresh
register it holds (R524), THM.SD, the OTP status, the endpoint's link. -/
def survivesReset (a : Nat) : Bool :=
  (decide (0x40000 ≤ a) && decide (a < 0x50000)) || a == VRC.STAT.addr || a == VRC.VOUT.addr || a == VRC.IOUT.addr || a == STR.REFRESH.addr
    || a == THM.SD.addr || a == IMG.OTP_STAT.addr || a == HST.PCIE_STAT.addr

/-- The supply controller ignores PORST_N (R530) and keeps running with its registers at their reset values (R3, R502): a target that this
changes counts as a new one (R484), and no sync source is selected (R489; log 50). -/
def vrcReset (s : State) : State :=
  let s1 := s.setFlag VRC.STAT.SYNC_LOCK false
  if s1.vrc.counted && min (vrcSelected s1) (vrcMax s1) != s1.vrc.target then vrcNewTarget s1 else s1

/-- What the cell keeps: its wear records, a permanent bypass that has started with its pins (R335), and the permanent faults (R334). -/
def cellReset (s : State) : Cell :=
  { wearRec := s.cell.wearRec, perm := if s.flag GDC.STAT.BYP_CMD then s.cell.perm else 0
    faults := s.cell.faults.filter permanentFault, reason := (s.cell.faults.filter permanentFault).getLast?.getD 0 }

/-- The device as PORST_N leaves it, with straps and cause unchanged: the islands, the loess domain, the supply controller, the OTP
and the MRAM keep what they hold. -/
def chipReset (s : State) : State :=
  let pins := s.rd GDC.STAT.addr &&& 0x0000000C
  let otp := s.fld IMG.OTP_STAT.PROG + 16 * s.fld IMG.OTP_STAT.REVOKED
  let s1 : State := { s with
    reg := regResetWhere (fun a => !survivesReset a) false s.reg
    sys := { s.sys with inReset := true, mrlLost := false, mrlPwrSeen := false }
    period := {}, clk := {}
    img := { otpHash := s.img.otpHash }
    ct := {}, lanes := [], link := {}, cp := {}, cpB := none, eng := {}, loam := {}, acq := { align := (upto 4).map (fun c => 8 + Config.free 143 (s.freeCtr + c) % 3) }
    freeCtr := s.freeCtr + 4
    strata := { mram := s.strata.mram, tsdCopy := s.strata.tsdCopy, tsdSet := s.strata.tsdSet, ticks := s.strata.ticks, refused := s.strata.refused }
    thm := {}
    evr := { msixMask := s.evr.msixMask, msixFunc := s.evr.msixFunc, msixPend := s.evr.msixPend }
    pwm := {}, cell := cellReset s
    kao := { s.kao with offer := none }
    marl := { s.marl with handed := none }
    station := {} }
  let s2 := (s1.wr GDC.STAT.addr (s1.rd GDC.STAT.addr ||| pins)).wr IMG.OTP_STAT.addr otp
  fltSync (vrcReset (s2.setFlag HST.PCIE_STAT.LDOWN_SEEN false))

/-- The cause of a reset is recorded. -/
def resetCause (cause rails : Nat) (s : State) : State := (s.setFld LSS.RST_CAUSE.CAUSE cause).setFld LSS.RST_CAUSE.RAILS rails

/-- The clods and units that the role leaves off (R16, R46): the Marl island outside the hub, and in a cell the station clod and
acquisition cores 1 to 3. The Kaolin island follows its own supply alone (R372). -/
def rolePower (s : State) : State :=
  if s.sys.role = Role.hub then s
  else
    let s1 := { s with sys := { s.sys with vddf := false } }
    if s.isCell then s1.wr SYS.CLOD_PWR.addr 1 else s1

/-- Outside the hub the endpoint is unpowered and holds nothing (R10, R13). -/
def roleHost (s : State) : State :=
  if s.isHub then s else { s.wr HST.PCIE_STAT.addr 0 with ep := {}, evr := { s.evr with msixMask := 2 ^ 64 - 1, msixFunc := false, msixPend := 0 } }

/-- Internal reset ends: the role's clods are powered, the Marl supply's standing is judged afresh (R367), and the reset event enters
the intake (R515). Without a role every clod but the loess domain stays in reset (R13). -/
def releaseReset (s0 : State) : State :=
  let s := rolePower s0
  if !(s.isHub || s.isCell) then s else
  let s1 := { s with sys := { s.sys with inReset := false, mrlPwrSeen := s.sys.vddf && (s.sys.role == Role.hub) } }
  s1.event 0x0001 (s1.rd LSS.RST_CAUSE.addr)

/-- The role of the ROLE straps (R12). -/
def roleOf (r : Fin 4) : Role := match r with | 0 => .hub | 1 => .cell | 2 => .factoryTest | _ => .reserved

/-- R11, R493: PORST_N rises after it has been asserted; the straps are sampled. -/
def execPorstNRise (role : Fin 4) (lvl1 : Bool) (bootsrc : Fin 4) (s : State) : Host.Outcome State Fault Refusal :=
  let s1 := resetCause causePorst 0 (chipReset s.fresh)
  .next (roleHost (rolePower { s1 with sys := { s1.sys with role := roleOf role, lvl1 := lvl1, bootsrc := bootsrc.val, porstN := true } }))

/-- R492: a rail has fallen below its threshold: 0 VDD, 1 VDDL, 2 VDDT, 3 VDDA, 4 VDDIO. VDDL and VDDT supply the PCI Express endpoint's
pins (R444, R529). Without VDDA the supply controller loses what it
holds (R483, R484); without VDDIO the latch of BYP_CMD does. -/
def execRailBelowThreshold (rail : Fin 5) (s : State) : Host.Outcome State Fault Refusal :=
  let low := putBit s.sys.railsLow rail.val true
  let s1 := resetCause causeRail low (chipReset s.fresh)
  let s2 := { s1 with sys := { s1.sys with railsLow := low } }
  if rail.val = 1 ∨ rail.val = 2 then .next (endpointReset s2)
  else if rail.val = 3 then
    .next { s2 with
      reg := regResetWhere (fun a => decide (0x30000 ≤ a) && decide (a < 0x40000)) false s2.reg
      lss := { s2.lss with vdda := false }, sys := { s2.sys with pgoodSeen := false }, vrc := {} }
  else if rail.val = 4 then .next (fltSync { (s2.setFlag GDC.STAT.BYP_CMD false) with cell := { s2.cell with perm := 0, faults := [], reason := 0 } })
  else .next s2

/-- R493: the internal reset ends once PORST_N is high, PGOOD has first gone high and every monitored rail is above its threshold;
`railsLow` names those below it now. -/
def execInternalResetRelease (railsLow : Fin 32) (s : State) : Host.Outcome State Fault Refusal :=
  let s1 := { s with sys := { s.sys with railsLow := railsLow.val }, lss := { s.lss with vdda := !bitAt railsLow.val 3 } }
  if s.sys.inReset && s.sys.porstN && s.sys.pgoodSeen && railsLow.val == 0 && !s.flag THM.SD.ACTIVE then .next (releaseReset s1) else .next s1

/-- A restart (R481, R513): as PORST_N, with the sampled straps kept. -/
def restart (cause : Nat) (s : State) : State := releaseReset (resetCause cause 0 (chipReset s))

/-! ## Clocks -/

/-- Blocks of the control clod and the lane quads. -/
def controlBlock (cell : Bool) (a : Nat) : Bool :=
  if cell then (decide (0xB0000 ≤ a) && decide (a < 0xD0000)) || (decide (0x100000 ≤ a) && decide (a < 0x140000))
  else (decide (0xA0000 ≤ a) && decide (a < 0xB0000)) || (decide (0xD0000 ≤ a) && decide (a < 0x1C0000)) || (decide (0x200000 ≤ a) && decide (a < 0x400000))

/-- The control clod and the lanes are in reset (R540). -/
def controlReset (s : State) : State :=
  { s with
    reg := regResetWhere (controlBlock s.isCell) true s.reg
    ct := {}, lanes := [], link := { nextN := s.link.nextN }
    cp := keptCopy s.cp, cpB := none, eng := {}, loam := {}, pwm := {} }

/-- Gate pins at their reset levels (R319). -/
def gatesOff (s : State) : State :=
  let s1 := (((s.setFld GDC.STAT.ON 0).setFld GDC.STAT.MC 15).setFld GDC.STAT.STO 0).setFld GDC.STAT.STATE 0
  { s1 with cell := { s1.cell with edges := s1.cell.edges.filter (fun e => e.pin == .byp), want := 0, held := 0, soft := 0 } }

/-- PLL0 of a hub is lost: the control clod and every lane quad are held in reset, so that the lanes are electrically idle and the
converter stands blocked as after reset (R300, R480; log 52). -/
def holdControl (s : State) : State :=
  let s1 := (((controlReset s).setFld SYS.QUAD_STAT.QUAD_RDY 0).setFlag EVR.CONV_STAT.DEBLOCK_PEND false).setFlag IMG.CT_STAT.COMMIT_PEND false
  s1.setFlag EVR.CONV_STAT.BLOCKED true

/-- R479, R480: PLL `k` has lost its reference or its lock, `dt` ns after the last boundary. -/
def execPllLoss (k : Fin 3) (s : State) (dt : Nat := 0) : Host.Outcome State Fault Refusal :=
  if s.clodsUp = false then .next s else
  let s1 := s.fresh.raiseBit CLK.EVT.LOSS k.val
  if k.val = 2 then .next (if s.isCell then s.fresh else endpointReset (s1.setFld CLK.STAT.LOCKED 0))
  else
    let s2 := { s1 with clk := { s1.clk with lost := putBit s1.clk.lost k.val true } }
    .next (if s.isCell then gatesOff s2
      else if k.val = 0 then blockRequest (holdControl (lanesTo (5 * (s.period.timeNs + dt)) s2))
      else blockRequest (s2.setFlag CLK.STAT.FALLBACK true))

/-- R481: every PLL of PLL0 and PLL1 that was lost has stayed locked for 1 ms. The loss bits survive. -/
def execClockLossRestart (s : State) : Host.Outcome State Fault Refusal :=
  if s.clk.lost = 0 then .next s
  else
    let evt := s.fld CLK.EVT.LOSS
    .next ((restart causeClock s.fresh).setFld CLK.EVT.LOSS evt)

/-- R478: the receiver has been outside TRACK for 1 ms, and PLL0 of a cell changes to the selected input. -/
def execCellRecFallback (s : State) : Host.Outcome State Fault Refusal :=
  .next (if s.isCell = true ∧ rxState s ≠ rxTrack then (s.setFlag CLK.STAT.CELL_SRC false).setFlag CLK.STAT.HOLDOVER false else s)

/-- R478: the receiver is in TRACK, and PLL0 of a cell takes the recovered clock. -/
def execCellRecReturn (s : State) : Host.Outcome State Fault Refusal :=
  .next (if s.isCell = true ∧ rxState s = rxTrack then clkTrack s else s)

/-- R490: VRC_VIN has been below PFW_MV for 1 µs. In a cell the warning commits the wear record (R343). -/
def execPfw (vin vhold : Nat) (s : State) : Host.Outcome State Fault Refusal :=
  let s1 := s.setFld VRC.VOUT.VIN vin
  if vin < s1.fld VRC.PFW.PFW_MV then
    let s2 := s1.raise VRC.EVT.PFW
    .next (if s.cellOn then wearCommit vhold s2 else s2)
  else .next s1

end Sys2Proof.Machine
end

