-- ==== Sys2Proof/Machine/Thermal.lean ====
section
/-!
DEFINITION. Temperature supervision (chapter 17): the housekeeping round, broken sensors, limits, rates, bands, thermal shutdown, and
the THM registers. Temperatures are in 0.125 °C. Sensors 0 to 11 are on-die, 12 + j external channel j.
-/
namespace Sys2Proof.Machine

/-- External channels the role has (R504). -/
def extCount (s : State) : Nat := if s.isCell then 6 else 16

def extOff (j : Nat) : Nat := 0x10 * j
def extOn (s : State) (j : Nat) : Bool := decide (j < extCount s) && s.flag (THM.EXT_CFG.EN.at (extOff j))

/-- Temperature of an external channel (R505). -/
def extTemp (s : State) (j : Nat) : Int :=
  let c := s.sfld (ACQ.IN_CAL.C.at (inputOff (s.fld (THM.EXT_CFG.SRC.at (extOff j)))))
  rnd 24 (s.sfld (THM.EXT_GAIN.GAIN.at (extOff j)) * c) + s.sfld (THM.EXT_OFS.OFFS.at (extOff j))

def intInsert (x : Int) : List Int → List Int
  | [] => [x]
  | y :: ys => if x ≤ y then x :: y :: ys else y :: intInsert x ys

/-- Twice the median; of an even number, the sum of the two in the middle. -/
def median2 (xs : List Int) : Int :=
  let ys := xs.foldr intInsert []
  let n := ys.length
  ys.getD ((n - 1) / 2) 0 + ys.getD (n / 2) 0

/-- An on-die reading in the range of R506. -/
def dieInRange (t : Int) : Bool := decide (-440 ≤ t) && decide (t ≤ 1320)

/-- A condition of R506 holds for on-die sensor `k`. -/
def dieBad (s : State) (die : List Int) (k : Nat) : Bool :=
  let t := die.getD k 0
  let others := ((upto 12).filter (fun j => j != k && !bitAt (s.fld THM.BROKEN_MAP.MAP) j && dieInRange (die.getD j 0))).map (fun j => die.getD j 0)
  !dieInRange t || (!others.isEmpty && decide (160 < (2 * t - median2 others).natAbs))

/-- A condition of R506 holds for external channel `j`. -/
def extBad (s : State) (j : Nat) : Bool :=
  let i := s.fld (THM.EXT_CFG.SRC.at (extOff j))
  let t := extTemp s j
  !s.flag (ACQ.IN_STAT.VALID.at (inputOff i)) || bitAt s.acq.ovrRound i || decide (t < -440) || decide (1600 < t)

/-- One sensor of a round: broken, valid again after 10 good rounds, or not read at all. -/
def judgeSensor (k : Nat) (on bad : Bool) (t : Int) (s : State) : State :=
  let m := s.fld THM.BROKEN_MAP.MAP
  let good := tabGet zeroNat s.thm.good k
  if !on then
    { (s.setFld THM.BROKEN_MAP.MAP (putBit m k false)) with
      thm := { s.thm with hist := tabSet noHist s.thm.hist k [], good := tabSet zeroNat s.thm.good k 0 } }
  else if bad || (bitAt m k && decide (good < 9)) then
    { (s.setFld THM.BROKEN_MAP.MAP (putBit m k true)) with
      thm := { s.thm with hist := tabSet noHist s.thm.hist k [], good := tabSet zeroNat s.thm.good k (if bad then 0 else good + 1) } }
  else
    { (s.setFld THM.BROKEN_MAP.MAP (putBit m k false)) with
      thm := { s.thm with hist := tabSet noHist s.thm.hist k ((t :: tabGet noHist s.thm.hist k).take 256), good := tabSet zeroNat s.thm.good k 0 } }

/-- A sensor that is read and valid. -/
def sensorValid (s : State) (k : Nat) : Bool :=
  (decide (k < 12) || extOn s (k - 12)) && !bitAt (s.fld THM.BROKEN_MAP.MAP) k

/-- Its reading in the round. -/
def sensorTemp (s : State) (k : Nat) : Int := (tabGet noHist s.thm.hist k).headD 0

/-- The hottest valid on-die sensor and its reading. -/
def hottestDie (s : State) : Option (Nat × Int) :=
  (upto 12).foldl (fun (best : Option (Nat × Int)) k =>
    if sensorValid s k then
      match best with
      | some b => if b.2 < sensorTemp s k then some (k, sensorTemp s k) else best
      | none => some (k, sensorTemp s k)
    else best) none

/-- The readings of a round (R505, R506). -/
def readSensors (die : List Int) (s : State) : State :=
  let s1 := (upto 12).foldl (fun (st : State) k =>
    judgeSensor k true (dieBad s die k) (die.getD k 0) (st.setFld (THM.DIE_T.T.at (4 * k)) (unsignedOf 12 (satS 12 (die.getD k 0))))) s
  let s2 := (upto 16).foldl (fun (st : State) j =>
    if extOn s j then judgeSensor (12 + j) true (extBad s j) (extTemp s j) (st.setFld (THM.EXT_T.T.at (4 * j)) (unsignedOf 12 (satS 12 (extTemp s j))))
    else judgeSensor (12 + j) false false 0 st) s1
  if s2.fld THM.BROKEN_MAP.MAP = 0 then s2 else s2.raise THM.EVT.BROKEN

/-- R507: TJ and the limits. -/
def judgeLimits (s : State) : State :=
  let outside := fun k =>
    if !sensorValid s k then false
    else if k < 12 then decide (s.sfld THM.DIE_LIM.HI < sensorTemp s k)
    else decide (s.sfld (THM.EXT_LIM.HI.at (extOff (k - 12))) < sensorTemp s k) || decide (sensorTemp s k < s.sfld (THM.EXT_LIM.LO.at (extOff (k - 12))))
  let m := (upto 28).foldl (fun m k => if outside k then m + 2 ^ k else m) 0
  let s1 := (s.setFld THM.LIM_MAP.MAP m).setFld THM.STAT.VALID_DIE ((upto 12).filter (sensorValid s)).length
  let s2 := match hottestDie s with | some h => s1.setFld THM.STAT.TJ (unsignedOf 12 (satS 12 h.2)) | none => s1
  if m = 0 then s2 else s2.raise THM.EVT.LIMIT

/-- R508: rates of rise. -/
def judgeRates (s : State) : State :=
  let win := max 1 (s.fld THM.CFG.RATE_WIN)
  let fast := fun k =>
    let h := tabGet noHist s.thm.hist k
    let rate : Int := if k < 12 then s.fld THM.DIE_LIM.RATE else s.fld (THM.EXT_OFS.RATE.at (extOff (k - 12)))
    sensorValid s k && decide (win < h.length) && decide (rate < sensorTemp s k - h.getD win 0)
  if (upto 28).any fast then s.raise THM.EVT.RATE else s

/-- Entry threshold of a band (R510). -/
def bandAt (b : Nat) : Int := match b with | 1 => 0 | 2 => 680 | 3 => 880 | _ => -4096

/-- The band after a round with junction temperature `tj`. -/
def bandNext (first : Bool) (hys tj : Int) (b : Nat) : Nat :=
  let up := ((upto 4).filter (fun n => decide (bandAt n ≤ tj))).length - 1
  if first then up
  else if b < up then up
  else ((upto 4).filter (fun n => decide (n ≤ b) && decide (bandAt n - (if n = 0 then 0 else hys) ≤ tj))).length - 1

/-- R510, R511: the band at a round end; `dt` µs have passed since the slewed target was last brought up to date. -/
def judgeBand (dt : Nat) (s : State) : State :=
  match hottestDie s with
  | none => s
  | some h =>
    let old := s.fld THM.STAT.BAND
    let new := bandNext (!s.thm.ran) (s.fld THM.CFG.BAND_HYS) h.2 old
    if new = old then s
    else
      let s1 := (s.setFld THM.STAT.BAND new).event 0x0030 (old + 2 ^ 8 * new + 2 ^ 16 * unsignedOf 16 h.2)
      if s1.fld VRC.CFG.TSRC = 2 then vrcNewTarget (vrcAdvance dt s1) else s1

/-- R512: thermal shutdown is requested at the round end, `t` in cell time. -/
def judgeShutdown (t : Nat) (s : State) : State :=
  let ask := fun (r : Nat × Nat) =>
    let s1 := { s.raise THM.EVT.SD with
      thm := { s.thm with sd := some (s.thm.sd.getD r) }, strata := { s.strata with tsdSet := s.strata.tsdSet && s.thm.sd.isSome } }
    if s.cellLive then force t s1 else if s.isCell then s1 else blockRequest s1
  match hottestDie s with
  | none => ask (s.fld THM.STAT.TJ, 0xFF)
  | some h => if 1080 ≤ h.2 then ask (unsignedOf 12 (satS 12 h.2), h.1) else s

/-- The threshold read-backs of the round are checked, and the cores' next calibration conversions convert thresholds again: a round begins
where the one before ends (R278, R289; log 144). -/
def judgeThresholds (s : State) : State :=
  let s1 := (s.acq.readback.filter (fun d => decide (d.1 < s.cmpCount))).foldl (fun s d => dacReadback d.1 d.2 s) s
  { s1 with acq := { s1.acq with readback := [], codeNew := 0, ovrRound := 0
                                 cores := tabMap noCore s1.acq.cores (fun _ x => { x with thr := 0 }) } }

/-- R505: a housekeeping round ends with these on-die readings, `dt` µs after the slewed supply target was last brought up to date and at cell
time `t`. -/
def execHousekeepingRound (die : List Int) (dt t : Nat) (s : State) : Host.Outcome State Fault Refusal :=
  if s.clodsUp = false then .next s
  else
    let s1 := readSensors die s
    let s2 := judgeBand dt (judgeRates (judgeLimits (judgeThresholds s1)))
    .next (judgeShutdown t { s2 with thm := { s2.thm with ran := true } })

/-- R512: the shutdown record, or the marker in its place, and every granted commit are complete: every clod but the loess domain and the
islands is held in reset, and the PCI Express link goes down. -/
def execThermalSdReset (s : State) : Host.Outcome State Fault Refusal :=
  match s.thm.sd with
  | none => .next s
  | some r =>
    if s.lss.granted = [] ∧ s.thm.recAsked = true then
      let s1 := endpointReset ((chipReset s.fresh).setFlag THM.SD.ACTIVE true)
      .next { s1 with thm := { s1.thm with sd := some r } }
    else .next s

/-- The restart after a shutdown (R513): THM.EVT.SD reads one, the record in the MRAM is copied as event 0x0031, and the clearing is an
event. A shutdown whose record was refused has none to copy (log 60). -/
def thermalRestart (s : State) : State :=
  let r := s.thm.sd.getD (0, 0xFF)
  let s1 := (((s.setFlag THM.SD.ACTIVE false).setFlag THM.SD.COOL false))
  let s2 := (restart causeThermal s1).raise THM.EVT.SD
  if s.strata.tsdSet then (s2.enter (lastRecord s)).event 0x0032 (lastRecord s).data
  else s2.event 0x0032 (r.1 % 65536 + 65536 * r.2)

/-- The loess domain's junction sensor reads below 115 °C while shutdown holds. -/
def shutdownCool (s : State) : State :=
  if s.flag THM.SD.ACTIVE then (if s.isCell then thermalRestart s else s.setFlag THM.SD.COOL true) else s

/-- A write to the THM block: SD.CLR restarts a device that has cooled. -/
def wrTHM (a w : Nat) (s : State) : WriteResult :=
  if a = THM.SD.addr then .ok (if bitAt w 31 && s.flag THM.SD.COOL then thermalRestart s else s) else .ok (s.store a w)

end Sys2Proof.Machine
end

