-- ==== Sys2Proof/Machine/Loader.lean ====
section
/-!
DEFINITION. The image loader up to the point where a verified image is applied (R66, R67, R75 to R80, R540), and the IMG registers.
-/
namespace Sys2Proof.Machine

/-- Codes of IMG.STAT.STATE. -/
def ldIdle : Nat := 0
def ldHost : Nat := 1
def ldFetch : Nat := 2
def ldVerify : Nat := 3
def ldApply : Nat := 4
def ldDone : Nat := 5
def ldFailed : Nat := 6
def ldState (s : State) : Nat := s.fld IMG.STAT.STATE
def ldGo (st : Nat) (s : State) : State := s.setFld IMG.STAT.STATE st

/-- Role byte of the images this device takes. -/
def imgRole (s : State) : Nat := if s.isCell then 1 else 0

/-! ## Starting a load (R14, R76, R78) -/

/-- The load ends with an error (R77, R78). A cell whose flash load fails takes its rescue path over lane 0. -/
def loadFail (e : LoadErr) (s : State) : State :=
  let s1 := (((ldGo ldFailed s).setFlag IMG.STAT.VALID false).setFld IMG.STAT.ERR e.1).setFld IMG.ERR_OFFS.OFFS e.2
  let s2 := ({ s1 with img := { s1.img with buf := [], fifo := [] } }).event 0x0003 (e.1 + 2 ^ 32 * e.2)
  if s.isCell && s.img.src == .flash then toListen (rxPower { s2 with img := { s2.img with src := .lane0 } })
  else if s.isCell then { s2 with cell := { s2.cell with imgBytes := [], imgHave := [], imgLen := 0 } }
  else { s2 with img := { s2.img with src := .none } }

/-- A load begins from a source. -/
def loadFrom (src : ImgSource) (s : State) : State :=
  let s1 := (s.setFld IMG.STAT.ERR 0).setFld IMG.ERR_OFFS.OFFS 0
  ldGo (if src = .host then ldHost else ldFetch) { s1 with img := { s1.img with src := src, buf := [], fifo := [] } }

/-- The loader reads the image from the flash: command 0x6B at address 0, three address bytes, 8 dummy clocks, four lines (R448). -/
def loadFlash (s : State) : State := (loadFrom .flash s).emit (.imageRead 0x6B 0 8 4)

/-- The strapped source (R14). -/
def loadStrapped (s : State) : State :=
  if s.isCell then
    if s.sys.bootsrc = 0 then loadFlash s else toListen (rxPower (loadFrom .lane0 s))
  else match s.sys.bootsrc with
    | 0 => loadFlash s
    | 3 => loadFail (0x01, 0) s
    | _ => loadFrom .host s

/-- An accepted reload de-admits every cell, clears the cell table and holds the control clod and the lanes in reset (R78, R540). -/
def unload (s : State) : State :=
  let pins := s.rd GDC.STAT.addr &&& 0x0000000C
  let s1 : State := { controlReset s with
    evr := { s.evr with blockReq := false }
    cell := cellReset s }
  let s2 := (s1.setFlag IMG.STAT.VALID false).setFlag IMG.CT_STAT.COMMIT_PEND false
  if s.isCell then fltSync (clkHold (s2.wr GDC.STAT.addr (s2.rd GDC.STAT.addr ||| pins)))
  else (s2.setFld SYS.QUAD_STAT.QUAD_RDY 0).setFlag EVR.CONV_STAT.DEBLOCK_PEND false

/-- The converter is not blocked, as the hub has it or as the cell's last header said it (R78). -/
def loadClosed (s : State) : Bool := if s.isCell then s.cellLive && s.cell.lastStart.isSome && !s.cell.hdrBlk else s.deblocked

/-- A RELOAD or HOST_START. -/
def loadRequest (host : Bool) (s : State) : State :=
  if loadClosed s then (s.setFld IMG.STAT.ERR 0x16).setFld IMG.ERR_OFFS.OFFS 0
  else if host then loadFrom .host (unload s) else loadStrapped (unload s)

/-- R76: the loader starts after PORST_N. -/
def execLoadStart (s : State) : Host.Outcome State Fault Refusal :=
  let runs := s.sys.role == Role.hub || s.sys.role == Role.cell
  .next (if runs && !s.sys.inReset && ldState s == ldIdle then loadStrapped s.fresh else s.fresh)

/-! ## Bytes (R76, R79, R80) -/

/-- Bytes come in: the checks of steps 1 to 3 run, and the last byte starts verification. -/
def takeBytes (bs : List Byte) (s : State) : State :=
  let old := s.img.buf.length
  let buf := s.img.buf ++ bs
  match arrivalFail (imgRole s) old buf with
  | some e => loadFail e s
  | none =>
    if 256 ≤ buf.length ∧ totalLen buf ≤ buf.length then
      ldGo ldVerify { s with img := { s.img with buf := buf.take (totalLen buf), fifo := [] } }
    else { s with img := { s.img with buf := buf } }

/-- R76: image bytes arrive: `n` words of the host FIFO, or `bs` from the flash. -/
def execImageBytesIn (n : Nat) (bs : List Byte) (s : State) : Host.Outcome State Fault Refusal :=
  if ldState s = ldHost then
    let ws := s.img.fifo.take n
    .next (if ws = [] then s else takeBytes (ws.flatMap (fun w => leBytes 4 w.toNat)) { s with img := { s.img with fifo := s.img.fifo.drop n } })
  else if ldState s = ldFetch ∧ s.img.src = .flash ∧ bs ≠ [] then .next (takeBytes bs s)
  else .next s

/-- R76: no byte for 1 s in host loading, or for 100 ms over lane 0 once a chunk has come. -/
def execLoadStall (s : State) : Host.Outcome State Fault Refusal :=
  let lane := ldState s == ldFetch && s.img.src == .lane0 && s.cell.imgHave != []
  .next (if ldState s == ldHost || lane then loadFail (0x14, 0) s else s)

/-- Application starts with ROLE, and the TRIP_OUT pins are driven with its polarity from then on (R52). -/
def applyStart (bs : List Byte) (s : State) : State :=
  let s1 := ldGo ldApply s
  if s.isCell then s1 else { s1.setFld EVR.TRIP_CFG.POL (le (bodyOf bs 1) 0x0E 1) with evr := { s1.evr with polSet := true } }

/-- R79: key, signature and content checks after the last byte. -/
def execLastImageByte (s : State) : Host.Outcome State Fault Refusal :=
  if ldState s ≠ ldVerify then .next s
  else
    let bs := s.img.buf
    let hash := fun (k : Nat) => tabGet zeroNat s.img.otpHash k
    let content := if s.isCell then cellFail bs else hubFail bs
    .next (match firstFail [signatureFail (s.fld IMG.OTP_STAT.PROG) (s.fld IMG.OTP_STAT.REVOKED) hash bs, content] with
      | some e => loadFail e s
      | none => applyStart bs s)

/-! ## OTP (R67, R80) -/

/-- The eight hash registers as one number. -/
def hashValue (s : State) : Nat := (upto 8).foldl (fun n k => n + (tabGet (fun _ => 0#32) s.img.hashRegs k).toNat * 2 ^ (32 * k)) 0

/-- A write of the OTP registers; `fromImage` says by a record of the image being applied. -/
def wrOTP (fromImage : Bool) (a w : Nat) (s : State) : WriteResult :=
  if a = IMG.OTP_STAT.addr then .ok (s.store a w)
  else if !fromImage && s.fld IMG.OTP_STAT.PROG != 0 then .error causeOther
  else if a = IMG.OTP_CMD.addr then
    let k := w % 4
    if bitsAt w 24 8 ≠ 0x5A then .ok s
    else match bitsAt w 4 2 with
      | 1 =>
        if bitAt (s.fld IMG.OTP_STAT.PROG) k || s.img.otpBusy.any (fun x => x.1 == k) then .ok (s.setFlag IMG.OTP_STAT.CMD_ERR true)
        else .ok { s with img := { s.img with otpBusy := s.img.otpBusy ++ [(k, hashValue s)] } }
      | 2 =>
        if bitAt (s.fld IMG.OTP_STAT.REVOKED) k then .ok (s.setFlag IMG.OTP_STAT.CMD_ERR true)
        else .ok (s.raiseBit IMG.OTP_STAT.REVOKED k)
      | _ => .ok s
  else .ok { s with img := { s.img with hashRegs := tabSet (fun _ => 0#32) s.img.hashRegs ((a - 0x10080) / 4) (BitVec.ofNat 32 w) } }

/-- R80: the oldest program operation completes. -/
def execOtpProgramDone (s : State) : Host.Outcome State Fault Refusal :=
  match s.img.otpBusy with
  | [] => .next s
  | (k, h) :: t =>
    .next ({ s with img := { s.img with otpBusy := t, otpHash := tabSet zeroNat s.img.otpHash k h } }.raiseBit IMG.OTP_STAT.PROG k)

/-! ## IMG registers (R75, R80) -/

/-- A word of IMG.DATA: into the FIFO, or the overflow that ends the load. -/
def wrImgData (w : Nat) (s : State) : State :=
  if ldState s ≠ ldHost then s
  else if 1024 ≤ s.img.fifo.length then loadFail (0x15, s.img.buf.length + 4 * s.img.fifo.length) s
  else { s with img := { s.img with fifo := s.img.fifo ++ [BitVec.ofNat 32 w] } }

/-- A write of CT_CTRL. -/
def wrCtCtrl (w : Nat) (s : State) : WriteResult :=
  if bitAt w 1 && ctClosed s then .error causeBusy
  else
    let s1 := s.setFld IMG.CT_CTRL.BANK (w % 2)
    let s2 := if bitAt w 2 then { s1 with ct := { s1.ct with shadow := [] } } else s1
    .ok (if bitAt w 1 then { s2.setFlag IMG.CT_STAT.COMMIT_PEND true with ct := { s2.ct with checked := false } } else s2)

/-- A write to the IMG block. -/
def wrIMG (fromImage : Bool) (a w : Nat) (s : State) : WriteResult :=
  if a = IMG.CTRL.addr then .ok (if bitAt w 1 then loadRequest true s else if bitAt w 0 then loadRequest false s else s)
  else if a = IMG.DATA.addr then .ok (wrImgData w s)
  else if a = IMG.CT_CTRL.addr then wrCtCtrl w s
  else if a = IMG.OTP_STAT.addr ∨ a = IMG.OTP_CMD.addr ∨ (0x10080 ≤ a ∧ a < 0x100A0) then wrOTP fromImage a w s
  else .ok s

/-- A read of the IMG block. -/
def rdIMG (a : Nat) (s : State) : Nat :=
  if a = IMG.FIFO.addr then 1024 - s.img.fifo.length
  else if a = IMG.CT_DIRTY.addr then s.ct.shadow.length
  else s.rd a

end Sys2Proof.Machine
end

