-- ==== Sys2Proof/Machine/Gating.lean ====
section
/-!
DEFINITION. Gating of acquisition cores, lane quads and the station clod (R16 to R18), and which blocks answer at all (R10, R13, R513,
R540).
-/
namespace Sys2Proof.Machine

/-! ## What gating does -/

/-- Registers of acquisition core `c`: its core block and its eight inputs (R267, R282). -/
def coreReg (c a : Nat) : Bool :=
  (decide (0x81000 + 0x400 * c ≤ a) && decide (a < 0x81400 + 0x400 * c)) || (decide (0x84000 + 0x100 * c ≤ a) && decide (a < 0x84100 + 0x100 * c))

/-- Core `c` is gated: its registers and its working state go to their reset state. -/
def gateCore (c : Nat) (s : State) : State :=
  { s with reg := regResetWhere (coreReg c) true s.reg, acq := { s.acq with cores := tabSet noCore s.acq.cores c {} } }

/-- The station clod is gated. -/
def gateStation (s : State) : State :=
  { s with reg := regResetWhere (fun a => decide (0x1D0000 ≤ a) && decide (a < 0x200000)) true s.reg, station := {} }

/-- Lane `l` loses its quad: the transmitter goes off, and its LNK registers and physical-layer state reset. -/
def gateLane (l : Nat) (s : State) : State :=
  let s1 := if dsState s l = dsRun then releaseLane l s else s
  let s2 := { s1 with reg := regResetWhere (fun a => decide (0x100000 + 0x800 * l ≤ a) && decide (a < 0x100800 + 0x800 * l)) true s1.reg }
  s2.setLane l { s2.lane l with frame := [], eqLoaded := 0, adjLoaded := 0, prbsBits := 0, injFrames := [], chk := {}, wire := {} }

/-- CLOD_PWR takes a value. -/
def setClodPwr (acq stn : Nat) (s : State) : State :=
  let old := s.fld SYS.CLOD_PWR.ACQ_EN
  let s1 := (s.setFld SYS.CLOD_PWR.ACQ_EN acq).setFld SYS.CLOD_PWR.STN_EN stn
  let s2 := (upto 4).foldl (fun s c => if bitAt old c && !bitAt acq c then gateCore c s else s) s1
  if s.flag SYS.CLOD_PWR.STN_EN && stn % 2 == 0 then gateStation s2 else s2

/-- QUAD_PWR takes a value. -/
def setQuadPwr (w : Nat) (s : State) : State :=
  let old := s.fld SYS.QUAD_PWR.QUAD_EN
  let s1 := (s.setFld SYS.QUAD_PWR.QUAD_EN w).setFld SYS.QUAD_STAT.QUAD_RDY (s.fld SYS.QUAD_STAT.QUAD_RDY &&& w)
  (upto 128).foldl (fun s l => if bitAt old (l / 4) && !bitAt w (l / 4) then gateLane l s else s) s1

/-- R18: quad `q` is ready for lane training, `dt` ns after the last boundary. -/
def execQuadReady (q : Fin 32) (s : State) (dt : Nat := 0) : Host.Outcome State Fault Refusal :=
  if s.hubUp && bitAt (s.fld SYS.QUAD_PWR.QUAD_EN) q.val && !bitAt (s.fld SYS.QUAD_STAT.QUAD_RDY) q.val then
    .next ((upto 4).foldl (fun s j => dsUpdate (4 * q.val + j) (blockNow dt s) s) (s.raiseBit SYS.QUAD_STAT.QUAD_RDY q.val))
  else .next s

/-! ## What R17 protects -/

/-- A core feeds an input named in the tile graph. -/
def coreUsed (s : State) (c : Nat) : Bool := (graphInputs s.img.graph).any (fun i => i / 8 == c)

/-- A quad carries an admitted cell. -/
def quadUsed (s : State) (q : Nat) : Bool := (upto 4).any (fun j => laneAdmitted s (4 * q + j))

/-- R17: would this value of CLOD_PWR gate a unit in use while the converter is deblocked? -/
def clodRefused (acq stn : Nat) (s : State) : Bool :=
  let old := s.fld SYS.CLOD_PWR.ACQ_EN
  s.deblocked && ((upto 4).any (fun c => bitAt old c && !bitAt acq c && coreUsed s c)
    || (s.flag SYS.CLOD_PWR.STN_EN && stn % 2 == 0 && syncMode s == 1))

/-- The same for QUAD_PWR. -/
def quadRefused (w : Nat) (s : State) : Bool :=
  s.deblocked && (upto 32).any (fun q => bitAt (s.fld SYS.QUAD_PWR.QUAD_EN) q && !bitAt w q && quadUsed s q)

/-! ## Which addresses answer -/

/-- How a block answers: it does; its clod is gated or held in reset; the address belongs to no block of the role; none of the port's
accesses is answered. -/
inductive Answer where
  | live
  | gated
  | absent
  | dead
  deriving DecidableEq, Repr

/-- Blocks of the cell's register map (R10). -/
def cellBlock (a : Nat) : Bool :=
  decide (a < 0xA0000) || (decide (0xB0000 ≤ a) && decide (a < 0xD0000)) || (decide (0x100000 ≤ a) && decide (a < 0x100800))

/-- Acquisition core whose registers hold an address. -/
def acqGated (a : Nat) (s : State) : Bool := (upto 4).any (fun c => coreReg c a && !acqRunning s c)

/-- Units under host control that are gated (R18). -/
def unitGated (a : Nat) (s : State) : Bool :=
  acqGated a s
    || (!s.isCell && decide (0x100000 ≤ a) && decide (a < 0x140000) && !bitAt (s.fld SYS.QUAD_PWR.QUAD_EN) ((a - 0x100000) / 0x2000))
    || (!s.isCell && decide (0x1D0000 ≤ a) && decide (a < 0x200000) && !s.flag SYS.CLOD_PWR.STN_EN)

/-- Blocks held in reset until an image is applied (R540), and while PLL0 of a hub is lost (R480). -/
def imageGated (a : Nat) (s : State) : Bool :=
  (ldState s != ldDone || (!s.isCell && bitAt s.clk.lost 0)) && (if s.isCell then controlBlock true a
    else controlBlock false a && !(decide (0x1C0000 ≤ a) && decide (a < 0x200000)))

/-- Blocks that answer while thermal shutdown holds and the hub has cooled (R513). -/
def cooledBlock (a : Nat) : Bool := decide (a < 0x10000) || (decide (0x40000 ≤ a) && decide (a < 0x50000)) || a == THM.SD.addr

/-- How address `a` answers an access. -/
def answerAt (a : Nat) (s : State) : Answer :=
  if s.flag THM.SD.ACTIVE then (if s.flag THM.SD.COOL && !s.isCell && cooledBlock a then .live else .dead)
  else if s.sys.inReset then .dead
  else if s.isCell then (if !cellBlock a then .absent else if imageGated a s || unitGated a s then .gated else .live)
  else if s.sys.role ≠ Role.hub ∨ bitAt s.clk.lost 1 = true then .dead
  else if 0xB0000 ≤ a ∧ a < 0xD0000 then .absent
  else if imageGated a s || unitGated a s then .gated
  else .live

end Sys2Proof.Machine
end

