-- ==== Sys2Proof/Machine/Apply.lean ====
section
/-!
DEFINITION. Application of a verified image (R52 to R66, R186, R343, R353, R355, R395, R433, R516).
-/
namespace Sys2Proof.Machine

/-! ## Register records (R61, R66, R186) -/

/-- What a write leaves; a refused one leaves nothing. -/
def written (s : State) (r : WriteResult) : State := match r with | .ok s' => s' | .error _ => s

/-- A banked word of CEN or FUN goes into both banks. -/
def putBoth (a w : Nat) (c : Copy) : Copy :=
  { c with banks := { c.banks with active := tabSet zeroNat c.banks.active a w, pending := tabSet zeroNat c.banks.pending a w } }

/-- A record's write of offset `o` in the block of tile `t`: TCTL loads the tile's state when SLOAD is set, TPRESET and parameter words go
into both banks (R61). -/
def recordTileWrite (t o w : Nat) (r : TileRec) (c : Copy) : Copy :=
  let a := tileAddr t
  if o = 0 then
    if w % 2 = 1 then
      c |> fun c => { c with eng := c.eng.setTile t (tileLoad r.type (c.banks.pend (a + 0x20) + 2 ^ 32 * c.banks.pend (a + 0x24)) (c.eng.tile t)) }
    else c
  else putBoth (a + o) w c

/-- A record to CEN or FUN. -/
def recordEngine (a w : Nat) (s : State) : State :=
  match recordTile a with
  | some (fun_, t, o) => match s.img.graph.tile? t with
    | none => s
    | some r =>
      if bankedWord r o then
        let c := recordTileWrite t o w r s.cp
        { s with cp := match trackerTwin s.img.graph t with
          | some u => if o = 0x44 then putBoth (tileAddr u + o) w c else c
          | none => c }
      else written s (wrTile fun_ t o w s)
  | none =>
    if 0x201000 ≤ a ∧ a < 0x201400 then { s with cp := putBoth a w s.cp }
    else written s (if a < 0x300000 then wrCEN a w s else wrFUN a w s)

/-- A record to CLT: LCTRL keeps ADM_OPEN, and releases no cell. -/
def recordClt (a w : Nat) (s : State) : State :=
  if 0x141000 ≤ a ∧ a < 0x151000 ∧ (a - 0x141000) % 0x200 = 0 then
    written s (wrCLT a (putBit (putBit w 2 (bitAt (s.rd a) 2)) 4 false) 0 s)
  else written s (wrCLT a w 0 s)

/-- One register record as a complete 32-bit write. -/
def applyRecord (s : State) (x : Nat × Nat) : State :=
  let a := x.1
  let w := x.2
  if unitGated a s then s
  else match a / 0x10000 with
    | 0x1 => written s (wrIMG true a w s)
    | 0x2 => written s (wrCLK (refBusy s) a w s)
    | 0x3 => written s (wrVRC a w s)
    | 0x5 => written s (wrTHM a w s)
    | 0x8 => written s (wrACQ a w 0 s)
    | 0x9 => written s (wrCMP a w s)
    | 0xA => written s (wrPWM a w s.baseNs s)
    | 0xB => written s (wrGDC a w s.cell.now s)
    | 0xC => written s (wrCEL a w s)
    | 0xE => written s (wrMOD a w s)
    | 0xF => written s (wrGRD a w s)
    | 0x1D => written s (wrETH a w 0 s)
    | 0x1E => written s (wrCAN a w 0 0 s)
    | n =>
      if 0x10 ≤ n ∧ n < 0x14 then written s (if s.isCell then wrLnkCell false a w s else wrLnkHub ((a - 0x100000) / 0x800) a w 0 s)
      else if 0x14 ≤ n ∧ n < 0x18 then recordClt a w s
      else if 0x20 ≤ n then recordEngine a w s
      else s

/-- All register records; writes of MOD and GRD take effect before the clod is released. -/
def applyRecords (bs : List Byte) (s : State) : State :=
  takeWrites (((regSects bs).flatMap (fun (x : Sect) => (recordsOf x bs).map (fun (r : Nat × Nat × Nat) => (r.2.1, r.2.2)))).foldl applyRecord s)

/-! ## Sections -/

/-- ROLE of a hub image (R52). -/
def applyRole (b : List Byte) (s : State) : State :=
  let s1 := (((s.setFld SYS.PERIOD_CFG.TC (le b 0 1)).setFld SYS.PERIOD_CFG.OUTER_KM1 (le b 1 1)).setFld SYS.PERIOD_CFG.SYNC_MODE (le b 2 1)).setFld
    SYS.PERIOD_CFG.SLEW_EXP (le b 3 1)
  let s2 := (s1.setFld SYS.PERIOD_OFFS.OFFSET_NS (le b 4 2)).setFld CLT.DREF.D_REF (le b 6 2)
  let s3 := setClodPwr (le b 0x0C 1) (le b 0x0D 1) (setQuadPwr (le b 8 4) s2)
  let s4 := s3.setFld EVR.TRIP_CFG.POL (le b 0x0E 1)
  (upto 128).foldl (fun s l => s.setFlag (CLT.LCTRL.LEVEL.at (cltOff l)) (bitAt (le b (0x10 + l / 8) 1) (l % 8))) s4

/-- ROLE of a cell image (R53). -/
def applyCellRole (b : List Byte) (s : State) : State :=
  { (s.setFld GDC.CFG.TYPE (le b 0 1)).setFld CEL.CFG.HOLD_H (le b 1 1) with
    img := { s.img with cellType := le b 0 1, maxLevel := le b 2 1 } }

/-- CELLTAB (R55): configuration fields and WEAR; a used entry starts absent with REASON 0x43. -/
def applyCells (b : List Byte) (s : State) : State :=
  (tabEntries b).foldl (fun (s : State) (x : Nat × List Byte) =>
    let c := entryCfg x.2
    s.setEntry x.1 { cfg := c, hub := { wear := le x.2 0x20 4, reason := if c.uid = 0 then 0 else 0x43 } }) s

/-- GRAPH (R57, R186): both banks take the parameter words and the constants. -/
def graphCopy (b : List Byte) (c0 : Copy) : Copy :=
  let h := graphHdr b
  let c1 := (upto h.tiles).foldl (fun (c : Copy) i =>
    let t := tileRec b i
    (upto (tileParams t.type)).foldl (fun (c : Copy) k => putBoth (paramAddr t.tile k) (recPar b i k) c) c) c0
  (upto h.consts).foldl (fun (c : Copy) w => putBoth (constAddr w) (le b (h.constOff w) 4) c) c1

/-- EVMAP (R60). -/
def applyEvmap (b : List Byte) (s : State) : State :=
  (upto 128).foldl (fun (s : State) k => s.store (EVR.MAP.addr + 4 * k) (le b (4 * k) 4)) s

/-- A proposal's payload, its declared length, and the image's window (R63). -/
def proposal (bs : List Byte) (type : Nat) : Option (List Byte × Nat × Nat × Nat) :=
  (sectOf bs type).map (fun x =>
    let b := x.body bs
    ((b.drop 8).take (le b 0 4), le b 0 4, le bs 0x0E 1, le bs 0x0F 1))

/-- The proposals go to the islands' seams, and read as held until the islands decide (R63, R395, R433). -/
def applyProposals (bs : List Byte) (s : State) : State :=
  let k := proposal bs 9
  let s1 : State := { s with kao := { s.kao with offer := k }, marl := { s.marl with handed := some (proposal bs 10) } }
  let m := proposal bs 10
  ((s1.setFlag SYS.KAO_EVT.OFFER_HELD k.isSome).setFld IMG.STAT.KAO_PROP (if k.isSome then 4 else 0)).setFld IMG.STAT.MRL_PROP (if m.isSome then 4 else 0)

/-- DATA of strata event 0x0002; its packing is the model's (log 60). -/
def appliedData (bs : List Byte) : Nat :=
  le bs 0x10 2 + 2 ^ 16 * le bs 0x12 2 + 2 ^ 32 * le bs 0x14 2 + 2 ^ 48 * le bs 0x0D 1 + 2 ^ 56 * le bs 0x1A 1

/-- Header fields reported while the image runs (R69, R80). -/
def applyInfo (bs : List Byte) (s : State) : State :=
  (((s.setFld IMG.INFO_VER.MAJOR (le bs 0x10 2)).setFld IMG.INFO_VER.MINOR (le bs 0x12 2)).setFld IMG.INFO_BUILD.BUILD (le bs 0x14 4)).wr
    IMG.INFO_LVL.addr (le bs 0x1A 1 * 2 ^ 24 + le bs 0x0F 1 * 2 ^ 16 + le bs 0x0E 1 * 2 ^ 8 + le bs 0x0D 1)

/-- The load is done: the recorder scans its ring (R516) and notes the image. -/
def loadDone (bs : List Byte) (s : State) : State :=
  let s1 := (ldGo ldDone s).setFlag IMG.STAT.VALID true
  let s2 := (s1.setFld STR.STAT.STATE strScanning).event 0x0002 (appliedData bs)
  { s2 with img := { s2.img with buf := [], src := .none } }

/-! ## Hub (R66, R186, R353) -/

/-- Every cell of an arm is absent until an upstream cycle boundary counts: ABSENT reads CONFIGURED (R179). -/
def confReset (s : State) : State :=
  (upto 6).foldl (fun (s : State) a => s.setFld (GRD.ARM_CONF2.ABSENT.at (armOff a)) (s.img.arms.getD a {}).configured) s

/-- The sections of a hub image in order. -/
def applyHub (bs : List Byte) (s : State) : State :=
  let topo := bodyOf bs 2
  let graph := bodyOf bs 4
  let s1 := applyRole (bodyOf bs 1) (applyInfo bs s)
  let s2 := confReset { s1 with img := { s1.img with arms := topoArms topo, laneCells := topoLanes topo } }
  let s3 := applyCells (bodyOf bs 3) { s2 with ct := { s2.ct with live := [], shadow := [], checked := false } }
  let s4 := { s3 with img := { s3.img with tband := tbandOf (bodyOf bs 7) } }
  let s5 := if s4.fld VRC.CFG.TSRC = 2 then vrcNewTarget s4 else s4
  let s6 := { s5 with cp := graphCopy graph (keptCopy s5.cp), cpB := none, img := { s5.img with graph := graphOf graph } }
  let s7 := applyProposals bs (applyEvmap (bodyOf bs 5) (applyRecords bs s6))
  let s8 := { s7 with img := { s7.img with cellImgs := ((sectsOf bs).filter (fun (x : Sect) => x.type == 11)).map (fun (x : Sect) => x.body bs) } }
  let s9 := loadDone bs { s8 with link := { s8.link with anchorDue := true } }
  { s9 with loam := { s9.loam with valid := latchCheckpoint s9, applied := latchCheckpoint s9 } }

/-! ## Cell (R322, R335, R343, R355) -/

/-- WEAR from its record (R343). -/
def applyWear (s : State) : State :=
  match wearLoad s.cell.wearRec with
  | some w => s.setFld CEL.WEAR.WEAR w
  | none => ((s.setFld CEL.WEAR.WEAR 0).setFlag CEL.WEAR_REC.BAD true).because 0xAC

/-- A bypass switch found closed (R335). -/
def applyBypass (s : State) : State :=
  if s.flag GDC.STAT.BYP_FB then
    bypRise s.cell.now ({ s with cell := { s.cell with perm := if s.cell.perm = 0 then 3 else s.cell.perm } }.because 0x8D)
  else s

/-- The sections of a cell image in order, then the state R355 starts from; `t` is cell time: stage 3 with its wear commit, and the
latches that stand since the comparators were enabled (R287). -/
def applyCell (bs : List Byte) (t vhold : Nat) (s : State) : State :=
  let s1 := applyCellRole (bodyOf bs 1) (applyInfo bs s)
  let s2 := { s1 with img := { s1.img with tband := tbandOf (bodyOf bs 7) } }
  let s3 := if s2.fld VRC.CFG.TSRC = 2 then vrcNewTarget s2 else s2
  let s4 := applyEvmap (bodyOf bs 5) (applyRecords bs s3)
  let s5 := loadDone bs { s4 with cell := { s4.cell with rateDiv := s4.fld ACQ.CORE_CFG.RATE_DIV, now := t } }
  let s6 := toListen (if rxState s5 = rxOff then rxPower s5 else s5)
  let s7 := (((s6.setFld CEL.STAT.STAGE 3).setFlag CEL.STAT.LOW_ENERGY true).setFld LNK.C_ADM.CAD 2)
  let s8 := s7.setFld ACQ.CORE_CFG.RATE_DIV (stageRate s7 3 (cadDiv 2))
  applyBypass (latchesStand (wearCommit vhold (applyWear s8)))

/-- R66: every section has been applied; `dt` µs have passed since the slewed supply target was last brought up to date, and `t` is
cell time. -/
def execImageApplied (dt t : Nat) (s : State) (vhold : Nat := 0) : Host.Outcome State Fault Refusal :=
  if ldState s ≠ ldApply then .next s
  else
    let s1 := vrcAdvance dt s.fresh
    .next (if s.isCell then applyCell s.img.buf t vhold s1 else applyHub s.img.buf s1)

end Sys2Proof.Machine
end

