-- ==== Sys2Proof/Machine/Loess.lean ====
section
/-!
DEFINITION. The loess domain (chapter 16): its 250 ms sample, the real-time counter, tamper inputs, backup cell, and the LSS
registers.
-/
namespace Sys2Proof.Machine

/-- The domain has lost its state: its registers and its counter start afresh (R494). -/
def loessLost (s : State) : State :=
  let s1 := { s with
    reg := regResetWhere (fun a => (decide (0x40000 ≤ a) && decide (a < 0x50000)) || a == STR.REFRESH.addr || a == THM.SD.addr) false s.reg
    lss := { vdda := s.lss.vdda } }
  ((s1.setFlag LSS.STAT.LOST true).setFlag LSS.STAT.NO_MARK true).setFld LSS.RST_CAUSE.CAUSE 1

/-- R494: VBAK and VDDA were both absent, and one of them returns. -/
def execLoessPowerOn (vdda : Bool) (s : State) : Host.Outcome State Fault Refusal :=
  let s1 := loessLost s
  .next { s1 with lss := { s1.lss with vdda := vdda } }

/-- A threshold with hysteresis: in effect below `th`, released at `th` + HYS. -/
def below (was : Bool) (mv th hys : Nat) : Bool := if mv < th then true else if th + hys ≤ mv then false else was

/-- R498: VBAK is compared; while VDDA is present nothing is cut. -/
def backupCell (mv : Nat) (s : State) : State :=
  let hys := s.fld LSS.VBAK_TH1.HYS
  let low := below (s.flag LSS.STAT.LOW) mv (s.fld LSS.VBAK_TH0.WARN) hys
  let s1 := (s.setFld LSS.VBAK.MV mv).setFlag LSS.STAT.LOW low
  let s2 := if low && !s.flag LSS.STAT.LOW then s1.raise LSS.EVT.LOW else s1
  let off := !s.lss.vdda && below (s.flag LSS.STAT.TAMPER_OFF) mv (s.fld LSS.VBAK_TH0.CUT1) hys
  let cut := !s.lss.vdda && below s.lss.rtcCut mv (s.fld LSS.VBAK_TH1.CUT2) hys
  let s3 := if (off && !s.flag LSS.STAT.TAMPER_OFF) || (cut && !s.lss.rtcCut) then s2.raise LSS.EVT.CUT else s2
  let s4 := if cut && !s.lss.rtcCut then s3.setFlag LSS.STAT.RTC_VALID false else s3
  { (s4.setFlag LSS.STAT.TAMPER_OFF off) with lss := { s4.lss with rtcCut := cut } }

/-- R496: one tamper input at a sample; the first latch, while none is set, records its seconds. -/
def tamperInput (k : Nat) (low : Bool) (s : State) : State :=
  if !bitAt (s.fld LSS.TAMPER.EN) k || s.flag LSS.STAT.TAMPER_OFF then
    { s with lss := if k = 0 then { s.lss with low0 := 0 } else { s.lss with low1 := 0 } }
  else
    let run := if low then min 2 ((if k = 0 then s.lss.low0 else s.lss.low1) + 1) else 0
    let s1 : State := { (s.setFld LSS.TAMPER.PIN (putBit (s.fld LSS.TAMPER.PIN) k low)) with
      lss := if k = 0 then { s.lss with low0 := run } else { s.lss with low1 := run } }
    if run = 2 ∧ bitAt (s.fld LSS.TAMPER.LATCH) k = false then
      let s2 := (s1.raiseBit LSS.TAMPER.LATCH k).event 0x0050 k
      if s1.fld LSS.TAMPER.LATCH = 0 then (s2.setFld LSS.TAMPER_SEC.SEC ((rtcNow s2 / 32768).toNat % 2 ^ 32)).raise LSS.EVT.TAMPER else s2
    else s1

/-- R494 to R498, R513, R520: the 250 ms sample. `low` are the tamper inputs that read low, `cool` says the junction reads below
115 °C. -/
def execLoessSample (vbak vhold : Nat) (low : Fin 4) (vdda cool : Bool) (s : State) : Host.Outcome State Fault Refusal :=
  let s0 := { s.fresh with lss := { s.lss with vdda := vdda, rtc := if s.lss.rtcCut then s.lss.rtc else (s.lss.rtc + 8192) % (2 ^ 63 : Int) },
                           strata := { s.strata with ticks := 0 } }
  if vdda = false ∧ vbak < 1600 then .next (loessLost s0)
  else
    let s1 := holdMeasure vhold (backupCell vbak s0)
    let s2 := tamperInput 1 (bitAt low.val 1) (tamperInput 0 (bitAt low.val 0) s1)
    let s3 := if cool then shutdownCool s2 else s2
    .next (if s3.strata.retry && !s3.sys.inReset then flushChunk vhold s3 else s3)

/-- A write of RTC_CTRL.SET, `ticks` of 1/32,768 s after the last sample (R495). -/
def rtcSet (ticks : Nat) (s : State) : State :=
  let sec : Nat := s.fld LSS.RTC_SET_LO.SEC + 2 ^ 32 * s.fld LSS.RTC_SET_HI.SEC
  let s0 := { s with strata := { s.strata with ticks := ticks } }
  let s1 := { s0 with lss := { s0.lss with rtc := (sec : Int) * 32768 - ticks, rtcCut := s0.lss.rtcCut && !s0.lss.vdda } }.setFlag LSS.STAT.RTC_VALID true
  s1.enter (stampEv 0x0051 (rtcNow s0 / 32768).toNat s1)

/-- A read of RTC_SUB: the fraction, and the seconds latched. -/
def rtcRead (ticks : Nat) (s : State) : State × Nat :=
  let s1 := { s with strata := { s.strata with ticks := ticks } }
  let t := rtcNow s1
  let sec := (t / 32768).toNat
  ((s1.setFld LSS.RTC_SEC_LO.SEC (sec % 2 ^ 32)).setFld LSS.RTC_SEC_HI.SEC (sec / 2 ^ 32), (t % 32768).toNat)

/-- A write to the LSS block; `ticks` of 1/32,768 s have passed since the last sample. -/
def wrLSS (a w ticks : Nat) (s : State) : WriteResult :=
  if a = LSS.RTC_CTRL.addr then .ok (if bitAt w 0 then rtcSet ticks s else s)
  else if a = LSS.TAMPER.addr then
    let s1 := s.store a w
    let keep := s.fld LSS.TAMPER.LATCH &&& (s.fld LSS.TAMPER.PIN ||| (3 - w % 4))
    .ok (s1.setFld LSS.TAMPER.LATCH keep)
  else .ok (s.store a w)

/-- Live bits of the LSS block. -/
def rdLSS (a : Nat) (s : State) : Nat := if a = LSS.STAT.addr then putBit (s.rd a) 30 (!s.lss.vdda) else s.rd a

end Sys2Proof.Machine
end

