-- ==== Sys2Proof/Machine/Bus.lean ====
section
/-!
DEFINITION. The register bus: what a word written or read does in its block, access errors (R5 to R10, R17, R18, R45, R443, R471,
R540), and the SYS block (R46).
-/
namespace Sys2Proof.Machine

/-! ## SYS (R17, R45, R46) -/

/-- A write to the SYS block. -/
def wrSYS (a w : Nat) (s : State) : WriteResult :=
  if a = SYS.CLOD_PWR.addr then
    let acq := if s.isCell then w % 2 else w % 16
    let stn := if s.isCell then 0 else bitsAt w 4 1
    if clodRefused acq stn s then .error causeDeblocked else .ok (setClodPwr acq stn s)
  else if a = SYS.QUAD_PWR.addr then
    if s.isCell then .ok s else if quadRefused (w % 2 ^ 32) s then .error causeDeblocked else .ok (setQuadPwr (w % 2 ^ 32) s)
  else if a = SYS.PERIOD_CFG.addr then
    if s.deblocked && (s.rd a &&& 0x00033F03) != (w &&& 0x00033F03) then .error causeDeblocked else .ok (s.store a w)
  else if a = SYS.KAO_CMD.addr then kaoCommand w s
  else .ok (s.store a w)

/-- CLOD_STAT as it stands: a read of it finds the host clod running, be it alone (R513). -/
def clodStat (s : State) : Nat :=
  let run := (upto 4).foldl (fun m c => if acqRunning s c then m + 2 ^ (4 + c) else m) 0
  let up := !s.sys.inReset
  run + s.sys.vddf.toNat * 2 ^ 9 + s.sys.vddm.toNat * 2 ^ 8 + (up && !s.isCell && s.flag SYS.CLOD_PWR.STN_EN && !bitAt s.clk.lost 1).toNat * 2 ^ 3
    + 4 + up.toNat * 2 + (up && ldState s == ldDone && !bitAt s.clk.lost 0).toNat

/-- A read of the SYS block; one of PCNT_LO latches the high bits. -/
def rdSYS (a : Nat) (s : State) : State × Nat :=
  if a = SYS.STRAP.addr then
    let role := match s.sys.role with | .hub => 0 | .cell => 1 | .factoryTest => 2 | .reserved => 3
    (s, s.sys.bootsrc % 4 * 8 + s.sys.lvl1.toNat * 4 + role)
  else if a = SYS.CLOD_STAT.addr then (s, clodStat s)
  else if a = SYS.PCNT_LO.addr then (s.setFld SYS.PCNT_HI.PCNT_HI (s.period.pcnt / 2 ^ 32), s.period.pcnt % 2 ^ 32)
  else if a = SYS.QUAD_PWR.addr ∧ s.isCell = true then (s, 1)
  else if a = SYS.QUAD_STAT.addr ∧ s.isCell = true then (s, (rxState s != rxOff).toNat)
  else (s, s.rd a)

/-! ## A block takes a word, or gives one -/

/-- A complete word at address `a` of a block that answers. `dt` and `ticks` are the time since the block's own reference point, where
the effect depends on it: µs for VRC, ns for EVR, ACQ and PWM, 6.4 ns steps for ETH, 1/32,768 s for LSS, CAN-clock cycles and 6.4 ns steps
for CAN. -/
def devWrite (a w dt ticks : Nat) (s : State) : WriteResult :=
  match a / 0x10000 with
  | 0x0 => wrSYS a w s
  | 0x1 => wrIMG false a w s
  | 0x2 => wrCLK (refBusy s) a w s
  | 0x3 => wrVRC a w (vrcAdvance dt s)
  | 0x4 => wrLSS a w dt s
  | 0x5 => wrTHM a w s
  | 0x6 => wrSTR a w s
  | 0x7 => wrEVR a w dt s
  | 0x8 => wrACQ a w dt s
  | 0x9 =>
    if s.isCell then (if 0x90200 ≤ a then .ok s else (wrCMP a w s).map (latchActions s.cell.now s)) else wrCMP a w s
  | 0xA => wrPWM a w (s.baseNs + dt) s
  | 0xB => wrGDC a w (8 * (s.baseNs + dt)) s
  | 0xC => wrCEL a w s
  | 0xD => wrLMP a w s
  | 0xE => wrMOD a w s
  | 0xF => wrGRD a w s
  | 0x1C => wrHST a w s
  | 0x1D => wrETH a w dt s
  | 0x1E => wrCAN a w dt ticks s
  | 0x1F => wrSLT a w s
  | 0x41 => if a = MRL.CONFIRM.addr then marlConfirm w s else .ok s
  | n =>
    if 0x10 ≤ n ∧ n < 0x14 then (if s.isCell then wrLnkCell true a w s else wrLnkHub ((a - 0x100000) / 0x800) a w dt s)
    else if 0x14 ≤ n ∧ n < 0x18 then wrCLT a w dt s
    else if 0x18 ≤ n ∧ n < 0x1C then wrCT a w s
    else if 0x20 ≤ n ∧ n < 0x30 then wrCEN a w s
    else if 0x30 ≤ n ∧ n < 0x40 then wrFUN a w s
    else .ok s

/-- The word at address `a` of a block that answers, and what reading it does. -/
def devRead (p : Path) (a dt ticks : Nat) (s : State) : State × Nat :=
  match a / 0x10000 with
  | 0x0 => rdSYS a s
  | 0x1 => (s, rdIMG a s)
  | 0x2 => (s, rdCLK a s)
  | 0x3 => (s, rdVRC a (vrcAdvance dt s))
  | 0x4 => if a = LSS.RTC_SUB.addr then rtcRead dt s else (s, rdLSS a s)
  | 0x7 => (s, rdEVR a (s.baseNs + dt) s)
  | 0x8 => (s, rdACQ a s)
  | 0x9 => (s, rdCMP a s)
  | 0xA => (s, rdPWM a (s.baseNs + dt) s)
  | 0xE => (s, rdModGrd a s)
  | 0xF => (s, rdModGrd a s)
  | 0x1C => if 0x1C0100 ≤ a ∧ a < 0x1C0200 then (s, leNat (stRead s a 4)) else (s, s.rd a)
  | 0x1D => rdETH a dt s
  | 0x1E => (s, rdCAN a (if a = CAN.TS.addr then dt else ticks) s)
  | 0x1F => rdSLT a s
  | 0x40 => (s, rdKAO a s)
  | 0x41 => (s, rdMRL a s)
  | n =>
    if 0x10 ≤ n ∧ n < 0x14 then
      let s1 := if (a - 0x100000) % 0x800 = 0x30 then
          s.setFld (LNK.PRBS_BITS_HI.BITS_HI.at (lnkOff ((a - 0x100000) / 0x800))) ((s.lane ((a - 0x100000) / 0x800)).prbsBits / 2 ^ 32) else s
      (s1, if s.isCell then rdLnkCell a s else rdLnkHub a s)
    else if 0x14 ≤ n ∧ n < 0x18 then (s, rdCLT a s)
    else if 0x18 ≤ n ∧ n < 0x1C then rdCT p a s
    else if 0x20 ≤ n ∧ n < 0x30 then (s, rdCEN a s)
    else if 0x30 ≤ n ∧ n < 0x40 then (s, rdFUN a s)
    else if 0x80 ≤ n ∧ n < 0xA0 then (s, memWord s.strata.mram (a - 0x800000))
    else (s, s.rd a)

/-! ## Access errors (R471) -/

/-- An access of the host is recorded as an error: the first one's path, cause and address, later ones as a count. -/
def accessError (p : Path) (cause a : Nat) (s : State) : State :=
  match p with
  | .mgmt => { s with cell := { s.cell with replyErr := true } }
  | _ =>
    if s.flag HST.AERR.VALID then s.count HST.AERR.COUNT 1
    else (s.wr HST.AERR.addr (2 ^ 31 + (if p = .spi then 16 else 0) + cause)).wr HST.AERR_ADDR.addr a

/-- The path reaches the register map of the role: management messages in a cell, the two host ports in a hub; an endpoint in D3hot takes no
memory request (R444; log 31). -/
def pathOk (p : Path) (s : State) : Bool := s.isCell == (p == .mgmt) && !(p == .pcie && s.ep.d3hot)

/-- A request that reaches the fabric in reset ends with Unsupported Request, which the endpoint's AER status records (R442, R444; log 31). -/
def unsupported (p : Path) (s : State) : State := if p = .pcie then { s with ep := { s.ep with aer := s.ep.aer ||| 0x00100000#32 } } else s

/-- The cell-table, CEN and strata windows take accesses of any width (R7). -/
def anyWidth (a : Nat) : Bool :=
  (decide (0x180000 ≤ a) && decide (a < 0x1C0000)) || (decide (0x200000 ≤ a) && decide (a < 0x300000)) || (decide (0x800000 ≤ a) && decide (a < 0xA00000))

/-- A word of the pending bank as the writes held during a restore will leave it (R197, R252). -/
def pendNow (a : Nat) (s : State) : Nat :=
  match s.loam.heldWrites.reverse.find? (fun x => x.1 == a) with
  | some x => x.2
  | none => (bankCopy s).banks.pend a

/-- What the bytes that a narrow write leaves out hold: the pending word of a bank, the shadow word, or the RW bits of a register. -/
def narrowBase (a : Nat) (s : State) : Nat :=
  if 0x180000 ≤ a ∧ a < 0x1C0000 then ctWord s 1 ((a - 0x180000) / 64) ((a - 0x180000) % 64 / 4)
  else if 0x201000 ≤ a ∧ a < 0x280000 then pendNow a s
  else match regRow? a with
    | some r => s.rd a &&& r.rw
    | none => 0

/-- The enabled bytes of `w` over the others of `base`. -/
def mergeBytes (be w base : Nat) : Nat :=
  (upto 4).foldl (fun x k => if bitAt be k then putBits x (8 * k) 8 (bitsAt w (8 * k) 8) else x) base

/-! ## Accesses -/

/-- A write of word `w` with byte enables `be` at address `a`, over path `p`. -/
def busWriteBytes (p : Path) (a be w dt ticks : Nat) (s : State) : State :=
  if !pathOk p s || be % 16 == 0 then s
  else match answerAt a s with
    | .dead => unsupported p s
    | .absent => s
    | .gated => accessError p causeGated a s
    | .live =>
      if 0x420000 ≤ a ∧ ¬ (0x800000 ≤ a ∧ a < 0xA00000) then s
      else if be % 16 = 15 then
        match devWrite a w dt ticks s with
        | .ok s' => if commitBusy a w s then accessError p causeBusy a s' else s'
        | .error c => accessError p c a s
      else if anyWidth a then
        match devWrite a (mergeBytes be w (narrowBase a s)) dt ticks s with
        | .ok s' => s'
        | .error c => accessError p c a s
      else accessError p causeNarrow a s

/-- A complete write. -/
def busWrite (p : Path) (a : Nat) (w : W32) (dt ticks : Nat) (s : State) : State := busWriteBytes p a 15 w.toNat dt ticks s.fresh

/-- A read of one word: the state after it, and what it returns; nothing where it is not answered. -/
def busRead (p : Path) (a dt ticks : Nat) (s : State) : State × Option Nat :=
  if !pathOk p s then (s, none)
  else match answerAt a s with
    | .dead => (unsupported p s, none)
    | .absent => (s, some 0)
    | .gated => (s, some 0)
    | .live => let r := devRead p a dt ticks s; (r.1, some r.2)

/-- The bytes a read addresses, zeros in the places of the others: `be` over PCI Express; the SPI target and messages read words (R7, R447). -/
def readEnables (p : Path) (be : Nat) : Nat := if p = .pcie then be % 16 else 15

/-- A read of the bytes `be` of a word: they go out. -/
def readOut (p : Path) (a be dt ticks : Nat) (s : State) : State :=
  let e := readEnables p be
  if e = 0 then s.fresh
  else
    let r := busRead p a dt ticks s.fresh
    match r.2 with
    | some w => r.1.emit (.word (mergeBytes e w 0))
    | none => r.1

/-- R7: a write to a register with no row of its own. -/
def execRegisterWrite (p : Path) (word : Fin 8388608) (be : Fin 16) (w : W32) (dt ticks : Nat) (s : State) : Host.Outcome State Fault Refusal :=
  .next (busWriteBytes p (4 * word.val) be.val w.toNat dt ticks s.fresh)

end Sys2Proof.Machine
end

