-- ==== Sys2Proof/Machine/CellMsg.lean ====
section
/-!
DEFINITION. Management messages that reach a cell's registers and its loader, and the SPI target (R7, R10, R137, R142 to R144, R447).
-/
namespace Sys2Proof.Machine

/-! ## REG_READ and REG_WRITE (R142) -/

/-- Every one of `n` words from offset `a` lies in a block of the cell (R10). -/
def cellWords (a n : Nat) : Bool := a % 4 == 0 && (upto n).all (fun j => cellBlock (a + 4 * j))

/-- Words read in turn. -/
def regReads (dt ticks : Nat) : List Nat → State → List Byte × State
  | [], s => ([], s)
  | a :: as, s =>
    let r := busRead .mgmt a dt ticks s
    let t := regReads dt ticks as r.1
    (leBytes 4 (r.2.getD 0) ++ t.1, t.2)

/-- R142: up to three register words. -/
def execRegRead (dt ticks : Nat) (s : State) : Host.Outcome State Fault Refusal :=
  .next (otherMsg 0x10 (fun m s =>
    let a := m.val 0 4
    let n := m.byte 4
    if m.payload.length < 5 ∨ n = 0 ∨ 3 < n then (3, [], s)
    else if !cellWords a n then (1, [], s)
    else let r := regReads dt ticks ((upto n).map (fun j => a + 4 * j)) s; (0, r.1, r.2)) s)

/-- A word written; whether it was discarded. A refused RELOAD is discarded after the loader has noted 0x16 (R78). -/
def regWriteOne (a w dt : Nat) (s : State) : Bool × State :=
  let refused := a == IMG.CTRL.addr && w % 4 != 0 && loadClosed s
  match answerAt a s with
  | .live => match devWrite a w dt 0 s with
    | .ok s' => (refused, s')
    | .error _ => (true, s)
  | _ => (true, s)

/-- Words written in turn from address `a`; whether one was discarded. -/
def regWrites (dt a : Nat) : List Nat → State → Bool × State
  | [], s => (false, s)
  | w :: ws, s =>
    let r := regWriteOne a w dt s
    let t := regWrites dt (a + 4) ws r.2
    (r.1 || t.1, t.2)

/-- R142: up to 26 register words. -/
def execRegWrite (dt : Nat) (s : State) : Host.Outcome State Fault Refusal :=
  .next (otherMsg 0x11 (fun m s =>
    let a := m.val 0 4
    let n := m.byte 4
    if n = 0 ∨ 26 < n ∨ m.payload.length < 8 + 4 * n then (3, [], s)
    else if !cellWords a n then (1, [], s)
    else
      let r := regWrites dt a ((upto n).map (fun j => m.val (8 + 4 * j) 4)) s
      (if r.1 then 2 else 0, [], r.2)) s.fresh)

/-! ## Image transfer (R137) -/

/-- A message of the image class, executed by `f` unless it repeats the last one (R144). -/
def imageMsg (code : Nat) (f : MgmtMsg → State → Nat × List Byte × State) (s : State) : State :=
  match cellMsg code s with
  | none => s
  | some m =>
    let s1 := msgTaken s
    if s.cell.tagImg = some m.tag then answer m s.cell.doneImg s1
    else
      let r := f m s1
      let bs := replyBytes m r.1 r.2.1
      answer m bs { r.2.2 with cell := { r.2.2.cell with tagImg := some m.tag, doneImg := bs } }

/-- The cell is admitted in loader mode. -/
def inLoader (s : State) : Bool := cellAdm s == admAdmitted && s.cell.loader

/-- 104 image bytes at an offset of the image, as far as the image goes. -/
def storeChunk (m : MgmtMsg) (s : State) : State :=
  let o := m.val 0 4
  let n := m.val 4 4
  let bs := ((m.payload.drop 8 ++ List.replicate 104 0#8).take 104).take (n - o)
  let s1 := if ldState s = ldFailed then loadFrom .lane0 s else s
  { s1 with cell := { s1.cell with
    imgBytes := memWrite s1.cell.imgBytes o bs, imgHave := if s1.cell.imgHave.contains o then s1.cell.imgHave else o :: s1.cell.imgHave, imgLen := n } }

/-- R137: a chunk of the image; it is not answered. -/
def execImgChunk (s : State) : Host.Outcome State Fault Refusal :=
  .next (imageMsg 0x20 (fun m s => if inLoader s then (0, [], storeChunk m s) else (2, [], s)) s)

/-- First offset of the 104-byte chunks of an image of `n` bytes that is not stored. -/
def missingChunk (have_ : List Nat) (n : Nat) : Option Nat := ((upto ((n + 103) / 104)).map (104 * ·)).find? (fun o => !have_.contains o)

/-- R137: the transfer ends: what is missing, a wrong CRC-32, or the load. -/
def execImgEnd (s : State) : Host.Outcome State Fault Refusal :=
  .next (imageMsg 0x21 (fun m s =>
    let n := m.val 0 4
    if !inLoader s then (2, [], s)
    else match missingChunk s.cell.imgHave n with
      | some o => (5, leBytes 4 o, s)
      | none =>
        let bs := memRead s.cell.imgBytes 0 n
        if crc32 bs ≠ m.val 4 4 then (4, [], s)
        else
          let s1 := loadFrom .lane0 s
          (0, [], takeBytes bs { s1 with cell := { s1.cell with imgBytes := [], imgHave := [], imgLen := 0 } })) s)

/-! ## SPI target (R447) -/

/-- The target answers: hub role only. -/
def spiOn (s : State) : Bool := pathOk .spi s && (!s.sys.inReset || (s.flag THM.SD.ACTIVE && s.flag THM.SD.COOL))

/-- Words read in turn from address `a`: 0x5A, then the four bytes, for each. -/
def spiReads (dt ticks : Nat) : Nat → Nat → State → List Byte × State
  | 0, _, s => ([], s)
  | n + 1, a, s =>
    let r := busRead .spi a dt ticks s
    let t := spiReads dt ticks n (a + 4) r.1
    ((match r.2 with | some w => 0x5A#8 :: leBytes 4 w | none => []) ++ t.1, t.2)

/-- R447: command 0x0B reads `n` words from address `a` until CS rises. -/
def execSpiRead (a : W32) (n : Nat) (dt ticks : Nat) (s : State) : Host.Outcome State Fault Refusal :=
  if spiOn s then
    let r := spiReads dt ticks n (a.toNat / 4 * 4) s.fresh
    .next (r.2.emit (.bytes 0 r.1))
  else .next s.fresh

/-- Words written in turn from address `a`. -/
def spiWrites (dt ticks : Nat) : List W32 → Nat → State → State
  | [], _, s => s
  | w :: ws, a, s => spiWrites dt ticks ws (a + 4) (busWriteBytes .spi a 15 w.toNat dt ticks s)

/-- R447: command 0x02 writes the complete words `ws` from address `a`; `rest` bytes of a word cut short follow. -/
def execSpiWrite (a : W32) (ws : List W32) (rest : Fin 4) (dt ticks : Nat) (s : State) : Host.Outcome State Fault Refusal :=
  if spiOn s then
    let a0 := a.toNat / 4 * 4
    let s1 := spiWrites dt ticks ws a0 s.fresh
    .next (if rest.val = 0 then s1 else accessError .spi causeNarrow (a0 + 4 * ws.length) s1)
  else .next s.fresh

/-- R447: command 0x05: an interrupt-mapped source is fired; an access error is held; every write of this model is complete. -/
def spiStatus (s : State) : Nat := (!intN s).toNat + 2 * (s.flag HST.AERR.VALID).toNat

def execSpiStatus (s : State) : Host.Outcome State Fault Refusal :=
  .next (if spiOn s then s.fresh.emit (.bytes 0 [BitVec.ofNat 8 (spiStatus s)]) else s.fresh)

/-- R447: any other command is ignored until CS rises. -/
def execSpiOther (s : State) : Host.Outcome State Fault Refusal := .next s.fresh

end Sys2Proof.Machine
end

