-- ==== Sys2Proof/Machine/Writes.lean ====
section
/-!
DEFINITION. The commands that are one access of the register bus: each writes its word to its register, or reads it, over a path, with
every check of the bus (R5 to R10, R17, R471) and the effect its block gives the word.
-/
namespace Sys2Proof.Machine

/-- Word `w` with bit `k` one. -/
def withBit (k : Nat) (w : W32) : W32 := w ||| BitVec.ofNat 32 (2 ^ k)

/-- Word `w` with bit `k` zero. -/
def noBit (k : Nat) (w : W32) : W32 := w &&& ~~~ BitVec.ofNat 32 (2 ^ k)

/-- The register of a core-supply target: VSETn, VSW, CFG, VMAX. -/
def vrcReg (reg : Fin 19) : Nat :=
  if reg.val < 16 then VRC.VSET.addr + 4 * reg.val
  else if reg.val = 16 then VRC.VSW.addr else if reg.val = 17 then VRC.CFG.addr else VRC.VMAX.addr

/-- A write of MCTL.CMD 1 to record `j`, where the record is of MACRO_TYPE `type` (R215); nothing where it is not. -/
def commandRecord (type : Nat) (p : Path) (j : Fin 32) (s : State) : State :=
  match s.img.graph.macros[j.val]? with
  | some r => if r.type = type then busWrite p (FUN.MCTL.addr + 0x100 * j.val) 1 0 0 s else s
  | none => s

/-! ## Power, clocks and the low-speed supervisor -/

/-- R484: a write to VSET0 to VSET15 (`reg` 0 to 15), VSW (16), CFG (17) or VMAX (18), `dt` µs after the supply was last looked at. -/
def execVrcTargetWrite (p : Path) (reg : Fin 19) (w : W32) (dt : Nat) (s : State) : Host.Outcome State Fault Refusal :=
  .next (busWrite p (vrcReg reg) w dt 0 s)

/-- R477: a write to CLK.REF_CFG. -/
def execRefCfgWrite (p : Path) (w : W32) (s : State) : Host.Outcome State Fault Refusal :=
  .next (busWrite p CLK.REF_CFG.addr w 0 0 s)

/-- R482: a write to CLK.OUTk_CFG. -/
def execClkoutCfgWrite (p : Path) (k : Fin 4) (w : W32) (s : State) : Host.Outcome State Fault Refusal :=
  .next (busWrite p (CLK.OUT_CFG.addr + 4 * k.val) w 0 0 s)

/-- R496: a write to LSS.TAMPER. -/
def execTamperLatchClear (p : Path) (w : W32) (s : State) : Host.Outcome State Fault Refusal :=
  .next (busWrite p LSS.TAMPER.addr w 0 0 s)

/-- R495: a write of SET, `ticks` periods of 1/32,768 s after the last housekeeping. -/
def execRtcSet (p : Path) (ticks : Nat) (s : State) : Host.Outcome State Fault Refusal :=
  .next (busWrite p LSS.RTC_CTRL.addr 1 ticks 0 s)

/-- R503: a read of LSS.RTC_SUB. -/
def execRtcSubRead (p : Path) (be : Fin 16) (s : State) (ticks : Nat := 0) : Host.Outcome State Fault Refusal :=
  .next (readOut p LSS.RTC_SUB.addr be.val ticks 0 s)

/-! ## SYS -/

/-- R17: a write to SYS.CLOD_PWR or SYS.QUAD_PWR. -/
def execClodGateWrite (p : Path) (quad : Bool) (w : W32) (s : State) : Host.Outcome State Fault Refusal :=
  .next (busWrite p (if quad then SYS.QUAD_PWR.addr else SYS.CLOD_PWR.addr) w 0 0 s)

/-- R45: a write to SYS.PERIOD_CFG. -/
def execPeriodCfgWrite (p : Path) (w : W32) (s : State) : Host.Outcome State Fault Refusal :=
  .next (busWrite p SYS.PERIOD_CFG.addr w 0 0 s)

/-- R46: a read of SYS.PCNT_LO. -/
def execPcntLoRead (p : Path) (s : State) (be : Fin 16 := 15) : Host.Outcome State Fault Refusal :=
  .next (readOut p SYS.PCNT_LO.addr be.val 0 0 s)

/-- R395: a write of SYS.KAO_CMD with KEY 0xA5 and UNSEAL. -/
def execKaoUnsealCommand (p : Path) (s : State) : Host.Outcome State Fault Refusal :=
  .next (busWrite p SYS.KAO_CMD.addr 0xA5000001 0 0 s)

/-! ## The image and the cell table -/

/-- R78: a write of IMG.CTRL.RELOAD. -/
def execReload (p : Path) (s : State) : Host.Outcome State Fault Refusal :=
  .next (busWrite p IMG.CTRL.addr 1 0 0 s)

/-- R78: a write of IMG.CTRL.HOST_START. -/
def execHostStart (p : Path) (s : State) : Host.Outcome State Fault Refusal :=
  .next (busWrite p IMG.CTRL.addr 2 0 0 s)

/-- R80: the next word of an image. -/
def execImgDataWrite (p : Path) (w : W32) (s : State) : Host.Outcome State Fault Refusal :=
  .next (busWrite p IMG.DATA.addr w 0 0 s)

/-- R73: a write to word `k` of entry `entry` in the cell-table window, with byte enables `be`. -/
def execCtWindowWrite (p : Path) (entry : Fin 4096) (k : Fin 16) (be : Fin 16) (w : W32) (s : State) : Host.Outcome State Fault Refusal :=
  .next (busWriteBytes p (0x180000 + 64 * entry.val + 4 * k.val) be.val w.toNat 0 0 s.fresh)

/-- R97: a host read of EQ_PRESET bytes of an entry: its low word (`which` 0), its high word (1), with byte enables `be` over PCI Express,
or both in one access (2), which leaves the path's latch empty. -/
def execCtEqPresetRead (p : Path) (entry : Fin 4096) (which : Fin 3) (s : State) (be : Fin 16 := 15) : Host.Outcome State Fault Refusal :=
  let a := 0x180000 + 64 * entry.val + 24
  if which.val = 0 then .next (readOut p a be.val 0 0 s)
  else if which.val = 1 then .next (readOut p (a + 4) be.val 0 0 s)
  else
    let r := busRead p a 0 0 s.fresh
    let t := busRead p (a + 4) 0 0 r.1
    match r.2, t.2 with
    | some x, some y => .next (((t.1.emit (.word x)).emit (.word y)))
    | _, _ => .next t.1

/-- R74: a write of IMG.CT_CTRL.COMMIT, with its BANK bit. -/
def execCtCommit (p : Path) (bank : Bool) (s : State) : Host.Outcome State Fault Refusal :=
  .next (busWrite p IMG.CT_CTRL.addr (BitVec.ofNat 32 (2 + bank.toNat)) 0 0 s)

/-- R75: a write of IMG.CT_CTRL.DISCARD, with its BANK bit. -/
def execCtDiscard (p : Path) (bank : Bool) (s : State) : Host.Outcome State Fault Refusal :=
  .next (busWrite p IMG.CT_CTRL.addr (BitVec.ofNat 32 (4 + bank.toNat)) 0 0 s)

/-- R67: IMG.OTP_CMD with UNLOCK 0x5A and OP program. -/
def execOtpProgram (p : Path) (slot : Fin 4) (s : State) : Host.Outcome State Fault Refusal :=
  .next (busWrite p IMG.OTP_CMD.addr (BitVec.ofNat 32 (0x5A000010 + slot.val)) 0 0 s)

/-- R67: IMG.OTP_CMD with UNLOCK 0x5A and OP revoke. -/
def execOtpRevoke (p : Path) (slot : Fin 4) (s : State) : Host.Outcome State Fault Refusal :=
  .next (busWrite p IMG.OTP_CMD.addr (BitVec.ofNat 32 (0x5A000020 + slot.val)) 0 0 s)

/-! ## Lanes and lane controllers -/

/-- R100: a write of LNK.CTRL with DS_EN one. -/
def execLaneDsEnable (p : Path) (lane : Fin 128) (w : W32) (s : State) (dt : Nat := 0) : Host.Outcome State Fault Refusal :=
  .next (busWrite p (LNK.CTRL.addr + lnkOff lane.val) (withBit 0 w) dt 0 s)

/-- R100: a write of LNK.CTRL with DS_EN zero. -/
def execLaneDsDisable (p : Path) (lane : Fin 128) (w : W32) (s : State) (dt : Nat := 0) : Host.Outcome State Fault Refusal :=
  .next (busWrite p (LNK.CTRL.addr + lnkOff lane.val) (noBit 0 w) dt 0 s)

/-- R100: a write of LNK.CTRL with DS_SLEEP one. -/
def execLaneDsSleep (p : Path) (lane : Fin 128) (w : W32) (s : State) (dt : Nat := 0) : Host.Outcome State Fault Refusal :=
  .next (busWrite p (LNK.CTRL.addr + lnkOff lane.val) (withBit 5 w) dt 0 s)

/-- R100: a write of LNK.CTRL with DS_SLEEP zero. -/
def execLaneDsWake (p : Path) (lane : Fin 128) (w : W32) (s : State) (dt : Nat := 0) : Host.Outcome State Fault Refusal :=
  .next (busWrite p (LNK.CTRL.addr + lnkOff lane.val) (noBit 5 w) dt 0 s)

/-- R107: a write of LNK.CTRL with its LOOPBACK field. -/
def execLoopbackRequest (p : Path) (lane : Fin 128) (w : W32) (s : State) (dt : Nat := 0) : Host.Outcome State Fault Refusal :=
  .next (busWrite p (LNK.CTRL.addr + lnkOff lane.val) w dt 0 s)

/-- R103: a write of LNK.PRBS_CTRL with its MODE field. -/
def execPrbsModeSet (p : Path) (lane : Fin 128) (w : W32) (s : State) (dt : Nat := 0) : Host.Outcome State Fault Refusal :=
  .next (busWrite p (LNK.PRBS_CTRL.addr + lnkOff lane.val) w dt 0 s)

/-- R105: a write of LNK.PRBS_CTRL with CLR one. -/
def execPrbsClr (p : Path) (lane : Fin 128) (w : W32) (s : State) : Host.Outcome State Fault Refusal :=
  .next (busWrite p (LNK.PRBS_CTRL.addr + lnkOff lane.val) (withBit 11 w) 0 0 s)

/-- R106: a write of LNK.PRBS_INJ.SHOT. -/
def execPrbsInjShot (p : Path) (lane : Fin 128) (s : State) : Host.Outcome State Fault Refusal :=
  .next (busWrite p (LNK.PRBS_INJ.addr + lnkOff lane.val) 1 0 0 s)

/-- R105: a read of LNK.PRBS_BITS_LO. -/
def execPrbsBitsLoRead (p : Path) (be : Fin 16) (s : State) (lane : Fin 128 := 0) : Host.Outcome State Fault Refusal :=
  .next (readOut p (LNK.PRBS_BITS_LO.addr + lnkOff lane.val) be.val 0 0 s)

/-- R138: a write of CLT.LCTRL with RELEASE one. -/
def execLaneRelease (p : Path) (lane : Fin 128) (w : W32) (s : State) : Host.Outcome State Fault Refusal :=
  .next (busWrite p (CLT.LCTRL.addr + cltOff lane.val) (withBit 4 w) 0 0 s)

/-- R127: a write of CLT.LCTRL with its ADM_OPEN bit. -/
def execAdmOpenWrite (p : Path) (lane : Fin 128) (w : W32) (s : State) (dt : Nat := 0) : Host.Outcome State Fault Refusal :=
  .next (busWrite p (CLT.LCTRL.addr + cltOff lane.val) w dt 0 s)

/-- R145: a write of CLT.LCTRL with its LEVEL bit. -/
def execLaneLevelWrite (p : Path) (lane : Fin 128) (w : W32) (s : State) : Host.Outcome State Fault Refusal :=
  .next (busWrite p (CLT.LCTRL.addr + cltOff lane.val) w 0 0 s)

/-- R144: a write of CLT.MCTRL with SEND one. -/
def execMailboxSend (p : Path) (lane : Fin 128) (w : W32) (s : State) : Host.Outcome State Fault Refusal :=
  .next (busWrite p (CLT.MCTRL.addr + cltOff lane.val) (withBit 0 w) 0 0 s)

/-- R122: a write of CLT.DREF. -/
def execCltDrefWrite (p : Path) (w : W32) (s : State) : Host.Outcome State Fault Refusal :=
  .next (busWrite p CLT.DREF.addr w 0 0 s)

/-- R145: a write of CLT.REFLOG_POP. -/
def execReflogPop (p : Path) (s : State) : Host.Outcome State Fault Refusal :=
  .next (busWrite p CLT.REFLOG_POP.addr 1 0 0 s)

/-! ## Modulation and grading -/

/-- R163: a write of MOD.CTRL.CARRY_CLR. -/
def execCarryClr (p : Path) (s : State) : Host.Outcome State Fault Refusal :=
  .next (busWrite p MOD.CTRL.addr 1 0 0 s)

/-- R179: a write of GRD.ARM_RECH_CLR of arm `a`. -/
def execArmRechClr (p : Path) (a : Fin 6) (s : State) : Host.Outcome State Fault Refusal :=
  .next (busWrite p (GRD.ARM_RECH_CLR.addr + 0x80 * a.val) 1 0 0 s)

/-- R179: a write of GRD.RSNAP.TAKE. -/
def execRsnapTake (p : Path) (arm : Fin 8) (s : State) : Host.Outcome State Fault Refusal :=
  .next (busWrite p GRD.RSNAP.addr (BitVec.ofNat 32 (8 + arm.val)) 0 0 s)

/-! ## The control engine and its macro tiles -/

/-- R197: a host write to word `word` of CEN (a tile parameter, TPRESET, SLOAD, a constant), with byte enables `be`. -/
def execParamWrite (p : Path) (word : Fin 262144) (be : Fin 16) (w : W32) (s : State) : Host.Outcome State Fault Refusal :=
  .next (busWriteBytes p (0x200000 + 4 * word.val) be.val w.toNat 0 0 s.fresh)

/-- R213: a write through the FUN window to word `off` of a macro tile. -/
def execFunParamWrite (p : Path) (tile : Fin 96) (off : Fin 512) (w : W32) (s : State) : Host.Outcome State Fault Refusal :=
  .next (busWrite p (0x308000 + 0x800 * tile.val + 4 * off.val) w 0 0 s)

/-- R198: a write of CEN.PCOMMIT.GO, with its ALIGN_OUTER bit. -/
def execPcommitGo (p : Path) (align : Bool) (s : State) : Host.Outcome State Fault Refusal :=
  .next (busWrite p CEN.PCOMMIT.addr (BitVec.ofNat 32 (1 + 4 * align.toNat)) 0 0 s)

/-- R199: a write of CEN.PCOMMIT.GO with AT_PCNT. -/
def execPcommitGoAtPcnt (p : Path) (align : Bool) (s : State) : Host.Outcome State Fault Refusal :=
  .next (busWrite p CEN.PCOMMIT.addr (BitVec.ofNat 32 (3 + 4 * align.toNat)) 0 0 s)

/-- R204: a write of INJ_CTRL with START one. -/
def execInjStart (p : Path) (k : Fin 4) (w : W32) (s : State) : Host.Outcome State Fault Refusal :=
  .next (busWrite p (CEN.INJ_CTRL.addr + 0x40 * k.val) (withBit 29 w) 0 0 s)

/-- R204: a write of INJ_CTRL with STOP one. -/
def execInjStop (p : Path) (k : Fin 4) (w : W32) (s : State) : Host.Outcome State Fault Refusal :=
  .next (busWrite p (CEN.INJ_CTRL.addr + 0x40 * k.val) (withBit 30 w) 0 0 s)

/-- R206: a write of CAP_CTRL with ARM one. -/
def execCapArm (p : Path) (w : W32) (s : State) : Host.Outcome State Fault Refusal :=
  .next (busWrite p CEN.CAP_CTRL.addr (withBit 31 w) 0 0 s)

/-- R206: a write of CAP_CTRL with ABORT one. -/
def execCapAbort (p : Path) (w : W32) (s : State) : Host.Outcome State Fault Refusal :=
  .next (busWrite p CEN.CAP_CTRL.addr (withBit 30 w) 0 0 s)

/-- R206: a write of CAP_CTRL with FORCE one. -/
def execCapForce (p : Path) (w : W32) (s : State) : Host.Outcome State Fault Refusal :=
  .next (busWrite p CEN.CAP_CTRL.addr (withBit 29 w) 0 0 s)

/-- R208: a write of CORR_CTRL with START one. -/
def execCorrStart (p : Path) (c : Fin 4) (w : W32) (s : State) : Host.Outcome State Fault Refusal :=
  .next (busWrite p (CEN.CORR_CTRL.addr + 0x40 * c.val) (withBit 29 w) 0 0 s)

/-- R217: a write of MCTL.CMD 1 to record `j`, where that record is the grid synchroniser. -/
def execRelock (p : Path) (j : Fin 32) (s : State) : Host.Outcome State Fault Refusal :=
  .next (commandRecord 0x01 p j s)

/-- R227: a write of MCTL.CMD 1 to record `j`, where that record is fault ride-through. -/
def execClr (p : Path) (j : Fin 32) (s : State) : Host.Outcome State Fault Refusal :=
  .next (commandRecord 0x08 p j s)

/-- R233: a write of MCTL.CMD 1 to record `j`, where that record is islanding. -/
def execResync (p : Path) (j : Fin 32) (s : State) : Host.Outcome State Fault Refusal :=
  .next (commandRecord 0x09 p j s)

/-- R234: a write of MCTL.CMD 1 to record `j`, where that record is the tracker. -/
def execRestart (p : Path) (j : Fin 32) (s : State) : Host.Outcome State Fault Refusal :=
  .next (commandRecord 0x0A p j s)

/-! ## LMP -/

/-- R257: a write of LMP.CTRL.FORCE_MM. -/
def execForceMm (p : Path) (s : State) : Host.Outcome State Fault Refusal :=
  .next (busWrite p LMP.CTRL.addr 4 0 0 s)

/-- R256: a write of LMP.CTRL.ESC_CLR. -/
def execEscClr (p : Path) (s : State) : Host.Outcome State Fault Refusal :=
  .next (busWrite p LMP.CTRL.addr 1 0 0 s)

/-- R265: a write of LMP.CTRL.CNT_CLR. -/
def execCntClr (p : Path) (s : State) : Host.Outcome State Fault Refusal :=
  .next (busWrite p LMP.CTRL.addr 2 0 0 s)

/-- R258: a write of LMP.SH_CTRL with SPLIT one. -/
def execSplit (p : Path) (w : W32) (s : State) : Host.Outcome State Fault Refusal :=
  .next (busWrite p LMP.SH_CTRL.addr (withBit 0 w) 0 0 s)

/-- R262: a write of LMP.SH_CTRL with HANDOVER one. -/
def execHandover (p : Path) (w : W32) (s : State) : Host.Outcome State Fault Refusal :=
  .next (busWrite p LMP.SH_CTRL.addr (withBit 1 w) 0 0 s)

/-- R264: a write of LMP.SH_CTRL with ABANDON one. -/
def execAbandon (p : Path) (w : W32) (s : State) : Host.Outcome State Fault Refusal :=
  .next (busWrite p LMP.SH_CTRL.addr (withBit 2 w) 0 0 s)

/-! ## Acquisition and comparators -/

/-- R273: a write to word `off` of the registers of core `c`: CORE_CFG, SEQ, a FIR coefficient. -/
def execAcqCoreCfgWrite (p : Path) (c : Fin 4) (off : Fin 128) (w : W32) (dt : Nat) (s : State) : Host.Outcome State Fault Refusal :=
  .next (busWrite p (ACQ.CORE_CFG.addr + 0x400 * c.val + 4 * off.val) w dt 0 s)

/-- R277: a write to ACQ.IN_GAIN. -/
def execAcqInGainWrite (p : Path) (i : Fin 32) (w : W32) (s : State) : Host.Outcome State Fault Refusal :=
  .next (busWrite p (ACQ.IN_GAIN.addr + 0x20 * i.val) w 0 0 s)

/-- R277: a write to ACQ.IN_OFFS, `dt` ns after the last boundary. -/
def execAcqInOffsWrite (p : Path) (i : Fin 32) (w : W32) (dt : Nat) (s : State) : Host.Outcome State Fault Refusal :=
  .next (busWrite p (ACQ.IN_OFFS.addr + 0x20 * i.val) w dt 0 s)

/-- R283: a write of SCAL_CTRL with OP 1 (zero capture) for input `i`. -/
def execScalZeroCapture (p : Path) (i : Fin 32) (s : State) : Host.Outcome State Fault Refusal :=
  .next (busWrite p ACQ.SCAL_CTRL.addr (BitVec.ofNat 32 (64 + i.val)) 0 0 s)

/-- R283: a write of SCAL_CTRL with OP 2 (reference capture) for input `i`. -/
def execScalRefCapture (p : Path) (i : Fin 32) (s : State) : Host.Outcome State Fault Refusal :=
  .next (busWrite p ACQ.SCAL_CTRL.addr (BitVec.ofNat 32 (128 + i.val)) 0 0 s)

/-- R283: a write of SCAL_CTRL with OP 3 (compute) for input `i`. -/
def execScalCompute (p : Path) (i : Fin 32) (s : State) : Host.Outcome State Fault Refusal :=
  .next (busWrite p ACQ.SCAL_CTRL.addr (BitVec.ofNat 32 (192 + i.val)) 0 0 s)

/-- R286: a write of one to CMP.CSTAT.LATCH. -/
def execCmpLatchClear (p : Path) (c : Fin 32) (w : W32) (s : State) : Host.Outcome State Fault Refusal :=
  .next (busWrite p (CMP.CSTAT.addr + 0x20 * c.val) (withBit 31 w) 0 0 s)

/-- R287: a write to CMP.CCFG. -/
def execCmpCfgWrite (p : Path) (c : Fin 32) (w : W32) (s : State) : Host.Outcome State Fault Refusal :=
  .next (busWrite p (CMP.CCFG.addr + 0x20 * c.val) w 0 0 s)

/-- R290: a write of CMP.CCFG with TEST one. -/
def execCmpTestSet (p : Path) (c : Fin 32) (w : W32) (s : State) : Host.Outcome State Fault Refusal :=
  .next (busWrite p (CMP.CCFG.addr + 0x20 * c.val) (withBit 30 w) 0 0 s)

/-- R292: a write of CCTL.CNT_CLR. -/
def execCmpCntClr (p : Path) (c : Fin 32) (s : State) : Host.Outcome State Fault Refusal :=
  .next (busWrite p (CMP.CCTL.addr + 0x20 * c.val) 1 0 0 s)

/-! ## Events -/

/-- R295: a write to FIRED. -/
def execFiredClear (p : Path) (i : Fin 4) (w : W32) (s : State) : Host.Outcome State Fault Refusal :=
  .next (busWrite p (EVR.FIRED.addr + 4 * i.val) w 0 0 s)

/-- R302: a write to EVR.MAP of source `k`. -/
def execEvrMapWrite (p : Path) (k : Fin 128) (w : W32) (s : State) : Host.Outcome State Fault Refusal :=
  .next (busWrite p (EVR.MAP.addr + 4 * k.val) w 0 0 s)

/-- R299: a write to EVR.TRIP_CLR. -/
def execTripClr (p : Path) (m : Fin 16) (s : State) : Host.Outcome State Fault Refusal :=
  .next (busWrite p EVR.TRIP_CLR.addr (BitVec.ofNat 32 m.val) 0 0 s)

/-- R317: a write of EVR.SOFT.SET. -/
def execSoftSet (p : Path) (s : State) : Host.Outcome State Fault Refusal :=
  .next (busWrite p EVR.SOFT.addr 1 0 0 s)

/-- R317: a write of EVR.SOFT.CLR. -/
def execSoftClr (p : Path) (s : State) : Host.Outcome State Fault Refusal :=
  .next (busWrite p EVR.SOFT.addr 2 0 0 s)

/-- R317: a write to EVR.FCNT j. -/
def execFcntClear (p : Path) (j : Fin 32) (s : State) : Host.Outcome State Fault Refusal :=
  .next (busWrite p (EVR.FCNT.addr + 4 * j.val) 0 0 0 s)

/-- R300: a write of EVR.CONV_CTRL.DEBLOCK, `dt` ns after the last boundary. -/
def execDeblock (p : Path) (dt : Nat) (s : State) : Host.Outcome State Fault Refusal :=
  .next (busWrite p EVR.CONV_CTRL.addr 1 dt 0 s)

/-- R301: a write of EVR.CONV_CTRL.BLOCK. -/
def execBlock (p : Path) (s : State) : Host.Outcome State Fault Refusal :=
  .next (busWrite p EVR.CONV_CTRL.addr 2 0 0 s)

/-- R354: a write to EVR.DBLK_CFG. -/
def execDblkCfgWrite (p : Path) (w : W32) (s : State) : Host.Outcome State Fault Refusal :=
  .next (busWrite p EVR.DBLK_CFG.addr w 0 0 s)

/-! ## PWM -/

/-- R304: a write of PWM.GRP_CFG with its EN bit. -/
def execPwmGrpEnWrite (p : Path) (g : Fin 4) (w : W32) (s : State) : Host.Outcome State Fault Refusal :=
  .next (busWrite p (PWM.GRP_CFG.addr + 0x20 * g.val) w 0 0 s)

/-- R310: a write of PWM.GCTRL.COMMIT. -/
def execPwmCommit (p : Path) (m : Fin 16) (s : State) : Host.Outcome State Fault Refusal :=
  .next (busWrite p PWM.GCTRL.addr (BitVec.ofNat 32 m.val) 0 0 s)

/-- R315: a write of PWM.GCTRL.HIZ_CLR. -/
def execHizClr (p : Path) (m : Fin 16) (s : State) : Host.Outcome State Fault Refusal :=
  .next (busWrite p PWM.GCTRL.addr (BitVec.ofNat 32 (16 * m.val)) 0 0 s)

/-- R312: a write of PAIR_CFG with OVR_MODE and FORCE. -/
def execPwmOverrideWrite (p : Path) (pair : Fin 12) (w : W32) (s : State) : Host.Outcome State Fault Refusal :=
  .next (busWrite p (PWM.PAIR_CFG.addr + 0x40 * pair.val) w 0 0 s)

/-- R314: a write of one to FLT_STAT.LATCH. -/
def execPwmFltLatchClear (p : Path) (k : Fin 4) (s : State) : Host.Outcome State Fault Refusal :=
  .next (busWrite p (PWM.FLT_STAT.addr + 0x10 * k.val) 1 0 0 s)

/-! ## The gate drive of a cell -/

/-- R334: a write of GDC.FLT_CLR.CLR. -/
def execFltClr (p : Path) (s : State) : Host.Outcome State Fault Refusal :=
  .next (busWrite p GDC.FLT_CLR.addr 1 0 0 s)

/-- R336: a write of GDC.SELFTEST with GO one. -/
def execSelftestGo (p : Path) (w : W32) (s : State) : Host.Outcome State Fault Refusal :=
  .next (busWrite p GDC.SELFTEST.addr (withBit 31 w) 0 0 s)

/-- R350: a write of GDC.OVR. -/
def execGdcOvrWrite (p : Path) (w : W32) (s : State) : Host.Outcome State Fault Refusal :=
  .next (busWrite p GDC.OVR.addr w 0 0 s)

/-! ## Thermal, strata, Marl -/

/-- R513: a write of THM.SD.CLR. -/
def execThmSdClr (p : Path) (s : State) : Host.Outcome State Fault Refusal :=
  .next (busWrite p THM.SD.addr 0x80000000 0 0 s)

/-- R519: a write of STR.CTRL with FREEZE one. -/
def execStrataFreeze (p : Path) (w : W32) (s : State) : Host.Outcome State Fault Refusal :=
  .next (busWrite p STR.CTRL.addr (withBit 31 w) 0 0 s)

/-- R519: a write of STR.CTRL with its SLOT_REL bits. -/
def execSlotRel (p : Path) (w : W32) (s : State) : Host.Outcome State Fault Refusal :=
  .next (busWrite p STR.CTRL.addr w 0 0 s)

/-- R434: a write to MRL.CONFIRM. -/
def execMrlConfirm (p : Path) (w : W32) (s : State) : Host.Outcome State Fault Refusal :=
  .next (busWrite p MRL.CONFIRM.addr w 0 0 s)

/-! ## Host, Ethernet and CAN -/

/-- R449: a write of HST.SPIC_CMD with GO one. -/
def execSpicGo (p : Path) (w : W32) (s : State) : Host.Outcome State Fault Refusal :=
  .next (busWrite p HST.SPIC_CMD.addr (withBit 31 w) 0 0 s)

/-- R451: a write of ETH.RX_RD. -/
def execEthRxRdWrite (p : Path) (port : Fin 2) (w : W32) (s : State) : Host.Outcome State Fault Refusal :=
  .next (busWrite p (ETH.RX_RD.addr + 0x1000 * port.val) w 0 0 s)

/-- R452: a write of ETH.TX_CTRL with SEND one. -/
def execEthTxSend (p : Path) (port : Fin 2) (w : W32) (ticks : Nat) (s : State) : Host.Outcome State Fault Refusal :=
  .next (busWrite p (ETH.TX_CTRL.addr + 0x1000 * port.val) (withBit 31 w) ticks 0 s)

/-- R453: a write of ETH.PTP_CTRL with STEP one, `ticks` steps of 6.4 ns after the last one. -/
def execPtpStep (p : Path) (w : W32) (ticks : Nat) (s : State) : Host.Outcome State Fault Refusal :=
  .next (busWrite p ETH.PTP_CTRL.addr (withBit 31 w) ticks 0 s)

/-- R455: a write of ETH.PTP_CTRL with its LOCK bit. -/
def execPtpLockWrite (p : Path) (w : W32) (ticks : Nat) (s : State) : Host.Outcome State Fault Refusal :=
  .next (busWrite p ETH.PTP_CTRL.addr (noBit 31 w) ticks 0 s)

/-- R472: a read of ETH.PTP_NS. -/
def execPtpNsRead (p : Path) (be : Fin 16) (s : State) (ticks : Nat := 0) : Host.Outcome State Fault Refusal :=
  .next (readOut p ETH.PTP_NS.addr be.val ticks 0 s)

/-- R472: a read of ETH.PPS_NS. -/
def execPpsNsRead (p : Path) (s : State) (be : Fin 16 := 15) : Host.Outcome State Fault Refusal :=
  .next (readOut p ETH.PPS_NS.addr be.val 0 0 s)

/-- R462: a write of CAN.TXSLOTk with REQ one. -/
def execCanTxslotSubmit (p : Path) (n : Fin 4) (k : Fin 3) (w : W32) (s : State) : Host.Outcome State Fault Refusal :=
  .next (busWrite p (CAN.TXSLOT.addr + 0x1000 * n.val + 4 * k.val) (withBit 31 w) 0 0 s)

/-- R465: a write of CAN.CMD.CANCEL. -/
def execCancel (p : Path) (n : Fin 4) (m : Fin 8) (s : State) : Host.Outcome State Fault Refusal :=
  .next (busWrite p (CAN.CMD.addr + 0x1000 * n.val) (BitVec.ofNat 32 m.val) 0 0 s)

/-- R466: a write of CAN.CMD.RECOVER. -/
def execRecover (p : Path) (n : Fin 4) (s : State) : Host.Outcome State Fault Refusal :=
  .next (busWrite p (CAN.CMD.addr + 0x1000 * n.val) 8 0 0 s)

/-- R459: a write of CAN.CTRL with EN zero. -/
def execCanDisable (p : Path) (n : Fin 4) (w : W32) (s : State) : Host.Outcome State Fault Refusal :=
  .next (busWrite p (CAN.CTRL.addr + 0x1000 * n.val) (noBit 0 w) 0 0 s)

/-- R467: a write of FID, FMASK or FTGT of filter `j`. -/
def execCanFilterWrite (p : Path) (n : Fin 4) (j : Fin 32) (part : Fin 3) (w : W32) (s : State) : Host.Outcome State Fault Refusal :=
  .next (busWrite p (CAN.FID.addr + 0x1000 * n.val + 0x10 * j.val + 4 * part.val) w 0 0 s)

/-- R467: a write of CAN.RXPOP. -/
def execRxpop (p : Path) (n : Fin 4) (s : State) : Host.Outcome State Fault Refusal :=
  .next (busWrite p (CAN.RXPOP.addr + 0x1000 * n.val) 1 0 0 s)

/-- R464: a write of CAN.TXEVT_POP. -/
def execTxevtPop (p : Path) (n : Fin 4) (s : State) : Host.Outcome State Fault Refusal :=
  .next (busWrite p (CAN.TXEVT_POP.addr + 0x1000 * n.val) 1 0 0 s)

/-- R468: a write of CAN.TS_SNAP, `dt` CAN clock cycles and `ticks` steps of 6.4 ns after the last count. -/
def execTsSnap (p : Path) (dt ticks : Nat) (s : State) : Host.Outcome State Fault Refusal :=
  .next (busWrite p CAN.TS_SNAP.addr 1 dt ticks s)

/-- R461: a read of SLT.ALLOC. -/
def execSltAlloc (p : Path) (s : State) (be : Fin 16 := 15) : Host.Outcome State Fault Refusal :=
  .next (readOut p SLT.ALLOC.addr be.val 0 0 s)

/-- R461: a write of SLT.FREE. -/
def execSltFree (p : Path) (b : Fin 512) (s : State) : Host.Outcome State Fault Refusal :=
  .next (busWrite p SLT.FREE.addr (BitVec.ofNat 32 b.val) 0 0 s)

/-- R469: a write of SLT.ND_CLR. -/
def execNdClr (p : Path) (b : Fin 512) (seq : Fin 16) (s : State) : Host.Outcome State Fault Refusal :=
  .next (busWrite p SLT.ND_CLR.addr (BitVec.ofNat 32 (0x1000 * seq.val + b.val)) 0 0 s)

end Sys2Proof.Machine
end

