-- ==== Sys2Proof/Machine/Dispatch.lean ====
section
/-! DEFINITION. The dispatch: one arm per command, one direct call of its meaning. -/
namespace Sys2Proof.Machine

/-- The effect of one command on everything but the queue. -/
def exec (i : Instr) (s : State) : Host.Outcome State Fault Refusal :=
  match i with
  | .porstNRise role lvl1 bootsrc => Sys2Proof.Machine.execPorstNRise role lvl1 bootsrc s
  | .railBelowThreshold rail => Sys2Proof.Machine.execRailBelowThreshold rail s
  | .internalResetRelease railsLow => Sys2Proof.Machine.execInternalResetRelease railsLow s
  | .vddStart cfgd active mv vin => Sys2Proof.Machine.execVddStart cfgd active mv vin s
  | .vselAccept vsel dt => Sys2Proof.Machine.execVselAccept vsel dt s
  | .vrcTargetWrite p reg w dt => Sys2Proof.Machine.execVrcTargetWrite p reg w dt s
  | .pgUnmask mv dt => Sys2Proof.Machine.execPgUnmask mv dt s
  | .vrcOv mv dt => Sys2Proof.Machine.execVrcOv mv dt s
  | .vrcUv mv => Sys2Proof.Machine.execVrcUv mv s
  | .phaseAdd j k => Sys2Proof.Machine.execPhaseAdd j k s
  | .phaseShed j k us => Sys2Proof.Machine.execPhaseShed j k s us
  | .hiccup n => Sys2Proof.Machine.execHiccup s n
  | .hiccupRetry mv ms => Sys2Proof.Machine.execHiccupRetry mv s ms
  | .syncLost => Sys2Proof.Machine.execSyncLost s
  | .syncEdgeResync => Sys2Proof.Machine.execSyncEdgeResync s
  | .pfw vin vhold => Sys2Proof.Machine.execPfw vin vhold s
  | .pllLoss k dt => Sys2Proof.Machine.execPllLoss k s dt
  | .clockLossRestart => Sys2Proof.Machine.execClockLossRestart s
  | .refCfgWrite p w => Sys2Proof.Machine.execRefCfgWrite p w s
  | .pllRelockDone => Sys2Proof.Machine.execPllRelockDone s
  | .cellRecFallback => Sys2Proof.Machine.execCellRecFallback s
  | .cellRecReturn => Sys2Proof.Machine.execCellRecReturn s
  | .clkoutCfgWrite p k w => Sys2Proof.Machine.execClkoutCfgWrite p k w s
  | .loessPowerOn vdda => Sys2Proof.Machine.execLoessPowerOn vdda s
  | .loessSample vbak vhold low vdda cool => Sys2Proof.Machine.execLoessSample vbak vhold low vdda cool s
  | .tamperLatchClear p w => Sys2Proof.Machine.execTamperLatchClear p w s
  | .rtcSet p ticks => Sys2Proof.Machine.execRtcSet p ticks s
  | .commitRequest kind n vhold => Sys2Proof.Machine.execCommitRequest kind n vhold s
  | .commitEnd kind vhold => Sys2Proof.Machine.execCommitEnd kind vhold s
  | .loadStart => Sys2Proof.Machine.execLoadStart s
  | .reload p => Sys2Proof.Machine.execReload p s
  | .hostStart p => Sys2Proof.Machine.execHostStart p s
  | .imgDataWrite p w => Sys2Proof.Machine.execImgDataWrite p w s
  | .imageBytesIn n bs => Sys2Proof.Machine.execImageBytesIn n bs s
  | .loadStall => Sys2Proof.Machine.execLoadStall s
  | .lastImageByte => Sys2Proof.Machine.execLastImageByte s
  | .imageApplied dt t vhold => Sys2Proof.Machine.execImageApplied dt t s vhold
  | .ctWindowWrite p entry k be w => Sys2Proof.Machine.execCtWindowWrite p entry k be w s
  | .ctEqPresetRead p entry which be => Sys2Proof.Machine.execCtEqPresetRead p entry which s be
  | .ctCommit p bank => Sys2Proof.Machine.execCtCommit p bank s
  | .ctCommitChecksDone => Sys2Proof.Machine.execCtCommitChecksDone s
  | .ctDiscard p bank => Sys2Proof.Machine.execCtDiscard p bank s
  | .otpProgram p slot => Sys2Proof.Machine.execOtpProgram p slot s
  | .otpRevoke p slot => Sys2Proof.Machine.execOtpRevoke p slot s
  | .otpProgramDone => Sys2Proof.Machine.execOtpProgramDone s
  | .clodGateWrite p quad w => Sys2Proof.Machine.execClodGateWrite p quad w s
  | .quadReady q dt => Sys2Proof.Machine.execQuadReady q s dt
  | .periodCfgWrite p w => Sys2Proof.Machine.execPeriodCfgWrite p w s
  | .pcntLoRead p be => Sys2Proof.Machine.execPcntLoRead p s be
  | .periodBoundary ref conv ops => Sys2Proof.Machine.execPeriodBoundary ref conv ops s
  | .alignLocked ptp => Sys2Proof.Machine.execAlignLocked ptp s
  | .holdoverEnter => Sys2Proof.Machine.execHoldoverEnter s
  | .ppsInEdge ticks => Sys2Proof.Machine.execPpsInEdge ticks s
  | .checkpointValidate => Sys2Proof.Machine.execCheckpointValidate s
  | .upstreamCycleBoundary => Sys2Proof.Machine.execUpstreamCycleBoundary s
  | .laneDsEnable p lane w dt => Sys2Proof.Machine.execLaneDsEnable p lane w s dt
  | .laneDsDisable p lane w dt => Sys2Proof.Machine.execLaneDsDisable p lane w s dt
  | .laneDsSleep p lane w dt => Sys2Proof.Machine.execLaneDsSleep p lane w s dt
  | .laneDsWake p lane w dt => Sys2Proof.Machine.execLaneDsWake p lane w s dt
  | .laneWakeDone lane dt => Sys2Proof.Machine.execLaneWakeDone lane s dt
  | .loopbackRequest p lane w dt => Sys2Proof.Machine.execLoopbackRequest p lane w s dt
  | .feLoopbackTimeout => Sys2Proof.Machine.execFeLoopbackTimeout s
  | .rxSignalDetect amp lsd => Sys2Proof.Machine.execRxSignalDetect s amp lsd
  | .rxAdaptDone eq0 eq1 => Sys2Proof.Machine.execRxAdaptDone eq0 eq1 s
  | .blockLock t blks => Sys2Proof.Machine.execBlockLock s t blks
  | .blockSearchTimeout => Sys2Proof.Machine.execBlockSearchTimeout s
  | .lockLost blks => Sys2Proof.Machine.execLockLost blks s
  | .los amp lsd => Sys2Proof.Machine.execLos s amp lsd
  | .holdResume amp lsd => Sys2Proof.Machine.execHoldResume s amp lsd
  | .holdTimeout => Sys2Proof.Machine.execHoldTimeout s
  | .upstreamSlot lane slot => Sys2Proof.Machine.execUpstreamSlot lane slot s
  | .usRxWake lane => Sys2Proof.Machine.execUsRxWake lane s
  | .burstReceived lane slot b => Sys2Proof.Machine.execBurstReceived lane slot b s
  | .rankQueueOp a => Sys2Proof.Machine.execRankQueueOp a s
  | .admissionDecide lane => Sys2Proof.Machine.execAdmissionDecide lane s
  | .joinTimeout lane slot => Sys2Proof.Machine.execJoinTimeout lane slot s
  | .releaseMiss lane slot => Sys2Proof.Machine.execReleaseMiss lane slot s
  | .quarantineEnd lane slot => Sys2Proof.Machine.execQuarantineEnd lane slot s
  | .timingAdjTrigger lane slot => Sys2Proof.Machine.execTimingAdjTrigger lane slot s
  | .laneRelease p lane w => Sys2Proof.Machine.execLaneRelease p lane w s
  | .admOpenWrite p lane w dt => Sys2Proof.Machine.execAdmOpenWrite p lane w s dt
  | .laneLevelWrite p lane w => Sys2Proof.Machine.execLaneLevelWrite p lane w s
  | .cltDrefWrite p w => Sys2Proof.Machine.execCltDrefWrite p w s
  | .mailboxSend p lane w => Sys2Proof.Machine.execMailboxSend p lane w s
  | .mgmtTimeout lane => Sys2Proof.Machine.execMgmtTimeout lane s
  | .reflogPop p => Sys2Proof.Machine.execReflogPop p s
  | .cellFrameReceived start blks lms => Sys2Proof.Machine.execCellFrameReceived start blks lms s
  | .applyInstant => Sys2Proof.Machine.execApplyInstant s
  | .gateEdgeDue fb => Sys2Proof.Machine.execGateEdgeDue fb s
  | .holdMissingFrame => Sys2Proof.Machine.execHoldMissingFrame s
  | .stopSymbolRx t blks => Sys2Proof.Machine.execStopSymbolRx t s blks
  | .abortBlockRx blks => Sys2Proof.Machine.execAbortBlockRx blks s
  | .announceTimeout => Sys2Proof.Machine.execAnnounceTimeout s
  | .joiningTimeout => Sys2Proof.Machine.execJoiningTimeout s
  | .refusedTimerEnd => Sys2Proof.Machine.execRefusedTimerEnd s
  | .trackLost1ms => Sys2Proof.Machine.execTrackLost1ms s
  | .cellBurstTx cyc slot ahead => Sys2Proof.Machine.execCellBurstTx cyc slot ahead s
  | .cellUsWake => Sys2Proof.Machine.execCellUsWake s
  | .rangeAdmit => Sys2Proof.Machine.execRangeAdmit s
  | .refuse => Sys2Proof.Machine.execRefuse s
  | .release => Sys2Proof.Machine.execRelease s
  | .timingAdj => Sys2Proof.Machine.execTimingAdj s
  | .regRead dt ticks => Sys2Proof.Machine.execRegRead dt ticks s
  | .regWrite dt => Sys2Proof.Machine.execRegWrite dt s
  | .linkTestEnd => Sys2Proof.Machine.execLinkTestEnd s
  | .linkTestFarEnd => Sys2Proof.Machine.execLinkTestFarEnd s
  | .linkTestRawPrbs => Sys2Proof.Machine.execLinkTestRawPrbs s
  | .linkTestTestBurst => Sys2Proof.Machine.execLinkTestTestBurst s
  | .imgChunk => Sys2Proof.Machine.execImgChunk s
  | .imgEnd => Sys2Proof.Machine.execImgEnd s
  | .strataRead => Sys2Proof.Machine.execStrataRead s
  | .prbsModeSet p lane w dt => Sys2Proof.Machine.execPrbsModeSet p lane w s dt
  | .prbsClr p lane w => Sys2Proof.Machine.execPrbsClr p lane w s
  | .prbsInjShot p lane => Sys2Proof.Machine.execPrbsInjShot p lane s
  | .prbsPeriodicInject lane dt => Sys2Proof.Machine.execPrbsPeriodicInject lane s dt
  | .prbsBitsLoRead p be lane => Sys2Proof.Machine.execPrbsBitsLoRead p be s lane
  | .refreshCountdownEnd cell => Sys2Proof.Machine.execRefreshCountdownEnd cell s
  | .rechargeTimeout cell => Sys2Proof.Machine.execRechargeTimeout cell s
  | .armRechClr p a => Sys2Proof.Machine.execArmRechClr p a s
  | .carryClr p => Sys2Proof.Machine.execCarryClr p s
  | .rsnapTake p arm => Sys2Proof.Machine.execRsnapTake p arm s
  | .statWindowEnd => Sys2Proof.Machine.execStatWindowEnd s
  | .paramWrite p word be w => Sys2Proof.Machine.execParamWrite p word be w s
  | .funParamWrite p tile off w => Sys2Proof.Machine.execFunParamWrite p tile off w s
  | .pcommitGo p align => Sys2Proof.Machine.execPcommitGo p align s
  | .pcommitGoAtPcnt p align => Sys2Proof.Machine.execPcommitGoAtPcnt p align s
  | .injStart p k w => Sys2Proof.Machine.execInjStart p k w s
  | .injStop p k w => Sys2Proof.Machine.execInjStop p k w s
  | .injDurEnd k => Sys2Proof.Machine.execInjDurEnd k s
  | .capArm p w => Sys2Proof.Machine.execCapArm p w s
  | .capAbort p w => Sys2Proof.Machine.execCapAbort p w s
  | .capForce p w => Sys2Proof.Machine.execCapForce p w s
  | .captureDone => Sys2Proof.Machine.execCaptureDone s
  | .corrStart p c w => Sys2Proof.Machine.execCorrStart p c w s
  | .corrDone c => Sys2Proof.Machine.execCorrDone c s
  | .relock p j => Sys2Proof.Machine.execRelock p j s
  | .gridSyncLock j => Sys2Proof.Machine.execGridSyncLock j s
  | .clr p j => Sys2Proof.Machine.execClr p j s
  | .resync p j => Sys2Proof.Machine.execResync p j s
  | .restart p j => Sys2Proof.Machine.execRestart p j s
  | .loamMismatch point index offs => Sys2Proof.Machine.execLoamMismatch point index offs s
  | .loamRestoreReady ecc => Sys2Proof.Machine.execLoamRestoreReady ecc s
  | .forceMm p => Sys2Proof.Machine.execForceMm p s
  | .escClr p => Sys2Proof.Machine.execEscClr p s
  | .cntClr p => Sys2Proof.Machine.execCntClr p s
  | .split p w => Sys2Proof.Machine.execSplit p w s
  | .handover p w => Sys2Proof.Machine.execHandover p w s
  | .handoverExecute => Sys2Proof.Machine.execHandoverExecute s
  | .abandon p w => Sys2Proof.Machine.execAbandon p w s
  | .splitTimeout => Sys2Proof.Machine.execSplitTimeout s
  | .cellWindowEnd conv t vhold => Sys2Proof.Machine.execCellWindowEnd conv t vhold s
  | .acqCoreCfgWrite p c off w dt => Sys2Proof.Machine.execAcqCoreCfgWrite p c off w dt s
  | .acqInGainWrite p j w => Sys2Proof.Machine.execAcqInGainWrite p j w s
  | .acqInOffsWrite p j w dt => Sys2Proof.Machine.execAcqInOffsWrite p j w dt s
  | .estSettled c => Sys2Proof.Machine.execEstSettled c s
  | .scalZeroCapture p j => Sys2Proof.Machine.execScalZeroCapture p j s
  | .scalRefCapture p j => Sys2Proof.Machine.execScalRefCapture p j s
  | .scalCompute p j => Sys2Proof.Machine.execScalCompute p j s
  | .scalDone dt => Sys2Proof.Machine.execScalDone dt s
  | .comparatorCrossing c vs t pin => Sys2Proof.Machine.execComparatorCrossing c vs t s pin
  | .cmpLatchClear p c w => Sys2Proof.Machine.execCmpLatchClear p c w s
  | .cmpCfgWrite p c w => Sys2Proof.Machine.execCmpCfgWrite p c w s
  | .cmpTestSet p c w => Sys2Proof.Machine.execCmpTestSet p c w s
  | .chatterWindowEnd dt => Sys2Proof.Machine.execChatterWindowEnd s dt
  | .cmpCntClr p c => Sys2Proof.Machine.execCmpCntClr p c s
  | .eventFire k dt => Sys2Proof.Machine.execEventFire k s dt
  | .firedClear p j w => Sys2Proof.Machine.execFiredClear p j w s
  | .evrMapWrite p k w => Sys2Proof.Machine.execEvrMapWrite p k w s
  | .tripClr p m => Sys2Proof.Machine.execTripClr p m s
  | .tripMinMsExpire k dt => Sys2Proof.Machine.execTripMinMsExpire k s dt
  | .softSet p => Sys2Proof.Machine.execSoftSet p s
  | .softClr p => Sys2Proof.Machine.execSoftClr p s
  | .fcntClear p j => Sys2Proof.Machine.execFcntClear p j s
  | .deblock p dt => Sys2Proof.Machine.execDeblock p dt s
  | .block p => Sys2Proof.Machine.execBlock p s
  | .dblkCfgWrite p w => Sys2Proof.Machine.execDblkCfgWrite p w s
  | .pwmPeriodStart g => Sys2Proof.Machine.execPwmPeriodStart g s
  | .pwmGrpEnWrite p g w => Sys2Proof.Machine.execPwmGrpEnWrite p g w s
  | .pwmCommit p m => Sys2Proof.Machine.execPwmCommit p m s
  | .pwmOverrideWrite p pair w => Sys2Proof.Machine.execPwmOverrideWrite p pair w s
  | .pwmFault k pins dt => Sys2Proof.Machine.execPwmFault k s pins dt
  | .pwmFltLatchClear p k => Sys2Proof.Machine.execPwmFltLatchClear p k s
  | .hizClr p m => Sys2Proof.Machine.execHizClr p m s
  | .desatDetect k above t => Sys2Proof.Machine.execDesatDetect k above s t
  | .softTurnoffEnd k t => Sys2Proof.Machine.execSoftTurnoffEnd k t s
  | .gateFbTimeout k high t => Sys2Proof.Machine.execGateFbTimeout k high t s
  | .bypTimeout t => Sys2Proof.Machine.execBypTimeout t s
  | .bypFbHigh t => Sys2Proof.Machine.execBypFbHigh t s
  | .fltClr p => Sys2Proof.Machine.execFltClr p s
  | .selftestGo p w => Sys2Proof.Machine.execSelftestGo p w s
  | .selftestItemDone vs up dn t => Sys2Proof.Machine.execSelftestItemDone vs s up dn t
  | .gdcOvrWrite p w => Sys2Proof.Machine.execGdcOvrWrite p w s
  | .wearCommitTimer t vhold => Sys2Proof.Machine.execWearCommitTimer t s vhold
  | .housekeepingRound die dt t => Sys2Proof.Machine.execHousekeepingRound die dt t s
  | .thermalSdReset => Sys2Proof.Machine.execThermalSdReset s
  | .thmSdClr p => Sys2Proof.Machine.execThmSdClr p s
  | .strataEvent code data => Sys2Proof.Machine.execStrataEvent code data s
  | .strataGroupCommit vhold => Sys2Proof.Machine.execStrataGroupCommit vhold s
  | .strataScanDone => Sys2Proof.Machine.execStrataScanDone s
  | .strataFreeze p w => Sys2Proof.Machine.execStrataFreeze p w s
  | .strataPostDone => Sys2Proof.Machine.execStrataPostDone s
  | .strataFlushChunk vhold => Sys2Proof.Machine.execStrataFlushChunk vhold s
  | .slotRel p w => Sys2Proof.Machine.execSlotRel p w s
  | .strataRefresh hours vhold cent => Sys2Proof.Machine.execStrataRefresh hours vhold s cent
  | .kaoPowerUp sealLow => Sys2Proof.Machine.execKaoPowerUp sealLow s
  | .kaoSample codes late => Sys2Proof.Machine.execKaoSample codes s late
  | .kaoBlockEnd warn => Sys2Proof.Machine.execKaoBlockEnd warn s
  | .kaoIntervalEnd => Sys2Proof.Machine.execKaoIntervalEnd s
  | .kaoVddmWarn done off => Sys2Proof.Machine.execKaoVddmWarn done off s
  | .kaoUnsealCommand p => Sys2Proof.Machine.execKaoUnsealCommand p s
  | .kaoUnseal => Sys2Proof.Machine.execKaoUnseal s
  | .sealNAssert => Sys2Proof.Machine.execSealNAssert s
  | .sealNRelease => Sys2Proof.Machine.execSealNRelease s
  | .kaoPulseOut k since => Sys2Proof.Machine.execKaoPulseOut k s since
  | .kaoS0Input k since => Sys2Proof.Machine.execKaoS0Input k since s
  | .kaoS0Stuck k held => Sys2Proof.Machine.execKaoS0Stuck k s held
  | .kaoVportId => Sys2Proof.Machine.execKaoVportId s
  | .kaoVportTot => Sys2Proof.Machine.execKaoVportTot s
  | .kaoVportSet => Sys2Proof.Machine.execKaoVportSet s
  | .kaoVportRec n => Sys2Proof.Machine.execKaoVportRec n s
  | .kaoVportTime t => Sys2Proof.Machine.execKaoVportTime t s
  | .kaoVportOther => Sys2Proof.Machine.execKaoVportOther s
  | .marlPowerOn => Sys2Proof.Machine.execMarlPowerOn s
  | .marlTick b c1 c2 rb code0 code1 => Sys2Proof.Machine.execMarlTick b c1 c2 rb code0 code1 s
  | .marlDiscFault k => Sys2Proof.Machine.execMarlDiscFault k s
  | .marlTestWindow b k rb ends => Sys2Proof.Machine.execMarlTestWindow b k rb ends s
  | .marlTelegramSend n => Sys2Proof.Machine.execMarlTelegramSend n s
  | .marlTelegramRx => Sys2Proof.Machine.execMarlTelegramRx s
  | .connTimeout c => Sys2Proof.Machine.execConnTimeout c s
  | .marlNotify k => Sys2Proof.Machine.execMarlNotify k s
  | .marlProposal => Sys2Proof.Machine.execMarlProposal s
  | .mrlConfirm p w => Sys2Proof.Machine.execMrlConfirm p w s
  | .marlConfirmStored => Sys2Proof.Machine.execMarlConfirmStored s
  | .marlSelfTest ok => Sys2Proof.Machine.execMarlSelfTest ok s
  | .marlInternalFault => Sys2Proof.Machine.execMarlInternalFault s
  | .pcieReset kind => Sys2Proof.Machine.execPcieReset kind s
  | .msixUnmask mask func table => Sys2Proof.Machine.execMsixUnmask mask func s table
  | .spiRead a n dt ticks => Sys2Proof.Machine.execSpiRead a n dt ticks s
  | .spiWrite a ws rest dt ticks => Sys2Proof.Machine.execSpiWrite a ws rest dt ticks s
  | .spiStatus => Sys2Proof.Machine.execSpiStatus s
  | .spiOther => Sys2Proof.Machine.execSpiOther s
  | .spicGo p w => Sys2Proof.Machine.execSpicGo p w s
  | .spicDone data => Sys2Proof.Machine.execSpicDone data s
  | .ethFrameRx q bytes ticks => Sys2Proof.Machine.execEthFrameRx q bytes ticks s
  | .ethRxRdWrite p port w => Sys2Proof.Machine.execEthRxRdWrite p port w s
  | .ethTxSend p port w ticks => Sys2Proof.Machine.execEthTxSend p port w ticks s
  | .ethTxDone q ticks => Sys2Proof.Machine.execEthTxDone q ticks s
  | .ethLinkChange q up anDone => Sys2Proof.Machine.execEthLinkChange q up anDone s
  | .ptpStep p w ticks => Sys2Proof.Machine.execPtpStep p w ticks s
  | .ptpLockWrite p w ticks => Sys2Proof.Machine.execPtpLockWrite p w ticks s
  | .ptpLockTimeout ticks => Sys2Proof.Machine.execPtpLockTimeout s ticks
  | .ptpNsRead p be ticks => Sys2Proof.Machine.execPtpNsRead p be s ticks
  | .ppsNsRead p be => Sys2Proof.Machine.execPpsNsRead p s be
  | .ppsOutSecond => Sys2Proof.Machine.execPpsOutSecond s
  | .rtcSubRead p be ticks => Sys2Proof.Machine.execRtcSubRead p be s ticks
  | .canTxslotSubmit p n k w => Sys2Proof.Machine.execCanTxslotSubmit p n k w s
  | .canTxAttempt n cyc => Sys2Proof.Machine.execCanTxAttempt n cyc s
  | .canTxAttemptEnd n how more exempt => Sys2Proof.Machine.execCanTxAttemptEnd n how more exempt s
  | .cancel p n m => Sys2Proof.Machine.execCancel p n m s
  | .canBusOff n more => Sys2Proof.Machine.execCanBusOff n more s
  | .recover p n => Sys2Proof.Machine.execRecover p n s
  | .canRecoveryDone n => Sys2Proof.Machine.execCanRecoveryDone n s
  | .canDisable p n w => Sys2Proof.Machine.execCanDisable p n w s
  | .canFrameRx n o => Sys2Proof.Machine.execCanFrameRx n o s
  | .canFilterWrite p n j part w => Sys2Proof.Machine.execCanFilterWrite p n j part w s
  | .rxpop p n => Sys2Proof.Machine.execRxpop p n s
  | .txevtPop p n => Sys2Proof.Machine.execTxevtPop p n s
  | .tsSnap p dt ticks => Sys2Proof.Machine.execTsSnap p dt ticks s
  | .sltAlloc p be => Sys2Proof.Machine.execSltAlloc p s be
  | .sltFree p b => Sys2Proof.Machine.execSltFree p b s
  | .ndClr p b seq => Sys2Proof.Machine.execNdClr p b seq s
  | .registerWrite p word be w dt ticks => Sys2Proof.Machine.execRegisterWrite p word be w dt ticks s
  | .vddfLoss doneA doneB => Sys2Proof.Machine.execVddfLoss doneA doneB s
  | .vrcVinUvlo vin => Sys2Proof.Machine.execVrcVinUvlo vin s
  | .prbsCheckerLock lane => Sys2Proof.Machine.execPrbsCheckerLock lane s
  | .prbsCheckerLockLost lane n w => Sys2Proof.Machine.execPrbsCheckerLockLost lane n w s
  | .kaoS0Release k => Sys2Proof.Machine.execKaoS0Release k s
  | .gdFbFall k t => Sys2Proof.Machine.execGdFbFall k t s
  | .pwmEdge p dt => Sys2Proof.Machine.execPwmEdge p dt s
  | .pcieLinkUp lanes speed msixEn => Sys2Proof.Machine.execPcieLinkUp lanes speed msixEn s

end Sys2Proof.Machine
end

