-- ==== Sys2Proof/Machine/Pins.lean ====
section
/-!
DEFINITION. The levels of the output pins: high impedance while the domain rail is absent, and what each pin shows in reset, until the
image is applied and after it (R299, R316, R319, R335, R448, R480, R530; log 161). They are functions of the state; no command reads them.
-/
namespace Sys2Proof.Machine

/-- What an output pin shows: undriven with no internal pull, a level, or the signal that its unit produces (R530). -/
inductive PinLevel where
  | hiZ
  | low
  | high
  | signal
  deriving DecidableEq, Repr

def PinLevel.of (b : Bool) : PinLevel := if b then .high else .low

/-- The rails of the pin classes of R529: VDDIO of the 1.8 V CMOS pins; VDDL and VDDT of the high-speed serial pins. -/
def cmosRail (s : State) : Bool := !bitAt s.sys.railsLow 4
def serialRails (s : State) : Bool := !bitAt s.sys.railsLow 1 && !bitAt s.sys.railsLow 2

/-- TRIP_OUT[k]. -/
def tripOutPin (s : State) (k : Nat) : PinLevel :=
  if cmosRail s then (match tripPin s k with | some b => .of b | none => .hiZ) else .hiZ

/-- PWMH[p] and PWML[p]. -/
def pwmPins (s : State) (p : Nat) : PinLevel × PinLevel :=
  match pairPins s p with
  | some o => if cmosRail s then (.of (o == .high), .of (o == .low)) else (.hiZ, .hiZ)
  | none => (.hiZ, .hiZ)

/-- GD_ON[k], GD_MC[k] and GD_STO[k]; the registers stand at the levels of R319 in reset and until an image is applied. -/
def gatePins (s : State) (k : Nat) : PinLevel × PinLevel × PinLevel :=
  let pin (f : Fld) : PinLevel := if cmosRail s then .of (bitAt (s.fld f) k) else .hiZ
  (pin GDC.STAT.ON, pin GDC.STAT.MC, pin GDC.STAT.STO)

/-- BYP_CMD, held by a latch that only the loss of VDDIO resets. -/
def bypCmdPin (s : State) : PinLevel := if cmosRail s then .of (s.flag GDC.STAT.BYP_CMD) else .hiZ

/-- The transmit pair of lane `l`: electrically idle, shown as `low`, until the lane runs (R89, R100, R107). A cell's lane 0 sends only
under LTX_EN. -/
def lanePair (s : State) (l : Nat) : PinLevel :=
  if serialRails s then
    (if s.clodsUp && (if s.isCell then l == 0 && s.cell.ltxEn
        else bitAt (s.fld SYS.QUAD_STAT.QUAD_RDY) (l / 4) && (dsState s l == dsRun || dsState s l == dsWake) && !nearLoop s l)
      then .signal else .low)
  else .hiZ

/-- LTX_EN[l], which only a cell's lane 0 raises; LRX_RST[l], low but for the pulses of R90 within an upstream slot. -/
def ltxEnPin (s : State) (l : Nat) : PinLevel := if cmosRail s then .of (s.clodsUp && s.isCell && l == 0 && s.cell.ltxEn) else .hiZ
def lrxRstPin (s : State) : PinLevel := if cmosRail s then .low else .hiZ

/-- The PLL that a clock output runs from is lost (R480, R482). -/
def clkSrcLost (s : State) (n : Nat) : Bool :=
  let src := s.fld (CLK.OUT_CFG.SRC.at (4 * n))
  (src == 1 && bitAt s.clk.lost 0) || (src == 2 && bitAt s.clk.lost 1)

/-- CLKOUT[n]: low in reset, until the image is applied, while off, and while the PLL it runs from is lost. -/
def clkOutPin (s : State) (n : Nat) : PinLevel :=
  if serialRails s then
    (if s.clodsUp && s.flag IMG.STAT.VALID && s.flag (CLK.OUT_CFG.EN.at (4 * n)) && s.fld (CLK.OUT_CFG.SRC.at (4 * n)) != 0 && !clkSrcLost s n then .signal
     else .low)
  else .hiZ

/-- INT_N is open drain: driven low, or released. -/
def intPin (s : State) : PinLevel := if cmosRail s && s.clodsUp && !intN s then .low else .hiZ

/-- VRC_PWM[k] follows the supply controller, whatever PORST_N does; VDDA feeds the controller. -/
def vrcPwmPin (s : State) (k : Nat) : PinLevel :=
  if cmosRail s && !bitAt s.sys.railsLow 3 then (if s.flag VRC.STAT.RUN && bitAt (s.fld VRC.STAT.PH_EN) k then .signal else .low) else .hiZ

/-- FL_CS_N: high but for the reads and commands that the SPI controller makes. -/
def flCsPin (s : State) : PinLevel := if cmosRail s then .high else .hiZ

/-- FL_WP_N: low except while WP_OFF is set (R448). -/
def flWpPin (s : State) : PinLevel := if cmosRail s then .of (s.clodsUp && s.flag HST.SPIC_CFG.WP_OFF) else .hiZ

end Sys2Proof.Machine
end

