-- ==== Sys2Proof/Safety.lean ====
section
/-!
DEFINITION. What the claims speak of: the canonical form of the state's tables, what a command leaves unchanged, and which accesses
reach their block.
-/
namespace Sys2Proof.Machine

/-! ## Canonical states -/

/-- The register file lists its addresses rising and no register at its reset word. -/
abbrev State.regsWf (s : State) : Prop := tabWf regReset s.reg = true

/-- The register file and the byte memories (the station's buffers, the strata MRAM, the image bytes of a transfer) are canonical. -/
abbrev State.Canonical (s : State) : Prop :=
  s.regsWf ∧ Memory.wf s.station.mem = true ∧ Memory.wf s.strata.mram = true ∧ Memory.wf s.cell.imgBytes = true

/-! ## The energy books of the Kaolin island (R379) -/

/-- Import less export is net, in the totals with their residues and in the block sums. -/
abbrev KaoFam.Booked (f : KaoFam) : Prop := (f.imp : Int) - f.exp_ = f.net ∧ (f.sImp : Int) - f.sExp = f.sNet

/-- The books of both families. -/
abbrev KaoLive.Booked (l : KaoLive) : Prop := l.dc.Booked ∧ l.ac.Booked

/-- The books of the island and of what its two commit records would restore. -/
abbrev State.Booked (s : State) : Prop :=
  s.kao.live.Booked ∧ (∀ x, s.kao.commits.getD 0 none = some x → x.2.Booked) ∧ (∀ x, s.kao.commits.getD 1 none = some x → x.2.Booked)

/-! ## The two islands (R371, R372, R404, R405) -/

/-- Commands of the Kaolin island itself: its supply, samples, blocks and intervals, the unseal command that has crossed the seam, its pins and
its verification port. -/
def kaolinCommand : Instr → Bool
  | .kaoPowerUp _ | .kaoSample _ _ | .kaoBlockEnd _ | .kaoIntervalEnd | .kaoVddmWarn _ _ | .kaoUnseal => true
  | .sealNAssert | .sealNRelease | .kaoPulseOut _ _ | .kaoS0Input _ _ | .kaoS0Stuck _ _ | .kaoS0Release _ => true
  | .kaoVportId | .kaoVportTot | .kaoVportSet | .kaoVportRec _ | .kaoVportTime _ | .kaoVportOther => true
  | _ => false

/-- Commands of the Marl island itself: its supply, ticks and test windows, the telegrams at its seams, routed events, and what it does with the
proposals and confirmations that have crossed the command seam. -/
def marlCommand : Instr → Bool
  | .marlPowerOn | .marlTick _ _ _ _ _ _ | .marlDiscFault _ | .marlTestWindow _ _ _ _ | .marlTelegramSend _ | .marlTelegramRx => true
  | .marlNotify _ | .marlProposal | .marlConfirmStored | .marlSelfTest _ | .marlInternalFault | .connTimeout _ | .vddfLoss _ _ => true
  | _ => false

/-- The Kaolin island is as it was, but for the offer on the host's side and the argument in the command seam. -/
abbrev State.KaolinKept (s t : State) : Prop := { t.kao with offer := s.kao.offer, arg := s.kao.arg } = s.kao

/-- The Marl island is as it was, but for what stands at its seams: a hand-over, a confirmation, telegrams that have arrived. -/
abbrev State.MarlKept (s t : State) : Prop :=
  { t.marl with handed := s.marl.handed, conf := s.marl.conf, confA := s.marl.confA, confB := s.marl.confB, seam := s.marl.seam } = s.marl

/-! ## Frames -/

/-- Two fields share no bit. -/
def Fld.apart (f g : Fld) : Bool := f.addr != g.addr || decide (f.lo + f.width ≤ g.lo) || decide (g.lo + g.width ≤ f.lo)

/-- Every register field apart from `fs` reads in `t` what it reads in `s`. -/
def FieldsKept (fs : List Fld) (s t : State) : Prop :=
  ∀ f : Fld, f.lo + f.width ≤ 32 → (∀ g ∈ fs, Fld.apart f g = true) → t.fld f = s.fld f

/-- `t` differs from `s` in the register fields `fs` and in what it sends, and in nothing else. -/
def OnlyFields (fs : List Fld) (s t : State) : Prop := FieldsKept fs s t ∧ { t with reg := s.reg, out := s.out } = s

/-! ## Accesses -/

/-- An access over `p` to address `a` reaches a block that answers. -/
abbrev Reaches (p : Path) (a : Nat) (s : State) : Prop := pathOk p s = true ∧ answerAt a s = .live

end Sys2Proof.Machine
end

