-- ==== Sys2Proof/WellFormed.lean ====
section
/-!
DEFINITION. Well-formed commands: the bounds on an operand that its type does not carry already. A command that breaks one
names something the hardware cannot be handed (a frame of the wrong length, a bit outside a sampled value).
-/
namespace Sys2Proof

/-- What a burst receiver can have seen (R91, R95): three blocks in each burst, eight tap sums or none, 6-bit phase codes, at most one
slot of raw bits. -/
def BurstObs.wellFormed (b : BurstObs) : Bool :=
  b.rx.all (fun r => r.blks.length == 3) && (b.sumDfe.length == 8 || b.sumDfe.isEmpty) && decide (b.phEnd < 64)
    && decide (b.rawLen ≤ 568) && decide (b.rawBits < 2 ^ b.rawLen)

/-- What a CAN controller can have seen (R461, R467): a 32-bit identifier word, a 4-bit DLC, at most 64 data bytes. -/
def CanObs.wellFormed (o : CanObs) : Bool :=
  decide (o.ident < 2 ^ 32) && decide (o.dlc < 16) && decide (o.data.length ≤ 64)

/-- Conversions give 16-bit two's-complement codes (R267). -/
def convWellFormed (xs : List Int) : Bool := xs.all (fun x => decide (-32768 ≤ x) && decide (x ≤ 32767))

/-- Strictly rising list of channels (R177: each arm's rank operation is completed at most once a period). -/
def risingFin : List (Fin 6) → Bool
  | a :: b :: t => decide (a < b) && risingFin (b :: t)
  | _ => true

/-- The bounds of every command's operands. -/
def Instr.wellFormed : Instr → Bool
  | .burstReceived _ _ b => b.wellFormed
  | .canFrameRx _ o => o.wellFormed
  | .kaoSample codes => codes.length == 6
  | .spicDone data => decide (data.length ≤ 256)
  | .cellFrameReceived _ _ lms => lms.length == 11 || lms.isEmpty
  | .periodBoundary _ conv ops => conv.length == 4 && conv.all convWellFormed && risingFin ops
  | .cellWindowEnd conv _ _ => convWellFormed conv
  | .housekeepingRound die _ _ => die.length == 12
  | .comparatorCrossing _ vs _ => vs.all (fun v => decide (v.natAbs ≤ 576000))
  | .phaseAdd i _ => decide (i < 2 ^ 16)
  | .phaseShed i _ _ => decide (i < 2 ^ 16)
  | .prbsCheckerLockLost _ n w => decide (n ≤ 568) && decide (w < 2 ^ n)
  | _ => true

end Sys2Proof
end

