-- ==== Sys2Proof/Certificates/Slice0/Obligations.lean ====
section
/-!
DEFINITION. The statements about the model.
-/
open Sys2Proof Sys2Proof.Machine


/-- While TSRC is 0 or 3, an accepted VSEL value that differs, and a write to the VSETn that VSEL selects, make 600 mV + 5 mV × code (codes above 120 as 120), limited by VMAX, the target at once, from the present slewed value, and mask power-good; a target above VMAX sets VMAX_CLAMP. The same follows a write to VSW under TSRC 1 and a write of CFG that changes TSRC. An accepted VSEL under another TSRC, and a write to another VSETn, change no target. Of the controller nothing else changes but that its slewed target is brought up to date; that a soft start ends once the slewed target has reached the target is R488, and that a CFG write brings phases back up to MIN_PH is R502. When the slewed target is brought up to date is the model's choice (log 50), as is its unit of 0.1 mV. -/
def Obligations.SupplyTargetFollowsVselAndVset : Prop :=
  (∀ (s : State) (v : Fin 16) (dt : Nat), s.regsWf → v.val ≠ s.vrc.vsel → (s.fld VRC.CFG.TSRC = 0 ∨ s.fld VRC.CFG.TSRC = 3) → ∃ t, exec (.vselAccept v
    dt) s = .next t ∧ t.vrc =
    { s.vrc with vsel := v.val, slewed := vrcSlew s dt, soft := s.vrc.soft && vrcSlew s dt != s.vrc.target, target := min (vrcCodeUv (s.fld (VRC.VSET.CODE.at (4 * v.val)))) (vrcCodeUv (s.fld VRC.VMAX.CODE)), masked := true }
    ∧ t.flag VRC.EVT.VMAX_CLAMP = (s.flag VRC.EVT.VMAX_CLAMP || decide (vrcCodeUv (s.fld VRC.VMAX.CODE) < vrcCodeUv (s.fld (VRC.VSET.CODE.at (4 *
    v.val))))) ∧ FieldsKept [VRC.EVT.VMAX_CLAMP] s t ∧ { t with reg := s.reg, out := s.out, vrc := s.vrc } = s) ∧
  (∀ (s : State) (v : Fin 16) (dt : Nat), (v.val = s.vrc.vsel ∨ s.fld VRC.CFG.TSRC = 1 ∨ s.fld VRC.CFG.TSRC = 2) → ∃ t, exec (.vselAccept v dt) s =
    .next t ∧ t.vrc = { s.vrc with vsel := v.val, slewed := vrcSlew s dt, soft := s.vrc.soft && vrcSlew s dt != s.vrc.target } ∧
    { t with out := s.out, vrc := s.vrc } = s) ∧
  (∀ (s : State) (p : Path) (n : Fin 19) (w : W32) (dt : Nat), s.regsWf → Reaches p (VRC.VSET.addr + 4 * n.val) s → n.val = s.vrc.vsel → n.val < 16 →
    (s.fld VRC.CFG.TSRC = 0 ∨ s.fld VRC.CFG.TSRC = 3) → ∃ t, exec (.vrcTargetWrite p n w dt) s = .next t ∧ t.fld (VRC.VSET.CODE.at (4 * n.val)) =
    w.toNat % 128 ∧ t.vrc =
    { s.vrc with slewed := vrcSlew s dt, soft := s.vrc.soft && vrcSlew s dt != s.vrc.target, target := min (vrcCodeUv (w.toNat % 128)) (vrcCodeUv (s.fld VRC.VMAX.CODE)), masked := true }
    ∧ t.flag VRC.EVT.VMAX_CLAMP = (s.flag VRC.EVT.VMAX_CLAMP || decide (vrcCodeUv (s.fld VRC.VMAX.CODE) < vrcCodeUv (w.toNat % 128))) ∧ t.out = [] ∧
    FieldsKept [VRC.VSET.CODE.at (4 * n.val), VRC.EVT.VMAX_CLAMP] s t ∧ { t with reg := s.reg, out := s.out, vrc := s.vrc } = s) ∧
  (∀ (s : State) (p : Path) (n : Fin 19) (w : W32) (dt : Nat), s.regsWf → Reaches p (VRC.VSET.addr + 4 * n.val) s → n.val ≠ s.vrc.vsel → n.val < 16 →
    ∃ t, exec (.vrcTargetWrite p n w dt) s = .next t ∧ t.fld (VRC.VSET.CODE.at (4 * n.val)) = w.toNat % 128 ∧ t.vrc =
    { s.vrc with slewed := vrcSlew s dt, soft := s.vrc.soft && vrcSlew s dt != s.vrc.target } ∧ t.out = [] ∧ FieldsKept [VRC.VSET.CODE.at (4 * n.val)]
    s t ∧ { t with reg := s.reg, out := s.out, vrc := s.vrc } = s) ∧
  (∀ (s : State) (p : Path) (w : W32) (dt : Nat), s.regsWf → Reaches p VRC.VSW.addr s → s.fld VRC.CFG.TSRC = 1 → ∃ t, exec (.vrcTargetWrite p 16 w dt)
    s = .next t ∧ t.fld VRC.VSW.CODE = w.toNat % 128 ∧ t.vrc =
    { s.vrc with slewed := vrcSlew s dt, soft := s.vrc.soft && vrcSlew s dt != s.vrc.target, target := min (vrcCodeUv (w.toNat % 128)) (vrcCodeUv (s.fld VRC.VMAX.CODE)), masked := true }
    ∧ t.flag VRC.EVT.VMAX_CLAMP = (s.flag VRC.EVT.VMAX_CLAMP || decide (vrcCodeUv (s.fld VRC.VMAX.CODE) < vrcCodeUv (w.toNat % 128))) ∧ t.out = [] ∧
    FieldsKept [VRC.VSW.CODE, VRC.EVT.VMAX_CLAMP] s t ∧ { t with reg := s.reg, out := s.out, vrc := s.vrc } = s) ∧
  (∀ (s : State) (p : Path) (w : W32) (dt : Nat), s.regsWf → Reaches p VRC.CFG.addr s → bitsAt w.toNat 22 2 ≠ s.fld VRC.CFG.TSRC → ∃ t, exec
    (.vrcTargetWrite p 17 w dt) s = .next t ∧ t.fld VRC.CFG.TSRC = bitsAt w.toNat 22 2 ∧ t.fld VRC.CFG.FSW_KHZ = bitsAt w.toNat 4 12 ∧ t.fld
    VRC.CFG.MIN_PH = bitsAt w.toNat 24 4 ∧ t.vrc =
    { s.vrc with slewed := vrcSlew s dt, soft := s.vrc.soft && vrcSlew s dt != s.vrc.target, target := min (vrcSelected (s.setFld VRC.CFG.TSRC (bitsAt w.toNat 22 2))) (vrcCodeUv (s.fld VRC.VMAX.CODE)), masked := true }
    ∧ t.flag VRC.EVT.VMAX_CLAMP = (s.flag VRC.EVT.VMAX_CLAMP || decide (vrcCodeUv (s.fld VRC.VMAX.CODE) < vrcSelected (s.setFld VRC.CFG.TSRC (bitsAt
    w.toNat 22 2)))) ∧ t.out = [] ∧ FieldsKept [VRC.CFG.TSRC, VRC.CFG.FSW_KHZ, VRC.CFG.MIN_PH, VRC.STAT.PH_EN, VRC.CNT.PH_CHG, VRC.EVT.VMAX_CLAMP] s t
    ∧ { t with reg := s.reg, out := s.out, vrc := s.vrc, freeCtr := s.freeCtr } = s)

/-- Once VDDA has been up, the start counts the configured phases, selects the target and begins a soft start at the measured output; it switches only while VRC_VIN is not below UVLO. A hiccup retry, once HIC_OFF + 1 ms have passed and not before, starts again from the output measured then. With VRC_VIN not above UVLO then, it waits for its return (the model's choice, log 123). VRC_VIN below UVLO stops switching; that its return starts it again without a soft start is the model's choice (log 51). How many phases a start has active is an operand (log 11). -/
def Obligations.SupplyStartsFromMeasuredOutput : Prop :=
  (∀ (s : State) (cfgd active : Fin 64) (mv vin : Nat), s.regsWf → s.flag VRC.STAT.RUN = false → s.flag VRC.STAT.HIC_OFF = false → bitAt
    s.sys.railsLow 3 = false → s.vrc.counted = false → ∃ t, exec (.vddStart cfgd active mv vin) s = .next t ∧ t.fld VRC.STAT.NPH = popcount 6 cfgd.val
    ∧ t.vrc.phMask = cfgd.val ∧ t.vrc.slewed = 10 * mv ∧ t.vrc.soft = true ∧ t.vrc.target = min (vrcSelected s) (vrcCodeUv (s.fld VRC.VMAX.CODE)) ∧
    t.flag VRC.STAT.RUN = decide (s.fld VRC.PFW.UVLO_MV ≤ vin) ∧ t.flag VRC.STAT.VIN_OK = decide (s.fld VRC.PFW.UVLO_MV ≤ vin) ∧ FieldsKept
    [VRC.STAT.NPH, VRC.STAT.PH_EN, VRC.STAT.VIN_OK, VRC.STAT.RUN, VRC.VOUT.VIN, VRC.VOUT.VDD, VRC.EVT.CFG_ERR, VRC.EVT.VMAX_CLAMP] s t ∧
    { t with reg := s.reg, out := s.out, vrc := s.vrc, freeCtr := s.freeCtr } = s) ∧
  (∀ (s : State) (mv ms : Nat), s.regsWf → s.flag VRC.STAT.HIC_OFF = true → s.flag VRC.STAT.VIN_OK = true → s.fld VRC.HICCUP.HIC_OFF + 1 ≤ ms → ∃ t,
    exec (.hiccupRetry mv ms) s = .next t ∧ t.flag VRC.STAT.RUN = true ∧ t.flag VRC.STAT.HIC_OFF = false ∧ t.vrc.slewed = 10 * mv ∧ t.vrc.soft = true
    ∧ FieldsKept [VRC.STAT.HIC_OFF, VRC.STAT.RUN, VRC.VOUT.VDD] s t ∧ { t with reg := s.reg, out := s.out, vrc := s.vrc } = s) ∧
  (∀ (s : State) (mv ms : Nat), s.regsWf → s.flag VRC.STAT.HIC_OFF = true → s.flag VRC.STAT.VIN_OK = false → s.fld VRC.HICCUP.HIC_OFF + 1 ≤ ms → ∃ t,
    exec (.hiccupRetry mv ms) s = .next t ∧ t.flag VRC.STAT.RUN = false ∧ t.flag VRC.STAT.HIC_OFF = false ∧ t.vrc.uvloStop = true ∧ t.vrc.slewed = 10
    * mv ∧ t.vrc.soft = true ∧ FieldsKept [VRC.STAT.HIC_OFF, VRC.STAT.RUN, VRC.VOUT.VDD] s t ∧ { t with reg := s.reg, out := s.out, vrc := s.vrc } =
    s) ∧
  (∀ (s : State) (mv ms : Nat), s.regsWf → s.flag VRC.STAT.HIC_OFF = true → ms ≤ s.fld VRC.HICCUP.HIC_OFF → ∃ t, exec (.hiccupRetry mv ms) s = .next t
    ∧ t = s ∧ { t with out := s.out } = s) ∧
  (∀ (s : State) (vin : Nat), s.regsWf → vin < s.fld VRC.PFW.UVLO_MV → ∃ t, exec (.vrcVinUvlo vin) s = .next t ∧ t.flag VRC.STAT.RUN = false ∧ t.flag
    VRC.STAT.VIN_OK = false ∧ FieldsKept [VRC.VOUT.VIN, VRC.STAT.VIN_OK, VRC.STAT.RUN] s t ∧ { t with reg := s.reg, out := s.out, vrc := s.vrc } = s) ∧
  (∀ (s : State) (vin : Nat), s.regsWf → s.fld VRC.PFW.UVLO_MV ≤ vin → s.vrc.uvloStop = true → ∃ t, exec (.vrcVinUvlo vin) s = .next t ∧ t.flag
    VRC.STAT.RUN = true ∧ t.flag VRC.STAT.VIN_OK = true ∧ t.vrc.uvloStop = false ∧ FieldsKept [VRC.VOUT.VIN, VRC.STAT.VIN_OK, VRC.STAT.RUN] s t ∧
    { t with reg := s.reg, out := s.out, vrc := s.vrc } = s)

/-- Once the slewed target has reached the last target and the output has settled within ±PG_WIN of it, power-good is unmasked and high. An output above the slewed target + OV_MV raises OV. An output below target − PG_WIN raises UV unless power-good is masked, whether or not the controller switches. HIC_N cycles at ILIM stop all phases, raise HICCUP and pull PGOOD low. That the overvoltage limit follows the slewed target is the model's reading (log 12). -/
def Obligations.SupplyFaultsAreRaised : Prop :=
  (∀ (s : State) (mv dt : Nat), s.regsWf → s.vrc.masked = true → s.flag VRC.STAT.RUN = true → vrcSlew s dt = s.vrc.target → 10 * mv ≤ s.vrc.target +
    10 * s.fld VRC.PG.PG_WIN → s.vrc.target ≤ 10 * mv + 10 * s.fld VRC.PG.PG_WIN → ∃ t, exec (.pgUnmask mv dt) s = .next t ∧ t.flag VRC.STAT.PGOOD =
    true ∧ t.vrc.masked = false ∧ t.sys = { s.sys with pgoodSeen := true } ∧ FieldsKept [VRC.VOUT.VDD, VRC.STAT.PGOOD] s t ∧
    { t with reg := s.reg, out := s.out, vrc := s.vrc, sys := s.sys } = s) ∧
  (∀ (s : State) (mv dt : Nat), s.regsWf → vrcSlew s dt + 10 * s.fld VRC.PG.OV_MV < 10 * mv → ∃ t, exec (.vrcOv mv dt) s = .next t ∧ t.flag VRC.EVT.OV
    = true ∧ FieldsKept [VRC.VOUT.VDD, VRC.EVT.OV] s t ∧ { t with reg := s.reg, out := s.out, vrc := s.vrc } = s) ∧
  (∀ (s : State) (mv : Nat), s.regsWf → s.vrc.masked = false → 10 * mv + 10 * s.fld VRC.PG.PG_WIN < s.vrc.target → ∃ t, exec (.vrcUv mv) s = .next t ∧
    t.flag VRC.EVT.UV = true ∧ FieldsKept [VRC.VOUT.VDD, VRC.EVT.UV] s t ∧ { t with reg := s.reg, out := s.out, vrc := s.vrc } = s) ∧
  (∀ (s : State) (mv : Nat), s.regsWf → s.vrc.masked = true → ∃ t, exec (.vrcUv mv) s = .next t ∧ FieldsKept [VRC.VOUT.VDD] s t ∧
    { t with reg := s.reg, out := s.out, vrc := s.vrc } = s) ∧
  (∀ (s : State) (n : Nat), s.regsWf → s.flag VRC.STAT.RUN = true → 8 ≤ n → s.fld VRC.HICCUP.HIC_N ≤ n → ∃ t, exec (.hiccup n) s = .next t ∧ t.flag
    VRC.STAT.RUN = false ∧ t.flag VRC.STAT.PGOOD = false ∧ t.flag VRC.EVT.HICCUP = true ∧ t.fld VRC.CNT.HICCUPS = min (s.fld VRC.CNT.HICCUPS + 1)
    65535 ∧ FieldsKept [VRC.STAT.RUN, VRC.STAT.PGOOD, VRC.STAT.HIC_OFF, VRC.EVT.HICCUP, VRC.CNT.HICCUPS] s t ∧ { t with reg := s.reg, out := s.out } =
    s)

/-- Above n × I_ADD one shed phase is added; below (n − 1) × I_SHED for SHED_T one is shed, never below MIN_PH; with I_SHED not below I_ADD the controller sets CFG_ERR and keeps all configured phases active. A lost sync source sets SYNC_LOST; its return locks again. Counting PH_CHG by added and shed phases follows R502. -/
def Obligations.SupplyPhasesFollowLoad : Prop :=
  (∀ (s : State) (i : Nat) (k : Fin 6), s.regsWf → s.flag VRC.STAT.RUN = true → s.fld VRC.SHED.I_SHED < s.fld VRC.SHED.I_ADD → vrcActive s * s.fld
    VRC.SHED.I_ADD < i → bitAt s.vrc.phMask k.val = true → bitAt (s.fld VRC.STAT.PH_EN) k.val = false → ∃ t, exec (.phaseAdd i k) s = .next t ∧ t.fld
    VRC.STAT.PH_EN = s.fld VRC.STAT.PH_EN + 2 ^ k.val ∧ FieldsKept [VRC.IOUT.I, VRC.STAT.PH_EN, VRC.CNT.PH_CHG] s t ∧
    { t with reg := s.reg, out := s.out } = s) ∧
  (∀ (s : State) (i : Nat) (k : Fin 6) (us : Nat), s.regsWf → s.flag VRC.STAT.RUN = true → 10 * s.fld VRC.SHED.SHED_T ≤ us → s.fld VRC.SHED.I_SHED <
    s.fld VRC.SHED.I_ADD → i < (vrcActive s - 1) * s.fld VRC.SHED.I_SHED → vrcMinPh s < vrcActive s → bitAt (s.fld VRC.STAT.PH_EN) k.val = true → ∃ t,
    exec (.phaseShed i k us) s = .next t ∧ t.fld VRC.STAT.PH_EN + 2 ^ k.val = s.fld VRC.STAT.PH_EN ∧ FieldsKept [VRC.IOUT.I, VRC.STAT.PH_EN,
    VRC.CNT.PH_CHG] s t ∧ { t with reg := s.reg, out := s.out } = s) ∧
  (∀ (s : State) (i : Nat) (k : Fin 6), s.regsWf → s.fld VRC.SHED.I_ADD ≤ s.fld VRC.SHED.I_SHED → ∃ t, exec (.phaseAdd i k) s = .next t ∧ t.flag
    VRC.EVT.CFG_ERR = true ∧ t.fld VRC.STAT.PH_EN = s.vrc.phMask % 64 ∧ FieldsKept [VRC.IOUT.I, VRC.STAT.PH_EN, VRC.EVT.CFG_ERR] s t ∧
    { t with reg := s.reg, out := s.out } = s) ∧
  (∀ (s : State), s.regsWf → s.fld VRC.SYNC.SRC = 1 → ∃ t, exec (.syncLost) s = .next t ∧ t.flag VRC.EVT.SYNC_LOST = true ∧ t.flag VRC.STAT.SYNC_LOCK
    = false ∧ FieldsKept [VRC.STAT.SYNC_LOCK, VRC.EVT.SYNC_LOST] s t ∧ { t with reg := s.reg, out := s.out } = s) ∧
  (∀ (s : State), s.regsWf → s.fld VRC.SYNC.SRC = 1 → ∃ t, exec (.syncEdgeResync) s = .next t ∧ t.flag VRC.STAT.SYNC_LOCK = true ∧ FieldsKept
    [VRC.STAT.SYNC_LOCK] s t ∧ { t with reg := s.reg, out := s.out } = s)

/-- While no cell is joining or admitted in a hub, or while a cell is not admitted, a REF_CFG write other than REFALT doubled for PLL0 is stored and relocks PLL0 and PLL1, which read unlocked until the relock is done. Any other REF_CFG write in a hub changes nothing but the access-error record (cause 6), and in a cell nothing but the status of its reply. An output setting within its frequency limit is stored; one above it is refused in the same way. That LOCKED reads one for a PLL that no loss and no relock holds is the model's reading (log 52). -/
def Obligations.ClockSettingsAreChecked : Prop :=
  (∀ (s : State) (p : Path) (w : W32), s.regsWf → Reaches p CLK.REF_CFG.addr s → s.isCell = false → anyBusy s = false → (bitsAt w.toNat 4 2 ≠ 1 ∨
    bitAt w.toNat 0 = false) → ∃ t, exec (.refCfgWrite p w) s = .next t ∧ t.clk = { s.clk with relocking := true } ∧ t.fld CLK.REF_CFG.SRC = bitsAt
    w.toNat 0 1 ∧ t.fld CLK.REF_CFG.CELL_REC = bitsAt w.toNat 1 1 ∧ t.fld CLK.REF_CFG.PLL0_MUL = bitsAt w.toNat 4 2 ∧ t.fld CLK.REF_CFG.PLL1_MUL =
    bitsAt w.toNat 6 2 ∧ rdCLK CLK.STAT.addr t % 4 = 0 ∧ t.out = [] ∧ FieldsKept [CLK.REF_CFG.SRC, CLK.REF_CFG.CELL_REC, CLK.REF_CFG.PLL0_MUL,
    CLK.REF_CFG.PLL1_MUL, CLK.STAT.CELL_SRC, CLK.STAT.HOLDOVER] s t ∧ { t with reg := s.reg, out := s.out, clk := s.clk } = s) ∧
  (∀ (s : State) (w : W32), s.regsWf → Reaches .mgmt CLK.REF_CFG.addr s → s.isCell = true → cellAdm s ≠ admAdmitted → (bitsAt w.toNat 4 2 ≠ 1 ∨ bitAt
    w.toNat 0 = false) → ∃ t, exec (.refCfgWrite .mgmt w) s = .next t ∧ t.clk = { s.clk with relocking := true } ∧ t.fld CLK.REF_CFG.SRC = bitsAt
    w.toNat 0 1 ∧ t.fld CLK.REF_CFG.CELL_REC = bitsAt w.toNat 1 1 ∧ t.fld CLK.REF_CFG.PLL0_MUL = bitsAt w.toNat 4 2 ∧ t.fld CLK.REF_CFG.PLL1_MUL =
    bitsAt w.toNat 6 2 ∧ rdCLK CLK.STAT.addr t % 4 = 0 ∧ t.out = [] ∧ FieldsKept [CLK.REF_CFG.SRC, CLK.REF_CFG.CELL_REC, CLK.REF_CFG.PLL0_MUL,
    CLK.REF_CFG.PLL1_MUL, CLK.STAT.CELL_SRC, CLK.STAT.HOLDOVER] s t ∧ { t with reg := s.reg, out := s.out, clk := s.clk } = s) ∧
  (∀ (s : State) (w : W32), s.regsWf → Reaches .pcie CLK.REF_CFG.addr s → s.isCell = false → (anyBusy s = true ∨ (bitsAt w.toNat 4 2 = 1 ∧ bitAt
    w.toNat 0 = true)) → s.flag HST.AERR.VALID = false → ∃ t, exec (.refCfgWrite .pcie w) s = .next t ∧ t.rd HST.AERR.addr = 2 ^ 31 + 6 ∧ t.rd
    HST.AERR_ADDR.addr = CLK.REF_CFG.addr ∧ t.out = [] ∧ FieldsKept [⟨HST.AERR.addr, 0, 32⟩, ⟨HST.AERR_ADDR.addr, 0, 32⟩] s t ∧
    { t with reg := s.reg, out := s.out } = s) ∧
  (∀ (s : State) (w : W32), s.regsWf → Reaches .mgmt CLK.REF_CFG.addr s → s.isCell = true → (cellAdm s = admAdmitted ∨ (bitsAt w.toNat 4 2 = 1 ∧ bitAt
    w.toNat 0 = true)) → ∃ t, exec (.refCfgWrite .mgmt w) s = .next t ∧ t.cell = { s.cell with replyErr := true } ∧ t.out = [] ∧
    { t with out := s.out, cell := s.cell } = s) ∧
  (∀ (s : State), s.regsWf → s.clk.relocking = true → ∃ t, exec (.pllRelockDone) s = .next t ∧ t.clk = { s.clk with relocking := false } ∧ bitAt
    (rdCLK CLK.STAT.addr t) 0 = !bitAt s.clk.lost 0 ∧ bitAt (rdCLK CLK.STAT.addr t) 1 = !bitAt s.clk.lost 1 ∧ { t with out := s.out, clk := s.clk } =
    s) ∧
  (∀ (s : State) (p : Path) (k : Fin 4) (w : W32), s.regsWf → Reaches p (CLK.OUT_CFG.addr + 4 * k.val) s → clkOutOk s w.toNat = true → ∃ t, exec
    (.clkoutCfgWrite p k w) s = .next t ∧ t.fld (CLK.OUT_CFG.DIV.at (4 * k.val)) = bitsAt w.toNat 0 12 ∧ t.fld (CLK.OUT_CFG.SRC.at (4 * k.val)) =
    bitsAt w.toNat 27 2 ∧ t.fld (CLK.OUT_CFG.FMT.at (4 * k.val)) = bitsAt w.toNat 29 2 ∧ t.fld (CLK.OUT_CFG.EN.at (4 * k.val)) = bitsAt w.toNat 31 1 ∧
    t.out = [] ∧ FieldsKept [⟨CLK.OUT_CFG.addr + 4 * k.val, 0, 32⟩] s t ∧ { t with reg := s.reg, out := s.out } = s) ∧
  (∀ (s : State) (k : Fin 4) (w : W32), s.regsWf → Reaches .pcie (CLK.OUT_CFG.addr + 4 * k.val) s → s.isCell = false → clkOutOk s w.toNat = false →
    s.flag HST.AERR.VALID = false → ∃ t, exec (.clkoutCfgWrite .pcie k w) s = .next t ∧ t.rd HST.AERR.addr = 2 ^ 31 + 6 ∧ t.rd HST.AERR_ADDR.addr =
    CLK.OUT_CFG.addr + 4 * k.val ∧ t.out = [] ∧ FieldsKept [⟨HST.AERR.addr, 0, 32⟩, ⟨HST.AERR_ADDR.addr, 0, 32⟩] s t ∧
    { t with reg := s.reg, out := s.out } = s)

/-- A loss of PLL0 or PLL1 sets its CLK.EVT bit; its lock then reads zero. In the hub both request converter block; PLL0 also holds the control clod, the lanes and the quads in reset with every PWM pin undriven, and PLL1 moves the protection clod to the fallback clock and leaves the rest. In the cell either drives every GD_ON low with GD_MC and GD_STO at their reset levels and keeps BYP_CMD and the permanent bypass. A loss of PLL2 in the hub takes the endpoint's link down with its configuration space, and changes nothing else. Once every lost PLL has locked again, the restart leaves cause 0x04, out of reset, with the CLK.EVT bits kept. In the cell PLL0 leaves the recovered clock after 1 ms outside TRACK and takes it back in TRACK. That what stands in reset loses nothing (log 154), that BLOCKED reads one after a loss of PLL0 and how LOCKED reads (log 52), what the PCIe reset clears and that the restart needs no release (logs 31, 53), and a cell's loss of PLL1 and PLL2 (log 124) are the model's readings. -/
def Obligations.ClockLossIsRecordedAndRestarts : Prop :=
  (∀ (s : State) (dt : Nat), s.regsWf → s.clodsUp = true → s.isCell = false → ∃ t, exec (.pllLoss 0 dt) s = .next t ∧ bitAt (t.fld CLK.EVT.LOSS) 0 =
    true ∧ bitAt (rdCLK CLK.STAT.addr t) 0 = false ∧ t.clk = { s.clk with lost := putBit s.clk.lost 0 true } ∧ t.evr = { s.evr with blockReq := true }
    ∧ t.flag EVR.CONV_STAT.BLOCKED = true ∧ t.fld SYS.QUAD_STAT.QUAD_RDY = 0 ∧ t.lanes = [] ∧ t.ct = {} ∧ t.cp = keptCopy s.cp ∧ t.cpB = none ∧ t.loam
    = {} ∧ t.pwm = {} ∧ ∀ p, pairPins t p = none ∧ ∀ a, 0xD0000 ≤ a → a < 0x100000 → keptBits true a = 0 → t.rd a = (regReset a).toNat ∧ ∀ a, a <
    0xA0000 → a ∉ [CLK.EVT.addr, EVR.CONV_STAT.addr, SYS.QUAD_STAT.addr, IMG.CT_STAT.addr] → t.rd a = s.rd a ∧
    { t with reg := s.reg, out := s.out, clk := s.clk, evr := s.evr, ct := s.ct, lanes := s.lanes, link := s.link, cp := s.cp, cpB := s.cpB, eng := s.eng, loam := s.loam, pwm := s.pwm }
    = s) ∧
  (∀ (s : State) (dt : Nat), s.regsWf → s.clodsUp = true → s.isCell = false → ∃ t, exec (.pllLoss 1 dt) s = .next t ∧ bitAt (t.fld CLK.EVT.LOSS) 1 =
    true ∧ bitAt (rdCLK CLK.STAT.addr t) 1 = false ∧ t.clk = { s.clk with lost := putBit s.clk.lost 1 true } ∧ t.evr = { s.evr with blockReq := true }
    ∧ t.flag CLK.STAT.FALLBACK = true ∧ FieldsKept [CLK.EVT.LOSS, CLK.STAT.FALLBACK] s t ∧
    { t with reg := s.reg, out := s.out, clk := s.clk, evr := s.evr } = s) ∧
  (∀ (s : State) (k : Fin 3) (dt : Nat), s.clodsUp = false → ∃ t, exec (.pllLoss k dt) s = .next t ∧ t = s ∧ { t with out := s.out } = s) ∧
  (∀ (s : State) (dt : Nat), s.regsWf → s.clodsUp = true → s.isCell = false → ∃ t, exec (.pllLoss 2 dt) s = .next t ∧ bitAt (t.fld CLK.EVT.LOSS) 2 =
    true ∧ t.flag HST.PCIE_STAT.LINK_UP = false ∧ t.flag HST.PCIE_STAT.LDOWN_SEEN = (s.flag HST.PCIE_STAT.LDOWN_SEEN || s.flag HST.PCIE_STAT.LINK_UP)
    ∧ t.flag HST.PCIE_STAT.MSIX_EN = false ∧ bitAt (rdCLK CLK.STAT.addr t) 2 = false ∧ t.evr =
    { s.evr with msixMask := 2 ^ 64 - 1, msixFunc := false, msixPend := 0 } ∧ t.ep = {} ∧ FieldsKept [CLK.EVT.LOSS, CLK.STAT.LOCKED,
    HST.PCIE_STAT.LINK_UP, HST.PCIE_STAT.MSIX_EN, HST.PCIE_STAT.LDOWN_SEEN, HST.PCIE_STAT.WIDTH, HST.PCIE_STAT.SPEED] s t ∧
    { t with reg := s.reg, out := s.out, evr := s.evr, ep := s.ep } = s) ∧
  (∀ (s : State) (k : Fin 3) (dt : Nat), s.regsWf → s.clodsUp = true → s.isCell = true → k.val < 2 → ∃ t, exec (.pllLoss k dt) s = .next t ∧ bitAt
    (t.fld CLK.EVT.LOSS) k.val = true ∧ t.clk = { s.clk with lost := putBit s.clk.lost k.val true } ∧ bitAt (rdCLK CLK.STAT.addr t) k.val = false ∧
    t.fld GDC.STAT.ON = 0 ∧ t.fld GDC.STAT.MC = 15 ∧ t.fld GDC.STAT.STO = 0 ∧ t.cell.perm = s.cell.perm ∧ t.cell.faults = s.cell.faults ∧ FieldsKept
    [CLK.EVT.LOSS, GDC.STAT.ON, GDC.STAT.MC, GDC.STAT.STO, GDC.STAT.STATE] s t ∧ { t with reg := s.reg, out := s.out, clk := s.clk, cell := s.cell } =
    s) ∧
  (∀ (s : State) (dt : Nat), s.clodsUp = true → s.isCell = true → ∃ t, exec (.pllLoss 2 dt) s = .next t ∧ t = { s with out := [] } ∧
    { t with out := s.out } = s) ∧
  (∀ (s : State), s.regsWf → s.clk.lost ≠ 0 → (s.isHub = true ∨ s.isCell = true) → ∃ t, exec (.clockLossRestart) s = .next t ∧ t.fld
    LSS.RST_CAUSE.CAUSE = 4 ∧ t.fld LSS.RST_CAUSE.RAILS = 0 ∧ t.sys.inReset = false ∧ t.sys.role = s.sys.role ∧ t.fld CLK.EVT.LOSS = s.fld
    CLK.EVT.LOSS ∧ t.clk = {} ∧ t.cp = {} ∧ t.ct = {} ∧ t.lanes = [] ∧ t.strata.mram = s.strata.mram ∧ t.marl = { s.marl with handed := none } ∧ t.kao
    = { s.kao with offer := none } ∧ t.lss = s.lss ∧ t.ep = s.ep ∧
    { t with reg := s.reg, out := s.out, sys := s.sys, clk := s.clk, period := s.period, img := s.img, ct := s.ct, lanes := s.lanes, link := s.link, cp := s.cp, cpB := s.cpB, eng := s.eng, loam := s.loam, acq := s.acq, strata := s.strata, thm := s.thm, evr := s.evr, pwm := s.pwm, cell := s.cell, kao := s.kao, marl := s.marl, station := s.station, vrc := s.vrc, freeCtr := s.freeCtr, ep := s.ep }
    = s) ∧
  (∀ (s : State), s.regsWf → s.isCell = true → rxState s ≠ rxTrack → ∃ t, exec (.cellRecFallback) s = .next t ∧ t.flag CLK.STAT.CELL_SRC = false ∧
    t.flag CLK.STAT.HOLDOVER = false ∧ FieldsKept [CLK.STAT.CELL_SRC, CLK.STAT.HOLDOVER] s t ∧ { t with reg := s.reg, out := s.out } = s) ∧
  (∀ (s : State), s.regsWf → s.isCell = true → rxState s = rxTrack → s.flag CLK.REF_CFG.CELL_REC = true → ∃ t, exec (.cellRecReturn) s = .next t ∧
    t.flag CLK.STAT.CELL_SRC = true ∧ FieldsKept [CLK.STAT.CELL_SRC, CLK.STAT.HOLDOVER] s t ∧ { t with reg := s.reg, out := s.out } = s)

/-- The rising edge of PORST_N samples ROLE, LVL1 and BOOTSRC. It leaves the device in internal reset with cause 0x02, the cell table, the lanes, both control copies and the recorder at their reset state, and every register of every block at its reset word but those of the loess domain with the refresh register it holds, THM.SD, the OTP status, and GDC.STAT and GDC.FLT, which keep the bypass. The MRAM, the islands and the loess domain stand. A bypass that has started stands with its permanent faults, wear records stand. The supply controller keeps switching with its phases and its slewed target. That its registers return to their reset words while STAT, VOUT and IOUT show what runs (log 50), and that PCIE_STAT and the MSI-X masks stand in a hub and read zero outside it (log 53), are the model's readings; ALIGN_NS of a core is a free value of 8 to 10 ns (log 143). -/
def Obligations.PorstSamplesStrapsAndResets : Prop :=
  ∀ (s : State) (role : Fin 4) (lvl1 : Bool) (bootsrc : Fin 4), s.regsWf → ∃ t, exec (.porstNRise role lvl1 bootsrc) s = .next t ∧ t.sys.role = roleOf
    role ∧ t.sys.lvl1 = lvl1 ∧ t.sys.bootsrc = bootsrc.val ∧ t.sys.porstN = true ∧ t.sys.inReset = true ∧ t.sys.railsLow = s.sys.railsLow ∧ t.sys.vddm
    = s.sys.vddm ∧ t.fld LSS.RST_CAUSE.CAUSE = 2 ∧ t.fld LSS.RST_CAUSE.RAILS = 0 ∧ t.period = {} ∧ t.clk = {} ∧ t.ct = {} ∧ t.lanes = [] ∧ t.link = {}
    ∧ t.cp = {} ∧ t.cpB = none ∧ t.eng = {} ∧ t.loam = {} ∧ t.thm = {} ∧ t.pwm = {} ∧ t.evr.blockReq = false ∧ t.evr.polSet = false ∧ t.strata.mram =
    s.strata.mram ∧ t.strata.intake = [] ∧ t.kao = { s.kao with offer := none } ∧ t.marl = { s.marl with handed := none } ∧ t.lss = s.lss ∧
    t.vrc.slewed = s.vrc.slewed ∧ t.vrc.phMask = s.vrc.phMask ∧ t.station = {} ∧ t.cell.wearRec = s.cell.wearRec ∧ (s.flag GDC.STAT.BYP_CMD = true →
    t.cell.perm = s.cell.perm ∧ t.flag GDC.STAT.BYP_CMD = true) ∧ (∀ a, a < 0x30000 ∨ 0x50000 ≤ a → a ∉ [THM.SD.addr, IMG.OTP_STAT.addr,
    STR.REFRESH.addr, GDC.STAT.addr, GDC.FLT.addr, CEL.STAT.addr, HST.PCIE_STAT.addr, SYS.CLOD_PWR.addr] → t.rd a = (regReset a).toNat) ∧ (∀ a,
    0x40000 ≤ a → a < 0x50000 → a ≠ LSS.RST_CAUSE.addr → t.rd a = s.rd a) ∧ t.rd THM.SD.addr = s.rd THM.SD.addr ∧ t.rd STR.REFRESH.addr = s.rd
    STR.REFRESH.addr ∧ t.rd SYS.CLOD_PWR.addr = (if role = 1 then 1 else (regReset SYS.CLOD_PWR.addr).toNat) ∧ (∀ a, 0x30000 ≤ a → a < VRC.STAT.addr →
    t.rd a = (regReset a).toNat) ∧ t.rd VRC.VOUT.addr = s.rd VRC.VOUT.addr ∧ t.rd VRC.IOUT.addr = s.rd VRC.IOUT.addr ∧ t.fld VRC.STAT.PH_EN = s.fld
    VRC.STAT.PH_EN ∧ t.flag VRC.STAT.RUN = s.flag VRC.STAT.RUN ∧ (role ≠ 0 → t.rd HST.PCIE_STAT.addr = 0) ∧ t.pending = s.pending ∧
    { t with reg := s.reg, out := s.out, sys := s.sys, clk := s.clk, period := s.period, img := s.img, ct := s.ct, lanes := s.lanes, link := s.link, cp := s.cp, cpB := s.cpB, eng := s.eng, loam := s.loam, acq := s.acq, strata := s.strata, thm := s.thm, evr := s.evr, pwm := s.pwm, cell := s.cell, kao := s.kao, marl := s.marl, station := s.station, vrc := s.vrc, freeCtr := s.freeCtr, ep := s.ep }
    = s

/-- A falling rail puts the device in internal reset with cause 0x03, and RAILS names every rail below its threshold, this one among them; VDDA also stops the supply controller, whose registers then start afresh (log 50), VDDL and VDDT also reset the PCI Express endpoint, VDDIO the latch of BYP_CMD. The reset ends once PORST_N is high, PGOOD has first gone high and no rail is low; the reset event with RST_CAUSE enters the strata intake, and a cell leaves the Marl island, the station clod and acquisition cores 1 to 3 off and the Kaolin island as its own supply has it (log 33). A supply input below PFW_MV raises PFW, and in a cell with an applied image also commits its wear record as far as the hold-up energy allows. -/
def Obligations.RailsAndReleaseFollowTheMonitors : Prop :=
  (∀ (s : State) (rail : Fin 5), s.regsWf → ∃ t, exec (.railBelowThreshold rail) s = .next t ∧ t.sys.inReset = true ∧ t.fld LSS.RST_CAUSE.CAUSE = 3 ∧
    t.sys.railsLow = putBit s.sys.railsLow rail.val true ∧ t.fld LSS.RST_CAUSE.RAILS = putBit s.sys.railsLow rail.val true % 2 ^
    LSS.RST_CAUSE.RAILS.width ∧ (rail.val = 3 → t.vrc = {} ∧ ∀ a, 0x30000 ≤ a → a < 0x40000 → t.rd a = (regReset a).toNat) ∧ (rail.val = 1 ∨ rail.val
    = 2 → t.ep = {} ∧ t.flag HST.PCIE_STAT.LINK_UP = false ∧ t.flag HST.PCIE_STAT.MSIX_EN = false ∧ t.evr.msixPend = 0) ∧ (rail.val = 4 → t.flag
    GDC.STAT.BYP_CMD = false ∧ t.cell.perm = 0) ∧ t.sys.role = s.sys.role ∧ t.strata.mram = s.strata.mram ∧ t.kao = { s.kao with offer := none } ∧
    t.marl = { s.marl with handed := none } ∧
    { t with reg := s.reg, out := s.out, sys := s.sys, clk := s.clk, period := s.period, img := s.img, ct := s.ct, lanes := s.lanes, link := s.link, cp := s.cp, cpB := s.cpB, eng := s.eng, loam := s.loam, acq := s.acq, strata := s.strata, thm := s.thm, evr := s.evr, pwm := s.pwm, cell := s.cell, kao := s.kao, marl := s.marl, station := s.station, lss := s.lss, vrc := s.vrc, freeCtr := s.freeCtr, ep := s.ep }
    = s) ∧
  (∀ (s : State), s.regsWf → s.sys.inReset = true → s.sys.porstN = true → s.sys.pgoodSeen = true → s.flag THM.SD.ACTIVE = false → s.sys.role =
    Role.hub → s.strata.intake = [] → ∃ t, exec (.internalResetRelease 0) s = .next t ∧ t.sys =
    { s.sys with inReset := false, railsLow := 0, mrlPwrSeen := s.sys.vddf } ∧ t.lss = { s.lss with vdda := true } ∧ t.strata.intake.map (fun (e : Ev)
    => (e.code, e.data)) = [(0x0001, s.rd LSS.RST_CAUSE.addr)] ∧ FieldsKept [] s t ∧
    { t with reg := s.reg, out := s.out, sys := s.sys, lss := s.lss, strata := s.strata } = s) ∧
  (∀ (s : State), s.regsWf → s.sys.inReset = true → s.sys.porstN = true → s.sys.pgoodSeen = true → s.flag THM.SD.ACTIVE = false → s.sys.role =
    Role.cell → ∃ t, exec (.internalResetRelease 0) s = .next t ∧ t.sys =
    { s.sys with inReset := false, railsLow := 0, vddf := false, mrlPwrSeen := false } ∧ t.fld SYS.CLOD_PWR.STN_EN = 0 ∧ t.fld SYS.CLOD_PWR.ACQ_EN = 1
    ∧ FieldsKept [⟨SYS.CLOD_PWR.addr, 0, 32⟩, STR.LOST.DROPPED] s t ∧
    { t with reg := s.reg, out := s.out, sys := s.sys, lss := s.lss, strata := s.strata } = s) ∧
  (∀ (s : State) (railsLow : Fin 32), s.regsWf → railsLow.val ≠ 0 → s.sys.inReset = true → ∃ t, exec (.internalResetRelease railsLow) s = .next t ∧
    t.sys = { s.sys with railsLow := railsLow.val } ∧ t.lss = { s.lss with vdda := !bitAt railsLow.val 3 } ∧ FieldsKept [] s t ∧
    { t with reg := s.reg, out := s.out, sys := s.sys, lss := s.lss } = s) ∧
  (∀ (s : State) (vin vhold : Nat), s.regsWf → s.cellOn = false → vin < s.fld VRC.PFW.PFW_MV → ∃ t, exec (.pfw vin vhold) s = .next t ∧ t.flag
    VRC.EVT.PFW = true ∧ FieldsKept [VRC.VOUT.VIN, VRC.EVT.PFW] s t ∧ { t with reg := s.reg, out := s.out } = s) ∧
  (∀ (s : State) (vin vhold : Nat), s.regsWf → s.cellOn = true → vin < s.fld VRC.PFW.PFW_MV → ∃ t, exec (.pfw vin vhold) s = .next t ∧ t.flag
    VRC.EVT.PFW = true ∧ t.cell.wearRec = (if (lssRequest .wear 1 0 vhold ((s.setFld VRC.VOUT.VIN vin).raise VRC.EVT.PFW)).2 then wearStore (s.fld
    CEL.WEAR.WEAR) s.cell.wearRec else s.cell.wearRec) ∧ { t with reg := s.reg, out := s.out, lss := s.lss, strata := s.strata, cell := s.cell } = s)

/-- While the converter is blocked, a CLOD_PWR write gates or powers cores and the station clod; a PERIOD_CFG write is stored and acts from the next boundary on. A read of PCNT_LO, of any of its bytes, returns them of the low word of the period counter and latches the high bits into PCNT_HI. -/
def Obligations.GatingAndPeriodRegistersTakeTheirWrites : Prop :=
  (∀ (s : State) (p : Path) (w : W32), s.regsWf → Reaches p SYS.CLOD_PWR.addr s → s.isCell = false → s.blocked = true → ∃ t, exec (.clodGateWrite p
    false w) s = .next t ∧ t.fld SYS.CLOD_PWR.ACQ_EN = bitsAt w.toNat 0 4 ∧ t.fld SYS.CLOD_PWR.STN_EN = bitsAt w.toNat 4 1 ∧ (∀ a, a ≠
    SYS.CLOD_PWR.addr → (a < 0x81000 ∨ 0x84400 ≤ a) → (a < 0x1D0000 ∨ 0x200000 ≤ a) → t.rd a = s.rd a) ∧ t.out = [] ∧
    { t with reg := s.reg, out := s.out, acq := s.acq, station := s.station } = s) ∧
  (∀ (s : State) (p : Path) (w : W32), s.regsWf → Reaches p SYS.PERIOD_CFG.addr s → s.isCell = false → s.blocked = true → ∃ t, exec (.periodCfgWrite p
    w) s = .next t ∧ t.fld SYS.PERIOD_CFG.TC = bitsAt w.toNat 0 2 ∧ t.fld SYS.PERIOD_CFG.OUTER_KM1 = bitsAt w.toNat 8 6 ∧ t.fld
    SYS.PERIOD_CFG.SYNC_MODE = bitsAt w.toNat 16 2 ∧ t.fld SYS.PERIOD_CFG.SLEW_EXP = bitsAt w.toNat 20 4 ∧ t.out = [] ∧ FieldsKept [SYS.PERIOD_CFG.TC,
    SYS.PERIOD_CFG.OUTER_KM1, SYS.PERIOD_CFG.SYNC_MODE, SYS.PERIOD_CFG.SLEW_EXP] s t ∧ { t with reg := s.reg, out := s.out } = s) ∧
  (∀ (s : State) (p : Path) (be : Fin 16), s.regsWf → Reaches p SYS.PCNT_LO.addr s → readEnables p be.val ≠ 0 → ∃ t, exec (.pcntLoRead p be) s = .next
    t ∧ t.fld SYS.PCNT_HI.PCNT_HI = s.period.pcnt / 2 ^ 32 % 2 ^ 16 ∧ t.out = [.word (mergeBytes (readEnables p be.val) (s.period.pcnt % 2 ^ 32) 0)] ∧
    FieldsKept [SYS.PCNT_HI.PCNT_HI] s t ∧ { t with reg := s.reg, out := s.out } = s)

/-- A complete write over PCI Express to a register that holds settings or status and starts nothing, in the blocks LSS, THM, STR, ACQ (common part), CMP (common part), LMP, HST, ETH (common part) and SLT (common part), stores its RW bits, clears the W1C and RS bits written with a one, and leaves the rest of the word and everything else. A write with fewer byte enables to an address below 0x180000 changes nothing there and is recorded as an access error of cause 1 with its path and address. -/
def Obligations.RegisterWritesFollowTheirFieldMaps : Prop :=
  (∀ (s : State) (word : Fin 8388608) (w : W32) (dt ticks : Nat) (r : RegRow), s.regsWf → Reaches .pcie (4 * word.val) s → ((0x40000 ≤ 4 * word.val ∧
    4 * word.val < 0x70000) ∨ (0x80000 ≤ 4 * word.val ∧ 4 * word.val < 0x81000) ∨ (0x90000 ≤ 4 * word.val ∧ 4 * word.val < 0x90100) ∨ (0xD0000 ≤ 4 *
    word.val ∧ 4 * word.val < 0xE0000) ∨ (0x1C0000 ≤ 4 * word.val ∧ 4 * word.val < 0x1C0100) ∨ (0x1D0000 ≤ 4 * word.val ∧ 4 * word.val < 0x1D1000) ∨
    (0x1F0000 ≤ 4 * word.val ∧ 4 * word.val < 0x1F1000)) → 4 * word.val ∉ [LSS.RTC_CTRL.addr, LSS.TAMPER.addr, THM.SD.addr, STR.CTRL.addr,
    ACQ.SCAL_CTRL.addr, LMP.CTRL.addr, LMP.SH_CTRL.addr, HST.AERR.addr, HST.SPIC_CMD.addr, ETH.PTP_CTRL.addr, ETH.PTP_ADJ.addr, SLT.FREE.addr,
    SLT.ND_CLR.addr, SLT.QUOTA.addr] → regRow? (4 * word.val) = some r → ∃ t, exec (.registerWrite .pcie word 15 w dt ticks) s = .next t ∧ t.rd (4 *
    word.val) = writeMasked r (s.rd (4 * word.val)) w.toNat ∧ t.out = [] ∧ FieldsKept [⟨4 * word.val, 0, 32⟩] s t ∧
    { t with reg := s.reg, out := s.out } = s) ∧
  (∀ (s : State) (p : Path) (word : Fin 8388608) (be : Fin 16) (w : W32) (dt ticks : Nat), s.regsWf → Reaches p (4 * word.val) s → p ≠ .mgmt → be.val
    ≠ 0 → be.val ≠ 15 → 4 * word.val < 0x180000 → s.flag HST.AERR.VALID = false → ∃ t, exec (.registerWrite p word be w dt ticks) s = .next t ∧ t.rd
    HST.AERR.addr = 2 ^ 31 + (if p = .spi then 16 else 0) + 1 ∧ t.rd HST.AERR_ADDR.addr = 4 * word.val ∧ t.out = [] ∧ FieldsKept [⟨HST.AERR.addr, 0,
    32⟩, ⟨HST.AERR_ADDR.addr, 0, 32⟩] s t ∧ { t with reg := s.reg, out := s.out } = s)

/-- A commit of n writes needs 4.0 µJ + n × 0.5 µJ. The marker reserve of 4.5 µJ is taken whenever that much is available. With the need available the commit is granted and the need reserved; otherwise it is refused: REFUSALS counts, LSS.EVT.REFUSED is raised, and where the marker reserve is held one truncation marker is written from it, with cause 1 in its data (to the ring's head, or while the recorder scans for it to the intake), MARKERS counts and the reserve is taken again only if the energy allows. A granted thermal commit of a requested shutdown writes the shutdown record to the next of its two places. When a granted commit ends its reservation is released. Energies count in 0.01 µJ, V_hold in mV over 12 bits. The data of event 0x0031, TJ in its bits 15:0 and the sensor from bit 16 on, is the model's choice (log 60), as are the ticks in its stamp (log 56), rounding an energy down (log 55) and that a commit is requested by its own command (log 113). -/
def Obligations.HoldUpEnergyIsGrantedOrRefused : Prop :=
  (∀ (s : State) (kind : CommitKind) (n vhold : Nat), s.regsWf → s.clodsUp = true → kind ≠ .thermal → vhold < 4096 → s.lss.marker = true → 400 + n *
    50 ≤ eEst s vhold - eRes s → ∃ t, exec (.commitRequest kind n vhold) s = .next t ∧ t.lss =
    { s.lss with granted := s.lss.granted ++ [(kind, 400 + n * 50)] } ∧ t.fld LSS.E_RES.E = (eRes s + (400 + n * 50)) % 2 ^ 24 ∧ t.fld LSS.E_AVAIL.E =
    (eEst s vhold - (eRes s + (400 + n * 50))) % 2 ^ 24 ∧ t.fld LSS.HOLD.MV = vhold ∧ t.fld LSS.E_EST.E = eEst s vhold ∧ FieldsKept [LSS.HOLD.MV,
    LSS.E_EST.E, LSS.E_RES.E, LSS.E_AVAIL.E, LSS.STAT.NO_MARK] s t ∧ { t with reg := s.reg, out := s.out, lss := s.lss } = s) ∧
  (∀ (s : State) (kind : CommitKind) (n vhold : Nat), s.regsWf → s.clodsUp = true → kind ≠ .thermal → vhold < 4096 → s.lss.marker = false → 450 ≤ eEst
    s vhold - eRes s → 400 + n * 50 ≤ eEst s vhold - (eRes s + 450) → ∃ t, exec (.commitRequest kind n vhold) s = .next t ∧ t.lss =
    { s.lss with marker := true, granted := s.lss.granted ++ [(kind, 400 + n * 50)] } ∧ t.flag LSS.STAT.NO_MARK = false ∧ t.fld LSS.E_RES.E = (eRes s
    + 450 + (400 + n * 50)) % 2 ^ 24 ∧ t.fld LSS.HOLD.MV = vhold ∧ t.fld LSS.E_EST.E = eEst s vhold ∧ FieldsKept [LSS.HOLD.MV, LSS.E_EST.E,
    LSS.E_RES.E, LSS.E_AVAIL.E, LSS.STAT.NO_MARK] s t ∧ { t with reg := s.reg, out := s.out, lss := s.lss } = s) ∧
  (∀ (s : State) (kind : CommitKind) (n vhold : Nat), s.regsWf → s.clodsUp = true → kind ≠ .thermal → vhold < 4096 → s.lss.marker = false → eEst s
    vhold - eRes s < 450 → 400 + n * 50 ≤ eEst s vhold - eRes s → ∃ t, exec (.commitRequest kind n vhold) s = .next t ∧ t.lss =
    { s.lss with granted := s.lss.granted ++ [(kind, 400 + n * 50)] } ∧ t.flag LSS.STAT.NO_MARK = true ∧ t.fld LSS.HOLD.MV = vhold ∧ t.fld LSS.E_EST.E
    = eEst s vhold ∧ FieldsKept [LSS.HOLD.MV, LSS.E_EST.E, LSS.E_RES.E, LSS.E_AVAIL.E, LSS.STAT.NO_MARK] s t ∧
    { t with reg := s.reg, out := s.out, lss := s.lss } = s) ∧
  (∀ (s : State) (kind : CommitKind) (n vhold : Nat), s.regsWf → s.clodsUp = true → s.fld STR.STAT.STATE ≠ strScanning → kind ≠ .thermal → vhold <
    4096 → s.lss.marker = true → eEst s vhold - eRes s < 400 + n * 50 → ∃ t, exec (.commitRequest kind n vhold) s = .next t ∧ t.lss.granted =
    s.lss.granted ∧ t.flag LSS.EVT.REFUSED = true ∧ t.fld LSS.REFUSE.REFUSALS = min (s.fld LSS.REFUSE.REFUSALS + 1) 65535 ∧ t.fld LSS.HOLD.MV = vhold
    ∧ t.fld LSS.REFUSE.MARKERS = min (s.fld LSS.REFUSE.MARKERS + 1) 65535 ∧ t.fld LSS.E_EST.E = eEst s vhold - 450 ∧ t.fld STR.HEAD.IDX = (s.fld
    STR.HEAD.IDX + 1) % ringLen ∧ t.fld STR.SEQ.SEQ = (s.fld STR.SEQ.SEQ + 1) % 2 ^ 32 ∧ (∃ e : Ev, e.code = 0xFFFF ∧ e.data = 1 ∧ t.strata.mram =
    memWrite s.strata.mram (32 * s.fld STR.HEAD.IDX) (evBytes ((s.fld STR.SEQ.SEQ + 1) % 2 ^ 32) e)) ∧ t.lss.marker = decide (450 ≤ eEst s vhold - 450
    - (eRes s - 450)) ∧ t.strata.intake = s.strata.intake ∧ FieldsKept [LSS.HOLD.MV, LSS.E_EST.E, LSS.E_RES.E, LSS.E_AVAIL.E, LSS.STAT.NO_MARK,
    LSS.REFUSE.REFUSALS, LSS.REFUSE.MARKERS, LSS.EVT.REFUSED, STR.HEAD.IDX, STR.SEQ.SEQ] s t ∧
    { t with reg := s.reg, out := s.out, lss := s.lss, strata := s.strata } = s) ∧
  (∀ (s : State) (kind : CommitKind) (n vhold : Nat), s.regsWf → s.clodsUp = true → s.fld STR.STAT.STATE = strScanning → s.strata.intake.length < 256
    → kind ≠ .thermal → vhold < 4096 → s.lss.marker = true → eEst s vhold - eRes s < 400 + n * 50 → ∃ t, exec (.commitRequest kind n vhold) s = .next
    t ∧ t.lss.granted = s.lss.granted ∧ t.flag LSS.EVT.REFUSED = true ∧ t.fld LSS.REFUSE.REFUSALS = min (s.fld LSS.REFUSE.REFUSALS + 1) 65535 ∧ t.fld
    LSS.HOLD.MV = vhold ∧ t.fld LSS.REFUSE.MARKERS = min (s.fld LSS.REFUSE.MARKERS + 1) 65535 ∧ t.fld LSS.E_EST.E = eEst s vhold - 450 ∧ t.lss.marker
    = decide (450 ≤ eEst s vhold - 450 - (eRes s - 450)) ∧ t.strata.mram = s.strata.mram ∧ (∃ e : Ev, e.code = 0xFFFF ∧ e.data = 1 ∧ t.strata.intake =
    s.strata.intake ++ [e]) ∧ FieldsKept [LSS.HOLD.MV, LSS.E_EST.E, LSS.E_RES.E, LSS.E_AVAIL.E, LSS.STAT.NO_MARK, LSS.REFUSE.REFUSALS,
    LSS.REFUSE.MARKERS, LSS.EVT.REFUSED] s t ∧ { t with reg := s.reg, out := s.out, lss := s.lss, strata := s.strata } = s) ∧
  (∀ (s : State) (kind : CommitKind) (n vhold : Nat), s.regsWf → s.clodsUp = true → s.fld STR.STAT.STATE ≠ strScanning → kind ≠ .thermal → vhold <
    4096 → s.lss.marker = false → 450 ≤ eEst s vhold - eRes s → eEst s vhold - (eRes s + 450) < 400 + n * 50 → ∃ t, exec (.commitRequest kind n vhold)
    s = .next t ∧ t.lss.granted = s.lss.granted ∧ t.flag LSS.EVT.REFUSED = true ∧ t.fld LSS.REFUSE.REFUSALS = min (s.fld LSS.REFUSE.REFUSALS + 1)
    65535 ∧ t.fld LSS.HOLD.MV = vhold ∧ t.fld LSS.REFUSE.MARKERS = min (s.fld LSS.REFUSE.MARKERS + 1) 65535 ∧ t.fld LSS.E_EST.E = eEst s vhold - 450 ∧
    t.fld STR.HEAD.IDX = (s.fld STR.HEAD.IDX + 1) % ringLen ∧ t.fld STR.SEQ.SEQ = (s.fld STR.SEQ.SEQ + 1) % 2 ^ 32 ∧ (∃ e : Ev, e.code = 0xFFFF ∧
    e.data = 1 ∧ t.strata.mram = memWrite s.strata.mram (32 * s.fld STR.HEAD.IDX) (evBytes ((s.fld STR.SEQ.SEQ + 1) % 2 ^ 32) e)) ∧ t.lss.marker =
    decide (450 ≤ eEst s vhold - 450 - eRes s) ∧ t.strata.intake = s.strata.intake ∧ FieldsKept [LSS.HOLD.MV, LSS.E_EST.E, LSS.E_RES.E, LSS.E_AVAIL.E,
    LSS.STAT.NO_MARK, LSS.REFUSE.REFUSALS, LSS.REFUSE.MARKERS, LSS.EVT.REFUSED, STR.HEAD.IDX, STR.SEQ.SEQ] s t ∧
    { t with reg := s.reg, out := s.out, lss := s.lss, strata := s.strata } = s) ∧
  (∀ (s : State) (kind : CommitKind) (n vhold : Nat), s.regsWf → s.clodsUp = true → kind ≠ .thermal → vhold < 4096 → s.lss.marker = false → eEst s
    vhold - eRes s < 450 → eEst s vhold - eRes s < 400 + n * 50 → ∃ t, exec (.commitRequest kind n vhold) s = .next t ∧ t.lss.granted = s.lss.granted
    ∧ t.flag LSS.EVT.REFUSED = true ∧ t.fld LSS.REFUSE.REFUSALS = min (s.fld LSS.REFUSE.REFUSALS + 1) 65535 ∧ t.fld LSS.HOLD.MV = vhold ∧ t.lss.marker
    = false ∧ t.flag LSS.STAT.NO_MARK = true ∧ t.fld LSS.E_EST.E = eEst s vhold ∧ FieldsKept [LSS.HOLD.MV, LSS.E_EST.E, LSS.E_RES.E, LSS.E_AVAIL.E,
    LSS.STAT.NO_MARK, LSS.REFUSE.REFUSALS, LSS.EVT.REFUSED] s t ∧ { t with reg := s.reg, out := s.out, lss := s.lss } = s) ∧
  (∀ (s : State) (n vhold tj sensor : Nat), s.regsWf → s.clodsUp = true → vhold < 4096 → s.lss.marker = true → s.thm.sd = some (tj, sensor) → 400 + n
    * 50 ≤ eEst s vhold - eRes s → ∃ t, exec (.commitRequest .thermal n vhold) s = .next t ∧ t.lss =
    { s.lss with granted := s.lss.granted ++ [(CommitKind.thermal, 400 + n * 50)] } ∧ t.thm = { s.thm with recAsked := true } ∧ t.strata.tsdCopy = 1 -
    s.strata.tsdCopy ∧ t.strata.tsdSet = true ∧ t.strata.intake = s.strata.intake ∧ (∃ e : Ev, e.code = 0x0031 ∧ e.data = tj % 65536 + 65536 * sensor
    ∧ t.strata.mram = memWrite s.strata.mram (0xF8000 + 32 * s.strata.tsdCopy) (evBytes (s.fld STR.SEQ.SEQ) e)) ∧ t.fld LSS.HOLD.MV = vhold ∧ t.fld
    LSS.E_EST.E = eEst s vhold ∧ FieldsKept [LSS.HOLD.MV, LSS.E_EST.E, LSS.E_RES.E, LSS.E_AVAIL.E, LSS.STAT.NO_MARK] s t ∧
    { t with reg := s.reg, out := s.out, lss := s.lss, strata := s.strata, thm := s.thm } = s) ∧
  (∀ (s : State) (n vhold tj sensor : Nat), s.regsWf → s.clodsUp = true → s.fld STR.STAT.STATE ≠ strScanning → vhold < 4096 → s.lss.marker = true →
    s.thm.sd = some (tj, sensor) → eEst s vhold - eRes s < 400 + n * 50 → ∃ t, exec (.commitRequest .thermal n vhold) s = .next t ∧ t.lss.granted =
    s.lss.granted ∧ t.flag LSS.EVT.REFUSED = true ∧ t.fld LSS.REFUSE.REFUSALS = min (s.fld LSS.REFUSE.REFUSALS + 1) 65535 ∧ t.fld LSS.HOLD.MV = vhold
    ∧ t.fld LSS.REFUSE.MARKERS = min (s.fld LSS.REFUSE.MARKERS + 1) 65535 ∧ t.fld LSS.E_EST.E = eEst s vhold - 450 ∧ t.fld STR.HEAD.IDX = (s.fld
    STR.HEAD.IDX + 1) % ringLen ∧ t.fld STR.SEQ.SEQ = (s.fld STR.SEQ.SEQ + 1) % 2 ^ 32 ∧ (∃ e : Ev, e.code = 0xFFFF ∧ e.data = 1 ∧ t.strata.mram =
    memWrite s.strata.mram (32 * s.fld STR.HEAD.IDX) (evBytes ((s.fld STR.SEQ.SEQ + 1) % 2 ^ 32) e)) ∧ t.thm = { s.thm with recAsked := true } ∧
    t.strata.tsdCopy = s.strata.tsdCopy ∧ t.strata.tsdSet = s.strata.tsdSet ∧ FieldsKept [LSS.HOLD.MV, LSS.E_EST.E, LSS.E_RES.E, LSS.E_AVAIL.E,
    LSS.STAT.NO_MARK, LSS.REFUSE.REFUSALS, LSS.REFUSE.MARKERS, LSS.EVT.REFUSED, STR.HEAD.IDX, STR.SEQ.SEQ] s t ∧
    { t with reg := s.reg, out := s.out, lss := s.lss, strata := s.strata, thm := s.thm } = s) ∧
  (∀ (s : State) (n vhold : Nat), s.regsWf → s.clodsUp = true → vhold < 4096 → s.lss.marker = true → s.thm.sd = none → 400 + n * 50 ≤ eEst s vhold -
    eRes s → ∃ t, exec (.commitRequest .thermal n vhold) s = .next t ∧ t.lss =
    { s.lss with granted := s.lss.granted ++ [(CommitKind.thermal, 400 + n * 50)] } ∧ t.fld LSS.HOLD.MV = vhold ∧ t.fld LSS.E_EST.E = eEst s vhold ∧
    FieldsKept [LSS.HOLD.MV, LSS.E_EST.E, LSS.E_RES.E, LSS.E_AVAIL.E, LSS.STAT.NO_MARK] s t ∧ { t with reg := s.reg, out := s.out, lss := s.lss } = s) ∧
  (∀ (s : State) (kind : CommitKind) (vhold : Nat), s.regsWf → s.lss.granted.any (fun (g : CommitKind × Nat) => g.1 == kind) = true → vhold < 4096 → ∃
    t, exec (.commitEnd kind vhold) s = .next t ∧ t.lss.granted = dropGrant kind s.lss.granted ∧ (s.lss.marker = true → t.lss =
    { s.lss with granted := dropGrant kind s.lss.granted }) ∧ t.flag LSS.STAT.NO_MARK = !t.lss.marker ∧ t.fld LSS.E_RES.E = eRes t % 2 ^ 24 ∧ t.fld
    LSS.HOLD.MV = vhold ∧ t.fld LSS.E_EST.E = eEst s vhold ∧ FieldsKept [LSS.HOLD.MV, LSS.E_EST.E, LSS.E_RES.E, LSS.E_AVAIL.E, LSS.STAT.NO_MARK] s t ∧
    { t with reg := s.reg, out := s.out, lss := s.lss } = s) ∧
  (∀ (s : State) (kind : CommitKind) (vhold : Nat), s.regsWf → s.lss.granted.any (fun (g : CommitKind × Nat) => g.1 == kind) = false → ∃ t, exec
    (.commitEnd kind vhold) s = .next t ∧ t = s ∧ { t with out := s.out } = s)

/-- An event enters the 256-entry intake, stamped with the counters as they stand; one that finds it full is dropped and counted. A granted group of the intake's events empties the intake and advances head and sequence number by the number written; one event is written as its 32 bytes at the head. Where events were dropped, a marker goes first and the drop count clears. Before the scan ends nothing is committed; its end sets head and sequence number by the last valid entry and arms the recorder with no sample sets. How far the real-time counter has gone on since the last command that gave its ticks is a free value (log 56); that the scan shows LOCKED equal to the slots written whole is the model's reading (log 113). -/
def Obligations.RecorderIntakeAndRing : Prop :=
  (∀ (s : State) (code : Fin 65536) (data : BitVec 64), s.regsWf → s.clodsUp = true → s.strata.intake.length < 256 → ∃ t, exec (.strataEvent code
    data) s = .next t ∧ t.strata = { s.strata with ticks := t.strata.ticks, intake := s.strata.intake ++ [stampEv code.val data.toNat t] } ∧
    s.strata.ticks ≤ t.strata.ticks ∧ (s.strata.ticks < 8192 → t.strata.ticks < 8192) ∧ t.reg = s.reg ∧ FieldsKept [] s t ∧
    { t with reg := s.reg, out := s.out, strata := s.strata } = s) ∧
  (∀ (s : State) (code : Fin 65536) (data : BitVec 64), s.regsWf → s.clodsUp = true → 256 ≤ s.strata.intake.length → ∃ t, exec (.strataEvent code
    data) s = .next t ∧ t.strata = { s.strata with ticks := t.strata.ticks, dropped := s.strata.dropped + 1 } ∧ t.fld STR.LOST.DROPPED = min (s.fld
    STR.LOST.DROPPED + 1) 65535 ∧ FieldsKept [STR.LOST.DROPPED] s t ∧ { t with reg := s.reg, out := s.out, strata := s.strata } = s) ∧
  (∀ (s : State) (vhold : Nat), s.regsWf → s.fld STR.STAT.STATE ≠ strScanning → s.fld STR.HEAD.IDX < ringLen → s.strata.dropped = 0 → s.strata.intake
    ≠ [] → s.strata.intake.length ≤ 64 → (lssRequest .strata s.strata.intake.length 0 vhold s).2 = true → ∃ t, exec (.strataGroupCommit vhold) s =
    .next t ∧ t.strata.intake = [] ∧ t.strata.dropped = 0 ∧ (∀ a, 0xF8000 ≤ a → memGet t.strata.mram a = memGet s.strata.mram a) ∧ t.fld STR.HEAD.IDX
    = (s.fld STR.HEAD.IDX + s.strata.intake.length) % ringLen ∧ t.fld STR.SEQ.SEQ = (s.fld STR.SEQ.SEQ + s.strata.intake.length) % 2 ^ 32 ∧ (∀ e,
    s.strata.intake = [e] → t.strata.mram = memWrite s.strata.mram (32 * s.fld STR.HEAD.IDX) (evBytes ((s.fld STR.SEQ.SEQ + 1) % 2 ^ 32) e)) ∧
    FieldsKept [LSS.HOLD.MV, LSS.E_EST.E, LSS.E_RES.E, LSS.E_AVAIL.E, LSS.STAT.NO_MARK, STR.HEAD.IDX, STR.SEQ.SEQ] s t ∧
    { t with reg := s.reg, out := s.out, lss := s.lss, strata := s.strata } = s) ∧
  (∀ (s : State) (vhold : Nat), s.regsWf → s.fld STR.STAT.STATE ≠ strScanning → s.fld STR.HEAD.IDX < ringLen → 0 < s.strata.dropped →
    s.strata.intake.length ≤ 63 → (lssRequest .strata (s.strata.intake.length + 1) 0 vhold s).2 = true → ∃ t, exec (.strataGroupCommit vhold) s =
    .next t ∧ t.strata.intake = [] ∧ t.strata.dropped = 0 ∧ (∀ a, 0xF8000 ≤ a → memGet t.strata.mram a = memGet s.strata.mram a) ∧ t.fld STR.HEAD.IDX
    = (s.fld STR.HEAD.IDX + s.strata.intake.length + 1) % ringLen ∧ t.fld STR.SEQ.SEQ = (s.fld STR.SEQ.SEQ + s.strata.intake.length + 1) % 2 ^ 32 ∧
    (s.strata.intake = [] → ∃ e : Ev, e.code = 0xFFFF ∧ e.data = 2 + 65536 * min 0xFFFF s.strata.dropped ∧ t.strata.mram = memWrite s.strata.mram (32
    * s.fld STR.HEAD.IDX) (evBytes ((s.fld STR.SEQ.SEQ + 1) % 2 ^ 32) e)) ∧ FieldsKept [LSS.HOLD.MV, LSS.E_EST.E, LSS.E_RES.E, LSS.E_AVAIL.E,
    LSS.STAT.NO_MARK, STR.HEAD.IDX, STR.SEQ.SEQ] s t ∧ { t with reg := s.reg, out := s.out, lss := s.lss, strata := s.strata } = s) ∧
  (∀ (s : State) (vhold : Nat), s.fld STR.STAT.STATE = strScanning → ∃ t, exec (.strataGroupCommit vhold) s = .next t ∧ t = s ∧
    { t with out := s.out } = s) ∧
  (∀ (s : State), s.regsWf → s.clodsUp = true → s.fld STR.STAT.STATE = strScanning → ∃ t, exec (.strataScanDone) s = .next t ∧ t.fld STR.STAT.STATE =
    strArmed ∧ t.flag STR.STAT.PRE_READY = false ∧ t.fld STR.STAT.LOCKED = slotMask s.strata.mram 2 % 16 ∧ t.fld STR.STAT.COMPLETE = slotMask
    s.strata.mram 2 % 16 ∧ t.fld STR.HEAD.IDX = (ringLast s.strata.mram).elim 0 (fun (e : Nat) => (e + 1) % ringLen) ∧ (∀ e, ringLast s.strata.mram =
    some e → t.fld STR.SEQ.SEQ = memWord s.strata.mram (32 * e) % 2 ^ 32) ∧ t.strata = { s.strata with order := t.strata.order, sets := 0, wr := 0 } ∧
    FieldsKept [STR.HEAD.IDX, STR.SEQ.SEQ, STR.STAT.LOCKED, STR.STAT.COMPLETE, STR.STAT.PRE_READY, STR.LOST.TRUNC, STR.STAT.STATE] s t ∧
    { t with reg := s.reg, out := s.out, strata := s.strata, freeCtr := s.freeCtr } = s)

/-- A FREEZE write with the recorder armed and PRE_READY set takes the oldest unlocked slot and records event 0x0040; without PRE_READY it only records event 0x0040 with slot 0xFF. Once the POST sets are recorded the flush starts; a granted chunk advances it by 256 writes inside the slot, the last one locks the slot, shows it complete and re-arms. A refused chunk waits for the next sample, and a requested thermal shutdown stops the flush. SLOT_REL of a locked slot unlocks it and clears PRE_READY, and the recorder takes 4,096 new sets before it freezes again. A granted refresh step moves on to the next block; one is due after 17.12 h, an hour after a refusal, and never while another request waits. Source 0xFF of a host's freeze (log 109), the place of the source and the slot in the event's data (log 60), a slot released while another is flushed (log 59) and the hours shown (log 155) are the model's readings. -/
def Obligations.FreezeFlushAndSlots : Prop :=
  (∀ (s : State) (p : Path) (w : W32) (k : Nat), s.regsWf → Reaches p STR.CTRL.addr s → s.eng.cap.st = 0 → bitsAt w.toNat 4 4 = 0 → s.fld
    STR.STAT.STATE = strArmed → s.flag STR.STAT.PRE_READY = true → s.strata.intake = [] → s.strata.order.find? (fun (j : Nat) => !bitAt (s.fld
    STR.STAT.LOCKED) j) = some k → ∃ t, exec (.strataFreeze p w) s = .next t ∧ t.fld STR.STAT.STATE = strPost ∧ t.strata =
    { s.strata with ticks := t.strata.ticks, intake := t.strata.intake, frozen := t.strata.frozen, left := strPostN s, post := strPostN s, slot := k, src := 0xFF, freezeAt := none, next := 0, retry := false, order := s.strata.order.filter (fun (j : Nat) => j != k) ++ [k] }
    ∧ t.strata.intake.map (fun (e : Ev) => (e.code, e.data)) = [(0x0040, (0xFF + 256 * k) % 2 ^ 64)] ∧ t.out = [] ∧ FieldsKept [STR.CTRL.WAVE_EN,
    STR.STAT.STATE, STR.STAT.COMPLETE] s t ∧ { t with reg := s.reg, out := s.out, strata := s.strata } = s) ∧
  (∀ (s : State) (p : Path) (w : W32), s.regsWf → Reaches p STR.CTRL.addr s → s.eng.cap.st = 0 → bitsAt w.toNat 4 4 = 0 → s.flag STR.STAT.PRE_READY =
    false → s.strata.intake = [] → ∃ t, exec (.strataFreeze p w) s = .next t ∧ t.strata =
    { s.strata with ticks := t.strata.ticks, intake := t.strata.intake } ∧ t.strata.intake.map (fun (e : Ev) => (e.code, e.data)) = [(0x0040, 0xFFFF)]
    ∧ t.out = [] ∧ FieldsKept [STR.CTRL.WAVE_EN] s t ∧ { t with reg := s.reg, out := s.out, strata := s.strata } = s) ∧
  (∀ (s : State), s.regsWf → s.fld STR.STAT.STATE = strPost → s.strata.left = 0 → ∃ t, exec (.strataPostDone) s = .next t ∧ t.fld STR.STAT.STATE =
    strFlush ∧ t.strata = { s.strata with next := 0, retry := false } ∧ FieldsKept [STR.STAT.STATE] s t ∧
    { t with reg := s.reg, out := s.out, strata := s.strata } = s) ∧
  (∀ (s : State) (vhold : Nat), s.regsWf → s.strata.retry = false → s.fld STR.STAT.STATE = strFlush → s.strata.freezeAt ≠ none → s.thm.sd = none →
    s.strata.next + 256 < 4161 + s.strata.post → s.strata.post ≤ 4032 → (lssRequest .flush 256 s.strata.slot vhold s).2 = true → ∃ t, exec
    (.strataFlushChunk vhold) s = .next t ∧ t.strata = { s.strata with mram := t.strata.mram, next := s.strata.next + 256 } ∧ (∀ a, a < slotBase
    s.strata.slot → memGet t.strata.mram a = memGet s.strata.mram a) ∧ (∀ a, slotBase s.strata.slot + 0x40000 ≤ a → memGet t.strata.mram a = memGet
    s.strata.mram a) ∧ FieldsKept [LSS.HOLD.MV, LSS.E_EST.E, LSS.E_RES.E, LSS.E_AVAIL.E, LSS.STAT.NO_MARK] s t ∧
    { t with reg := s.reg, out := s.out, lss := s.lss, strata := s.strata } = s) ∧
  (∀ (s : State) (vhold : Nat), s.regsWf → s.strata.retry = false → s.fld STR.STAT.STATE = strFlush → s.strata.freezeAt ≠ none → s.thm.sd = none →
    s.strata.next < 4161 + s.strata.post → 4161 + s.strata.post ≤ s.strata.next + 256 → s.strata.post ≤ 4032 → s.strata.slot < 4 → (lssRequest .flush
    (4161 + s.strata.post - s.strata.next) s.strata.slot vhold s).2 = true → ∃ t, exec (.strataFlushChunk vhold) s = .next t ∧ bitAt (t.fld
    STR.STAT.LOCKED) s.strata.slot = true ∧ bitAt (t.fld STR.STAT.COMPLETE) s.strata.slot = true ∧ t.fld STR.STAT.STATE = strArmed ∧ t.flag
    STR.STAT.PRE_READY = false ∧ t.strata = { s.strata with mram := t.strata.mram, next := 4161 + s.strata.post, sets := 0, frozen := [] } ∧ memRead
    t.strata.mram (slotBase s.strata.slot) 32 = slotDesc s 2 ∧ (∀ a, a < slotBase s.strata.slot → memGet t.strata.mram a = memGet s.strata.mram a) ∧
    (∀ a, slotBase s.strata.slot + 0x40000 ≤ a → memGet t.strata.mram a = memGet s.strata.mram a) ∧ FieldsKept [LSS.HOLD.MV, LSS.E_EST.E, LSS.E_RES.E,
    LSS.E_AVAIL.E, LSS.STAT.NO_MARK, STR.STAT.LOCKED, STR.STAT.COMPLETE, STR.STAT.STATE, STR.STAT.PRE_READY] s t ∧
    { t with reg := s.reg, out := s.out, lss := s.lss, strata := s.strata } = s) ∧
  (∀ (s : State) (vhold : Nat), s.regsWf → s.strata.retry = false → s.fld STR.STAT.STATE = strFlush → s.strata.freezeAt ≠ none → s.thm.sd = none →
    s.lss.marker = false → 450 > eEst s vhold - eRes s → vhold < 4096 → s.strata.next + 256 < 4161 + s.strata.post → ∃ t, exec (.strataFlushChunk
    vhold) s = .next t ∧ t.strata = { s.strata with retry := true } ∧ t.fld LSS.REFUSE.REFUSALS = min (s.fld LSS.REFUSE.REFUSALS + 1) 65535 ∧
    FieldsKept [LSS.HOLD.MV, LSS.E_EST.E, LSS.E_RES.E, LSS.E_AVAIL.E, LSS.STAT.NO_MARK, LSS.REFUSE.REFUSALS, LSS.EVT.REFUSED] s t ∧
    { t with reg := s.reg, out := s.out, lss := s.lss, strata := s.strata } = s) ∧
  (∀ (s : State) (vhold : Nat), (s.strata.retry = true ∨ s.fld STR.STAT.STATE ≠ strFlush ∨ s.strata.freezeAt = none ∨ s.thm.sd.isSome = true) → ∃ t,
    exec (.strataFlushChunk vhold) s = .next t ∧ t = s ∧ { t with out := s.out } = s) ∧
  (∀ (s : State) (p : Path) (w : W32), s.regsWf → Reaches p STR.CTRL.addr s → bitAt w.toNat 31 = false → s.fld STR.STAT.STATE = strArmed → s.fld
    STR.STAT.LOCKED &&& bitsAt w.toNat 4 4 ≠ 0 → ∃ t, exec (.slotRel p w) s = .next t ∧ t.fld STR.STAT.LOCKED = s.fld STR.STAT.LOCKED &&& (15 ^^^
    bitsAt w.toNat 4 4) ∧ t.fld STR.STAT.STATE = strArmed ∧ t.flag STR.STAT.PRE_READY = false ∧ t.strata = { s.strata with sets := 0, frozen := [] } ∧
    t.out = [] ∧ FieldsKept [STR.CTRL.WAVE_EN, STR.STAT.LOCKED, STR.STAT.STATE, STR.STAT.PRE_READY] s t ∧
    { t with reg := s.reg, out := s.out, strata := s.strata } = s) ∧
  (∀ (s : State) (p : Path) (w : W32), s.regsWf → Reaches p STR.CTRL.addr s → bitAt w.toNat 31 = false → s.fld STR.STAT.STATE ≠ strArmed → s.fld
    STR.STAT.LOCKED &&& bitsAt w.toNat 4 4 ≠ 0 → ∃ t, exec (.slotRel p w) s = .next t ∧ t.fld STR.STAT.LOCKED = s.fld STR.STAT.LOCKED &&& (15 ^^^
    bitsAt w.toNat 4 4) ∧ t.flag STR.STAT.PRE_READY = false ∧ t.out = [] ∧ FieldsKept [STR.CTRL.WAVE_EN, STR.STAT.LOCKED, STR.STAT.PRE_READY] s t ∧
    { t with reg := s.reg, out := s.out } = s) ∧
  (∀ (s : State) (hours : Fin 65536) (vhold : Nat) (cent : Fin 100), s.regsWf → s.clodsUp = true → 1712 ≤ 100 * hours.val + cent.val → refreshDue (100
    * hours.val + cent.val) s = true → requestWaits s = false → (lssRequest .refresh 128 0 vhold (s.setFld STR.REFRESH.HOURS hours.val)).2 = true → ∃
    t, exec (.strataRefresh hours vhold cent) s = .next t ∧ t.fld STR.REFRESH.BLOCK = (s.fld STR.REFRESH.BLOCK + 1) % 512 ∧ t.fld STR.REFRESH.HOURS =
    0 ∧ t.strata = { s.strata with refused := none } ∧ FieldsKept [LSS.HOLD.MV, LSS.E_EST.E, LSS.E_RES.E, LSS.E_AVAIL.E, LSS.STAT.NO_MARK,
    STR.REFRESH.BLOCK, STR.REFRESH.HOURS] s t ∧ { t with reg := s.reg, out := s.out, lss := s.lss, strata := s.strata } = s) ∧
  (∀ (s : State) (hours : Fin 65536) (vhold : Nat) (cent : Fin 100), s.regsWf → s.clodsUp = true → refreshDue (100 * hours.val + cent.val) s = true →
    requestWaits s = false → s.lss.marker = false → 450 > eEst s vhold - eRes s → vhold < 4096 → ∃ t, exec (.strataRefresh hours vhold cent) s = .next
    t ∧ t.fld STR.REFRESH.BLOCK = s.fld STR.REFRESH.BLOCK ∧ t.fld STR.REFRESH.HOURS = hours.val ∧ t.strata =
    { s.strata with refused := some (100 * hours.val + cent.val) } ∧ FieldsKept [LSS.HOLD.MV, LSS.E_EST.E, LSS.E_RES.E, LSS.E_AVAIL.E,
    LSS.STAT.NO_MARK, STR.REFRESH.HOURS, LSS.REFUSE.REFUSALS, LSS.EVT.REFUSED] s t ∧
    { t with reg := s.reg, out := s.out, lss := s.lss, strata := s.strata } = s) ∧
  (∀ (s : State) (hours : Fin 65536) (vhold : Nat) (cent : Fin 100), s.regsWf → s.clodsUp = true → (refreshDue (100 * hours.val + cent.val) s = false
    ∨ requestWaits s = true) → ∃ t, exec (.strataRefresh hours vhold cent) s = .next t ∧ t.fld STR.REFRESH.HOURS = hours.val ∧ FieldsKept
    [STR.REFRESH.HOURS] s t ∧ { t with reg := s.reg, out := s.out } = s)

/-- SET loads the seconds, zeroes the fraction and sets RTC_VALID. A read of RTC_SUB returns the fraction and latches the 48 bits of seconds. A tamper LATCH written with a one clears only while its input is high. Each sample adds 250 ms to the counter and measures VBAK and the hold-up store; a tamper input, 0 or 1, low on two consecutive samples sets its latch, and the first latch records the seconds. On VBAK a sample below CUT1 stops tamper sampling, one below CUT2 stops the counter and clears RTC_VALID, one below 1.60 V loses the domain's state; with VDDA nothing is cut and LOW follows WARN. When VBAK and VDDA have both been absent the domain starts afresh with LOST set. The latch of one input beside another, the run of low samples and the end of a cut by SET are the model's readings (log 55), as are the elapsed ticks a command carries (logs 54, 56). -/
def Obligations.LoessDomainKeepsTimeAndTamper : Prop :=
  (∀ (s : State) (p : Path) (ticks : Nat), s.regsWf → Reaches p LSS.RTC_CTRL.addr s → ∃ t, exec (.rtcSet p ticks) s = .next t ∧ t.lss =
    { s.lss with rtc := (s.fld LSS.RTC_SET_LO.SEC + 2 ^ 32 * s.fld LSS.RTC_SET_HI.SEC : Nat) * 32768 - ticks, rtcCut := s.lss.rtcCut && !s.lss.vdda }
    ∧ t.strata.ticks = ticks ∧ t.flag LSS.STAT.RTC_VALID = true ∧ t.strata.intake.length = min (s.strata.intake.length + 1) (max 256
    s.strata.intake.length) ∧ t.out = [] ∧ FieldsKept [LSS.STAT.RTC_VALID, STR.LOST.DROPPED] s t ∧
    { t with reg := s.reg, out := s.out, lss := s.lss, strata := s.strata } = s) ∧
  (∀ (s : State) (p : Path) (be : Fin 16) (ticks : Nat), s.regsWf → Reaches p LSS.RTC_SUB.addr s → s.lss.rtcCut = false → readEnables p be.val ≠ 0 → ∃
    t, exec (.rtcSubRead p be ticks) s = .next t ∧ t.fld LSS.RTC_SEC_LO.SEC = ((s.lss.rtc + ticks) / 32768).toNat % 2 ^ 32 ∧ t.fld LSS.RTC_SEC_HI.SEC
    = ((s.lss.rtc + ticks) / 32768).toNat / 2 ^ 32 % 2 ^ 16 ∧ t.strata = { s.strata with ticks := ticks } ∧ t.out = [.word (mergeBytes (readEnables p
    be.val) ((s.lss.rtc + ticks) % 32768).toNat 0)] ∧ FieldsKept [LSS.RTC_SEC_LO.SEC, LSS.RTC_SEC_HI.SEC] s t ∧
    { t with reg := s.reg, out := s.out, strata := s.strata } = s) ∧
  (∀ (s : State) (p : Path) (w : W32), s.regsWf → Reaches p LSS.TAMPER.addr s → ∃ t, exec (.tamperLatchClear p w) s = .next t ∧ t.fld LSS.TAMPER.LATCH
    = s.fld LSS.TAMPER.LATCH &&& (s.fld LSS.TAMPER.PIN ||| (3 - w.toNat % 4)) ∧ t.fld LSS.TAMPER.EN = bitsAt w.toNat 4 2 ∧ t.out = [] ∧ FieldsKept
    [LSS.TAMPER.EN, LSS.TAMPER.LATCH] s t ∧ { t with reg := s.reg, out := s.out } = s) ∧
  (∀ (s : State) (vbak vhold : Nat), s.regsWf → s.fld LSS.TAMPER.EN = 0 → s.strata.retry = false → s.lss.rtcCut = false → vbak < 4096 → ∃ t, exec
    (.loessSample vbak vhold 0 true false) s = .next t ∧ t.lss.rtc = (s.lss.rtc + 8192) % 2 ^ 63 ∧ t.lss.rtcCut = false ∧ t.lss.vdda = true ∧ t.fld
    LSS.VBAK.MV = vbak ∧ t.flag LSS.STAT.LOW = below (s.flag LSS.STAT.LOW) vbak (s.fld LSS.VBAK_TH0.WARN) (s.fld LSS.VBAK_TH1.HYS) ∧ t.flag
    LSS.STAT.TAMPER_OFF = false ∧ t.fld LSS.HOLD.MV = vhold % 2 ^ 12 ∧ t.lss.granted = s.lss.granted ∧ t.strata = { s.strata with ticks := 0 } ∧ t.out
    = [] ∧ FieldsKept [LSS.HOLD.MV, LSS.E_EST.E, LSS.E_RES.E, LSS.E_AVAIL.E, LSS.STAT.NO_MARK, LSS.VBAK.MV, LSS.STAT.LOW, LSS.EVT.LOW,
    LSS.STAT.TAMPER_OFF] s t ∧ { t with reg := s.reg, out := s.out, lss := s.lss, strata := s.strata } = s) ∧
  (∀ (s : State) (vbak vhold : Nat), s.regsWf → s.fld LSS.TAMPER.EN = 1 → s.fld LSS.TAMPER.LATCH = 0 → s.lss.low0 = 1 → s.strata.retry = false →
    s.strata.intake = [] → s.lss.rtcCut = false → 0 ≤ s.lss.rtc → ∃ t, exec (.loessSample vbak vhold 1 true false) s = .next t ∧ t.fld
    LSS.TAMPER.LATCH = 1 ∧ bitAt (t.fld LSS.TAMPER.PIN) 0 = true ∧ t.flag LSS.EVT.TAMPER = true ∧ t.strata.intake.map (fun (e : Ev) => (e.code,
    e.data)) = [(0x0050, 0)] ∧ t.fld LSS.TAMPER_SEC.SEC = ((t.lss.rtc + t.strata.ticks) / 32768).toNat % 2 ^ 32 ∧ t.out = [] ∧ FieldsKept
    [LSS.HOLD.MV, LSS.E_EST.E, LSS.E_RES.E, LSS.E_AVAIL.E, LSS.STAT.NO_MARK, LSS.VBAK.MV, LSS.STAT.LOW, LSS.EVT.LOW, LSS.EVT.CUT, LSS.STAT.TAMPER_OFF,
    LSS.TAMPER.LATCH, LSS.TAMPER.PIN, LSS.TAMPER_SEC.SEC, LSS.EVT.TAMPER] s t ∧
    { t with reg := s.reg, out := s.out, lss := s.lss, strata := s.strata } = s) ∧
  (∀ (s : State) (vbak vhold : Nat), s.regsWf → s.fld LSS.TAMPER.EN = 2 → s.fld LSS.TAMPER.LATCH = 0 → s.lss.low1 = 1 → s.strata.retry = false →
    s.strata.intake = [] → s.lss.rtcCut = false → 0 ≤ s.lss.rtc → ∃ t, exec (.loessSample vbak vhold 2 true false) s = .next t ∧ t.fld
    LSS.TAMPER.LATCH = 2 ∧ bitAt (t.fld LSS.TAMPER.PIN) 1 = true ∧ t.flag LSS.EVT.TAMPER = true ∧ t.strata.intake.map (fun (e : Ev) => (e.code,
    e.data)) = [(0x0050, 1)] ∧ t.fld LSS.TAMPER_SEC.SEC = ((t.lss.rtc + t.strata.ticks) / 32768).toNat % 2 ^ 32 ∧ t.out = [] ∧ FieldsKept
    [LSS.HOLD.MV, LSS.E_EST.E, LSS.E_RES.E, LSS.E_AVAIL.E, LSS.STAT.NO_MARK, LSS.VBAK.MV, LSS.STAT.LOW, LSS.EVT.LOW, LSS.EVT.CUT, LSS.STAT.TAMPER_OFF,
    LSS.TAMPER.LATCH, LSS.TAMPER.PIN, LSS.TAMPER_SEC.SEC, LSS.EVT.TAMPER] s t ∧
    { t with reg := s.reg, out := s.out, lss := s.lss, strata := s.strata } = s) ∧
  (∀ (s : State) (vbak vhold : Nat) (low : Fin 4), s.regsWf → s.strata.retry = false → 1600 ≤ vbak → vbak < s.fld LSS.VBAK_TH0.CUT1 → s.fld
    LSS.VBAK_TH0.CUT1 ≤ s.fld LSS.VBAK_TH0.WARN → s.flag LSS.STAT.TAMPER_OFF = false → s.fld LSS.VBAK_TH1.CUT2 + s.fld LSS.VBAK_TH1.HYS ≤ vbak → ∃ t,
    exec (.loessSample vbak vhold low false false) s = .next t ∧ t.lss.vdda = false ∧ t.flag LSS.STAT.TAMPER_OFF = true ∧ t.flag LSS.STAT.LOW = true ∧
    t.flag LSS.EVT.CUT = true ∧ t.lss.rtcCut = false ∧ t.flag LSS.STAT.RTC_VALID = s.flag LSS.STAT.RTC_VALID ∧ t.fld LSS.TAMPER.LATCH = s.fld
    LSS.TAMPER.LATCH ∧ t.lss.low0 = 0 ∧ t.lss.low1 = 0 ∧ t.out = [] ∧ FieldsKept [LSS.HOLD.MV, LSS.E_EST.E, LSS.E_RES.E, LSS.E_AVAIL.E,
    LSS.STAT.NO_MARK, LSS.VBAK.MV, LSS.STAT.LOW, LSS.EVT.LOW, LSS.EVT.CUT, LSS.STAT.TAMPER_OFF] s t ∧
    { t with reg := s.reg, out := s.out, lss := s.lss, strata := s.strata } = s) ∧
  (∀ (s : State) (vbak vhold : Nat) (low : Fin 4), s.regsWf → s.strata.retry = false → 1600 ≤ vbak → vbak < s.fld LSS.VBAK_TH1.CUT2 → s.fld
    LSS.VBAK_TH1.CUT2 ≤ s.fld LSS.VBAK_TH0.CUT1 → s.fld LSS.VBAK_TH0.CUT1 ≤ s.fld LSS.VBAK_TH0.WARN → s.lss.rtcCut = false → ∃ t, exec (.loessSample
    vbak vhold low false false) s = .next t ∧ t.lss.rtcCut = true ∧ t.lss.rtc = (s.lss.rtc + 8192) % 2 ^ 63 ∧ t.flag LSS.STAT.RTC_VALID = false ∧
    t.flag LSS.STAT.TAMPER_OFF = true ∧ t.flag LSS.EVT.CUT = true ∧ t.fld LSS.TAMPER.LATCH = s.fld LSS.TAMPER.LATCH ∧ t.out = [] ∧ FieldsKept
    [LSS.HOLD.MV, LSS.E_EST.E, LSS.E_RES.E, LSS.E_AVAIL.E, LSS.STAT.NO_MARK, LSS.VBAK.MV, LSS.STAT.LOW, LSS.EVT.LOW, LSS.EVT.CUT, LSS.STAT.TAMPER_OFF,
    LSS.STAT.RTC_VALID] s t ∧ { t with reg := s.reg, out := s.out, lss := s.lss, strata := s.strata } = s) ∧
  (∀ (s : State) (vbak vhold : Nat) (low : Fin 4) (cool : Bool), s.regsWf → vbak < 1600 → ∃ t, exec (.loessSample vbak vhold low false cool) s = .next
    t ∧ t.lss = { vdda := false } ∧ t.flag LSS.STAT.LOST = true ∧ t.fld LSS.RST_CAUSE.CAUSE = 1 ∧ (∀ a, (a < 0x40000 ∨ 0x50000 ≤ a) → a ≠
    STR.REFRESH.addr → a ≠ THM.SD.addr → t.rd a = s.rd a) ∧ t.out = [] ∧ { t with reg := s.reg, out := s.out, lss := s.lss, strata := s.strata } = s) ∧
  (∀ (s : State) (vdda : Bool), s.regsWf → ∃ t, exec (.loessPowerOn vdda) s = .next t ∧ t.lss = { vdda := vdda } ∧ t.flag LSS.STAT.LOST = true ∧ t.fld
    LSS.RST_CAUSE.CAUSE = 1 ∧ (∀ a, (a < 0x40000 ∨ 0x50000 ≤ a) → a ≠ STR.REFRESH.addr → a ≠ THM.SD.addr → t.rd a = s.rd a) ∧
    { t with reg := s.reg, out := s.out, lss := s.lss } = s)

/-- A housekeeping round stores the on-die readings, shows a sensor broken while a condition of R506 holds and until its tenth round without one, and sets THM.EVT.BROKEN. With twelve sound on-die sensors and no external one, TJ is the highest reading, the limit bits follow DIE_LIM.HI, a rise faster than RATE sets THM.EVT.RATE, and the band follows TJ with its hysteresis. A round whose TJ reads 135 °C or more, or in which no on-die sensor is valid, sets THM.EVT.SD, requests converter block and notes TJ and the sensor; one below changes neither. With the record asked for and no commit outstanding the shutdown then holds the device in reset with the PCI Express link down. Once the hub has cooled, SD.CLR restarts it with cause 0x05, THM.EVT.SD reading one, the record in the MRAM copied as an event, and event 0x0032. What the round does with equal readings and medians (log 114), that the restart needs no release (log 53), the events of a shutdown whose record was refused (log 60) and each event by the command that causes it (log 113) are the model's readings. -/
def Obligations.ThermalShutdownRequestsAndRestarts : Prop :=
  (∀ (s : State) (die : List Int) (dt t0 : Nat), s.regsWf → s.clodsUp = true → s.isHub = true → die.length = 12 → tabWf zeroNat s.thm.good = true →
    tabWf noHist s.thm.hist = true → ∃ t, exec (.housekeepingRound die dt t0) s = .next t ∧ (upto 12).all (fun (k : Nat) => t.fld (THM.DIE_T.T.at (4 *
    k)) == unsignedOf 12 (satS 12 (die.getD k 0)) && bitAt (t.fld THM.BROKEN_MAP.MAP) k == (dieBad s die k || (bitAt (s.fld THM.BROKEN_MAP.MAP) k &&
    decide (tabGet zeroNat s.thm.good k < 9)))) = true ∧ t.flag THM.EVT.BROKEN = (s.flag THM.EVT.BROKEN || decide (t.fld THM.BROKEN_MAP.MAP ≠ 0)) ∧
    t.thm.ran = true ∧ t.period = s.period ∧ t.cp = s.cp ∧
    { t with reg := s.reg, out := s.out, thm := s.thm, evr := s.evr, acq := s.acq, strata := s.strata, vrc := s.vrc } = s) ∧
  (∀ (s : State) (die : List Int) (dt t0 : Nat) (tj : Int) (k : Fin 12), s.regsWf → s.clodsUp = true → s.isHub = true → die.length = 12 → tabWf
    zeroNat s.thm.good = true → tabWf noHist s.thm.hist = true → s.fld THM.BROKEN_MAP.MAP = 0 → (upto 16).all (fun (j : Nat) => !extOn s j) = true →
    (upto 12).all (fun (k : Nat) => !dieBad s die k) = true → (upto 12).all (fun (k : Nat) => decide (die.getD k 0 ≤ tj)) = true → tj = die.getD k.val
    0 → (upto k.val).all (fun (j : Nat) => decide (die.getD j 0 < tj)) = true → tj < 1080 → ∃ t, exec (.housekeepingRound die dt t0) s = .next t ∧
    t.fld THM.STAT.TJ = unsignedOf 12 tj ∧ t.fld THM.STAT.VALID_DIE = 12 ∧ t.fld THM.BROKEN_MAP.MAP = 0 ∧ t.fld THM.STAT.BAND = bandNext (!s.thm.ran)
    (s.fld THM.CFG.BAND_HYS) tj (s.fld THM.STAT.BAND) % 4 ∧ (upto 12).all (fun (j : Nat) => bitAt (t.fld THM.LIM_MAP.MAP) j == decide (s.sfld
    THM.DIE_LIM.HI < die.getD j 0)) = true ∧ t.flag THM.EVT.LIMIT = (s.flag THM.EVT.LIMIT || decide (t.fld THM.LIM_MAP.MAP ≠ 0)) ∧ t.flag THM.EVT.SD =
    s.flag THM.EVT.SD ∧ t.thm.sd = s.thm.sd ∧ t.evr = s.evr ∧ t.fld VRC.CFG.TSRC = s.fld VRC.CFG.TSRC ∧
    { t with reg := s.reg, out := s.out, thm := s.thm, acq := s.acq, strata := s.strata, vrc := s.vrc } = s) ∧
  (∀ (s : State) (die : List Int) (dt t0 : Nat) (tj : Int) (k : Fin 12) (j : Fin 12), s.regsWf → s.clodsUp = true → s.isHub = true → die.length = 12 →
    tabWf zeroNat s.thm.good = true → tabWf noHist s.thm.hist = true → s.fld THM.BROKEN_MAP.MAP = 0 → (upto 16).all (fun (j : Nat) => !extOn s j) =
    true → (upto 12).all (fun (k : Nat) => !dieBad s die k) = true → (upto 12).all (fun (k : Nat) => decide (die.getD k 0 ≤ tj)) = true → tj =
    die.getD k.val 0 → (upto k.val).all (fun (j : Nat) => decide (die.getD j 0 < tj)) = true → max 1 (s.fld THM.CFG.RATE_WIN) ≤ (tabGet noHist
    s.thm.hist j.val).length → (s.fld THM.DIE_LIM.RATE : Int) < die.getD j.val 0 - (tabGet noHist s.thm.hist j.val).getD (max 1 (s.fld
    THM.CFG.RATE_WIN) - 1) 0 → ∃ t, exec (.housekeepingRound die dt t0) s = .next t ∧ t.flag THM.EVT.RATE = true ∧
    { t with reg := s.reg, out := s.out, thm := s.thm, evr := s.evr, acq := s.acq, strata := s.strata, vrc := s.vrc } = s) ∧
  (∀ (s : State) (die : List Int) (dt t0 : Nat) (tj : Int) (k : Fin 12), s.regsWf → s.clodsUp = true → s.isHub = true → die.length = 12 → tabWf
    zeroNat s.thm.good = true → tabWf noHist s.thm.hist = true → s.fld THM.BROKEN_MAP.MAP = 0 → (upto 16).all (fun (j : Nat) => !extOn s j) = true →
    (upto 12).all (fun (k : Nat) => !dieBad s die k) = true → (upto 12).all (fun (k : Nat) => decide (die.getD k 0 ≤ tj)) = true → tj = die.getD k.val
    0 → (upto k.val).all (fun (j : Nat) => decide (die.getD j 0 < tj)) = true → s.thm.sd = none → 1080 ≤ tj → ∃ t, exec (.housekeepingRound die dt t0)
    s = .next t ∧ t.flag THM.EVT.SD = true ∧ t.evr = { s.evr with blockReq := true } ∧ t.thm.sd = some (tj.toNat, k.val) ∧ t.thm.ran = true ∧ t.fld
    THM.STAT.TJ = tj.toNat ∧ { t with reg := s.reg, out := s.out, thm := s.thm, evr := s.evr, acq := s.acq, strata := s.strata, vrc := s.vrc } = s) ∧
  (∀ (s : State) (die : List Int) (dt t0 : Nat), s.regsWf → s.clodsUp = true → s.isHub = true → die.length = 12 → tabWf zeroNat s.thm.good = true →
    tabWf noHist s.thm.hist = true → s.thm.sd = none → (upto 12).all (fun (k : Nat) => dieBad s die k) = true → ∃ t, exec (.housekeepingRound die dt
    t0) s = .next t ∧ t.flag THM.EVT.SD = true ∧ t.evr = { s.evr with blockReq := true } ∧ t.thm.sd = some (s.fld THM.STAT.TJ, 0xFF) ∧ t.fld
    THM.STAT.BAND = s.fld THM.STAT.BAND ∧
    { t with reg := s.reg, out := s.out, thm := s.thm, evr := s.evr, acq := s.acq, strata := s.strata, vrc := s.vrc } = s) ∧
  (∀ (s : State) (r : Nat × Nat), s.regsWf → s.thm.sd = some r → s.lss.granted = [] → s.thm.recAsked = true → ∃ t, exec (.thermalSdReset) s = .next t
    ∧ t.flag THM.SD.ACTIVE = true ∧ t.sys.inReset = true ∧ t.thm = { sd := some r } ∧ t.strata.mram = s.strata.mram ∧ t.strata.tsdSet =
    s.strata.tsdSet ∧ t.lanes = [] ∧ t.lss = s.lss ∧ t.marl = { s.marl with handed := none } ∧ t.kao = { s.kao with offer := none } ∧ t.flag
    HST.PCIE_STAT.LINK_UP = false ∧ t.flag HST.PCIE_STAT.MSIX_EN = false ∧ t.ep = {} ∧ t.evr.msixPend = 0 ∧ t.evr.msixMask = 2 ^ 64 - 1 ∧
    { t with reg := s.reg, out := s.out, sys := s.sys, clk := s.clk, period := s.period, img := s.img, ct := s.ct, lanes := s.lanes, link := s.link, cp := s.cp, cpB := s.cpB, eng := s.eng, loam := s.loam, acq := s.acq, strata := s.strata, thm := s.thm, evr := s.evr, pwm := s.pwm, cell := s.cell, kao := s.kao, marl := s.marl, station := s.station, vrc := s.vrc, freeCtr := s.freeCtr, ep := s.ep }
    = s) ∧
  (∀ (s : State), (s.thm.sd = none ∨ s.lss.granted ≠ [] ∨ s.thm.recAsked = false) → ∃ t, exec (.thermalSdReset) s = .next t ∧ t = s ∧
    { t with out := s.out } = s) ∧
  (∀ (s : State) (p : Path), s.regsWf → Reaches p THM.SD.addr s → s.isHub = true → s.flag THM.SD.COOL = true → ∃ t, exec (.thmSdClr p) s = .next t ∧
    t.flag THM.SD.ACTIVE = false ∧ t.flag THM.SD.COOL = false ∧ t.sys.inReset = false ∧ t.fld LSS.RST_CAUSE.CAUSE = 5 ∧ t.flag THM.EVT.SD = true ∧
    t.strata.intake.map (fun (e : Ev) => e.code) = (if s.strata.tsdSet then [0x0001, (lastRecord s).code, 0x0032] else [0x0001, 0x0032]) ∧
    (s.strata.tsdSet = true → t.strata.intake.getD 1 {} = lastRecord s) ∧ t.strata.mram = s.strata.mram ∧
    { t with reg := s.reg, out := s.out, sys := s.sys, clk := s.clk, period := s.period, img := s.img, ct := s.ct, lanes := s.lanes, link := s.link, cp := s.cp, cpB := s.cpB, eng := s.eng, loam := s.loam, acq := s.acq, strata := s.strata, thm := s.thm, evr := s.evr, pwm := s.pwm, cell := s.cell, kao := s.kao, marl := s.marl, station := s.station, vrc := s.vrc, freeCtr := s.freeCtr, ep := s.ep }
    = s) ∧
  (∀ (s : State) (vbak vhold : Nat) (low : Fin 4), s.regsWf → s.isHub = true → s.flag THM.SD.ACTIVE = true → s.strata.retry = false → ∃ t, exec
    (.loessSample vbak vhold low true true) s = .next t ∧ t.flag THM.SD.COOL = true ∧ t.flag THM.SD.ACTIVE = true ∧ t.sys = s.sys ∧ t.out = [] ∧
    { t with reg := s.reg, out := s.out, lss := s.lss, strata := s.strata } = s)

/-- A RELOAD or HOST_START while the converter is deblocked is discarded: the loader reports error 0x16 and nothing else changes. While it is blocked an accepted request unloads the device (VALID zero, cell table, lanes and control copies cleared) and starts from the strapped source, or from the host; BOOTSRC 0b11 in the hub fails at once with ERR 0x01. After PORST_N the loader starts from the strapped source. A load from the flash reads it with command 0x6B from address 0, with 8 dummy clocks on four lines. That HOST_START wins in one write, and what a refused RELOAD leaves of OFFS, are the model's readings (log 42); a reset of the control blocks keeps RS bits (R3). -/
def Obligations.LoadsStartOnlyWhileBlocked : Prop :=
  (∀ (s : State) (p : Path), s.regsWf → Reaches p IMG.CTRL.addr s → s.isCell = false → s.blocked = true → s.sys.bootsrc = 0 → ∃ t, exec (.reload p) s
    = .next t ∧ ldState t = ldFetch ∧ t.img.src = .flash ∧ t.img.buf = [] ∧ t.flag IMG.STAT.VALID = false ∧ t.fld IMG.STAT.ERR = 0 ∧ t.ct = {} ∧
    t.lanes = [] ∧ t.cp = keptCopy s.cp ∧ t.eng = {} ∧ t.out = [.imageRead 0x6B 0 8 4] ∧
    { t with reg := s.reg, out := s.out, img := s.img, ct := s.ct, lanes := s.lanes, link := s.link, cp := s.cp, cpB := s.cpB, eng := s.eng, loam := s.loam, pwm := s.pwm, evr := s.evr, cell := s.cell }
    = s) ∧
  (∀ (s : State) (p : Path), s.regsWf → Reaches p IMG.CTRL.addr s → s.isCell = false → s.blocked = false → ∃ t, exec (.reload p) s = .next t ∧ t.fld
    IMG.STAT.ERR = 0x16 ∧ t.fld IMG.ERR_OFFS.OFFS = 0 ∧ t.out = [] ∧ FieldsKept [IMG.STAT.ERR, IMG.ERR_OFFS.OFFS] s t ∧
    { t with reg := s.reg, out := s.out } = s) ∧
  (∀ (s : State) (p : Path), s.regsWf → Reaches p IMG.CTRL.addr s → s.isCell = false → s.blocked = true → s.sys.bootsrc = 0 → ∃ t, exec (.hostStart p)
    s = .next t ∧ ldState t = ldHost ∧ t.img.src = .host ∧ t.img.buf = [] ∧ t.flag IMG.STAT.VALID = false ∧ t.fld IMG.STAT.ERR = 0 ∧ t.ct = {} ∧
    t.lanes = [] ∧ t.cp = keptCopy s.cp ∧ t.eng = {} ∧ t.out = [] ∧
    { t with reg := s.reg, out := s.out, img := s.img, ct := s.ct, lanes := s.lanes, link := s.link, cp := s.cp, cpB := s.cpB, eng := s.eng, loam := s.loam, pwm := s.pwm, evr := s.evr, cell := s.cell }
    = s) ∧
  (∀ (s : State) (p : Path), s.regsWf → Reaches p IMG.CTRL.addr s → s.isCell = false → s.blocked = false → ∃ t, exec (.hostStart p) s = .next t ∧
    t.fld IMG.STAT.ERR = 0x16 ∧ t.fld IMG.ERR_OFFS.OFFS = 0 ∧ t.out = [] ∧ FieldsKept [IMG.STAT.ERR, IMG.ERR_OFFS.OFFS] s t ∧
    { t with reg := s.reg, out := s.out } = s) ∧
  (∀ (s : State), s.regsWf → s.sys.role = .hub → s.sys.inReset = false → ldState s = ldIdle → s.sys.bootsrc = 0 → ∃ t, exec (.loadStart) s = .next t ∧
    ldState t = ldFetch ∧ t.img = { s.img with src := .flash, buf := [], fifo := [] } ∧ t.out = [.imageRead 0x6B 0 8 4] ∧ FieldsKept [IMG.STAT.STATE,
    IMG.STAT.ERR, IMG.ERR_OFFS.OFFS] s t ∧ { t with reg := s.reg, out := s.out, img := s.img } = s) ∧
  (∀ (s : State), s.regsWf → s.sys.role = .hub → s.sys.inReset = false → ldState s = ldIdle → s.sys.bootsrc = 3 → ∃ t, exec (.loadStart) s = .next t ∧
    ldState t = ldFailed ∧ t.fld IMG.STAT.ERR = 0x01 ∧ t.flag IMG.STAT.VALID = false ∧ FieldsKept [IMG.STAT.STATE, IMG.STAT.ERR, IMG.STAT.VALID,
    IMG.ERR_OFFS.OFFS, STR.LOST.DROPPED] s t ∧ { t with reg := s.reg, out := s.out, img := s.img, strata := s.strata } = s)

/-- In a host load a word written to IMG.DATA enters the load FIFO in order, and one that finds it full fails the load with 0x15 and its image offset. Bytes from the FIFO or the flash that pass the arrival checks are kept, and the last of TOTAL_LEN starts verification; a check that fails ends the load with its code and offset, and a cell then turns to lane 0. A host load, or a cell's load over lane 0 after its first chunk, that stalls fails with 0x14. Verification ends in application when the signature and content checks pass, with TRIP_POL in force in the hub, and else in failure with the code and offset of the first that fails. -/
def Obligations.ImageBytesAreTakenAndJudged : Prop :=
  (∀ (s : State) (p : Path) (w : W32), s.regsWf → Reaches p IMG.DATA.addr s → ldState s = ldHost → s.img.fifo.length < 1024 → ∃ t, exec (.imgDataWrite
    p w) s = .next t ∧ t.img = { s.img with fifo := s.img.fifo ++ [w] } ∧ t.reg = s.reg ∧ t.out = [] ∧ { t with out := s.out, img := s.img } = s) ∧
  (∀ (s : State) (p : Path) (w : W32), s.regsWf → Reaches p IMG.DATA.addr s → s.isCell = false → ldState s = ldHost → 1024 ≤ s.img.fifo.length → ∃ t,
    exec (.imgDataWrite p w) s = .next t ∧ ldState t = ldFailed ∧ t.flag IMG.STAT.VALID = false ∧ t.fld IMG.STAT.ERR = 0x15 ∧ t.fld IMG.ERR_OFFS.OFFS
    = (s.img.buf.length + 4 * s.img.fifo.length) % 2 ^ 32 ∧ t.img.buf = [] ∧ t.img.fifo = [] ∧ t.img.src = .none ∧ t.out = [] ∧ FieldsKept
    [IMG.STAT.STATE, IMG.STAT.ERR, IMG.STAT.VALID, IMG.ERR_OFFS.OFFS, STR.LOST.DROPPED] s t ∧
    { t with reg := s.reg, out := s.out, img := s.img, strata := s.strata } = s) ∧
  (∀ (s : State) (p : Path) (w : W32), s.regsWf → Reaches p IMG.DATA.addr s → ldState s ≠ ldHost → ∃ t, exec (.imgDataWrite p w) s = .next t ∧ t.reg =
    s.reg ∧ t.out = [] ∧ { t with out := s.out } = s) ∧
  (∀ (s : State) (n : Nat) (b : List Byte), s.regsWf → ldState s = ldHost → s.img.fifo.take n ≠ [] → b = s.img.buf ++ (s.img.fifo.take n).flatMap (fun
    (w : W32) => leBytes 4 w.toNat) → arrivalFail (imgRole s) s.img.buf.length b = none → ∃ t, exec (.imageBytesIn n []) s = .next t ∧ (b.length < 256
    ∨ b.length < totalLen b → t.img = { s.img with buf := b, fifo := s.img.fifo.drop n } ∧ t.reg = s.reg) ∧ (256 ≤ b.length → totalLen b ≤ b.length →
    ldState t = ldVerify ∧ t.img = { s.img with buf := b.take (totalLen b), fifo := [] }) ∧ FieldsKept [IMG.STAT.STATE] s t ∧
    { t with reg := s.reg, out := s.out, img := s.img } = s) ∧
  (∀ (s : State) (n : Nat) (e : LoadErr) (b : List Byte), s.regsWf → ldState s = ldHost → s.img.fifo.take n ≠ [] → b = s.img.buf ++ (s.img.fifo.take
    n).flatMap (fun (w : W32) => leBytes 4 w.toNat) → arrivalFail (imgRole s) s.img.buf.length b = some e → s.isCell = false → ∃ t, exec
    (.imageBytesIn n []) s = .next t ∧ ldState t = ldFailed ∧ t.flag IMG.STAT.VALID = false ∧ t.fld IMG.STAT.ERR = e.1 % 256 ∧ t.fld IMG.ERR_OFFS.OFFS
    = e.2 % 2 ^ 32 ∧ t.img.buf = [] ∧ t.img.fifo = [] ∧ t.img.src = .none ∧ FieldsKept [IMG.STAT.STATE, IMG.STAT.ERR, IMG.STAT.VALID,
    IMG.ERR_OFFS.OFFS, STR.LOST.DROPPED] s t ∧ { t with reg := s.reg, out := s.out, img := s.img, strata := s.strata } = s) ∧
  (∀ (s : State) (bs b : List Byte), s.regsWf → ldState s = ldFetch → s.img.src = .flash → bs ≠ [] → b = s.img.buf ++ bs → arrivalFail (imgRole s)
    s.img.buf.length b = none → ∃ t, exec (.imageBytesIn 0 bs) s = .next t ∧ (b.length < 256 ∨ b.length < totalLen b → t.img =
    { s.img with buf := b, fifo := s.img.fifo } ∧ t.reg = s.reg) ∧ (256 ≤ b.length → totalLen b ≤ b.length → ldState t = ldVerify ∧ t.img =
    { s.img with buf := b.take (totalLen b), fifo := [] }) ∧ FieldsKept [IMG.STAT.STATE] s t ∧ { t with reg := s.reg, out := s.out, img := s.img } =
    s) ∧
  (∀ (s : State) (e : LoadErr) (bs b : List Byte), s.regsWf → ldState s = ldFetch → s.img.src = .flash → bs ≠ [] → b = s.img.buf ++ bs → arrivalFail
    (imgRole s) s.img.buf.length b = some e → s.isCell = false → ∃ t, exec (.imageBytesIn 0 bs) s = .next t ∧ ldState t = ldFailed ∧ t.flag
    IMG.STAT.VALID = false ∧ t.fld IMG.STAT.ERR = e.1 % 256 ∧ t.fld IMG.ERR_OFFS.OFFS = e.2 % 2 ^ 32 ∧ t.img.buf = [] ∧ t.img.fifo = [] ∧ t.img.src =
    .none ∧ FieldsKept [IMG.STAT.STATE, IMG.STAT.ERR, IMG.STAT.VALID, IMG.ERR_OFFS.OFFS, STR.LOST.DROPPED] s t ∧
    { t with reg := s.reg, out := s.out, img := s.img, strata := s.strata } = s) ∧
  (∀ (s : State) (bs b : List Byte) (e : LoadErr), s.regsWf → s.isCell = true → ldState s = ldFetch → s.img.src = .flash → bs ≠ [] → b = s.img.buf ++
    bs → arrivalFail (imgRole s) s.img.buf.length b = some e → ∃ t, exec (.imageBytesIn 0 bs) s = .next t ∧ ldState t = ldFailed ∧ t.flag
    IMG.STAT.VALID = false ∧ t.fld IMG.STAT.ERR = e.1 % 256 ∧ t.fld IMG.ERR_OFFS.OFFS = e.2 % 2 ^ 32 ∧ t.img.buf = [] ∧ t.img.fifo = [] ∧ t.img.src =
    .lane0 ∧ { t with reg := s.reg, out := s.out, img := s.img, strata := s.strata, cell := s.cell, lanes := s.lanes, clk := s.clk } = s) ∧
  (∀ (s : State), s.regsWf → s.isCell = false → ldState s = ldHost → ∃ t, exec (.loadStall) s = .next t ∧ ldState t = ldFailed ∧ t.flag IMG.STAT.VALID
    = false ∧ t.fld IMG.STAT.ERR = 0x14 ∧ t.fld IMG.ERR_OFFS.OFFS = 0 ∧ t.img.buf = [] ∧ t.img.fifo = [] ∧ t.img.src = .none ∧ FieldsKept
    [IMG.STAT.STATE, IMG.STAT.ERR, IMG.STAT.VALID, IMG.ERR_OFFS.OFFS, STR.LOST.DROPPED] s t ∧
    { t with reg := s.reg, out := s.out, img := s.img, strata := s.strata } = s) ∧
  (∀ (s : State), s.regsWf → s.isCell = true → ldState s = ldFetch → s.img.src = .lane0 → s.cell.imgHave ≠ [] → ∃ t, exec (.loadStall) s = .next t ∧
    ldState t = ldFailed ∧ t.flag IMG.STAT.VALID = false ∧ t.fld IMG.STAT.ERR = 0x14 ∧ t.fld IMG.ERR_OFFS.OFFS = 0 ∧ t.img.buf = [] ∧ t.img.fifo = []
    ∧ t.cell = { s.cell with imgBytes := [], imgHave := [], imgLen := 0 } ∧ FieldsKept [IMG.STAT.STATE, IMG.STAT.ERR, IMG.STAT.VALID,
    IMG.ERR_OFFS.OFFS, STR.LOST.DROPPED] s t ∧ { t with reg := s.reg, out := s.out, img := s.img, strata := s.strata, cell := s.cell } = s) ∧
  (∀ (s : State), s.regsWf → ldState s ≠ ldHost → (ldState s ≠ ldFetch ∨ s.img.src ≠ .lane0 ∨ s.cell.imgHave = []) → ∃ t, exec (.loadStall) s = .next
    t ∧ t = s ∧ { t with out := s.out } = s) ∧
  (∀ (s : State), s.regsWf → s.isCell = false → ldState s = ldVerify → ∃ t, exec (.lastImageByte) s = .next t ∧ ldState t = (if (firstFail
    [signatureFail (s.fld IMG.OTP_STAT.PROG) (s.fld IMG.OTP_STAT.REVOKED) (fun (k : Nat) => tabGet zeroNat s.img.otpHash k) s.img.buf, hubFail
    s.img.buf]).isSome then ldFailed else ldApply) ∧ t.fld IMG.STAT.ERR = (firstFail [signatureFail (s.fld IMG.OTP_STAT.PROG) (s.fld
    IMG.OTP_STAT.REVOKED) (fun (k : Nat) => tabGet zeroNat s.img.otpHash k) s.img.buf, hubFail s.img.buf]).elim (s.fld IMG.STAT.ERR) (fun (e :
    LoadErr) => e.1 % 256) ∧ t.fld IMG.ERR_OFFS.OFFS = (firstFail [signatureFail (s.fld IMG.OTP_STAT.PROG) (s.fld IMG.OTP_STAT.REVOKED) (fun (k : Nat)
    => tabGet zeroNat s.img.otpHash k) s.img.buf, hubFail s.img.buf]).elim (s.fld IMG.ERR_OFFS.OFFS) (fun (e : LoadErr) => e.2 % 2 ^ 32) ∧ ((firstFail
    [signatureFail (s.fld IMG.OTP_STAT.PROG) (s.fld IMG.OTP_STAT.REVOKED) (fun (k : Nat) => tabGet zeroNat s.img.otpHash k) s.img.buf, hubFail
    s.img.buf]) = none → t.img = s.img ∧ t.strata = s.strata) ∧ ((firstFail [signatureFail (s.fld IMG.OTP_STAT.PROG) (s.fld IMG.OTP_STAT.REVOKED) (fun
    (k : Nat) => tabGet zeroNat s.img.otpHash k) s.img.buf, hubFail s.img.buf]) = none → t.fld EVR.TRIP_CFG.POL = le (bodyOf s.img.buf 1) 0x0E 1 % 16
    ∧ t.evr = { s.evr with polSet := true }) ∧ FieldsKept [IMG.STAT.STATE, IMG.STAT.ERR, IMG.STAT.VALID, IMG.ERR_OFFS.OFFS, STR.LOST.DROPPED,
    EVR.TRIP_CFG.POL] s t ∧ { t with reg := s.reg, out := s.out, evr := s.evr, img := s.img, strata := s.strata } = s) ∧
  (∀ (s : State), s.regsWf → s.isCell = true → ldState s = ldVerify → ∃ t, exec (.lastImageByte) s = .next t ∧ ldState t = (if (firstFail
    [signatureFail (s.fld IMG.OTP_STAT.PROG) (s.fld IMG.OTP_STAT.REVOKED) (fun (k : Nat) => tabGet zeroNat s.img.otpHash k) s.img.buf, cellFail
    s.img.buf]).isSome then ldFailed else ldApply) ∧ t.fld IMG.STAT.ERR = (firstFail [signatureFail (s.fld IMG.OTP_STAT.PROG) (s.fld
    IMG.OTP_STAT.REVOKED) (fun (k : Nat) => tabGet zeroNat s.img.otpHash k) s.img.buf, cellFail s.img.buf]).elim (s.fld IMG.STAT.ERR) (fun (e :
    LoadErr) => e.1 % 256) ∧ t.fld IMG.ERR_OFFS.OFFS = (firstFail [signatureFail (s.fld IMG.OTP_STAT.PROG) (s.fld IMG.OTP_STAT.REVOKED) (fun (k : Nat)
    => tabGet zeroNat s.img.otpHash k) s.img.buf, cellFail s.img.buf]).elim (s.fld IMG.ERR_OFFS.OFFS) (fun (e : LoadErr) => e.2 % 2 ^ 32) ∧
    ((firstFail [signatureFail (s.fld IMG.OTP_STAT.PROG) (s.fld IMG.OTP_STAT.REVOKED) (fun (k : Nat) => tabGet zeroNat s.img.otpHash k) s.img.buf,
    cellFail s.img.buf]) = none → t.img = s.img ∧ t.strata = s.strata) ∧
    { t with reg := s.reg, out := s.out, img := s.img, strata := s.strata, cell := s.cell, lanes := s.lanes, clk := s.clk } = s) ∧
  (∀ (s : State), s.regsWf → ldState s ≠ ldVerify → ∃ t, exec (.lastImageByte) s = .next t ∧ t = s ∧ { t with out := s.out } = s)

/-- When every section has been applied the loader reads DONE with VALID set, the recorder scans its ring, and the image bytes are gone. In the hub the period settings follow ROLE, the arms and lanes TOPO, every cell-table entry CELLTAB (an index outside the section is unused), the temperature bands TBAND, the engine graph GRAPH, and the event map EVMAP; the upstream anchor is due and the Kaolin and Marl proposals stand at the islands' seams. The cell takes its type and HOLD_H from ROLE and starts in stage 3, with WEAR from the valid wear record of higher count. That both take effect in one step, and the recorder scans again at every application, is the model's reading (log 47); the event's data is its choice (log 60), the layout of a wear record too (log 157). -/
def Obligations.ImageApplicationEndsInDone : Prop :=
  (∀ (s : State) (dt t0 vhold : Nat), s.regsWf → s.isCell = false → ldState s = ldApply → le (bodyOf s.img.buf 3) 0 2 + le (bodyOf s.img.buf 3) 2 2 ≤
    4096 → ∃ t, exec (.imageApplied dt t0 vhold) s = .next t ∧ ldState t = ldDone ∧ t.flag IMG.STAT.VALID = true ∧ t.img.buf = [] ∧ t.fld
    STR.STAT.STATE = strScanning ∧ t.link.anchorDue = true ∧ t.kao.offer = proposal s.img.buf 9 ∧ t.marl.handed = some (proposal s.img.buf 10) ∧
    t.strata.mram = s.strata.mram ∧ t.lss = s.lss ∧ t.kao.live = s.kao.live ∧ t.pending = s.pending ∧ t.fld SYS.PERIOD_CFG.TC = le (bodyOf s.img.buf
    1) 0 1 % 4 ∧ t.fld SYS.PERIOD_CFG.OUTER_KM1 = le (bodyOf s.img.buf 1) 1 1 % 64 ∧ t.fld SYS.PERIOD_CFG.SYNC_MODE = le (bodyOf s.img.buf 1) 2 1 % 4
    ∧ t.fld SYS.PERIOD_CFG.SLEW_EXP = le (bodyOf s.img.buf 1) 3 1 % 16 ∧ t.img.arms = topoArms (bodyOf s.img.buf 2) ∧ t.img.laneCells = topoLanes
    (bodyOf s.img.buf 2) ∧ t.img.tband = tbandOf (bodyOf s.img.buf 7) ∧ t.img.graph = graphOf (bodyOf s.img.buf 4) ∧ (∀ i, (t.entry i).cfg = (if le
    (bodyOf s.img.buf 3) 0 2 ≤ i ∧ i < le (bodyOf s.img.buf 3) 0 2 + le (bodyOf s.img.buf 3) 2 2 then entryCfg (((bodyOf s.img.buf 3).drop (4 + 64 *
    (i - le (bodyOf s.img.buf 3) 0 2))).take 64) else {})) ∧ (upto 128).all (fun (k : Nat) => (regRow? (EVR.MAP.addr + 4 * k)).any (fun (r : RegRow)
    => t.rd (EVR.MAP.addr + 4 * k) == writeMasked r (s.rd (EVR.MAP.addr + 4 * k)) (le (bodyOf s.img.buf 5) (4 * k) 4))) = true ∧
    { t with reg := s.reg, out := s.out, sys := s.sys, period := s.period, clk := s.clk, vrc := s.vrc, img := s.img, ct := s.ct, lanes := s.lanes, link := s.link, cp := s.cp, cpB := s.cpB, eng := s.eng, loam := s.loam, acq := s.acq, strata := s.strata, thm := s.thm, evr := s.evr, pwm := s.pwm, cell := s.cell, kao := s.kao, marl := s.marl, station := s.station, freeCtr := s.freeCtr }
    = s) ∧
  (∀ (s : State) (dt t0 vhold : Nat), s.regsWf → s.isCell = true → ldState s = ldApply → ∃ t, exec (.imageApplied dt t0 vhold) s = .next t ∧ ldState t
    = ldDone ∧ t.flag IMG.STAT.VALID = true ∧ t.img.buf = [] ∧ t.fld CEL.STAT.STAGE = 3 ∧ t.fld LNK.C_ADM.CAD = 2 ∧ t.img.cellType = le (bodyOf
    s.img.buf 1) 0 1 ∧ t.img.maxLevel = le (bodyOf s.img.buf 1) 2 1 ∧ t.fld CEL.WEAR.WEAR = (wearLoad s.cell.wearRec).getD 0 % 2 ^ 32 ∧ t.kao = s.kao
    ∧ t.marl = s.marl ∧ t.pending = s.pending ∧
    { t with reg := s.reg, out := s.out, sys := s.sys, period := s.period, clk := s.clk, vrc := s.vrc, img := s.img, ct := s.ct, lanes := s.lanes, link := s.link, cp := s.cp, cpB := s.cpB, eng := s.eng, loam := s.loam, acq := s.acq, strata := s.strata, thm := s.thm, evr := s.evr, pwm := s.pwm, cell := s.cell, station := s.station, freeCtr := s.freeCtr, lss := s.lss }
    = s)

/-- With no slot programmed, a PROGRAM command for a slot starts its program operation with the value of the hash registers; when it completes the slot reads programmed and holds that hash. A REVOKE command sets the slot's REVOKED bit. A REVOKE of a slot already revoked, and a PROGRAM of one whose operation is under way, is ignored and sets CMD_ERR. Once a slot is programmed the host's write is an access error (cause 6). The cause of a write while a slot is being programmed, and a revocation in force at once, are the model's readings (log 43). -/
def Obligations.KeySlotsProgramAndRevokeOnce : Prop :=
  (∀ (s : State) (p : Path) (slot : Fin 4), s.regsWf → Reaches p IMG.OTP_CMD.addr s → s.fld IMG.OTP_STAT.PROG = 0 → s.img.otpBusy.any (fun (x : Nat ×
    Nat) => x.1 == slot.val) = false → ∃ t, exec (.otpProgram p slot) s = .next t ∧ t.img =
    { s.img with otpBusy := s.img.otpBusy ++ [(slot.val, hashValue s)] } ∧ t.reg = s.reg ∧ t.out = [] ∧ { t with out := s.out, img := s.img } = s) ∧
  (∀ (s : State) (p : Path) (slot : Fin 4), s.regsWf → Reaches p IMG.OTP_CMD.addr s → s.fld IMG.OTP_STAT.PROG = 0 → s.img.otpBusy.any (fun (x : Nat ×
    Nat) => x.1 == slot.val) = true → ∃ t, exec (.otpProgram p slot) s = .next t ∧ t.flag IMG.OTP_STAT.CMD_ERR = true ∧ t.out = [] ∧ FieldsKept
    [IMG.OTP_STAT.CMD_ERR] s t ∧ { t with reg := s.reg, out := s.out } = s) ∧
  (∀ (s : State) (slot : Fin 4), s.regsWf → Reaches .pcie IMG.OTP_CMD.addr s → s.isCell = false → s.fld IMG.OTP_STAT.PROG ≠ 0 → s.flag HST.AERR.VALID
    = false → ∃ t, exec (.otpProgram .pcie slot) s = .next t ∧ t.rd HST.AERR.addr = 2 ^ 31 + 6 ∧ t.rd HST.AERR_ADDR.addr = IMG.OTP_CMD.addr ∧ t.out =
    [] ∧ FieldsKept [⟨HST.AERR.addr, 0, 32⟩, ⟨HST.AERR_ADDR.addr, 0, 32⟩] s t ∧ { t with reg := s.reg, out := s.out } = s) ∧
  (∀ (s : State) (k h : Nat) (rest : List (Nat × Nat)), s.regsWf → s.img.otpBusy = (k, h) :: rest → k < 4 → ∃ t, exec (.otpProgramDone) s = .next t ∧
    bitAt (t.fld IMG.OTP_STAT.PROG) k = true ∧ tabGet zeroNat t.img.otpHash k = h ∧ t.img = { s.img with otpBusy := rest, otpHash := t.img.otpHash } ∧
    FieldsKept [IMG.OTP_STAT.PROG] s t ∧ { t with reg := s.reg, out := s.out, img := s.img } = s) ∧
  (∀ (s : State) (p : Path) (slot : Fin 4), s.regsWf → Reaches p IMG.OTP_CMD.addr s → s.fld IMG.OTP_STAT.PROG = 0 → bitAt (s.fld IMG.OTP_STAT.REVOKED)
    slot.val = false → ∃ t, exec (.otpRevoke p slot) s = .next t ∧ bitAt (t.fld IMG.OTP_STAT.REVOKED) slot.val = true ∧ t.out = [] ∧ FieldsKept
    [IMG.OTP_STAT.REVOKED] s t ∧ { t with reg := s.reg, out := s.out } = s) ∧
  (∀ (s : State) (p : Path) (slot : Fin 4), s.regsWf → Reaches p IMG.OTP_CMD.addr s → s.fld IMG.OTP_STAT.PROG = 0 → bitAt (s.fld IMG.OTP_STAT.REVOKED)
    slot.val = true → ∃ t, exec (.otpRevoke p slot) s = .next t ∧ t.flag IMG.OTP_STAT.CMD_ERR = true ∧ t.out = [] ∧ FieldsKept [IMG.OTP_STAT.CMD_ERR]
    s t ∧ { t with reg := s.reg, out := s.out } = s)

/-- A write to a configuration field of the shadow bank stores it and marks the entry dirty; one to the live bank is an access error of cause 5. COMMIT sets COMMIT_PEND; its checks end with CT_ERR and, when one fails, with COMMIT_PEND cleared. DISCARD clears the dirty marks. A commit whose checks have passed gives, in the operation that the boundary runs (ctApply), every dirty entry its written fields, clears the dirty marks and COMMIT_PEND and notes the period count. A read of bytes 0x18 to 0x1B returns them and latches bytes 0x1C to 0x1F for the next read of those. A field not written follows the live one (log 44), and which commit writes are refused whole (log 46), are the model's readings. -/
def Obligations.CellTableWindowFollowsItsBanks : Prop :=
  (∀ (s : State) (p : Path) (i : Fin 4096) (k : Fin 16) (w : W32) (cfg : CtCfg), s.regsWf → Reaches p (0x180000 + 64 * i.val + 4 * k.val) s → ctBank s
    = 1 → ctClosed s = false → cfgWrite ((s.shadowOf i.val).getD (s.entry i.val).cfg) k.val w.toNat = some cfg → ∃ t, exec (.ctWindowWrite p i k 15 w)
    s = .next t ∧ t.shadowOf i.val = some cfg ∧ ∀ j, j ≠ i.val → t.shadowWords j = s.shadowWords j ∧ t.ct = { s.ct with shadow := t.ct.shadow } ∧
    t.reg = s.reg ∧ t.out = [] ∧ { t with out := s.out, ct := s.ct } = s) ∧
  (∀ (s : State) (i : Fin 4096) (k : Fin 16) (w : W32), s.regsWf → Reaches .pcie (0x180000 + 64 * i.val + 4 * k.val) s → ctBank s = 0 → s.flag
    HST.AERR.VALID = false → ∃ t, exec (.ctWindowWrite .pcie i k 15 w) s = .next t ∧ t.rd HST.AERR.addr = 2 ^ 31 + 5 ∧ t.rd HST.AERR_ADDR.addr =
    0x180000 + 64 * i.val + 4 * k.val ∧ t.out = [] ∧ FieldsKept [⟨HST.AERR.addr, 0, 32⟩, ⟨HST.AERR_ADDR.addr, 0, 32⟩] s t ∧
    { t with reg := s.reg, out := s.out } = s) ∧
  (∀ (s : State) (p : Path) (bank : Bool), s.regsWf → Reaches p IMG.CT_CTRL.addr s → ctClosed s = false → ∃ t, exec (.ctCommit p bank) s = .next t ∧
    t.flag IMG.CT_STAT.COMMIT_PEND = true ∧ t.flag IMG.CT_CTRL.BANK = bank ∧ t.ct = { s.ct with checked := false } ∧ t.out = [] ∧ FieldsKept
    [IMG.CT_STAT.COMMIT_PEND, IMG.CT_CTRL.BANK] s t ∧ { t with reg := s.reg, out := s.out, ct := s.ct } = s) ∧
  (∀ (s : State) (p : Path) (bank : Bool), s.regsWf → Reaches p IMG.CT_CTRL.addr s → ∃ t, exec (.ctDiscard p bank) s = .next t ∧ t.ct =
    { s.ct with shadow := [] } ∧ t.flag IMG.CT_CTRL.BANK = bank ∧ t.out = [] ∧ FieldsKept [IMG.CT_CTRL.BANK] s t ∧
    { t with reg := s.reg, out := s.out, ct := s.ct } = s) ∧
  (∀ (s : State), s.regsWf → s.flag IMG.CT_STAT.COMMIT_PEND = true → s.ct.checked = false → ctCheck s.img.arms s.img.laneCells (identityFail s)
    (committed s) = none → ∃ t, exec (.ctCommitChecksDone) s = .next t ∧ t.ct = { s.ct with checked := true } ∧ t.fld IMG.CT_STAT.CT_ERR = 0 ∧
    FieldsKept [IMG.CT_STAT.CT_ERR] s t ∧ { t with reg := s.reg, out := s.out, ct := s.ct } = s) ∧
  (∀ (s : State) (f : CtFail), s.regsWf → s.flag IMG.CT_STAT.COMMIT_PEND = true → s.ct.checked = false → ctCheck s.img.arms s.img.laneCells
    (identityFail s) (committed s) = some f → ∃ t, exec (.ctCommitChecksDone) s = .next t ∧ t.fld IMG.CT_STAT.CT_ERR = f.code % 256 ∧ t.fld
    IMG.CT_STAT.ERR_ENTRY = f.entry.getD 0 % 4096 ∧ t.flag IMG.CT_STAT.COMMIT_PEND = false ∧ FieldsKept [IMG.CT_STAT.CT_ERR, IMG.CT_STAT.ERR_ENTRY,
    IMG.CT_STAT.COMMIT_PEND] s t ∧ { t with reg := s.reg, out := s.out } = s) ∧
  (∀ (s : State) (pcnt : Nat), s.regsWf → s.ct.checked = true → s.flag IMG.CT_STAT.COMMIT_PEND = true → (s.ct.shadow.map (·.1)).Nodup → tabWf noEntry
    s.ct.live = true → (∀ i ws, s.shadowWords i = some ws → ((ctApply pcnt s).entry i).cfg = writtenCfg (s.entry i).cfg ws) ∧ (∀ i, s.shadowWords i =
    none → ((ctApply pcnt s).entry i).cfg = (s.entry i).cfg) ∧ (ctApply pcnt s).ct.shadow = [] ∧ (ctApply pcnt s).flag IMG.CT_STAT.COMMIT_PEND = false
    ∧ (ctApply pcnt s).fld IMG.CT_COMMIT_PCNT.PCNT = pcnt % 2 ^ 32) ∧
  (∀ (s : State) (p : Path) (i : Fin 4096), s.regsWf → p ≠ .mgmt → Reaches p (0x180000 + 64 * i.val + 24) s → ∃ t, exec (.ctEqPresetRead p i 0 15) s =
    .next t ∧ eqLatch t p = some (i.val, ctBank s, ctWord s (ctBank s) i.val 7) ∧ t.reg = s.reg ∧ t.out = [.word (ctWord s (ctBank s) i.val 6)] ∧
    { t with out := s.out, ct := s.ct } = s) ∧
  (∀ (s : State) (p : Path) (i : Fin 4096) (v : Nat), s.regsWf → p ≠ .mgmt → Reaches p (0x180000 + 64 * i.val + 28) s → eqLatch s p = some (i.val,
    ctBank s, v) → ∃ t, exec (.ctEqPresetRead p i 1 15) s = .next t ∧ eqLatch t p = none ∧ t.reg = s.reg ∧ t.out = [.word v] ∧
    { t with out := s.out, ct := s.ct } = s)

/-- With its quad ready DS_EN takes a lane from OFF to RUN; a quad that becomes ready does so for its enabled lanes. Clearing DS_EN goes to OFF; leaving RUN releases the admitted cells of the lane. DS_SLEEP on a lane with no admitted cell and admission closed goes to SLEEP; clearing it goes to WAKE, begins with the training burst and ends in RUN 64 blocks after it. A loopback that the lane may enter stores LOOPBACK and sets LB_ACTIVE. A started stream begins at the next block of the lane's grid; what a running one has sent until the write went out before it (laneTo, log 74). A DS_SLEEP refused because of admitted cells or open admission is discarded whole and is an access error, and DS_EN cleared reaches OFF from any state (log 75). "No admitted cell" leaves out a slot whose release has been decided (log 63). -/
def Obligations.LaneTransmitterFollowsItsControl : Prop :=
  (∀ (s : State) (q : Fin 32) (dt : Nat), s.regsWf → s.hubUp = true → bitAt (s.fld SYS.QUAD_PWR.QUAD_EN) q.val = true → bitAt (s.fld
    SYS.QUAD_STAT.QUAD_RDY) q.val = false → (∀ j : Fin 4, dsState s (4 * q.val + j.val) = dsOff) → (∀ j : Fin 4, s.flag (LNK.CTRL.DS_EN.at (lnkOff (4
    * q.val + j.val))) = true) → ∃ t, exec (.quadReady q dt) s = .next t ∧ bitAt (t.fld SYS.QUAD_STAT.QUAD_RDY) q.val = true ∧ (∀ j : Fin 4, dsState t
    (4 * q.val + j.val) = dsRun) ∧ (∀ j : Fin 4, t.lane (4 * q.val + j.val) =
    { s.lane (4 * q.val + j.val) with wire := wireStart (blockNow dt s) (s.lane (4 * q.val + j.val)).wire }) ∧ (∀ l, l / 4 ≠ q.val → t.lane l = s.lane
    l) ∧ FieldsKept [SYS.QUAD_STAT.QUAD_RDY, LNK.STAT.DS_STATE.at (lnkOff (4 * q.val + 0)), LNK.STAT.DS_STATE.at (lnkOff (4 * q.val + 1)),
    LNK.STAT.DS_STATE.at (lnkOff (4 * q.val + 2)), LNK.STAT.DS_STATE.at (lnkOff (4 * q.val + 3))] s t ∧
    { t with reg := s.reg, out := s.out, lanes := s.lanes } = s) ∧
  (∀ (s : State) (p : Path) (lane : Fin 128) (w : W32) (dt : Nat), s.regsWf → Reaches p (LNK.CTRL.addr + lnkOff lane.val) s → s.isCell = false →
    bitsAt w.toNat 7 3 = s.fld (LNK.CTRL.LOOPBACK.at (lnkOff lane.val)) → bitAt w.toNat 5 = false → dsState s lane.val = dsOff → bitAt (s.fld
    SYS.QUAD_STAT.QUAD_RDY) (lane.val / 4) = true → ∃ t, exec (.laneDsEnable p lane w dt) s = .next t ∧ t.flag (LNK.CTRL.DS_EN.at (lnkOff lane.val)) =
    true ∧ dsState t lane.val = dsRun ∧ t.lanes = (s.setLane lane.val
    { s.lane lane.val with wire := wireStart (blockNow dt s) (s.lane lane.val).wire }).lanes ∧ t.out = [] ∧ FieldsKept [⟨LNK.CTRL.addr + lnkOff
    lane.val, 0, 32⟩, (LNK.STAT.DS_STATE.at (lnkOff lane.val)), (LNK.STAT.LB_ACTIVE.at (lnkOff lane.val))] s t ∧
    { t with reg := s.reg, out := s.out, lanes := s.lanes } = s) ∧
  (∀ (s : State) (p : Path) (lane : Fin 128) (w : W32) (dt : Nat), s.regsWf → Reaches p (LNK.CTRL.addr + lnkOff lane.val) s → s.isCell = false →
    bitsAt w.toNat 7 3 = s.fld (LNK.CTRL.LOOPBACK.at (lnkOff lane.val)) → ∃ t, exec (.laneDsDisable p lane w dt) s = .next t ∧ t.flag
    (LNK.CTRL.DS_EN.at (lnkOff lane.val)) = false ∧ dsState t lane.val = dsOff ∧ (dsState s lane.val = dsRun → ∀ k, ((s.lane lane.val).slot k).own =
    .admitted → ((t.lane lane.val).slot k).releasing = true) ∧ (dsState s lane.val ≠ dsRun → t.lanes = (laneTo lane.val (blockNow dt s) s.fresh).lanes
    ∧ t.cp = s.cp) ∧ (∀ l, l ≠ lane.val → t.lane l = s.lane l) ∧ t.loam = { s.loam with heldReports := t.loam.heldReports } ∧ t.out = (laneTo lane.val
    (blockNow dt s) s.fresh).out ∧ FieldsKept [⟨LNK.CTRL.addr + lnkOff lane.val, 0, 32⟩, (LNK.STAT.DS_STATE.at (lnkOff lane.val)),
    (LNK.STAT.LB_ACTIVE.at (lnkOff lane.val)), (LNK.PRBS_ERR.ERR.at (lnkOff lane.val)), (CLT.LEVT.RELEASED.at (cltOff lane.val)), STR.LOST.DROPPED] s
    t ∧ { t with reg := s.reg, out := s.out, lanes := s.lanes, cp := s.cp, cpB := s.cpB, ct := s.ct, strata := s.strata, loam := s.loam } = s) ∧
  (∀ (s : State) (p : Path) (lane : Fin 128) (w : W32) (dt : Nat), s.regsWf → Reaches p (LNK.CTRL.addr + lnkOff lane.val) s → s.isCell = false →
    bitsAt w.toNat 7 3 = s.fld (LNK.CTRL.LOOPBACK.at (lnkOff lane.val)) → bitAt w.toNat 0 = true → dsState s lane.val = dsRun → laneAdmitted s
    lane.val = false → admOpen s lane.val = false → ∃ t, exec (.laneDsSleep p lane w dt) s = .next t ∧ t.flag (LNK.CTRL.DS_SLEEP.at (lnkOff lane.val))
    = true ∧ dsState t lane.val = dsSleep ∧ (laneBusy s lane.val = false → t.lanes = (laneTo lane.val (blockNow dt s) s.fresh).lanes) ∧ (∀ l, l ≠
    lane.val → t.lane l = s.lane l) ∧ t.loam = { s.loam with heldReports := t.loam.heldReports } ∧ t.out = (laneTo lane.val (blockNow dt s)
    s.fresh).out ∧ FieldsKept [⟨LNK.CTRL.addr + lnkOff lane.val, 0, 32⟩, (LNK.STAT.DS_STATE.at (lnkOff lane.val)), (LNK.STAT.LB_ACTIVE.at (lnkOff
    lane.val)), (LNK.PRBS_ERR.ERR.at (lnkOff lane.val)), (CLT.LEVT.RELEASED.at (cltOff lane.val)), STR.LOST.DROPPED] s t ∧
    { t with reg := s.reg, out := s.out, lanes := s.lanes, cp := s.cp, cpB := s.cpB, ct := s.ct, strata := s.strata, loam := s.loam } = s) ∧
  (∀ (s : State) (lane : Fin 128) (w : W32) (dt : Nat), s.regsWf → Reaches .pcie (LNK.CTRL.addr + lnkOff lane.val) s → s.isCell = false → bitsAt
    w.toNat 7 3 = s.fld (LNK.CTRL.LOOPBACK.at (lnkOff lane.val)) → bitAt w.toNat 0 = true → dsState s lane.val = dsRun → (laneAdmitted s lane.val =
    true ∨ admOpen s lane.val = true) → s.flag HST.AERR.VALID = false → ∃ t, exec (.laneDsSleep .pcie lane w dt) s = .next t ∧ t.rd HST.AERR.addr = 2
    ^ 31 + 6 ∧ t.rd HST.AERR_ADDR.addr = LNK.CTRL.addr + lnkOff lane.val ∧ t.out = [] ∧ FieldsKept [⟨HST.AERR.addr, 0, 32⟩, ⟨HST.AERR_ADDR.addr, 0,
    32⟩] s t ∧ { t with reg := s.reg, out := s.out } = s) ∧
  (∀ (s : State) (p : Path) (lane : Fin 128) (w : W32) (dt : Nat), s.regsWf → Reaches p (LNK.CTRL.addr + lnkOff lane.val) s → s.isCell = false →
    bitsAt w.toNat 7 3 = s.fld (LNK.CTRL.LOOPBACK.at (lnkOff lane.val)) → bitAt w.toNat 0 = true → dsState s lane.val = dsSleep → ∃ t, exec
    (.laneDsWake p lane w dt) s = .next t ∧ t.flag (LNK.CTRL.DS_SLEEP.at (lnkOff lane.val)) = false ∧ dsState t lane.val = dsWake ∧ t.lanes =
    (s.setLane lane.val
    { s.lane lane.val with wire := { wireStart (blockNow dt s) (s.lane lane.val).wire with train := true, start := blockNow dt s + 2 } }).lanes ∧
    t.out = [] ∧ FieldsKept [⟨LNK.CTRL.addr + lnkOff lane.val, 0, 32⟩, (LNK.STAT.DS_STATE.at (lnkOff lane.val)), (LNK.STAT.LB_ACTIVE.at (lnkOff
    lane.val))] s t ∧ { t with reg := s.reg, out := s.out, lanes := s.lanes } = s) ∧
  (∀ (s : State) (lane : Fin 128) (dt : Nat), s.regsWf → dsState s lane.val = dsWake → (s.lane lane.val).wire.start + 64 ≤ blockNow dt s → ∃ t, exec
    (.laneWakeDone lane dt) s = .next t ∧ dsState t lane.val = dsRun ∧ t.lanes = (laneTo lane.val (blockNow dt s) s.fresh).lanes ∧ t.out = (laneTo
    lane.val (blockNow dt s) s.fresh).out ∧ FieldsKept [(LNK.STAT.DS_STATE.at (lnkOff lane.val)), (LNK.PRBS_ERR.ERR.at (lnkOff lane.val))] s t ∧
    { t with reg := s.reg, out := s.out, lanes := s.lanes } = s) ∧
  (∀ (s : State) (lane : Fin 128) (dt : Nat), s.regsWf → blockNow dt s < (s.lane lane.val).wire.start + 64 → ∃ t, exec (.laneWakeDone lane dt) s =
    .next t ∧ t.out = [] ∧ FieldsKept [] s t ∧ { t with reg := s.reg, out := s.out } = s) ∧
  (∀ (s : State) (p : Path) (lane : Fin 128) (w : W32) (dt : Nat), s.regsWf → Reaches p (LNK.CTRL.addr + lnkOff lane.val) s → s.isCell = false →
    loopbackOk s lane.val (bitsAt w.toNat 7 3) = true → bitAt w.toNat 0 = true → bitAt w.toNat 5 = false → dsState s lane.val = dsRun → ∃ t, exec
    (.loopbackRequest p lane w dt) s = .next t ∧ t.fld (LNK.CTRL.LOOPBACK.at (lnkOff lane.val)) = bitsAt w.toNat 7 3 ∧ t.flag (LNK.STAT.LB_ACTIVE.at
    (lnkOff lane.val)) = (bitsAt w.toNat 7 3 == 1 || bitsAt w.toNat 7 3 == 2 || bitsAt w.toNat 7 3 == 4) ∧ dsState t lane.val = dsRun ∧ t.lanes =
    (laneTo lane.val (blockNow dt s) s.fresh).lanes ∧ t.out = (laneTo lane.val (blockNow dt s) s.fresh).out ∧ FieldsKept [⟨LNK.CTRL.addr + lnkOff
    lane.val, 0, 32⟩, (LNK.STAT.DS_STATE.at (lnkOff lane.val)), (LNK.STAT.LB_ACTIVE.at (lnkOff lane.val)), (LNK.PRBS_ERR.ERR.at (lnkOff lane.val))] s
    t ∧ { t with reg := s.reg, out := s.out, lanes := s.lanes } = s)

/-- A lane without admitted cells may enter raw PRBS while the converter is blocked, and service mode at any time: the mode is stored and the generator starts from a free value (log 14, DESIGN CHOICE; service mode with a PATTERN other than 0x4: log 156); raw mode while deblocked is an access error. CLR zeroes the bit and error counts. A pattern-bit shot inverts one bit of the pattern generated next (log 14), and with INJ_EXP not 0 every 2^INJ_EXP-th bit of the pattern is inverted (1 to 9 act as 10; genBits, errorBits): at PRBS_PERIODIC_INJECT the lane has sent its pattern up to that instant, the errors due among it. A frame-target shot waits for its frame (log 66). 256 error-free bits lock the checker; 64 errors within 256 bits reseed it, clear PRBS_LOCK and raise PRBS_LOST. A read of PRBS_BITS_LO latches the high bits. -/
def Obligations.PrbsTestsCountAndInject : Prop :=
  (∀ (s : State) (p : Path) (lane : Fin 128) (w : W32) (dt : Nat), s.regsWf → Reaches p (LNK.PRBS_CTRL.addr + lnkOff lane.val) s → s.isCell = false →
    s.blocked = true → laneAdmitted s lane.val = false → bitsAt w.toNat 4 2 = 1 → bitAt w.toNat 11 = false → s.fld (LNK.PRBS_CTRL.MODE.at (lnkOff
    lane.val)) ≠ 1 → ∃ t, exec (.prbsModeSet p lane w dt) s = .next t ∧ t.fld (LNK.PRBS_CTRL.MODE.at (lnkOff lane.val)) = 1 ∧ t.flag
    (LNK.STAT.PRBS_LOCK.at (lnkOff lane.val)) = false ∧ t.lane lane.val =
    { (laneTo lane.val (blockNow dt s) s.fresh).lane lane.val with chk := {}, wire := { ((laneTo lane.val (blockNow dt s) s.fresh).lane lane.val).wire with gen := 1 + s.draw 104 % (2 ^ ((prbsPoly (bitsAt w.toNat 0 4)).elim 31 (fun (n : Nat × Nat) => n.1)) - 1), sinceInj := 0 } }
    ∧ (∀ l, l ≠ lane.val → t.lane l = s.lane l) ∧ t.freeCtr = s.freeCtr + 1 ∧ t.out = (laneTo lane.val (blockNow dt s) s.fresh).out ∧ FieldsKept
    [⟨LNK.PRBS_CTRL.addr + lnkOff lane.val, 0, 32⟩, (LNK.STAT.PRBS_LOCK.at (lnkOff lane.val)), (LNK.PRBS_ERR.ERR.at (lnkOff lane.val))] s t ∧
    { t with reg := s.reg, out := s.out, lanes := s.lanes, freeCtr := s.freeCtr } = s) ∧
  (∀ (s : State) (p : Path) (lane : Fin 128) (w : W32) (dt : Nat), s.regsWf → Reaches p (LNK.PRBS_CTRL.addr + lnkOff lane.val) s → s.isCell = false →
    (bitsAt w.toNat 17 2 = 0 ∨ bitsAt w.toNat 17 2 = 3) → bitsAt w.toNat 4 2 = 2 → bitAt w.toNat 11 = false → s.fld (LNK.PRBS_CTRL.MODE.at (lnkOff
    lane.val)) ≠ 2 → ∃ t, exec (.prbsModeSet p lane w dt) s = .next t ∧ t.fld (LNK.PRBS_CTRL.MODE.at (lnkOff lane.val)) = 2 ∧ t.flag
    (LNK.STAT.PRBS_LOCK.at (lnkOff lane.val)) = false ∧ t.lane lane.val =
    { (laneTo lane.val (blockNow dt s) s.fresh).lane lane.val with chk := {}, wire := { ((laneTo lane.val (blockNow dt s) s.fresh).lane lane.val).wire with gen := 1 + s.draw 104 % (2 ^ ((prbsPoly (bitsAt w.toNat 0 4)).elim 31 (fun (n : Nat × Nat) => n.1)) - 1), sinceInj := 0 } }
    ∧ (∀ l, l ≠ lane.val → t.lane l = s.lane l) ∧ t.freeCtr = s.freeCtr + 1 ∧ t.out = (laneTo lane.val (blockNow dt s) s.fresh).out ∧ FieldsKept
    [⟨LNK.PRBS_CTRL.addr + lnkOff lane.val, 0, 32⟩, (LNK.STAT.PRBS_LOCK.at (lnkOff lane.val)), (LNK.PRBS_ERR.ERR.at (lnkOff lane.val))] s t ∧
    { t with reg := s.reg, out := s.out, lanes := s.lanes, freeCtr := s.freeCtr } = s) ∧
  (∀ (s : State) (lane : Fin 128) (w : W32) (dt : Nat), s.regsWf → Reaches .pcie (LNK.PRBS_CTRL.addr + lnkOff lane.val) s → s.isCell = false →
    s.blocked = false → bitsAt w.toNat 4 2 = 1 → s.fld (LNK.PRBS_CTRL.MODE.at (lnkOff lane.val)) ≠ 1 → s.flag HST.AERR.VALID = false → ∃ t, exec
    (.prbsModeSet .pcie lane w dt) s = .next t ∧ t.rd HST.AERR.addr = 2 ^ 31 + 3 ∧ t.rd HST.AERR_ADDR.addr = LNK.PRBS_CTRL.addr + lnkOff lane.val ∧
    t.out = [] ∧ FieldsKept [⟨HST.AERR.addr, 0, 32⟩, ⟨HST.AERR_ADDR.addr, 0, 32⟩] s t ∧ { t with reg := s.reg, out := s.out } = s) ∧
  (∀ (s : State) (p : Path) (lane : Fin 128) (w : W32), s.regsWf → Reaches p (LNK.PRBS_CTRL.addr + lnkOff lane.val) s → s.isCell = false → s.blocked =
    true → bitsAt w.toNat 4 2 = s.fld (LNK.PRBS_CTRL.MODE.at (lnkOff lane.val)) → bitsAt w.toNat 0 4 = s.fld (LNK.PRBS_CTRL.PATTERN.at (lnkOff
    lane.val)) → ∃ t, exec (.prbsClr p lane w) s = .next t ∧ (t.lane lane.val).prbsBits = 0 ∧ (t.lane lane.val).wire = ((laneTo lane.val (blockNow 0
    s) s.fresh).lane lane.val).wire ∧ (t.lane lane.val).slots = (s.lane lane.val).slots ∧ (∀ l, l ≠ lane.val → t.lane l = s.lane l) ∧ t.fld
    (LNK.PRBS_ERR.ERR.at (lnkOff lane.val)) = 0 ∧ t.fld (LNK.PRBS_BITS_HI.BITS_HI.at (lnkOff lane.val)) = 0 ∧ t.fld (LNK.BURST_MISS_CNT.COUNT.at
    (lnkOff lane.val)) = 0 ∧ t.fld (LNK.BLOCK_ERR_CNT.COUNT.at (lnkOff lane.val)) = 0 ∧ t.out = (laneTo lane.val (blockNow 0 s) s.fresh).out ∧
    FieldsKept [⟨LNK.PRBS_CTRL.addr + lnkOff lane.val, 0, 32⟩, (LNK.STAT.PRBS_LOCK.at (lnkOff lane.val)), (LNK.PRBS_ERR.ERR.at (lnkOff lane.val)),
    (LNK.PRBS_BITS_HI.BITS_HI.at (lnkOff lane.val)), (LNK.BURST_MISS_CNT.COUNT.at (lnkOff lane.val)), (LNK.BLOCK_ERR_CNT.COUNT.at (lnkOff lane.val))]
    s t ∧ { t with reg := s.reg, out := s.out, lanes := s.lanes } = s) ∧
  (∀ (s : State) (p : Path) (lane : Fin 128), s.regsWf → Reaches p (LNK.PRBS_INJ.addr + lnkOff lane.val) s → s.isCell = false → s.fld
    (LNK.PRBS_CTRL.INJ_TGT.at (lnkOff lane.val)) = 0 → ∃ t, exec (.prbsInjShot p lane) s = .next t ∧ t.lane lane.val =
    { (laneTo lane.val (blockNow 0 s) s.fresh).lane lane.val with wire := { ((laneTo lane.val (blockNow 0 s) s.fresh).lane lane.val).wire with flips := ((laneTo lane.val (blockNow 0 s) s.fresh).lane lane.val).wire.flips + 1 } }
    ∧ (∀ l, l ≠ lane.val → t.lane l = s.lane l) ∧ t.out = (laneTo lane.val (blockNow 0 s) s.fresh).out ∧ FieldsKept [(LNK.PRBS_ERR.ERR.at (lnkOff
    lane.val))] s t ∧ { t with reg := s.reg, out := s.out, lanes := s.lanes } = s) ∧
  (∀ (s : State) (p : Path) (lane : Fin 128), s.regsWf → Reaches p (LNK.PRBS_INJ.addr + lnkOff lane.val) s → s.isCell = false → s.blocked = true →
    (s.fld (LNK.PRBS_CTRL.INJ_TGT.at (lnkOff lane.val)) = 1 ∨ s.fld (LNK.PRBS_CTRL.INJ_TGT.at (lnkOff lane.val)) = 2) → ∃ t, exec (.prbsInjShot p
    lane) s = .next t ∧ (t.lane lane.val).injFrames = (s.lane lane.val).injFrames ++ [s.fld (LNK.PRBS_CTRL.INJ_TGT.at (lnkOff lane.val))] ∧ (t.lane
    lane.val).wire = ((laneTo lane.val (blockNow 0 s) s.fresh).lane lane.val).wire ∧ (∀ l, l ≠ lane.val → t.lane l = s.lane l) ∧ t.out = (laneTo
    lane.val (blockNow 0 s) s.fresh).out ∧ FieldsKept [(LNK.PRBS_ERR.ERR.at (lnkOff lane.val))] s t ∧
    { t with reg := s.reg, out := s.out, lanes := s.lanes } = s) ∧
  (∀ (s : State) (lane : Fin 128) (dt : Nat), s.regsWf → s.isCell = false → injGap s lane.val ≠ 0 → genOn s lane.val = true → ∃ t, exec
    (.prbsPeriodicInject lane dt) s = .next t ∧ t.lanes = (laneTo lane.val (blockNow dt s) s.fresh).lanes ∧ t.out = (laneTo lane.val (blockNow dt s)
    s.fresh).out ∧ FieldsKept [(LNK.PRBS_ERR.ERR.at (lnkOff lane.val))] s t ∧ { t with reg := s.reg, out := s.out, lanes := s.lanes } = s) ∧
  (∀ (gap n : Nat) (w : Wire), w.flips = 0 → w.sinceInj < gap → n ≤ gap → n ≤ 64 → ((genBits true 4 gap n w).1 = (prbsTake 4 n w.gen).1 ^^^ (if gap -
    1 - w.sinceInj < n then 2 ^ (gap - 1 - w.sinceInj) else 0)) ∧ (genBits true 4 gap n w).2.sinceInj = (w.sinceInj + n) % gap) ∧
  (∀ (s : State) (p : Path) (be : Fin 16) (lane : Fin 128), s.regsWf → Reaches p (LNK.PRBS_BITS_LO.addr + lnkOff lane.val) s → s.isCell = false →
    readEnables p be.val ≠ 0 → ∃ t, exec (.prbsBitsLoRead p be lane) s = .next t ∧ t.fld (LNK.PRBS_BITS_HI.BITS_HI.at (lnkOff lane.val)) = (s.lane
    lane.val).prbsBits / 2 ^ 32 % 2 ^ 16 ∧ t.out = [.word (mergeBytes (readEnables p be.val) ((s.lane lane.val).prbsBits % 2 ^ 32) 0)] ∧ FieldsKept
    [(LNK.PRBS_BITS_HI.BITS_HI.at (lnkOff lane.val))] s t ∧ { t with reg := s.reg, out := s.out } = s) ∧
  (∀ (s : State) (lane : Fin 128), s.regsWf → s.flag (LNK.PRBS_CTRL.CHK_EN.at (lnkOff lane.val)) = true → (s.fld (LNK.PRBS_CTRL.MODE.at (lnkOff
    lane.val)) = 1 ∨ s.fld (LNK.PRBS_CTRL.MODE.at (lnkOff lane.val)) = 2) → (s.lane lane.val).chk.clean = 256 → ∃ t, exec (.prbsCheckerLock lane) s =
    .next t ∧ t.flag (LNK.STAT.PRBS_LOCK.at (lnkOff lane.val)) = true ∧ FieldsKept [(LNK.STAT.PRBS_LOCK.at (lnkOff lane.val))] s t ∧
    { t with reg := s.reg, out := s.out } = s) ∧
  (∀ (s : State) (lane : Fin 128), s.regsWf → (s.lane lane.val).chk.clean ≠ 256 → ∃ t, exec (.prbsCheckerLock lane) s = .next t ∧ t = s ∧
    { t with out := s.out } = s) ∧
  (∀ (s : State) (lane : Fin 128) (n w : Nat), s.regsWf → s.flag (LNK.STAT.PRBS_LOCK.at (lnkOff lane.val)) = true → 64 ≤ popcount 256 ((prbsReceive
    lane.val n w s).lane lane.val).chk.win → ∃ t, exec (.prbsCheckerLockLost lane n w) s = .next t ∧ t.flag (LNK.STAT.PRBS_LOCK.at (lnkOff lane.val))
    = false ∧ t.flag (LNK.EVT.PRBS_LOST.at (lnkOff lane.val)) = true ∧ t.lanes = ((prbsReceive lane.val n w s).setLane lane.val
    { (prbsReceive lane.val n w s).lane lane.val with chk := {} }).lanes ∧ t.fld (LNK.PRBS_ERR.ERR.at (lnkOff lane.val)) = (prbsReceive lane.val n w
    s).fld (LNK.PRBS_ERR.ERR.at (lnkOff lane.val)) ∧ FieldsKept [(LNK.STAT.PRBS_LOCK.at (lnkOff lane.val)), (LNK.EVT.PRBS_LOST.at (lnkOff lane.val)),
    (LNK.PRBS_ERR.ERR.at (lnkOff lane.val))] s t ∧ { t with reg := s.reg, out := s.out, lanes := s.lanes } = s)

/-- Every slot of a hub lane has its LRX_RST pulse from 153 to 121 UI before T_p and loads the receiver with the owner's preset and the band's offsets, in a run of slots in which the receiver sleeps too; only a receiver that runs continuously gets none. With US_SLEEP_EN a receiver in a run of five or more empty slots sleeps while the next slot to hear is four or more away; in the last three the wake command decides (log 62). An expected burst not found in the window counts as missed and raises BURST_MISS; one in a slot that is not heard changes only SD and CDR_LOCK (CDR_LOCK: log 156; no admission slot counts as missed: log 70). A valid report of the owner clears its misses and is recorded. One valid announcement in the window of a ranging cycle is kept for the next boundary and counted; two are a collision. Counters are 32 bits wide and stop at their last value. A cycle boundary advances the anchor by 2,000 ns and the cycle number by one, clears the cut of log 64, turns held slots into joining ones and frees released ones; before the first anchor there is none. -/
def Obligations.BurstsAndCyclesMoveTheSlots : Prop :=
  (∀ (s : State) (lane : Fin 128) (slot : Fin 36), s.regsWf → s.isHub = true → s.clodsUp = true → rxContinuous s lane.val = false → (s.flag
    (LNK.CTRL.US_SLEEP_EN.at (lnkOff lane.val)) = false ∨ slotsAhead s lane.val slot.val = 0 ∨ slotsAhead s lane.val slot.val + slotsBehind s lane.val
    slot.val < 6) → ∃ t, exec (.upstreamSlot lane slot) s = .next t ∧ t.flag (LNK.STAT.US_AWAKE.at (lnkOff lane.val)) = true ∧ t.lanes = (s.setLane
    lane.val { s.lane lane.val with eqLoaded := presetFor s lane.val slot.val, adjLoaded := (bandNow s).vgaAdj }).lanes ∧ t.out = [.lrxRst lane.val
    ((slotPreamble slot.val : Int) - 153) true, .lrxRst lane.val ((slotPreamble slot.val : Int) - 121) false] ∧ FieldsKept [(LNK.STAT.US_AWAKE.at
    (lnkOff lane.val))] s t ∧ { t with reg := s.reg, out := s.out, lanes := s.lanes } = s) ∧
  (∀ (s : State) (lane : Fin 128) (slot : Fin 36), s.regsWf → s.isHub = true → s.clodsUp = true → rxContinuous s lane.val = true → ∃ t, exec
    (.upstreamSlot lane slot) s = .next t ∧ t.flag (LNK.STAT.US_AWAKE.at (lnkOff lane.val)) = true ∧ t.out = [] ∧ FieldsKept [(LNK.STAT.US_AWAKE.at
    (lnkOff lane.val))] s t ∧ { t with reg := s.reg, out := s.out } = s) ∧
  (∀ (s : State) (lane : Fin 128) (slot : Fin 36), s.regsWf → s.isHub = true → s.clodsUp = true → rxContinuous s lane.val = false → s.flag
    (LNK.CTRL.US_SLEEP_EN.at (lnkOff lane.val)) = true → 4 ≤ slotsAhead s lane.val slot.val → 6 ≤ slotsAhead s lane.val slot.val + slotsBehind s
    lane.val slot.val → ∃ t, exec (.upstreamSlot lane slot) s = .next t ∧ t.flag (LNK.STAT.US_AWAKE.at (lnkOff lane.val)) = false ∧ t.lanes =
    (s.setLane lane.val { s.lane lane.val with eqLoaded := presetFor s lane.val slot.val, adjLoaded := (bandNow s).vgaAdj }).lanes ∧ t.out = [.lrxRst
    lane.val ((slotPreamble slot.val : Int) - 153) true, .lrxRst lane.val ((slotPreamble slot.val : Int) - 121) false] ∧ FieldsKept
    [(LNK.STAT.US_AWAKE.at (lnkOff lane.val))] s t ∧ { t with reg := s.reg, out := s.out, lanes := s.lanes } = s) ∧
  (∀ (s : State) (lane : Fin 128) (slot : Fin 36), s.regsWf → s.isHub = true → s.clodsUp = true → rxContinuous s lane.val = false → s.flag
    (LNK.CTRL.US_SLEEP_EN.at (lnkOff lane.val)) = true → 1 ≤ slotsAhead s lane.val slot.val → slotsAhead s lane.val slot.val ≤ 3 → 6 ≤ slotsAhead s
    lane.val slot.val + slotsBehind s lane.val slot.val → ∃ t, exec (.upstreamSlot lane slot) s = .next t ∧ t.lanes = (s.setLane lane.val
    { s.lane lane.val with eqLoaded := presetFor s lane.val slot.val, adjLoaded := (bandNow s).vgaAdj }).lanes ∧ t.out = [.lrxRst lane.val
    ((slotPreamble slot.val : Int) - 153) true, .lrxRst lane.val ((slotPreamble slot.val : Int) - 121) false] ∧ FieldsKept [] s t ∧
    { t with reg := s.reg, out := s.out, lanes := s.lanes } = s) ∧
  (∀ (s : State) (lane : Fin 128), s.regsWf → s.isHub = true → s.clodsUp = true → ∃ t, exec (.usRxWake lane) s = .next t ∧ t.flag
    (LNK.STAT.US_AWAKE.at (lnkOff lane.val)) = true ∧ FieldsKept [(LNK.STAT.US_AWAKE.at (lnkOff lane.val))] s t ∧
    { t with reg := s.reg, out := s.out } = s) ∧
  (∀ (s : State) (lane : Fin 128) (slot : Fin 36) (b : BurstObs), s.regsWf → s.isHub = true → s.clodsUp = true → s.fld (LNK.PRBS_CTRL.MODE.at (lnkOff
    lane.val)) ≠ 1 → s.fld (LNK.CTRL.LOOPBACK.at (lnkOff lane.val)) ≠ 1 → s.fld (LNK.CTRL.LOOPBACK.at (lnkOff lane.val)) ≠ 2 → slot.val < 32 →
    burstExpected s lane.val slot.val = true → windowed 58 134 b = [] → ∃ t, exec (.burstReceived lane slot b) s = .next t ∧ t.flag
    (LNK.EVT.BURST_MISS.at (lnkOff lane.val)) = true ∧ t.fld (LNK.BURST_MISS_CNT.COUNT.at (lnkOff lane.val)) = min (s.fld (LNK.BURST_MISS_CNT.COUNT.at
    (lnkOff lane.val)) + 1) 4294967295 ∧ t.lanes = (missBurst lane.val slot.val true false (b.rx.any (fun (x : BurstRx) => delimOk x.delim.toNat))
    s).lanes ∧ t.flag (LNK.STAT.SD.at (lnkOff lane.val)) = (b.sd || (s.flag (LNK.CTRL.SD_PIN_EN.at (lnkOff lane.val)) && b.lsd)) ∧ t.flag
    (LNK.STAT.CDR_LOCK.at (lnkOff lane.val)) = b.rx.any (fun (x : BurstRx) => delimOk x.delim.toNat) ∧ FieldsKept [(LNK.STAT.CDR_LOCK.at (lnkOff
    lane.val)), (LNK.STAT.SD.at (lnkOff lane.val)), (LNK.EVT.BURST_MISS.at (lnkOff lane.val)), (LNK.BURST_MISS_CNT.COUNT.at (lnkOff lane.val))] s t ∧
    { t with reg := s.reg, out := s.out, lanes := s.lanes } = s) ∧
  (∀ (s : State) (lane : Fin 128) (slot : Fin 36) (b : BurstObs), s.regsWf → s.isHub = true → s.clodsUp = true → s.fld (LNK.PRBS_CTRL.MODE.at (lnkOff
    lane.val)) ≠ 1 → s.fld (LNK.CTRL.LOOPBACK.at (lnkOff lane.val)) ≠ 1 → s.fld (LNK.CTRL.LOOPBACK.at (lnkOff lane.val)) ≠ 2 → slot.val < 32 →
    (slotHeard s lane.val slot.val = false ∨ (burstExpected s lane.val slot.val = false ∧ windowed 58 134 b = [])) → ∃ t, exec (.burstReceived lane
    slot b) s = .next t ∧ t.flag (LNK.STAT.SD.at (lnkOff lane.val)) = (b.sd || (s.flag (LNK.CTRL.SD_PIN_EN.at (lnkOff lane.val)) && b.lsd)) ∧ t.flag
    (LNK.STAT.CDR_LOCK.at (lnkOff lane.val)) = b.rx.any (fun (x : BurstRx) => delimOk x.delim.toNat) ∧ FieldsKept [(LNK.STAT.CDR_LOCK.at (lnkOff
    lane.val)), (LNK.STAT.SD.at (lnkOff lane.val))] s t ∧ { t with reg := s.reg, out := s.out } = s) ∧
  (∀ (s : State) (lane : Fin 128) (slot : Fin 36) (b : BurstObs) (x : BurstRx) (more : List BurstRx), s.regsWf → s.isHub = true → s.clodsUp = true →
    s.fld (LNK.PRBS_CTRL.MODE.at (lnkOff lane.val)) ≠ 1 → s.fld (LNK.CTRL.LOOPBACK.at (lnkOff lane.val)) ≠ 1 → s.fld (LNK.CTRL.LOOPBACK.at (lnkOff
    lane.val)) ≠ 2 → slot.val < 32 → slotHeard s lane.val slot.val = true → ((s.lane lane.val).slot slot.val).own = .admitted → windowed 58 134 b = x
    :: more → rxData x = true → burstCrcOk (rxPayload x) = true → bitsAt (rxPayload x) 0 4 = 1 → bitsAt (rxPayload x) 4 5 = slot.val → bitsAt
    (rxPayload x) 9 12 = ((s.lane lane.val).slot slot.val).cell → bitsAt (rxPayload x) 102 2 ≠ 3 → ∃ t, exec (.burstReceived lane slot b) s = .next t
    ∧ ((t.lane lane.val).slot slot.val).missed = 0 ∧ ((t.lane lane.val).slot slot.val).own = .admitted ∧ ((t.lane lane.val).slot slot.val).cadNew =
    bitsAt (rxPayload x) 102 2 ∧ ((t.lane lane.val).slot slot.val).cad = ((s.lane lane.val).slot slot.val).cad ∧ (t.entry ((s.lane lane.val).slot
    slot.val).cell).hub.lastPcnt = s.period.pcnt % 2 ^ 32 ∧ (t.entry ((s.lane lane.val).slot slot.val).cell).hub.neg = bitAt (rxPayload x) 63 ∧ t.link
    = s.link ∧ t.evr = s.evr ∧ t.period = s.period ∧
    { t with reg := s.reg, out := s.out, lanes := s.lanes, ct := s.ct, cp := s.cp, cpB := s.cpB, evr := s.evr, loam := s.loam, strata := s.strata, eng := s.eng, freeCtr := s.freeCtr }
    = s) ∧
  (∀ (s : State) (lane : Fin 128) (b : BurstObs) (x : BurstRx), s.regsWf → s.isHub = true → s.clodsUp = true → s.fld (LNK.PRBS_CTRL.MODE.at (lnkOff
    lane.val)) ≠ 1 → s.fld (LNK.CTRL.LOOPBACK.at (lnkOff lane.val)) ≠ 1 → s.fld (LNK.CTRL.LOOPBACK.at (lnkOff lane.val)) ≠ 2 → windowed
    (announceWindow (s.fld CLT.DREF.D_REF)).1 (announceWindow (s.fld CLT.DREF.D_REF)).2 b = [x] → rxData x = true → burstCrcOk (rxPayload x) = true →
    bitsAt (rxPayload x) 0 4 = 2 → cycleRange s lane.val = true → s.link.cut = false → ∃ t, exec (.burstReceived lane 32 b) s = .next t ∧ t.lanes =
    (s.setLane lane.val { s.lane lane.val with ann := (t.lane lane.val).ann }).lanes ∧ (t.lane lane.val).ann.map (fun (a : Announce) => (a.uid,
    a.delta)) = some (bitsAt (rxPayload x) 32 64, 96 - x.at_) ∧ t.fld (CLT.ANN_CNT.COUNT.at (cltOff lane.val)) = min (s.fld (CLT.ANN_CNT.COUNT.at
    (cltOff lane.val)) + 1) 4294967295 ∧ t.flag (LNK.STAT.SD.at (lnkOff lane.val)) = (b.sd || (s.flag (LNK.CTRL.SD_PIN_EN.at (lnkOff lane.val)) &&
    b.lsd)) ∧ t.flag (LNK.STAT.CDR_LOCK.at (lnkOff lane.val)) = b.rx.any (fun (x : BurstRx) => delimOk x.delim.toNat) ∧ FieldsKept
    [(LNK.STAT.CDR_LOCK.at (lnkOff lane.val)), (LNK.STAT.SD.at (lnkOff lane.val)), (CLT.ANN_CNT.COUNT.at (cltOff lane.val))] s t ∧
    { t with reg := s.reg, out := s.out, lanes := s.lanes } = s) ∧
  (∀ (s : State) (lane : Fin 128) (b : BurstObs) (x y : BurstRx) (more : List BurstRx), s.regsWf → s.isHub = true → s.clodsUp = true → s.fld
    (LNK.PRBS_CTRL.MODE.at (lnkOff lane.val)) ≠ 1 → s.fld (LNK.CTRL.LOOPBACK.at (lnkOff lane.val)) ≠ 1 → s.fld (LNK.CTRL.LOOPBACK.at (lnkOff
    lane.val)) ≠ 2 → windowed (announceWindow (s.fld CLT.DREF.D_REF)).1 (announceWindow (s.fld CLT.DREF.D_REF)).2 b = x :: y :: more → rxData x = true
    → cycleRange s lane.val = true → s.link.cut = false → ∃ t, exec (.burstReceived lane 32 b) s = .next t ∧ t.flag (CLT.LEVT.COLLISION.at (cltOff
    lane.val)) = true ∧ t.fld (CLT.COLL_CNT.COUNT.at (cltOff lane.val)) = min (s.fld (CLT.COLL_CNT.COUNT.at (cltOff lane.val)) + 1) 4294967295 ∧
    t.lanes = s.lanes ∧ t.flag (LNK.STAT.SD.at (lnkOff lane.val)) = (b.sd || (s.flag (LNK.CTRL.SD_PIN_EN.at (lnkOff lane.val)) && b.lsd)) ∧ t.flag
    (LNK.STAT.CDR_LOCK.at (lnkOff lane.val)) = b.rx.any (fun (x : BurstRx) => delimOk x.delim.toNat) ∧ FieldsKept [(LNK.STAT.CDR_LOCK.at (lnkOff
    lane.val)), (LNK.STAT.SD.at (lnkOff lane.val)), (CLT.COLL_CNT.COUNT.at (cltOff lane.val)), (CLT.LEVT.COLLISION.at (cltOff lane.val))] s t ∧
    { t with reg := s.reg, out := s.out } = s) ∧
  (∀ (s : State) (a : Nat), s.regsWf → s.link.nextAt = some a → ∃ t, exec (.upstreamCycleBoundary) s = .next t ∧ t.link =
    { s.link with nextAt := some (a + 2000), nextN := s.link.nextN + 1, cut := false, lastAt := a } ∧ t.fld CLT.UCNT.UCNT = s.link.nextN % 2 ^ 32 ∧ (∀
    l : Fin 128, ∀ k : Fin 32, ((s.lane l).slot k).own = .held → ((s.lane l).slot k).releasing = false → ((t.lane l).slot k).own = .joining) ∧ (∀ l :
    Fin 128, ∀ k : Fin 32, ((s.lane l).slot k).releasing = true → ((t.lane l).slot k).own = .free ∧ ((t.lane l).slot k).quar.isSome = true) ∧
    { t with reg := s.reg, out := s.out, link := s.link, lanes := s.lanes, cp := s.cp, cpB := s.cpB, ct := s.ct } = s) ∧
  (∀ (s : State), s.regsWf → s.link.nextAt = none → ∃ t, exec (.upstreamCycleBoundary) s = .next t ∧ { t with out := s.out } = s)

/-- An announcement of an unknown UID is refused with reason 0x01 into the refusal log and a REFUSE message that carries the code, the behaviour level, the compatibility range and the lane's level; one held back by nothing is given its slot and a RANGE_ADMIT with its index, slot, level, delay, Δ, behaviour level and JOIN_CYC. A joining cell not confirmed in JOIN_CYC cycles is refused (logged as well: log 69) and freed; RELEASE_MISS missing bursts, and a RELEASE command, mark the slot for release; Q cycles end its quarantine. A mean arrival offset beyond ±8 UI over 256 bursts, to either side, sends TIMING_ADJ with the negated mean. A slot whose release is decided counts as no cell (log 63). The mailbox sends and ends by its timeout (log 68). LEVEL changes only on a lane with no cell; DREF only with none anywhere. -/
def Obligations.AdmissionAndReleaseRunTheSlots : Prop :=
  (∀ (s : State) (lane : Fin 128) (a : Announce), s.regsWf → (s.lane lane.val).ann = some a → (usedEntries s).find? (fun (u : Nat × CtEntry) =>
    u.2.cfg.uid == a.uid) = none → ∃ t, exec (.admissionDecide lane) s = .next t ∧ (t.lane lane.val).ann = none ∧ t.flag (CLT.LEVT.REFUSED.at (cltOff
    lane.val)) = true ∧ (s.link.reflog.length < 16 → t.link =
    { s.link with reflog := s.link.reflog ++ [{ lane := lane.val, reason := 0x01, offer := a.offer, beh := a.beh, uid := a.uid }] }) ∧ (16 ≤
    s.link.reflog.length → t.flag CLT.REFLOG_INFO.OVF = true ∧ t.link =
    { s.link with reflog := (s.link.reflog ++ [({ lane := lane.val, reason := 0x01, offer := a.offer, beh := a.beh, uid := a.uid } : Refused)]).drop 1 })
    ∧ (t.lane lane.val).slots = (s.lane lane.val).slots ∧ (t.lane lane.val).msgs = (s.lane lane.val).msgs ++
    [{ addr := 2, msg := 0x02, uid := a.uid, payload := [0x01, s.beh, s.fld IMG.INFO_LVL.COMPAT_MIN, s.fld IMG.INFO_LVL.COMPAT_MAX, laneLevel s lane.val].map (BitVec.ofNat 8) }]
    ∧ FieldsKept [(CLT.LEVT.REFUSED.at (cltOff lane.val)), CLT.REFLOG_INFO.OVF, STR.LOST.DROPPED] s t ∧
    { t with reg := s.reg, out := s.out, lanes := s.lanes, link := s.link, strata := s.strata } = s) ∧
  (∀ (s : State) (lane : Fin 128) (a : Announce) (i : Nat) (e : CtEntry) (k : Nat), s.regsWf → (s.lane lane.val).ann = some a → (usedEntries s).find?
    (fun (u : Nat × CtEntry) => u.2.cfg.uid == a.uid) = some (i, e) → (admissionCheck (s.setLane lane.val { s.lane lane.val with ann := none })
    lane.val e (entryBusy (s.setLane lane.val { s.lane lane.val with ann := none }) i) a (roundHA (8 * a.delta) 165)).toOption = some none →
    chooseSlot (s.setLane lane.val { s.lane lane.val with ann := none }) lane.val e = some k → ∃ t, exec (.admissionDecide lane) s = .next t ∧ (t.lane
    lane.val).ann = none ∧ ((t.lane lane.val).slot k).own = .held ∧ ((t.lane lane.val).slot k).cell = i ∧ ((t.lane lane.val).slot k).joinCyc = max 2
    (s.fld CLT.GCFG.JOIN_CYC) ∧ (t.lane lane.val).msgs = (s.lane lane.val).msgs ++
    [{ addr := 2, msg := 0x01, uid := a.uid, payload := leBytes 2 i ++ leBytes 1 k ++ leBytes 1 (laneLevel s lane.val) ++ leBytes 2 (roundHA (8 * a.delta) 165).toNat ++ leBytes 4 (unsignedOf 32 a.delta) ++ leBytes 1 s.beh ++ leBytes 1 0 ++ leBytes 1 (max 2 (s.fld CLT.GCFG.JOIN_CYC)) }]
    ∧ FieldsKept [] s t ∧ { t with reg := s.reg, out := s.out, lanes := s.lanes, ct := s.ct } = s) ∧
  (∀ (s : State) (lane : Fin 128) (slot : Fin 32), s.regsWf → ((s.lane lane.val).slot slot.val).own = .joining → ((s.lane lane.val).slot
    slot.val).releasing = false → ((s.lane lane.val).slot slot.val).joinCyc ≤ ((s.lane lane.val).slot slot.val).joined → ∃ t, exec (.joinTimeout lane
    slot) s = .next t ∧ ((t.lane lane.val).slot slot.val).releasing = true ∧ t.flag (CLT.LEVT.REFUSED.at (cltOff lane.val)) = true ∧
    t.link.reflog.getLast?.map (fun (r : Refused) => (r.lane, r.reason)) = some (lane.val, if ((s.lane lane.val).slot slot.val).heardOutside &&
    !((s.lane lane.val).slot slot.val).heardInside then 0x0C else 0x0B) ∧ t.loam = { s.loam with heldReports := t.loam.heldReports } ∧ FieldsKept
    [(CLT.LEVT.REFUSED.at (cltOff lane.val)), CLT.REFLOG_INFO.OVF, STR.LOST.DROPPED] s t ∧
    { t with reg := s.reg, out := s.out, lanes := s.lanes, link := s.link, cp := s.cp, cpB := s.cpB, ct := s.ct, strata := s.strata, loam := s.loam }
    = s) ∧
  (∀ (s : State) (lane : Fin 128) (slot : Fin 32), s.regsWf → ((s.lane lane.val).slot slot.val).own = .admitted → max 8 (s.fld
    (CLT.LCTRL.RELEASE_MISS.at (cltOff lane.val))) ≤ ((s.lane lane.val).slot slot.val).missed → ∃ t, exec (.releaseMiss lane slot) s = .next t ∧
    ((t.lane lane.val).slot slot.val).releasing = true ∧ (((s.lane lane.val).slot slot.val).releasing = false → t.flag (CLT.LEVT.RELEASED.at (cltOff
    lane.val)) = true ∧ (t.lane lane.val).msgs = (s.lane lane.val).msgs ++ [{ addr := 1, slot := slot.val, msg := 0x03, payload := [0x0D#8] }]) ∧
    t.loam = { s.loam with heldReports := t.loam.heldReports } ∧ FieldsKept [(CLT.LEVT.RELEASED.at (cltOff lane.val)), STR.LOST.DROPPED] s t ∧
    { t with reg := s.reg, out := s.out, lanes := s.lanes, cp := s.cp, cpB := s.cpB, ct := s.ct, strata := s.strata, loam := s.loam } = s) ∧
  (∀ (s : State) (p : Path) (lane : Fin 128) (w : W32), s.regsWf → Reaches p (CLT.LCTRL.addr + cltOff lane.val) s → s.isCell = false → dsState s
    lane.val = dsRun → s.flag (LNK.CTRL.DS_EN.at (lnkOff lane.val)) = true → s.flag (LNK.CTRL.DS_SLEEP.at (lnkOff lane.val)) = false → bitAt w.toNat 0
    = s.flag (CLT.LCTRL.LEVEL.at (cltOff lane.val)) → ((s.lane lane.val).slot (s.fld (CLT.LREL.RELEASE_SLOT.at (cltOff lane.val)))).own = .admitted →
    ∃ t, exec (.laneRelease p lane w) s = .next t ∧ ((t.lane lane.val).slot (s.fld (CLT.LREL.RELEASE_SLOT.at (cltOff lane.val)))).releasing = true ∧
    (∀ l, l ≠ lane.val → t.lane l = s.lane l) ∧ t.loam = { s.loam with heldReports := t.loam.heldReports } ∧ t.out = (laneTo lane.val (blockNow 0 s)
    s.fresh).out ∧ FieldsKept [⟨CLT.LCTRL.addr + cltOff lane.val, 0, 32⟩, (LNK.STAT.DS_STATE.at (lnkOff lane.val)), (CLT.LEVT.RELEASED.at (cltOff
    lane.val)), STR.LOST.DROPPED, (LNK.PRBS_ERR.ERR.at (lnkOff lane.val))] s t ∧
    { t with reg := s.reg, out := s.out, lanes := s.lanes, cp := s.cp, cpB := s.cpB, ct := s.ct, strata := s.strata, loam := s.loam } = s) ∧
  (∀ (s : State) (lane : Fin 128) (slot : Fin 32), s.regsWf → ((s.lane lane.val).slot slot.val).quar = some 0 → ∃ t, exec (.quarantineEnd lane slot) s
    = .next t ∧ t.lanes = (s.setLane lane.val ((s.lane lane.val).setSlot slot.val { (s.lane lane.val).slot slot.val with quar := none })).lanes ∧
    { t with out := s.out, lanes := s.lanes } = s) ∧
  (∀ (s : State) (lane : Fin 128) (slot : Fin 32), s.regsWf → ((s.lane lane.val).slot slot.val).own = .admitted → ((s.lane lane.val).slot
    slot.val).releasing = false → ((s.lane lane.val).slot slot.val).offCnt = 256 → (2048 < ((s.lane lane.val).slot slot.val).offSum ∨ ((s.lane
    lane.val).slot slot.val).offSum < -2048) → ∃ t, exec (.timingAdjTrigger lane slot) s = .next t ∧ (t.lane lane.val).msgs = (s.lane lane.val).msgs
    ++ [{ addr := 1, slot := slot.val, msg := 0x04, payload := leBytes 4 (unsignedOf 32 (-(roundHA ((s.lane lane.val).slot slot.val).offSum 256))) }]
    ∧ ((t.lane lane.val).slot slot.val).offCnt = 0 ∧ { t with out := s.out, lanes := s.lanes } = s) ∧
  (∀ (s : State) (p : Path) (lane : Fin 128) (w : W32) (dt : Nat), s.regsWf → Reaches p (CLT.LCTRL.addr + cltOff lane.val) s → s.isCell = false →
    dsState s lane.val = dsRun → s.flag (LNK.CTRL.DS_EN.at (lnkOff lane.val)) = true → s.flag (LNK.CTRL.DS_SLEEP.at (lnkOff lane.val)) = false → bitAt
    w.toNat 0 = s.flag (CLT.LCTRL.LEVEL.at (cltOff lane.val)) → bitAt w.toNat 4 = false → ∃ t, exec (.admOpenWrite p lane w dt) s = .next t ∧ admOpen
    t lane.val = bitAt w.toNat 2 ∧ t.lanes = (laneTo lane.val (blockNow dt s) s.fresh).lanes ∧ t.out = (laneTo lane.val (blockNow dt s) s.fresh).out ∧
    FieldsKept [⟨CLT.LCTRL.addr + cltOff lane.val, 0, 32⟩, (LNK.STAT.DS_STATE.at (lnkOff lane.val)), (LNK.PRBS_ERR.ERR.at (lnkOff lane.val))] s t ∧
    { t with reg := s.reg, out := s.out, lanes := s.lanes } = s) ∧
  (∀ (s : State) (p : Path) (lane : Fin 128) (w : W32), s.regsWf → Reaches p (CLT.LCTRL.addr + cltOff lane.val) s → s.isCell = false → laneBusy s
    lane.val = false → dsState s lane.val = dsOff → s.flag (LNK.CTRL.DS_EN.at (lnkOff lane.val)) = false → bitAt w.toNat 4 = false → ∃ t, exec
    (.laneLevelWrite p lane w) s = .next t ∧ t.flag (CLT.LCTRL.LEVEL.at (cltOff lane.val)) = bitAt w.toNat 0 ∧ t.out = [] ∧ FieldsKept
    [⟨CLT.LCTRL.addr + cltOff lane.val, 0, 32⟩, (LNK.STAT.DS_STATE.at (lnkOff lane.val))] s t ∧ { t with reg := s.reg, out := s.out } = s) ∧
  (∀ (s : State) (p : Path) (w : W32), s.regsWf → Reaches p CLT.DREF.addr s → s.isCell = false → anyBusy s = false → ∃ t, exec (.cltDrefWrite p w) s =
    .next t ∧ t.fld CLT.DREF.D_REF = w.toNat % 2048 ∧ t.link = { s.link with anchorDue := true } ∧ t.out = [] ∧ FieldsKept [⟨CLT.DREF.addr, 0, 32⟩] s
    t ∧ { t with reg := s.reg, out := s.out, link := s.link } = s) ∧
  (∀ (s : State) (p : Path), s.regsWf → Reaches p CLT.REFLOG_POP.addr s → s.isCell = false → ∃ t, exec (.reflogPop p) s = .next t ∧ t.link =
    { s.link with reflog := s.link.reflog.drop 1 } ∧ t.out = [] ∧ FieldsKept [] s t ∧ { t with reg := s.reg, out := s.out, link := s.link } = s) ∧
  (∀ (s : State) (p : Path) (lane : Fin 128) (w : W32), s.regsWf → Reaches p (CLT.MCTRL.addr + cltOff lane.val) s → s.isCell = false → (s.fld
    (CLT.MSTAT.STATE.at (cltOff lane.val)) = 0 ∨ s.fld (CLT.MSTAT.STATE.at (cltOff lane.val)) = 3) → s.flag (CLT.LCTRL.MGMT_EN.at (cltOff lane.val)) =
    true → ∃ t, exec (.mailboxSend p lane w) s = .next t ∧ t.fld (CLT.MSTAT.STATE.at (cltOff lane.val)) = 1 ∧ t.fld (CLT.MSTAT.TRIES.at (cltOff
    lane.val)) = 0 ∧ t.out = [] ∧ FieldsKept [(CLT.MSTAT.STATE.at (cltOff lane.val)), (CLT.MSTAT.TRIES.at (cltOff lane.val))] s t ∧
    { t with reg := s.reg, out := s.out } = s) ∧
  (∀ (s : State) (lane : Fin 128), s.regsWf → s.fld (CLT.MSTAT.STATE.at (cltOff lane.val)) = 2 → max 2 (s.fld CLT.GCFG.MGMT_TO) ≤ (s.lane
    lane.val).mbWait → s.fld CLT.GCFG.MGMT_RETRY < s.fld (CLT.MSTAT.TRIES.at (cltOff lane.val)) → ∃ t, exec (.mgmtTimeout lane) s = .next t ∧ t.fld
    (CLT.MSTAT.STATE.at (cltOff lane.val)) = 3 ∧ t.fld (CLT.MSTAT.RESULT.at (cltOff lane.val)) = 1 ∧ t.flag (CLT.LEVT.MGMT_TIMEOUT.at (cltOff
    lane.val)) = true ∧ FieldsKept [(CLT.MSTAT.STATE.at (cltOff lane.val)), (CLT.MSTAT.RESULT.at (cltOff lane.val)), (CLT.LEVT.MGMT_TIMEOUT.at (cltOff
    lane.val))] s t ∧ { t with reg := s.reg, out := s.out } = s)

/-- With no step due, a boundary of a running hub adds one to the period counter and the control period (with its correction) to the time of the boundary, puts the accepted PERIOD_CFG in force and, outside a restore, takes every write that waited (log 104; no step due: logs 37 and 140; the step's period itself is measured by R43). It leaves the straps, the supply, the islands, the station, the MRAM and the queue alone. In 1PPS mode 1,024 periods within 2 ns lock; the first lock in PTP mode also loads the counter. Lost PTP lock enters holdover, with no correction (logs 37, 140). -/
def Obligations.EveryBoundaryAdvancesTheTimeline : Prop :=
  (∀ (s : State) (ref : Nat) (conv : List (List Int)) (ops : List (Fin 6)), s.regsWf → s.hubUp = true → s.period.corrNext.natAbs ≤ 1 → ∃ t, exec
    (.periodBoundary ref conv ops) s = .next t ∧ t.period.pcnt = (s.period.pcnt + 1) % 2 ^ 48 ∧ t.period.nomNs = s.period.nomNs + tcNs s.tc ∧
    t.period.timeNs = ((s.period.timeNs : Int) + tcNs s.tc + s.period.corrNext).toNat ∧ t.period.cfg = BitVec.ofNat 32 (s.rd SYS.PERIOD_CFG.addr) ∧
    (s.loam.restoring = false → t.eng.boundWrites = []) ∧ t.strata.mram = s.strata.mram ∧
    { t with reg := s.reg, out := s.out, period := s.period, link := s.link, cp := s.cp, cpB := s.cpB, ct := s.ct, lanes := s.lanes, eng := s.eng, loam := s.loam, acq := s.acq, strata := s.strata, evr := s.evr, pwm := s.pwm, freeCtr := s.freeCtr }
    = s) ∧
  (∀ (s : State) (ptp : Nat), s.regsWf → s.hubUp = true → disciplined s = true → 1024 ≤ s.period.lockRun → s.flag SYS.ALIGN_STAT.LOCKED = false →
    syncMode s = 2 → ∃ t, exec (.alignLocked ptp) s = .next t ∧ t.flag SYS.ALIGN_STAT.LOCKED = true ∧ FieldsKept [SYS.ALIGN_STAT.LOCKED] s t ∧
    { t with reg := s.reg, out := s.out } = s) ∧
  (∀ (s : State) (ptp : Nat), s.regsWf → s.hubUp = true → disciplined s = true → 1024 ≤ s.period.lockRun → s.flag SYS.ALIGN_STAT.LOCKED = false →
    syncMode s = 1 → s.period.ptpLoaded = false → ∃ t, exec (.alignLocked ptp) s = .next t ∧ t.flag SYS.ALIGN_STAT.LOCKED = true ∧ t.period =
    { s.period with pcnt := alignCount s ptp % 2 ^ 48, ptpLoaded := true } ∧ FieldsKept [SYS.ALIGN_STAT.LOCKED] s t ∧
    { t with reg := s.reg, out := s.out, period := s.period } = s) ∧
  (∀ (s : State), s.regsWf → s.hubUp = true → syncMode s = 1 → s.flag ETH.PTP_STAT.LOCKED = false → s.flag SYS.ALIGN_STAT.HOLDOVER = false → ∃ t, exec
    (.holdoverEnter) s = .next t ∧ t.flag SYS.ALIGN_STAT.HOLDOVER = true ∧ t.flag SYS.ALIGN_STAT.LOCKED = false ∧ t.flag SYS.ALIGN_FLAG.HOLDOVER_SEEN
    = true ∧ t.period = { s.period with lockRun := 0, corrNext := 0 } ∧ FieldsKept [SYS.ALIGN_STAT.HOLDOVER, SYS.ALIGN_STAT.LOCKED,
    SYS.ALIGN_FLAG.HOLDOVER_SEEN] s t ∧ { t with reg := s.reg, out := s.out, period := s.period } = s)

/-- A queued rank operation takes effect on its arm's array (of copy A; the pair stands as copy A while it is locked: log 13). A refresh countdown in its last period, with REFRESH_DUE set, makes the cell must-bypass and counts; a recharge that has lasted MAX_PER × 1,024 periods is abandoned with RECH_FAIL. CARRY_CLR, RECH_CLR and RSNAP.TAKE wait for the next boundary (log 104), which clears the carries of all arms, ends exclusion 0x52 of the arm's cells and copies the snapshot of the arm's array into the buffer. A statistics window of 2^STAT_EXP periods that is over writes the count of each arm, modulo 2^32, and starts again from zero (log 108). -/
def Obligations.GradingQueuesCountdownsAndClears : Prop :=
  (∀ (s : State) (a : Fin 6) (op : RankOp) (q : List RankOp), s.regsWf → (s.cp.arm a.val).queue = op :: q → ∃ t, exec (.rankQueueOp a) s = .next t ∧
    t.cp = opVoltage (s.cp.setArm a.val { s.cp.arm a.val with rank := rankApply (s.cp.arm a.val).rank op, queue := q }) op ∧ (s.cpB = none → t.loam =
    s.loam) ∧ FieldsKept [GRD.ARM_WMIN.WMIN.at (armOff a.val), GRD.ARM_WMAX.WMAX.at (armOff a.val)] s t ∧
    { t with reg := s.reg, out := s.out, cp := s.cp, cpB := s.cpB, loam := s.loam } = s) ∧
  (∀ (s : State) (cell : Fin 4096) (n : Nat), s.regsWf → (s.cp.grade cell.val).refresh = .pending n → n ≤ 1 → (s.cp.grade cell.val).refreshDue = true
    → ∃ t, exec (.refreshCountdownEnd cell) s = .next t ∧ (t.cp.grade cell.val).refresh = .mustBypass ∧ t.fld (GRD.ARM_REFRESHES.COUNT.at (armOff
    (s.entry cell.val).cfg.arm)) = min (s.fld (GRD.ARM_REFRESHES.COUNT.at (armOff (s.entry cell.val).cfg.arm)) + 1) (2 ^ 32 - 1) ∧ (s.cpB = none →
    t.loam = s.loam) ∧ FieldsKept [GRD.ARM_REFRESHES.COUNT.at (armOff (s.entry cell.val).cfg.arm)] s t ∧
    { t with reg := s.reg, out := s.out, cp := s.cp, cpB := s.cpB, ct := s.ct, loam := s.loam } = s) ∧
  (∀ (s : State) (cell : Fin 4096), s.regsWf → refreshLeft (s.cp.grade cell.val) = none → ∃ t, exec (.refreshCountdownEnd cell) s = .next t ∧ t = s ∧
    { t with out := s.out } = s) ∧
  (∀ (s : State) (cell : Fin 4096) (n : Nat), s.regsWf → (s.cp.grade cell.val).recharge = some n → s.fld (GRD.ARM_RECH.MAX_PER.at (armOff (s.entry
    cell.val).cfg.arm)) * 1024 ≤ n + 1 → ∃ t, exec (.rechargeTimeout cell) s = .next t ∧ (t.cp.grade cell.val).recharge = none ∧ (t.cp.grade
    cell.val).abandoned = true ∧ t.flag (GRD.ARM_EVT.RECH_FAIL.at (armOff (s.entry cell.val).cfg.arm)) = true ∧ (s.cpB = none → t.loam = s.loam) ∧
    FieldsKept [GRD.ARM_EVT.RECH_FAIL.at (armOff (s.entry cell.val).cfg.arm)] s t ∧
    { t with reg := s.reg, out := s.out, cp := s.cp, cpB := s.cpB, ct := s.ct, loam := s.loam } = s) ∧
  (∀ (s : State) (p : Path), s.regsWf → Reaches p MOD.CTRL.addr s → s.isCell = false → ∃ t, exec (.carryClr p) s = .next t ∧ t.eng =
    { s.eng with boundWrites := s.eng.boundWrites ++ [(MOD.CTRL.addr, 1)] } ∧ t.out = [] ∧ { t with out := s.out, eng := s.eng } = s) ∧
  (∀ (s : State) (p : Path) (a : Fin 6), s.regsWf → Reaches p (GRD.ARM_RECH_CLR.addr + 0x80 * a.val) s → s.isCell = false → ∃ t, exec (.armRechClr p
    a) s = .next t ∧ t.eng = { s.eng with boundWrites := s.eng.boundWrites ++ [(GRD.ARM_RECH_CLR.addr + 0x80 * a.val, 1)] } ∧ t.out = [] ∧
    { t with out := s.out, eng := s.eng } = s) ∧
  (∀ (s : State) (p : Path) (arm : Fin 8), s.regsWf → Reaches p GRD.RSNAP.addr s → s.isCell = false → ∃ t, exec (.rsnapTake p arm) s = .next t ∧ t.eng
    = { s.eng with boundWrites := s.eng.boundWrites ++ [(GRD.RSNAP.addr, 8 + arm.val)] } ∧ t.out = [] ∧ { t with out := s.out, eng := s.eng } = s) ∧
  (∀ (s : State), s.eng.boundWrites = [(MOD.CTRL.addr, 1)] → s.loam.heldWrites = [] → tabWf noArm s.cp.arms = true → (∀ a, ((takeWrites s).cp.arm
    a).carry = 0 ∧ ((takeWrites s).cp.arm a).rank = (s.cp.arm a).rank) ∧ (takeWrites s).eng.boundWrites = []) ∧
  (∀ (s : State) (a : Fin 6), s.regsWf → s.eng.boundWrites = [(GRD.ARM_RECH_CLR.addr + 0x80 * a.val, 1)] → s.loam.heldWrites = [] → s.cpB = none → ∀ u
    ∈ usedEntries s, u.2.cfg.arm = a.val → ((takeWrites s).cp.grade u.1).abandoned = false) ∧
  (∀ (s : State) (a : Fin 6), s.regsWf → s.eng.boundWrites = [(GRD.RSNAP.addr, 8 + a.val)] → s.loam.heldWrites = [] → s.cpB = none → s.flag
    GRD.RSNAP_STAT.BUSY = false → (s.cp.arm a.val).rank.length ≤ 1024 → (takeRsnap (takeWrites s)).flag GRD.RSNAP_STAT.DONE = true ∧ (takeRsnap
    (takeWrites s)).flag GRD.RSNAP_STAT.BUSY = false ∧ (takeRsnap (takeWrites s)).fld GRD.RSNAP_STAT.COUNT = (s.cp.arm a.val).rank.length ∧ (takeRsnap
    (takeWrites s)).eng.rsnap.length = 2 * (s.cp.arm a.val).rank.length ∧ (takeRsnap (takeWrites s)).cp = s.cp) ∧
  (∀ (s : State), s.regsWf → s.hubUp = true → 2 ^ statExp s ≤ s.eng.statCnt → s.cpB = none → tabWf noArm s.cp.arms = true → ∃ t, exec (.statWindowEnd)
    s = .next t ∧ t.eng = { s.eng with statCnt := 0 } ∧ (∀ a, a < 6 → t.fld (GRD.ARM_SWCNT.COUNT.at (armOff a)) = (s.cp.arm a).switches % 2 ^ 32 ∧
    (t.cp.arm a).switches = 0) ∧ (∀ x, x < 0xF0000 → t.rd x = s.rd x) ∧ t.cp = { s.cp with arms := t.cp.arms } ∧
    { t with reg := s.reg, out := s.out, cp := s.cp, eng := s.eng } = s)

/-- With no commit pending, no hand-over accepted and the pair locked, a complete write to a constant word or to a parameter word of a tile that belongs to no macro reaches the pending bank of the control copies and marks it dirty (of copy B alone while split; during a restore it waits in the entry FIFO); FUN does the same for a macro tile's parameter that keeps its fixed settings and its range, and records any other as an access error; N of a tracker's tile 1 also goes to its tile 4, whose own N keeps its value: another is an access error. A PCOMMIT.GO whose gains are fit makes a commit pending, at the named boundary with AT_PCNT; one whose gains are not is refused with REJ (logs 105 and 106). At its boundary a commit without a time and with no outer tile dirty transfers the constants and the parameters of the dirty inner tiles to the active bank, clears their dirty marks and PEND and records the count; one whose gains are no longer fit is refused there and transfers nothing; one named for another boundary waits. -/
def Obligations.BankWritesWaitForTheirCommit : Prop :=
  (∀ (s : State) (p : Path) (word : Fin 262144) (w : W32), s.regsWf → Reaches p (0x200000 + 4 * word.val) s → s.isCell = false → 0x400 ≤ word.val →
    word.val < 0x500 → s.flag CEN.PCOMMIT_STAT.PEND = false → s.loam.handover = none → s.loam.heldWrites = [] → lmpState s ≠ lmpRestoring → s.cpB =
    none → ∃ t, exec (.paramWrite p word 15 w) s = .next t ∧ t.cp = bankWrite (0x200000 + 4 * word.val) (w.toNat % 2 ^ 32) s.cp ∧ t.out = [] ∧
    { t with out := s.out, cp := s.cp } = s) ∧
  (∀ (s : State) (p : Path) (word : Fin 262144) (w : W32) (b : Copy), s.regsWf → Reaches p (0x200000 + 4 * word.val) s → s.isCell = false → 0x400 ≤
    word.val → word.val < 0x500 → s.flag CEN.PCOMMIT_STAT.PEND = false → s.loam.handover = none → s.loam.heldWrites = [] → lmpState s ≠ lmpRestoring →
    s.cpB = some b → ∃ t, exec (.paramWrite p word 15 w) s = .next t ∧ t.cpB = some (bankWrite (0x200000 + 4 * word.val) (w.toNat % 2 ^ 32) b) ∧ t.out
    = [] ∧ { t with out := s.out, cpB := s.cpB } = s) ∧
  (∀ (s : State) (p : Path) (word : Fin 262144) (w : W32), s.regsWf → Reaches p (0x200000 + 4 * word.val) s → s.isCell = false → 0x400 ≤ word.val →
    word.val < 0x500 → s.flag CEN.PCOMMIT_STAT.PEND = false → s.loam.handover = none → (lmpState s = lmpRestoring ∨ s.loam.heldWrites ≠ []) → ∃ t,
    exec (.paramWrite p word 15 w) s = .next t ∧ t.loam = { s.loam with heldWrites := s.loam.heldWrites ++ [((0x200000 + 4 * word.val), w.toNat)] } ∧
    t.out = [] ∧ { t with out := s.out, loam := s.loam } = s) ∧
  (∀ (s : State) (p : Path) (word : Fin 262144) (w : W32) (r : TileRec), s.regsWf → Reaches p (0x200000 + 4 * word.val) s → s.isCell = false → 0x4000
    ≤ word.val → word.val < 0x10000 → s.img.graph.tile? (tileOf (0x200000 + 4 * word.val)) = some r → bankedWord r (((0x200000 + 4 * word.val) -
    0x210000) % 0x800) = true → ((0x200000 + 4 * word.val) - 0x210000) % 0x800 ≠ 0 → s.img.graph.macroOf (tileOf (0x200000 + 4 * word.val)) = none →
    ((((0x200000 + 4 * word.val) - 0x210000) % 0x800 < 0x40 ∨ paramOk r.type ((((0x200000 + 4 * word.val) - 0x210000) % 0x800 - 0x40) / 4) w.toNat =
    true)) → s.flag CEN.PCOMMIT_STAT.PEND = false → s.loam.handover = none → s.loam.heldWrites = [] → lmpState s ≠ lmpRestoring → s.cpB = none → ∃ t,
    exec (.paramWrite p word 15 w) s = .next t ∧ t.cp = bankWrite (0x200000 + 4 * word.val) w.toNat s.cp ∧ t.out = [] ∧
    { t with out := s.out, cp := s.cp } = s) ∧
  (∀ (s : State) (p : Path) (tile : Fin 96) (off : Fin 512) (w : W32) (r : TileRec) (x : Nat × MacroRec), s.regsWf → Reaches p (0x308000 + 0x800 *
    tile.val + 4 * off.val) s → s.isCell = false → s.img.graph.tile? tile.val = some r → bankedWord r (4 * off.val) = true → 16 ≤ off.val →
    s.img.graph.macroOf tile.val = some x → refusedParam s.img.graph r tile.val (off.val - 16) w.toNat = false → ((off.val = 17 → trackerTwin
    s.img.graph tile.val = none ∧ trackerFollower s.img.graph tile.val = false)) → s.flag CEN.PCOMMIT_STAT.PEND = false → s.loam.handover = none →
    s.loam.heldWrites = [] → lmpState s ≠ lmpRestoring → s.cpB = none → ∃ t, exec (.funParamWrite p tile off w) s = .next t ∧ t.cp = bankWrite
    (tileAddr tile.val + 4 * off.val) w.toNat s.cp ∧ t.out = [] ∧ { t with out := s.out, cp := s.cp } = s) ∧
  (∀ (s : State) (p : Path) (tile : Fin 96) (off : Fin 512) (w : W32) (r : TileRec) (x : Nat × MacroRec) (u : Nat), s.regsWf → Reaches p (0x308000 +
    0x800 * tile.val + 4 * off.val) s → s.isCell = false → s.img.graph.tile? tile.val = some r → bankedWord r (4 * off.val) = true → 16 ≤ off.val →
    s.img.graph.macroOf tile.val = some x → off.val = 17 → refusedParam s.img.graph r tile.val 1 w.toNat = false → trackerFollower s.img.graph
    tile.val = false → trackerTwin s.img.graph tile.val = some u → s.flag CEN.PCOMMIT_STAT.PEND = false → s.loam.handover = none → s.loam.heldWrites =
    [] → lmpState s ≠ lmpRestoring → s.cpB = none → ∃ t, exec (.funParamWrite p tile off w) s = .next t ∧ t.cp = bankWrite (tileAddr u + 0x44) w.toNat
    (bankWrite (tileAddr tile.val + 0x44) w.toNat s.cp) ∧ t.out = [] ∧ { t with out := s.out, cp := s.cp } = s) ∧
  (∀ (s : State) (p : Path) (tile : Fin 96) (off : Fin 512) (w : W32) (r : TileRec) (x : Nat × MacroRec), s.regsWf → Reaches p (0x308000 + 0x800 *
    tile.val + 4 * off.val) s → s.isCell = false → s.img.graph.tile? tile.val = some r → bankedWord r (4 * off.val) = true → 16 ≤ off.val →
    s.img.graph.macroOf tile.val = some x → off.val = 17 → refusedParam s.img.graph r tile.val 1 w.toNat = false → trackerFollower s.img.graph
    tile.val = true → s.flag CEN.PCOMMIT_STAT.PEND = false → s.loam.handover = none → s.loam.heldWrites = [] → lmpState s ≠ lmpRestoring → s.cpB =
    none → (bankCopy s).banks.pend (tileAddr tile.val + 0x44) = w.toNat → ∃ t, exec (.funParamWrite p tile off w) s = .next t ∧ t.out = [] ∧
    { t with out := s.out } = s) ∧
  (∀ (s : State) (tile : Fin 96) (off : Fin 512) (w : W32) (r : TileRec) (x : Nat × MacroRec), s.regsWf → Reaches .pcie (0x308000 + 0x800 * tile.val +
    4 * off.val) s → s.isCell = false → s.img.graph.tile? tile.val = some r → bankedWord r (4 * off.val) = true → 16 ≤ off.val → s.img.graph.macroOf
    tile.val = some x → off.val = 17 → refusedParam s.img.graph r tile.val 1 w.toNat = false → trackerFollower s.img.graph tile.val = true → s.flag
    CEN.PCOMMIT_STAT.PEND = false → s.loam.handover = none → s.loam.heldWrites = [] → lmpState s ≠ lmpRestoring → s.cpB = none → (bankCopy
    s).banks.pend (tileAddr tile.val + 0x44) ≠ w.toNat → s.flag HST.AERR.VALID = false → ∃ t, exec (.funParamWrite .pcie tile off w) s = .next t ∧
    t.rd HST.AERR.addr = 2 ^ 31 + 6 ∧ t.rd HST.AERR_ADDR.addr = 0x308000 + 0x800 * tile.val + 4 * off.val ∧ t.out = [] ∧ FieldsKept [⟨HST.AERR.addr,
    0, 32⟩, ⟨HST.AERR_ADDR.addr, 0, 32⟩] s t ∧ { t with reg := s.reg, out := s.out } = s) ∧
  (∀ (s : State) (tile : Fin 96) (off : Fin 512) (w : W32) (r : TileRec) (x : Nat × MacroRec), s.regsWf → Reaches .pcie (0x308000 + 0x800 * tile.val +
    4 * off.val) s → s.isCell = false → s.img.graph.tile? tile.val = some r → bankedWord r (4 * off.val) = true → 16 ≤ off.val → s.img.graph.macroOf
    tile.val = some x → refusedParam s.img.graph r tile.val (off.val - 16) w.toNat = true → s.flag HST.AERR.VALID = false → ∃ t, exec (.funParamWrite
    .pcie tile off w) s = .next t ∧ t.rd HST.AERR.addr = 2 ^ 31 + 6 ∧ t.rd HST.AERR_ADDR.addr = 0x308000 + 0x800 * tile.val + 4 * off.val ∧ t.out = []
    ∧ FieldsKept [⟨HST.AERR.addr, 0, 32⟩, ⟨HST.AERR_ADDR.addr, 0, 32⟩] s t ∧ { t with reg := s.reg, out := s.out } = s) ∧
  (∀ (s : State) (p : Path) (align : Bool), s.regsWf → Reaches p CEN.PCOMMIT.addr s → s.isCell = false → s.flag CEN.PCOMMIT_STAT.PEND = false →
    gainsOk s.img.graph (committedPar (bankCopy s)) = true → ∃ t, exec (.pcommitGo p align) s = .next t ∧ t.flag CEN.PCOMMIT_STAT.PEND = true ∧ t.flag
    CEN.PCOMMIT_STAT.OUTER_PEND = onlyOuterDirty s.img.graph (bankCopy s).banks ∧ t.eng =
    { s.eng with commit := some { at_ := none, alignOuter := align } } ∧ t.out = [] ∧ FieldsKept [CEN.PCOMMIT_STAT.PEND, CEN.PCOMMIT_STAT.OUTER_PEND]
    s t ∧ { t with reg := s.reg, out := s.out, eng := s.eng } = s) ∧
  (∀ (s : State) (p : Path) (align : Bool), s.regsWf → Reaches p CEN.PCOMMIT.addr s → s.isCell = false → s.flag CEN.PCOMMIT_STAT.PEND = false →
    gainsOk s.img.graph (committedPar (bankCopy s)) = false → ∃ t, exec (.pcommitGo p align) s = .next t ∧ t.flag CEN.PCOMMIT_STAT.PEND = false ∧
    t.flag CEN.PCOMMIT_STAT.REJ = true ∧ t.cp = s.cp ∧ t.out = [] ∧ FieldsKept [CEN.PCOMMIT_STAT.PEND, CEN.PCOMMIT_STAT.OUTER_PEND,
    CEN.PCOMMIT_STAT.REJ] s t ∧ { t with reg := s.reg, out := s.out, eng := s.eng } = s) ∧
  (∀ (s : State) (p : Path) (align : Bool), s.regsWf → Reaches p CEN.PCOMMIT.addr s → s.isCell = false → s.flag CEN.PCOMMIT_STAT.PEND = false →
    gainsOk s.img.graph (committedPar (bankCopy s)) = true → 0 < ((s.fld CEN.PCOMMIT_PCNT.PCNT + 2 ^ 32 - s.period.pcnt % 2 ^ 32) % 2 ^ 32) → ((s.fld
    CEN.PCOMMIT_PCNT.PCNT + 2 ^ 32 - s.period.pcnt % 2 ^ 32) % 2 ^ 32) < 2 ^ 31 → ((align || dirtyTiles s.img.graph (bankCopy s).banks true != []) &&
    !outerDue s ((s.period.pcnt + ((s.fld CEN.PCOMMIT_PCNT.PCNT + 2 ^ 32 - s.period.pcnt % 2 ^ 32) % 2 ^ 32)) % 2 ^ 48)) = false → ∃ t, exec
    (.pcommitGoAtPcnt p align) s = .next t ∧ t.flag CEN.PCOMMIT_STAT.PEND = true ∧ t.flag CEN.PCOMMIT_STAT.OUTER_PEND = onlyOuterDirty s.img.graph
    (bankCopy s).banks ∧ t.eng = { s.eng with commit := some { at_ := some (s.fld CEN.PCOMMIT_PCNT.PCNT), alignOuter := align } } ∧ t.out = [] ∧
    FieldsKept [CEN.PCOMMIT_STAT.PEND, CEN.PCOMMIT_STAT.OUTER_PEND] s t ∧ { t with reg := s.reg, out := s.out, eng := s.eng } = s) ∧
  (∀ (s : State) (pcnt : Nat) (outer : Bool), s.regsWf → s.cpB = none → s.eng.commit = some { at_ := none, alignOuter := false } → gainsOk s.img.graph
    (committedPar s.cp) = true → dirtyTiles s.img.graph s.cp.banks true = [] → (commitBoundary pcnt outer s).flag CEN.PCOMMIT_STAT.PEND = false ∧
    (commitBoundary pcnt outer s).fld CEN.PCOMMIT_LAST.PCNT = pcnt % 2 ^ 32 ∧ (commitBoundary pcnt outer s).eng.commit = none ∧ (∀ k, k < 256 →
    (commitBoundary pcnt outer s).cp.banks.act (constAddr k) = s.cp.banks.pend (constAddr k)) ∧ (∀ r ∈ s.img.graph.tiles, r.outer = false → bitAt
    s.cp.banks.dirty r.tile = true → bitAt (commitBoundary pcnt outer s).cp.banks.dirty r.tile = false ∧ ∀ k, k < 259 → (commitBoundary pcnt outer
    s).cp.banks.par r.tile k = s.cp.banks.pend (paramAddr r.tile k))) ∧
  (∀ (s : State) (pcnt : Nat) (outer : Bool), s.regsWf → s.cpB = none → s.eng.commit = some { at_ := none, alignOuter := false } → gainsOk s.img.graph
    (committedPar s.cp) = false → (commitBoundary pcnt outer s).flag CEN.PCOMMIT_STAT.PEND = false ∧ (commitBoundary pcnt outer s).flag
    CEN.PCOMMIT_STAT.REJ = true ∧ (commitBoundary pcnt outer s).eng.commit = none ∧ (commitBoundary pcnt outer s).cp = s.cp) ∧
  (∀ (s : State) (pcnt n : Nat) (outer align : Bool), s.eng.commit = some { at_ := some n, alignOuter := align } → n ≠ pcnt % 2 ^ 32 → commitBoundary
    pcnt outer s = s)

/-- START and STOP are sampled for the next boundary (log 107): there a started source runs from PHASE0, an idle one gives 0, and a stopping sine source stops at its wrap. A source that has run its DUR stops. ARM arms the capture, ABORT makes it idle, FORCE triggers an armed one, and one with all its samples is done. A correlator whose reference runs a sine or sweep starts; its end gives twice the mean in I and Q, rounded half away from zero, the sample count and DONE. RELOCK, CLR, RESYNC and RESTART are sampled for their record; CLR clears the latch of its tile there and touches no other. An adder and a multiply-accumulate tile saturate; a PI tile keeps its output and, with CLAMP_I, its integrator between its limits; a rate limiter moves no further than RISE and FALL; a set latch stays until it is cleared. A grid synchroniser of 1,024 good samples locks. -/
def Obligations.InjectionCaptureAndCorrelationCommands : Prop :=
  (∀ (s : State) (p : Path) (k : Fin 4) (w : W32), s.regsWf → Reaches p (CEN.INJ_CTRL.addr + 0x40 * k.val) s → s.isCell = false → (s.cp.eng.inj_
    k.val).run = false → bitAt w.toNat 30 = false → ∃ t, exec (.injStart p k w) s = .next t ∧ t.eng =
    { s.eng with injStart := putBit s.eng.injStart k.val true } ∧ t.fld (CEN.INJ_CTRL.WAVE.at (injOff k.val)) = bitsAt w.toNat 25 2 ∧ t.out = [] ∧
    FieldsKept [⟨CEN.INJ_CTRL.addr + 0x40 * k.val, 0, 32⟩] s t ∧ { t with reg := s.reg, out := s.out, eng := s.eng } = s) ∧
  (∀ (s : State) (p : Path) (k : Fin 4) (w : W32), s.regsWf → Reaches p (CEN.INJ_CTRL.addr + 0x40 * k.val) s → s.isCell = false → s.rd
    (CEN.INJ_CTRL.addr + 0x40 * k.val) &&& 0x067F3000 = w.toNat &&& 0x067F3000 → bitAt w.toNat 29 = false → ∃ t, exec (.injStop p k w) s = .next t ∧
    t.eng = { s.eng with injStop := putBit s.eng.injStop k.val true } ∧ t.out = [] ∧ FieldsKept [⟨CEN.INJ_CTRL.addr + 0x40 * k.val, 0, 32⟩] s t ∧
    { t with reg := s.reg, out := s.out, eng := s.eng } = s) ∧
  (∀ (s : State) (k : Fin 4), s.regsWf → (s.cp.eng.inj_ k.val).run = true → s.fld (CEN.INJ_DUR.DUR.at (injOff k.val)) ≠ 0 → s.fld (CEN.INJ_DUR.DUR.at
    (injOff k.val)) ≤ (s.cp.eng.inj_ k.val).elapsed → ∃ t, exec (.injDurEnd k) s = .next t ∧ t.cp =
    { s.cp with eng := s.cp.eng.setInj k.val { s.cp.eng.inj_ k.val with stopping := true } } ∧ { t with out := s.out, cp := s.cp, cpB := s.cpB } = s) ∧
  (∀ (s : State) (p : Path) (w : W32), s.regsWf → Reaches p CEN.CAP_CTRL.addr s → s.isCell = false → bitsAt w.toNat 29 2 = 0 → ∃ t, exec (.capArm p w)
    s = .next t ∧ t.fld CEN.CAP_STAT.STATE = 1 ∧ t.eng = { s.eng with cap := { ring := s.eng.cap.ring, wr := s.eng.cap.wr, st := 1 } } ∧ t.fld
    CEN.CAP_CTRL.PRE = w.toNat % 8192 ∧ t.out = [] ∧ FieldsKept [CEN.CAP_CTRL.RATE, CEN.CAP_CTRL.DEC_EXP, CEN.CAP_CTRL.TRIG, CEN.CAP_CTRL.PRE,
    CEN.CAP_STAT.STATE] s t ∧ { t with reg := s.reg, out := s.out, eng := s.eng } = s) ∧
  (∀ (s : State) (p : Path) (w : W32), s.regsWf → Reaches p CEN.CAP_CTRL.addr s → s.isCell = false → bitAt w.toNat 31 = false → bitAt w.toNat 29 =
    false → ∃ t, exec (.capAbort p w) s = .next t ∧ t.fld CEN.CAP_STAT.STATE = 0 ∧ t.eng =
    { s.eng with cap := { s.eng.cap with st := 0, trig := false, left := 0 } } ∧ t.out = [] ∧ FieldsKept [CEN.CAP_CTRL.RATE, CEN.CAP_CTRL.DEC_EXP,
    CEN.CAP_CTRL.TRIG, CEN.CAP_CTRL.PRE, CEN.CAP_STAT.STATE] s t ∧ { t with reg := s.reg, out := s.out, eng := s.eng } = s) ∧
  (∀ (s : State) (p : Path) (w : W32), s.regsWf → Reaches p CEN.CAP_CTRL.addr s → s.isCell = false → bitsAt w.toNat 30 2 = 0 → s.eng.cap.st = 1 → ∃ t,
    exec (.capForce p w) s = .next t ∧ t.eng = { s.eng with cap := { s.eng.cap with trig := true } } ∧ t.out = [] ∧ FieldsKept [CEN.CAP_CTRL.RATE,
    CEN.CAP_CTRL.DEC_EXP, CEN.CAP_CTRL.TRIG, CEN.CAP_CTRL.PRE] s t ∧ { t with reg := s.reg, out := s.out, eng := s.eng } = s) ∧
  (∀ (s : State), s.regsWf → s.eng.cap.st = 2 → s.eng.cap.left = 0 → ∃ t, exec (.captureDone) s = .next t ∧ t.fld CEN.CAP_STAT.STATE = 3 ∧ t.eng =
    { s.eng with cap := { s.eng.cap with st := 3 } } ∧ FieldsKept [CEN.CAP_STAT.STATE] s t ∧ { t with reg := s.reg, out := s.out, eng := s.eng } = s) ∧
  (∀ (s : State) (p : Path) (c : Fin 4) (w : W32), s.regsWf → Reaches p (CEN.CORR_CTRL.addr + 0x40 * c.val) s → s.isCell = false → (s.cp.eng.inj_
    (bitsAt w.toNat 24 2)).run = true → s.fld (CEN.INJ_CTRL.WAVE.at (injOff (bitsAt w.toNat 24 2))) < 2 → ∃ t, exec (.corrStart p c w) s = .next t ∧
    t.flag (CEN.CORR_CTRL.BUSY.at (injOff c.val)) = true ∧ t.eng = s.eng.setCorr c.val { st := 1 } ∧ t.out = [] ∧ FieldsKept [⟨CEN.CORR_CTRL.addr +
    0x40 * c.val, 0, 32⟩] s t ∧ { t with reg := s.reg, out := s.out, eng := s.eng } = s) ∧
  (∀ (s : State) (c : Fin 4), s.regsWf → (s.eng.corr_ c.val).st = 3 → (s.eng.corr_ c.val).n ≠ 0 → (s.eng.corr_ c.val).n < 2 ^ 32 → ∃ t, exec
    (.corrDone c) s = .next t ∧ t.eng = s.eng.setCorr c.val {} ∧ t.fld (CEN.CORR_I.I.at (injOff c.val)) = unsignedOf 32 (satS 32 (roundHA (2 *
    (s.eng.corr_ c.val).s) (s.eng.corr_ c.val).n)) ∧ t.fld (CEN.CORR_Q.Q.at (injOff c.val)) = unsignedOf 32 (satS 32 (roundHA (2 * (s.eng.corr_
    c.val).c) (s.eng.corr_ c.val).n)) ∧ t.fld (CEN.CORR_N.N.at (injOff c.val)) = (s.eng.corr_ c.val).n ∧ t.flag (CEN.CORR_CTRL.DONE.at (injOff c.val))
    = true ∧ t.flag (CEN.CORR_CTRL.BUSY.at (injOff c.val)) = false ∧ FieldsKept [(CEN.CORR_I.I.at (injOff c.val)), (CEN.CORR_Q.Q.at (injOff c.val)),
    (CEN.CORR_N.N.at (injOff c.val)), (CEN.CORR_CTRL.DONE.at (injOff c.val)), (CEN.CORR_CTRL.BUSY.at (injOff c.val))] s t ∧
    { t with reg := s.reg, out := s.out, eng := s.eng } = s) ∧
  (∀ (s : State) (p : Path) (j : Fin 32) (r : MacroRec), s.regsWf → s.img.graph.macros[j.val]? = some r → r.type = 0x01 → Reaches p (FUN.MCTL.addr +
    0x100 * j.val) s → s.isCell = false → ∃ t, exec (.relock p j) s = .next t ∧ t.eng = { s.eng with mctl := putBit s.eng.mctl j.val true } ∧ t.out =
    [] ∧ { t with out := s.out, eng := s.eng } = s) ∧
  (∀ (s : State) (p : Path) (j : Fin 32) (r : MacroRec), s.regsWf → s.img.graph.macros[j.val]? = some r → r.type = 0x08 → Reaches p (FUN.MCTL.addr +
    0x100 * j.val) s → s.isCell = false → ∃ t, exec (.clr p j) s = .next t ∧ t.eng = { s.eng with mctl := putBit s.eng.mctl j.val true } ∧ t.out = []
    ∧ { t with out := s.out, eng := s.eng } = s) ∧
  (∀ (s : State) (p : Path) (j : Fin 32) (r : MacroRec), s.regsWf → s.img.graph.macros[j.val]? = some r → r.type = 0x09 → Reaches p (FUN.MCTL.addr +
    0x100 * j.val) s → s.isCell = false → ∃ t, exec (.resync p j) s = .next t ∧ t.eng = { s.eng with mctl := putBit s.eng.mctl j.val true } ∧ t.out =
    [] ∧ { t with out := s.out, eng := s.eng } = s) ∧
  (∀ (s : State) (p : Path) (j : Fin 32) (r : MacroRec), s.regsWf → s.img.graph.macros[j.val]? = some r → r.type = 0x0A → Reaches p (FUN.MCTL.addr +
    0x100 * j.val) s → s.isCell = false → ∃ t, exec (.restart p j) s = .next t ∧ t.eng = { s.eng with mctl := putBit s.eng.mctl j.val true } ∧ t.out =
    [] ∧ { t with out := s.out, eng := s.eng } = s) ∧
  (∀ (s : State) (j : Fin 32) (r : MacroRec), s.regsWf → s.img.graph.macros[j.val]? = some r → r.type = 1 → 1024 ≤ (s.cp.eng.macro_ j.val).lockCnt → ∃
    t, exec (.gridSyncLock j) s = .next t ∧ t.cp =
    { s.cp with eng := s.cp.eng.setMacro j.val { s.cp.eng.macro_ j.val with stat := putBit (s.cp.eng.macro_ j.val).stat 0 true } } ∧
    { t with out := s.out, cp := s.cp, cpB := s.cpB } = s) ∧
  (∀ (s : State) (k : Nat) (x : Inj), bitAt s.eng.injStart k = true → (injBoundary s k x).run = true ∧ (injBoundary s k x).theta = s.fld
    (CEN.INJ_PHASE0.PHASE0.at (injOff k)) ∧ (injBoundary s k x).elapsed = 1 ∧ (injBoundary s k x).out = injValue s k (injBoundary s k x)) ∧
  (∀ (s : State) (k : Nat) (x : Inj), bitAt s.eng.injStart k = false → x.run = false → (injBoundary s k x).run = false ∧ (injBoundary s k x).out = 0) ∧
  (∀ (s : State) (k : Nat) (x : Inj), bitAt s.eng.injStart k = false → x.run = true → s.fld (CEN.INJ_CTRL.WAVE.at (injOff k)) = 0 → bitAt
    s.eng.injFreq k = false → (injBoundary s k x).theta = (x.theta + x.freq) % 2 ^ 32 ∧ ((injBoundary s k x).run = false ↔ 2 ^ 32 ≤ x.theta + x.freq ∧
    (x.stopping = true ∨ bitAt s.eng.injStop k = true)) ∧ ((injBoundary s k x).run = false → (injBoundary s k x).out = 0)) ∧
  (∀ (e : EvalEnv) (arg j : Nat) (r : MacroRec) (g : Engine), r.type = 0x08 → ((macroCommand e arg j r g).tile (r.firstTile + 1)).latch = false ∧
    ((macroCommand e arg j r g).tile (r.firstTile + 1)).cnt = 0 ∧ ∀ t, t ≠ r.firstTile + 1 → (macroCommand e arg j r g).tile t = g.tile t) ∧
  (∀ (p : Nat → Nat) (x : List Int) (q : TileSt), (bitAt (p 0) 0 = false → (tileAdd p x q).y = [satS 32 (inp x 0 + inp x 1 + inp x 2 + inp x 3)]) ∧
    (tileMac p x q).y = [satS 32 (rnd 24 (inp x 0 * inp x 1 + s32 (p 1) * inp x 2) + inp x 3)]) ∧
  (∀ (p : Nat → Nat) (conn : List Bool) (x : List Int) (q : TileSt), conn.getD 1 false = false → conn.getD 2 false = false → s32 (p 5) ≤ s32 (p 4) →
    s32 (p 5) ≤ (tilePi p conn x q).out 0 ∧ (tilePi p conn x q).out 0 ≤ s32 (p 4) ∧ (bitAt (p 0) 2 = true → s32 (p 5) * 2 ^ 24 ≤ (tilePi p conn x
    q).acc ∧ (tilePi p conn x q).acc ≤ s32 (p 4) * 2 ^ 24)) ∧
  (∀ (p : Nat → Nat) (x : List Int) (q : TileSt), inp x 2 = 0 → 0 ≤ s32 (p 1) → 0 ≤ s32 (p 2) → -(2 ^ 31) ≤ q.prev → q.prev < 2 ^ 31 → (tileRate p x
    q).prev = (tileRate p x q).out 0 ∧ -(s32 (p 2)) ≤ (tileRate p x q).out 0 - q.prev ∧ (tileRate p x q).out 0 - q.prev ≤ s32 (p 1)) ∧
  (∀ (p : Nat → Nat) (conn : List Bool) (x : List Int) (q : TileSt), q.latch = true → inp x 2 = 0 → (tileCompare p conn x q).latch = true ∧
    (tileCompare p conn x q).out 0 = onePu)

/-- A mismatch in a locked pair counts, records its period, offset, point and index, discards the checkpoint under construction and starts a restore, or lets the running one start again; the valid checkpoint stands. A third within one second escalates: the converter blocks. When load and replay are complete the pair is locked again and the restore is counted with its latency; an uncorrectable error in the checkpoint memory restarts from the image-applied state and escalates. A validation edge without a mismatch makes the checkpoint under construction the valid one. FORCE_MM marks the next output; ESC_CLR ends an escalation; CNT_CLR zeroes both counts. A mismatch puts an abort block on each framed lane: at position 1 of a frame not yet begun, else at the first position 6.4 ns after the detection, at 36 or later for a late one in a frame block; the stream sends it there, and an escalation's stop symbols take four positions in a row. An uncorrectable read restarts from the applied image without replay (log 112); aborts where a stop stands, and words of joining cells, are logs 64 and 67. -/
def Obligations.LoamPairRestoresFromItsCheckpoint : Prop :=
  (∀ (s : State) (point index : Fin 256) (offs : Nat), s.regsWf → s.hubUp = true → lmpState s < 2 → (recentAt s (s.period.timeNs + offs)).length < 2 →
    ∃ t, exec (.loamMismatch point index offs) s = .next t ∧ lmpState t = lmpRestoring ∧ t.flag LMP.EVT.MISMATCH = true ∧ t.fld LMP.MM_CNT.COUNT = min
    (s.fld LMP.MM_CNT.COUNT + 1) (2 ^ 32 - 1) ∧ t.fld LMP.MM_PCNT.PCNT = s.period.pcnt % 2 ^ 32 ∧ t.fld LMP.MM_INFO.OFFS = min 4095 offs ∧ t.fld
    LMP.MM_IDX.INDEX = index.val ∧ t.fld LMP.MM_IDX.POINT = point.val ∧ t.loam =
    { s.loam with recent := (s.period.timeNs + offs) :: recentAt s (s.period.timeNs + offs), next := none, restoring := true, lat := (if s.loam.restoring = true then s.loam.lat else 0), spoiled := (s.loam.spoiled || decide (340 < offs)) }
    ∧ t.fld LMP.STAT.RECENT = (recentAt s (s.period.timeNs + offs)).length + 1 ∧ FieldsKept ([LMP.STAT.STATE, LMP.STAT.RECENT, LMP.EVT.MISMATCH,
    LMP.MM_CNT.COUNT, LMP.MM_PCNT.PCNT, LMP.MM_INFO.OFFS, LMP.MM_INFO.INDEX, LMP.MM_INFO.POINT, LMP.MM_IDX.INDEX, LMP.MM_IDX.POINT, STR.LOST.DROPPED]
    ++ (upto 128).map (fun (l : Nat) => LNK.PRBS_ERR.ERR.at (lnkOff l))) s t ∧
    { t with reg := s.reg, out := s.out, loam := s.loam, lanes := s.lanes, strata := s.strata } = s) ∧
  (∀ (s : State) (point index : Fin 256) (offs : Nat), s.regsWf → s.hubUp = true → lmpState s < 2 → 2 ≤ (recentAt s (s.period.timeNs + offs)).length →
    ∃ t, exec (.loamMismatch point index offs) s = .next t ∧ lmpState t = lmpRestoring ∧ t.flag LMP.EVT.MISMATCH = true ∧ t.fld LMP.MM_CNT.COUNT = min
    (s.fld LMP.MM_CNT.COUNT + 1) (2 ^ 32 - 1) ∧ t.fld LMP.MM_PCNT.PCNT = s.period.pcnt % 2 ^ 32 ∧ t.fld LMP.MM_INFO.OFFS = min 4095 offs ∧ t.fld
    LMP.MM_IDX.INDEX = index.val ∧ t.fld LMP.MM_IDX.POINT = point.val ∧ t.loam =
    { s.loam with recent := (s.period.timeNs + offs) :: recentAt s (s.period.timeNs + offs), next := none, restoring := true, lat := (if s.loam.restoring = true then s.loam.lat else 0), spoiled := (s.loam.spoiled || decide (340 < offs)) }
    ∧ t.flag LMP.STAT.ESCALATED = true ∧ t.flag LMP.EVT.ESCALATED = true ∧ t.evr.blockReq = true ∧ FieldsKept ([LMP.STAT.STATE, LMP.STAT.RECENT,
    LMP.EVT.MISMATCH, LMP.MM_CNT.COUNT, LMP.MM_PCNT.PCNT, LMP.MM_INFO.OFFS, LMP.MM_INFO.INDEX, LMP.MM_INFO.POINT, LMP.MM_IDX.INDEX, LMP.MM_IDX.POINT,
    STR.LOST.DROPPED, LMP.STAT.ESCALATED, LMP.EVT.ESCALATED] ++ (upto 128).map (fun (l : Nat) => LNK.PRBS_ERR.ERR.at (lnkOff l))) s t ∧
    { t with reg := s.reg, out := s.out, loam := s.loam, lanes := s.lanes, strata := s.strata, evr := s.evr } = s) ∧
  (∀ (s : State) (ecc : Fin 3), s.regsWf → s.hubUp = true → lmpState s = lmpRestoring → ecc.val ≠ 2 → s.cpB = none → ∃ t, exec (.loamRestoreReady ecc)
    s = .next t ∧ lmpState t = lmpLocked ∧ t.flag LMP.EVT.RESTORED = true ∧ t.fld LMP.RST_CNT.COUNT = min (s.fld LMP.RST_CNT.COUNT + 1) (2 ^ 32 - 1) ∧
    t.fld LMP.RESTORE_LAT.LAT = (s.loam.lat + 1) % 256 ∧ t.fld LMP.RESTORE_PCNT.PCNT = (s.period.pcnt + 1) % 2 ^ 32 ∧ t.loam.restoring = false ∧
    t.loam.heldReports = [] ∧ t.cp.banks = s.cp.banks ∧ t.loam = { s.loam with restoring := false, heldReports := [] } ∧ (ecc.val = 1 → t.flag
    LMP.EVT.CK_ECC_CORR = true) ∧ t.out = [] ∧ t.cpB = none ∧ (∀ a, (a < 0xD0000 ∨ 0x100000 ≤ a) → t.rd a = s.rd a) ∧
    { t with reg := s.reg, out := s.out, loam := s.loam, cp := s.cp, cpB := s.cpB, ct := s.ct } = s) ∧
  (∀ (s : State), s.regsWf → s.hubUp = true → lmpState s = lmpRestoring → s.cpB = none → ∃ t, exec (.loamRestoreReady 2) s = .next t ∧ lmpState t =
    lmpLocked ∧ t.flag LMP.EVT.RESTORED = true ∧ t.fld LMP.RST_CNT.COUNT = min (s.fld LMP.RST_CNT.COUNT + 1) (2 ^ 32 - 1) ∧ t.fld LMP.RESTORE_LAT.LAT
    = (s.loam.lat + 1) % 256 ∧ t.fld LMP.RESTORE_PCNT.PCNT = (s.period.pcnt + 1) % 2 ^ 32 ∧ t.loam.restoring = false ∧ t.loam.heldReports = [] ∧
    t.cp.banks = s.cp.banks ∧ t.loam.valid = s.loam.applied ∧ t.flag LMP.EVT.CK_ECC_UNCORR = true ∧ t.flag LMP.STAT.ESCALATED = true ∧ t.evr.blockReq
    = true ∧ { t with reg := s.reg, out := s.out, loam := s.loam, cp := s.cp, cpB := s.cpB, ct := s.ct, lanes := s.lanes, evr := s.evr } = s) ∧
  (∀ (s : State) (k : Checkpoint), s.regsWf → s.hubUp = true → lmpState s ≠ lmpRelocking → s.loam.next = some k → s.loam.spoiled = false → ∃ t, exec
    (.checkpointValidate) s = .next t ∧ t.loam =
    { s.loam with valid := k, next := none, replaySload := 0, replayMctl := 0, replayCarry := 0, replayOpen := true } ∧ t.fld LMP.STAT.CK_BUF = 1 -
    s.fld LMP.STAT.CK_BUF ∧ t.fld LMP.CK_PCNT.PCNT = k.pcnt % 2 ^ 32 ∧ FieldsKept [LMP.STAT.CK_BUF, LMP.CK_PCNT.PCNT] s t ∧
    { t with reg := s.reg, out := s.out, loam := s.loam } = s) ∧
  (∀ (s : State) (p : Path), s.regsWf → Reaches p LMP.CTRL.addr s → s.isCell = false → s.blocked = true → ∃ t, exec (.forceMm p) s = .next t ∧ t.loam
    = { s.loam with force := true } ∧ t.out = [] ∧ { t with out := s.out, loam := s.loam } = s) ∧
  (∀ (s : State) (p : Path), s.regsWf → Reaches p LMP.CTRL.addr s → s.isCell = false → s.blocked = true → lmpState s = lmpLocked → ∃ t, exec (.escClr
    p) s = .next t ∧ t.flag LMP.STAT.ESCALATED = false ∧ t.fld LMP.STAT.RECENT = 0 ∧ t.loam = { s.loam with recent := [] } ∧ t.out = [] ∧ FieldsKept
    [LMP.STAT.ESCALATED, LMP.STAT.RECENT] s t ∧ { t with reg := s.reg, out := s.out, loam := s.loam } = s) ∧
  (∀ (s : State) (p : Path), s.regsWf → Reaches p LMP.CTRL.addr s → s.isCell = false → ∃ t, exec (.cntClr p) s = .next t ∧ t.fld LMP.MM_CNT.COUNT = 0
    ∧ t.fld LMP.RST_CNT.COUNT = 0 ∧ t.out = [] ∧ FieldsKept [LMP.MM_CNT.COUNT, LMP.RST_CNT.COUNT] s t ∧ { t with reg := s.reg, out := s.out } = s) ∧
  (∀ (s : State) (point offs l : Nat) (f : Nat) (fr : List Nat), dsState s l = dsRun → prbsMode s l ≠ 1 → offs ≤ 340 → (s.lane l).wire.due = [(f, fr)]
    → fr.length = 51 → (f + 1) ∈ ((placeAbort point offs s l).lane l).wire.aborts ∧ (∀ m, m ≠ l → (placeAbort point offs s l).lane m = s.lane m) ∧
    (placeAbort point offs s l).reg = s.reg) ∧
  (∀ (s : State) (point offs l : Nat), dsState s l = dsRun → prbsMode s l ≠ 1 → offs ≤ 340 → (s.lane l).frame ≠ [] → (s.lane l).wire.due.all (fun d =>
    d.2.length != 51) = true → ∃ p ∈ ((placeAbort point offs s l).lane l).wire.aborts, (s.lane l).wire.start < p ∧ 5 * (s.period.timeNs + offs) + 32 ≤
    s.period.grid + 32 * p ∧ ∀ q, (s.lane l).wire.start < q → 5 * (s.period.timeNs + offs) + 32 ≤ s.period.grid + 32 * q → p ≤ q) ∧
  (∀ (s : State) (point offs l : Nat), dsState s l = dsRun → prbsMode s l ≠ 1 → 340 < offs → point = 1 → (s.lane l).frame ≠ [] → (s.lane
    l).wire.due.all (fun d => d.2.length != 51) = true → ((s.lane l).wire.trail = true ∨ (s.lane l).wire.due ≠ []) → ∃ p ∈ ((placeAbort point offs s
    l).lane l).wire.aborts, (s.lane l).wire.start + 36 ≤ p ∧ 5 * (s.period.timeNs + offs) + 32 ≤ s.period.grid + 32 * p) ∧
  (∀ (s : State) (point offs l : Nat), (dsState s l ≠ dsRun ∨ prbsMode s l = 1) → (placeAbort point offs s l) = s) ∧
  (∀ (c : WireSrc) (w : Wire) (f x a : Nat) (xs more : List Nat) (rest : List (Nat × List Nat)), w.due = (f, x :: xs) :: rest → f ≤ w.next → xs.length
    ≠ 50 → w.aborts = a :: more → a ≤ w.next → framedBlock c w = if w.stops.contains w.next then (hdrCtl, stopPayload,
    { w with stops := w.stops.filter (fun p => decide (w.next < p)) }) else (hdrCtl, abortPayload, { w with aborts := more })) ∧
  (∀ (s : State) (t : Nat) (l : Fin 128), dsState s l.val = dsRun → prbsMode s l.val ≠ 1 → ∃ p, 5 * t ≤ s.period.grid + 32 * p ∧ ∀ i, i < 4 → p + i ∈
    (((stopAll t s).lane l.val).wire).stops)

/-- At behaviour level 2 a SPLIT write to a locked pair with no escalation and no commit pending splits it at the next boundary; at level 1 it is refused. HANDOVER is accepted for a boundary at least two ahead with copy B clean, and at L_(h−1) the checkpoint under construction takes copy B's engine and the pair relocks. ABANDON, and a split that lasts MAX_U × 2^20 periods, relock on copy A at the second boundary. The order of the checks and what becomes of a hand-over not carried out are log 112's. -/
def Obligations.ShadowModeSplitsAndRelocks : Prop :=
  (∀ (s : State) (p : Path) (w : W32), s.regsWf → Reaches p LMP.SH_CTRL.addr s → s.isCell = false → s.beh ≠ 1 → lmpState s = lmpLocked → s.flag
    LMP.STAT.ESCALATED = false → s.flag CEN.PCOMMIT_STAT.PEND = false → bitsAt w.toNat 1 2 = 0 → ∃ t, exec (.split p w) s = .next t ∧ t.loam =
    { s.loam with splitDue := true } ∧ t.flag LMP.SH_CTRL.RD_B = bitAt w.toNat 3 ∧ t.out = [] ∧ FieldsKept [LMP.SH_CTRL.RD_B] s t ∧
    { t with reg := s.reg, out := s.out, loam := s.loam } = s) ∧
  (∀ (s : State) (w : W32), s.regsWf → Reaches .pcie LMP.SH_CTRL.addr s → s.isCell = false → s.beh = 1 → s.flag HST.AERR.VALID = false → ∃ t, exec
    (.split .pcie w) s = .next t ∧ t.rd HST.AERR.addr = 2 ^ 31 + 6 ∧ t.rd HST.AERR_ADDR.addr = LMP.SH_CTRL.addr ∧ t.out = [] ∧ FieldsKept
    [⟨HST.AERR.addr, 0, 32⟩, ⟨HST.AERR_ADDR.addr, 0, 32⟩] s t ∧ { t with reg := s.reg, out := s.out } = s) ∧
  (∀ (s : State) (p : Path) (w : W32), s.regsWf → Reaches p LMP.SH_CTRL.addr s → s.isCell = false → bitAt w.toNat 0 = false → bitAt w.toNat 2 = false
    → 2 ≤ ((s.fld LMP.SH_PCNT.PCNT + 2 ^ 32 - s.period.pcnt % 2 ^ 32) % 2 ^ 32) → ((s.fld LMP.SH_PCNT.PCNT + 2 ^ 32 - s.period.pcnt % 2 ^ 32) % 2 ^
    32) < 2 ^ 31 → handoverBusy s = false → lmpState s = lmpSplit → ∃ t, exec (.handover p w) s = .next t ∧ t.loam =
    { s.loam with handover := some ((s.period.pcnt + ((s.fld LMP.SH_PCNT.PCNT + 2 ^ 32 - s.period.pcnt % 2 ^ 32) % 2 ^ 32)) % 2 ^ 48) } ∧ t.out = [] ∧
    FieldsKept [LMP.SH_CTRL.RD_B] s t ∧ { t with reg := s.reg, out := s.out, loam := s.loam } = s) ∧
  (∀ (s : State) (p : Path) (w : W32), s.regsWf → Reaches p LMP.SH_CTRL.addr s → s.isCell = false → bitsAt w.toNat 0 2 = 0 → lmpState s = lmpSplit →
    s.loam.handover = none → s.loam.abandon = none → ∃ t, exec (.abandon p w) s = .next t ∧ t.loam = { s.loam with abandon := some 2 } ∧ t.out = [] ∧
    FieldsKept [LMP.SH_CTRL.RD_B] s t ∧ { t with reg := s.reg, out := s.out, loam := s.loam } = s) ∧
  (∀ (s : State) (h : Nat) (b : Copy), s.regsWf → s.loam.handover = some h → s.cpB = some b → s.hubUp = true → lmpState s = lmpSplit → h =
    (s.period.pcnt + 1) % 2 ^ 48 → ∃ t, exec (.handoverExecute) s = .next t ∧ lmpState t = lmpRelocking ∧ t.loam =
    { s.loam with next := some { latchCheckpoint s with eng := b.eng } } ∧ FieldsKept [LMP.STAT.STATE] s t ∧
    { t with reg := s.reg, out := s.out, loam := s.loam } = s) ∧
  (∀ (s : State), s.regsWf → s.hubUp = true → lmpState s = lmpSplit → s.fld LMP.SH_CFG.MAX_U ≠ 0 → s.fld LMP.SH_CFG.MAX_U * 2 ^ 20 ≤ (s.period.pcnt +
    2 ^ 48 - s.loam.splitAt) % 2 ^ 48 → s.loam.abandon = none → s.loam.handover = none → ∃ t, exec (.splitTimeout) s = .next t ∧ t.flag
    LMP.EVT.SPLIT_TIMEOUT = true ∧ t.loam = { s.loam with abandon := some 2 } ∧ FieldsKept [LMP.EVT.SPLIT_TIMEOUT] s t ∧
    { t with reg := s.reg, out := s.out, loam := s.loam } = s)

/-- While the converter is blocked a CORE_CFG write is stored, and a change of sequence or decimation makes the core's inputs invalid until a whole window has passed. A GAIN write is held until an OFFS write makes a pair of both that applies from 1 µs later on. A capture whose input is valid, and a compute with both captures of its input made, start without an error; a zero or reference capture with all its values in gives their mean; a compute queues GAIN and OFFS of the rule as one pair, or fails with ERR 5 where the means lie closer than 2^20; an operation that failed gives STATE 3 and its ERR (log 111). A core whose slices have had 2^(CAL_EXP + 2) calibration conversions reads EST_SETTLED. -/
def Obligations.AcquisitionSettingsAndCalibration : Prop :=
  (∀ (s : State) (p : Path) (c : Fin 4) (w : W32) (dt : Nat), s.regsWf → Reaches p (ACQ.CORE_CFG.addr + 0x400 * c.val) s → s.isCell = false →
    s.blocked = true → ∃ t, exec (.acqCoreCfgWrite p c 0 w dt) s = .next t ∧ t.fld (ACQ.CORE_CFG.RATE_DIV.at (coreOff c.val)) = bitsAt w.toNat 8 3 ∧
    t.fld (ACQ.CORE_CFG.SEQ_LEN.at (coreOff c.val)) = bitsAt w.toNat 4 3 ∧ t.fld (ACQ.CORE_CFG.CAL_FREEZE.at (coreOff c.val)) = bitsAt w.toNat 3 1 ∧
    t.fld (ACQ.CORE_CFG.DEC.at (coreOff c.val)) = bitsAt w.toNat 0 2 ∧ t.acq = { s.acq with cores := t.acq.cores } ∧ (s.rd (ACQ.CORE_CFG.addr + 0x400
    * c.val) ||| 8 ≠ t.rd (ACQ.CORE_CFG.addr + 0x400 * c.val) ||| 8 → (t.core c.val).partial_ = true ∧ t.flag (ACQ.CORE_STAT.DELIVER.at (coreOff
    c.val)) = false ∧ ∀ l : Fin 8, t.flag (ACQ.IN_STAT.VALID.at (inputOff (8 * c.val + l.val))) = false) ∧ (s.flag (ACQ.CORE_CFG.CAL_FREEZE.at
    (coreOff c.val)) = true → bitAt w.toNat 3 = false → t.flag (ACQ.CORE_STAT.EST_SETTLED.at (coreOff c.val)) = false ∧ ∀ k : Fin 8, ((t.core
    c.val).slice k.val).cal = 0) ∧ FieldsKept ([⟨ACQ.CORE_CFG.addr + 0x400 * c.val, 0, 32⟩, ACQ.CORE_STAT.DELIVER.at (coreOff c.val),
    ACQ.CORE_STAT.EST_SETTLED.at (coreOff c.val)] ++ (upto 8).flatMap (fun (l : Nat) => [ACQ.IN_STAT.VALID.at (inputOff (8 * c.val + l)),
    ACQ.IN_RAW.R.at (inputOff (8 * c.val + l)), ACQ.IN_CAL.C.at (inputOff (8 * c.val + l))])) s t ∧ t.out = [] ∧
    { t with reg := s.reg, out := s.out, acq := s.acq } = s) ∧
  (∀ (s : State) (p : Path) (i : Fin 32) (w : W32), s.regsWf → Reaches p (ACQ.IN_GAIN.addr + 0x20 * i.val) s → s.isCell = false → ∃ t, exec
    (.acqInGainWrite p i w) s = .next t ∧ t.acq = { s.acq with gainHeld := tabSet zeroNat s.acq.gainHeld i.val (w.toNat + 1) } ∧ t.out = [] ∧
    { t with out := s.out, acq := s.acq } = s) ∧
  (∀ (s : State) (p : Path) (i : Fin 32) (w : W32) (dt g : Nat), s.regsWf → Reaches p (ACQ.IN_OFFS.addr + 0x20 * i.val) s → s.isCell = false → tabGet
    zeroNat s.acq.gainHeld i.val = g + 1 → ∃ t, exec (.acqInOffsWrite p i w dt) s = .next t ∧ t.acq =
    { s.acq with gainHeld := tabSet zeroNat s.acq.gainHeld i.val 0, pairs := s.acq.pairs ++ [(i.val, g, w.toNat, s.baseNs + dt + 1000)] } ∧ t.out = []
    ∧ { t with out := s.out, acq := s.acq } = s) ∧
  (∀ (s : State) (c : Fin 4), s.regsWf → (∀ k : Fin 8, 2 ^ (s.calExp + 2) ≤ ((s.core c.val).slice k.val).cal) → ∃ t, exec (.estSettled c) s = .next t
    ∧ t.flag (ACQ.CORE_STAT.EST_SETTLED.at (coreOff c.val)) = true ∧ FieldsKept [ACQ.CORE_STAT.EST_SETTLED.at (coreOff c.val)] s t ∧
    { t with reg := s.reg, out := s.out } = s) ∧
  (∀ (s : State) (p : Path) (i : Fin 32), s.regsWf → Reaches p ACQ.SCAL_CTRL.addr s → s.isCell = false → s.blocked = true → s.flag
    (ACQ.IN_STAT.VALID.at (inputOff i.val)) = true → ∃ t, exec (.scalZeroCapture p i) s = .next t ∧ t.fld ACQ.SCAL_STAT.STATE = 1 ∧ t.acq =
    { s.acq with scalOp := 1, scalInput := i.val, scalSum := 0, scalN := 0, scalErr := 0 } ∧ t.out = [] ∧ FieldsKept [ACQ.SCAL_CTRL.INPUT,
    ACQ.SCAL_CTRL.OP, ACQ.SCAL_STAT.STATE, ACQ.SCAL_STAT.ZERO_OK, ACQ.SCAL_STAT.REF_OK] s t ∧ { t with reg := s.reg, out := s.out, acq := s.acq } = s) ∧
  (∀ (s : State) (p : Path) (i : Fin 32), s.regsWf → Reaches p ACQ.SCAL_CTRL.addr s → s.isCell = false → s.blocked = true → s.flag
    (ACQ.IN_STAT.VALID.at (inputOff i.val)) = true → ∃ t, exec (.scalRefCapture p i) s = .next t ∧ t.fld ACQ.SCAL_STAT.STATE = 1 ∧ t.acq =
    { s.acq with scalOp := 2, scalInput := i.val, scalSum := 0, scalN := 0, scalErr := 0 } ∧ t.out = [] ∧ FieldsKept [ACQ.SCAL_CTRL.INPUT,
    ACQ.SCAL_CTRL.OP, ACQ.SCAL_STAT.STATE, ACQ.SCAL_STAT.ZERO_OK, ACQ.SCAL_STAT.REF_OK] s t ∧ { t with reg := s.reg, out := s.out, acq := s.acq } = s) ∧
  (∀ (s : State) (p : Path) (i : Fin 32), s.regsWf → Reaches p ACQ.SCAL_CTRL.addr s → s.isCell = false → s.blocked = true → s.flag
    ACQ.SCAL_STAT.ZERO_OK = true → s.flag ACQ.SCAL_STAT.REF_OK = true → s.acq.scalInput = i.val → ∃ t, exec (.scalCompute p i) s = .next t ∧ t.fld
    ACQ.SCAL_STAT.STATE = 1 ∧ t.acq = { s.acq with scalOp := 3, scalSum := 0, scalN := 0, scalErr := 0 } ∧ t.out = [] ∧ FieldsKept
    [ACQ.SCAL_CTRL.INPUT, ACQ.SCAL_CTRL.OP, ACQ.SCAL_STAT.STATE, ACQ.SCAL_STAT.ZERO_OK, ACQ.SCAL_STAT.REF_OK] s t ∧
    { t with reg := s.reg, out := s.out, acq := s.acq } = s) ∧
  (∀ (s : State) (dt : Nat), s.regsWf → s.acq.scalOp = 1 → s.acq.scalErr = 0 → (2 ^ max 4 (min 16 (s.fld ACQ.SCAL_CFG.AVG_EXP))) ≤ s.acq.scalN →
    (roundHA s.acq.scalSum (2 ^ max 4 (min 16 (s.fld ACQ.SCAL_CFG.AVG_EXP)))).natAbs ≤ 2 ^ 19 → ∃ t, exec (.scalDone dt) s = .next t ∧ t.fld
    ACQ.SCAL_STAT.STATE = 2 ∧ t.fld ACQ.SCAL_STAT.ERR = 0 ∧ t.flag ACQ.SCAL_STAT.ZERO_OK = true ∧ t.fld ACQ.SCAL_RZ.RZ = unsignedOf 32 (roundHA
    s.acq.scalSum (2 ^ max 4 (min 16 (s.fld ACQ.SCAL_CFG.AVG_EXP)))) ∧ t.acq = { s.acq with scalOp := 0 } ∧ FieldsKept [ACQ.SCAL_STAT.STATE,
    ACQ.SCAL_STAT.ERR, ACQ.SCAL_STAT.ZERO_OK, ACQ.SCAL_RZ.RZ] s t ∧ { t with reg := s.reg, out := s.out, acq := s.acq } = s) ∧
  (∀ (s : State) (dt : Nat), s.regsWf → s.acq.scalOp ≠ 0 → s.acq.scalErr ≠ 0 → ∃ t, exec (.scalDone dt) s = .next t ∧ t.fld ACQ.SCAL_STAT.STATE = 3 ∧
    t.fld ACQ.SCAL_STAT.ERR = s.acq.scalErr % 256 ∧ t.acq = { s.acq with scalOp := 0 } ∧ FieldsKept [ACQ.SCAL_STAT.STATE, ACQ.SCAL_STAT.ERR] s t ∧
    { t with reg := s.reg, out := s.out, acq := s.acq } = s) ∧
  (∀ (s : State) (dt : Nat), s.regsWf → s.acq.scalOp = 2 → s.acq.scalErr = 0 → (2 ^ max 4 (min 16 (s.fld ACQ.SCAL_CFG.AVG_EXP))) ≤ s.acq.scalN → ∃ t,
    exec (.scalDone dt) s = .next t ∧ t.fld ACQ.SCAL_STAT.STATE = 2 ∧ t.fld ACQ.SCAL_STAT.ERR = 0 ∧ t.flag ACQ.SCAL_STAT.REF_OK = true ∧ t.fld
    ACQ.SCAL_RF.RF = unsignedOf 32 (roundHA s.acq.scalSum (2 ^ max 4 (min 16 (s.fld ACQ.SCAL_CFG.AVG_EXP)))) ∧ t.acq = { s.acq with scalOp := 0 } ∧
    FieldsKept [ACQ.SCAL_STAT.STATE, ACQ.SCAL_STAT.ERR, ACQ.SCAL_STAT.REF_OK, ACQ.SCAL_RF.RF] s t ∧
    { t with reg := s.reg, out := s.out, acq := s.acq } = s) ∧
  (∀ (s : State) (dt : Nat) (g : Int), s.regsWf → s.acq.scalOp = 3 → s.acq.scalErr = 0 → 2 ^ 20 ≤ (s.sfld ACQ.SCAL_RF.RF - s.sfld
    ACQ.SCAL_RZ.RZ).natAbs → g = (if (s.sfld ACQ.SCAL_RF.RF - s.sfld ACQ.SCAL_RZ.RZ) < 0 then roundHA (-(s.sfld ACQ.SCAL_REF.X * 2 ^ 23)) (s.sfld
    ACQ.SCAL_RF.RF - s.sfld ACQ.SCAL_RZ.RZ).natAbs else roundHA (s.sfld ACQ.SCAL_REF.X * 2 ^ 23) (s.sfld ACQ.SCAL_RF.RF - s.sfld
    ACQ.SCAL_RZ.RZ).natAbs) → -(2 ^ 31) ≤ g → g < 2 ^ 31 → ∃ t, exec (.scalDone dt) s = .next t ∧ t.fld ACQ.SCAL_STAT.STATE = 2 ∧ t.fld
    ACQ.SCAL_STAT.ERR = 0 ∧ t.acq =
    { s.acq with scalOp := 0, pairs := s.acq.pairs ++ [(s.acq.scalInput, unsignedOf 32 g, unsignedOf 32 (satS 32 (-(roundHA (g * s.sfld ACQ.SCAL_RZ.RZ) (2 ^ 23)))), s.baseNs + dt + 1000)] }
    ∧ FieldsKept [ACQ.SCAL_STAT.STATE, ACQ.SCAL_STAT.ERR] s t ∧ { t with reg := s.reg, out := s.out, acq := s.acq } = s) ∧
  (∀ (s : State) (dt : Nat), s.regsWf → s.acq.scalOp = 3 → s.acq.scalErr = 0 → (s.sfld ACQ.SCAL_RF.RF - s.sfld ACQ.SCAL_RZ.RZ).natAbs < 2 ^ 20 → ∃ t,
    exec (.scalDone dt) s = .next t ∧ t.fld ACQ.SCAL_STAT.STATE = 3 ∧ t.fld ACQ.SCAL_STAT.ERR = 5 ∧ t.acq = { s.acq with scalOp := 0 } ∧ FieldsKept
    [ACQ.SCAL_STAT.STATE, ACQ.SCAL_STAT.ERR] s t ∧ { t with reg := s.reg, out := s.out, acq := s.acq } = s)

/-- In the hub a sample of an enabled comparator sets RAW by its mode and threshold and enters the filter window; a majority of asserted samples sets FILT and LATCH and counts, none clears FILT and PUP and leaves LATCH. Writing one to LATCH clears it only while FILT is low. Enabling a comparator starts it with FILT, LATCH and PUP set. TEST is set only while the converter is blocked, and its level asserts the output. The end of a chatter window writes each WIN and starts afresh; CNT_CLR zeroes both counts (logs 111, 143 and 153). -/
def Obligations.ComparatorsLatchAndCount : Prop :=
  (∀ (s : State) (c : Fin 32) (v : Int) (t0 : Nat), s.regsWf → s.isHub = true → s.clodsUp = true → s.flag (CMP.CCFG.EN.at (cmpOff c.val)) = true →
    s.flag (CMP.CSTAT.FILT.at (cmpOff c.val)) = false → cmpMajority s c.val ((2 * tabGet allOn s.acq.window c.val + (cmpRaw s c.val (cmpInput s c.val
    v)).toNat) % 8192) = true → ∃ t, exec (.comparatorCrossing c [v] t0) s = .next t ∧ t.flag (CMP.CSTAT.RAW.at (cmpOff c.val)) = (cmpRaw s c.val
    (cmpInput s c.val v)) ∧ t.flag (CMP.CSTAT.FILT.at (cmpOff c.val)) = true ∧ t.flag (CMP.CSTAT.LATCH.at (cmpOff c.val)) = true ∧ t.fld
    (CMP.CTRANS.TOTAL.at (cmpOff c.val)) = min (s.fld (CMP.CTRANS.TOTAL.at (cmpOff c.val)) + 1) 65535 ∧ t.acq =
    { s.acq with window := tabSet allOn s.acq.window c.val ((2 * tabGet allOn s.acq.window c.val + (cmpRaw s c.val (cmpInput s c.val v)).toNat) % 8192), chat := tabSet zeroNat s.acq.chat c.val (tabGet zeroNat s.acq.chat c.val + 1) }
    ∧ FieldsKept [(CMP.CSTAT.FILT.at (cmpOff c.val)), (CMP.CSTAT.RAW.at (cmpOff c.val)), (CMP.CSTAT.LATCH.at (cmpOff c.val)), (CMP.CSTAT.CHATTER.at
    (cmpOff c.val)), (CMP.CSTAT.PUP.at (cmpOff c.val)), (CMP.CTRANS.TOTAL.at (cmpOff c.val))] s t ∧
    { t with reg := s.reg, out := s.out, acq := s.acq } = s) ∧
  (∀ (s : State) (c : Fin 32) (v : Int) (t0 : Nat), s.regsWf → s.isHub = true → s.clodsUp = true → s.flag (CMP.CCFG.EN.at (cmpOff c.val)) = true →
    cmpMajority s c.val ((2 * tabGet allOn s.acq.window c.val + (cmpRaw s c.val (cmpInput s c.val v)).toNat) % 8192) = false → ∃ t, exec
    (.comparatorCrossing c [v] t0) s = .next t ∧ t.flag (CMP.CSTAT.RAW.at (cmpOff c.val)) = (cmpRaw s c.val (cmpInput s c.val v)) ∧ t.flag
    (CMP.CSTAT.FILT.at (cmpOff c.val)) = false ∧ t.flag (CMP.CSTAT.PUP.at (cmpOff c.val)) = false ∧ t.acq =
    { s.acq with window := tabSet allOn s.acq.window c.val ((2 * tabGet allOn s.acq.window c.val + (cmpRaw s c.val (cmpInput s c.val v)).toNat) % 8192) }
    ∧ FieldsKept [(CMP.CSTAT.FILT.at (cmpOff c.val)), (CMP.CSTAT.RAW.at (cmpOff c.val)), (CMP.CSTAT.PUP.at (cmpOff c.val))] s t ∧
    { t with reg := s.reg, out := s.out, acq := s.acq } = s) ∧
  (∀ (s : State) (c : Fin 32) (v : Int) (t0 : Nat), s.regsWf → s.isHub = true → s.clodsUp = true → s.flag (CMP.CCFG.EN.at (cmpOff c.val)) = true →
    s.flag (CMP.CCFG.TEST.at (cmpOff c.val)) = false → s.fld (CMP.CCFG.MODE.at (cmpOff c.val)) = 0 → s.flag (CMP.CSTAT.RAW.at (cmpOff c.val)) = false
    → ∃ t, exec (.comparatorCrossing c [v] t0) s = .next t ∧ t.flag (CMP.CSTAT.RAW.at (cmpOff c.val)) = decide (125 * ((s.fld (CMP.CTH.CODE.at (cmpOff
    c.val)) : Int) - 0x800) < v) ∧ FieldsKept [(CMP.CSTAT.FILT.at (cmpOff c.val)), (CMP.CSTAT.RAW.at (cmpOff c.val)), (CMP.CSTAT.LATCH.at (cmpOff
    c.val)), (CMP.CSTAT.CHATTER.at (cmpOff c.val)), (CMP.CSTAT.PUP.at (cmpOff c.val)), (CMP.CTRANS.TOTAL.at (cmpOff c.val))] s t ∧
    { t with reg := s.reg, out := s.out, acq := s.acq } = s) ∧
  (∀ (s : State) (p : Path) (c : Fin 32) (w : W32), s.regsWf → Reaches p (CMP.CSTAT.addr + 0x20 * c.val) s → s.isCell = false → s.flag
    (CMP.CSTAT.FILT.at (cmpOff c.val)) = false → ∃ t, exec (.cmpLatchClear p c w) s = .next t ∧ t.flag (CMP.CSTAT.LATCH.at (cmpOff c.val)) = false ∧
    t.out = [] ∧ FieldsKept [(CMP.CSTAT.LATCH.at (cmpOff c.val)), (CMP.CSTAT.CHATTER.at (cmpOff c.val)), (CMP.CSTAT.DAC_ERR.at (cmpOff c.val))] s t ∧
    { t with reg := s.reg, out := s.out } = s) ∧
  (∀ (s : State) (p : Path) (c : Fin 32) (w : W32), s.regsWf → Reaches p (CMP.CSTAT.addr + 0x20 * c.val) s → s.isCell = false → s.flag
    (CMP.CSTAT.FILT.at (cmpOff c.val)) = true → ∃ t, exec (.cmpLatchClear p c w) s = .next t ∧ t.flag (CMP.CSTAT.LATCH.at (cmpOff c.val)) = s.flag
    (CMP.CSTAT.LATCH.at (cmpOff c.val)) ∧ t.out = [] ∧ FieldsKept [(CMP.CSTAT.LATCH.at (cmpOff c.val)), (CMP.CSTAT.CHATTER.at (cmpOff c.val)),
    (CMP.CSTAT.DAC_ERR.at (cmpOff c.val))] s t ∧ { t with reg := s.reg, out := s.out } = s) ∧
  (∀ (s : State) (p : Path) (c : Fin 32) (w : W32), s.regsWf → Reaches p (CMP.CCFG.addr + 0x20 * c.val) s → s.isCell = false → s.blocked = true →
    s.flag (CMP.CCFG.EN.at (cmpOff c.val)) = false → bitAt w.toNat 31 = true → bitAt w.toNat 30 = false → ∃ t, exec (.cmpCfgWrite p c w) s = .next t ∧
    t.flag (CMP.CCFG.EN.at (cmpOff c.val)) = true ∧ t.fld (CMP.CCFG.SRC.at (cmpOff c.val)) = bitsAt w.toNat 20 3 ∧ t.flag (CMP.CSTAT.LATCH.at (cmpOff
    c.val)) = true ∧ t.flag (CMP.CSTAT.FILT.at (cmpOff c.val)) = true ∧ t.flag (CMP.CSTAT.PUP.at (cmpOff c.val)) = true ∧ t.acq =
    { s.acq with window := tabSet allOn s.acq.window c.val 8191 } ∧ t.out = [] ∧ FieldsKept [⟨CMP.CCFG.addr + 0x20 * c.val, 0, 32⟩,
    (CMP.CSTAT.LATCH.at (cmpOff c.val)), (CMP.CSTAT.FILT.at (cmpOff c.val)), (CMP.CSTAT.PUP.at (cmpOff c.val))] s t ∧
    { t with reg := s.reg, out := s.out, acq := s.acq } = s) ∧
  (∀ (s : State) (p : Path) (c : Fin 32) (w : W32), s.regsWf → Reaches p (CMP.CCFG.addr + 0x20 * c.val) s → s.isCell = false → s.blocked = true →
    s.flag (CMP.CCFG.EN.at (cmpOff c.val)) = true → bitAt w.toNat 31 = true → s.flag (CMP.CCFG.TEST.at (cmpOff c.val)) = false → s.fld
    (CMP.CTH.CODE.at (cmpOff c.val)) ≠ 0 → bitsAt w.toNat 28 2 = s.fld (CMP.CCFG.MODE.at (cmpOff c.val)) → bitsAt w.toNat 26 2 = s.fld
    (CMP.CCFG.FILT.at (cmpOff c.val)) → bitsAt w.toNat 20 3 = s.fld (CMP.CCFG.SRC.at (cmpOff c.val)) → ∃ t, exec (.cmpTestSet p c w) s = .next t ∧
    t.flag (CMP.CCFG.TEST.at (cmpOff c.val)) = true ∧ t.flag (CMP.CCFG.EN.at (cmpOff c.val)) = true ∧ t.flag (CMP.CSTAT.FILT.at (cmpOff c.val)) = true
    ∧ (s.flag (CMP.CSTAT.FILT.at (cmpOff c.val)) = false → t.flag (CMP.CSTAT.LATCH.at (cmpOff c.val)) = true) ∧ t.out = [] ∧ FieldsKept
    [⟨CMP.CCFG.addr + 0x20 * c.val, 0, 32⟩, (CMP.CSTAT.FILT.at (cmpOff c.val)), (CMP.CSTAT.RAW.at (cmpOff c.val)), (CMP.CSTAT.LATCH.at (cmpOff
    c.val)), (CMP.CSTAT.CHATTER.at (cmpOff c.val)), (CMP.CSTAT.PUP.at (cmpOff c.val)), (CMP.CTRANS.TOTAL.at (cmpOff c.val))] s t ∧
    { t with reg := s.reg, out := s.out, acq := s.acq } = s) ∧
  (∀ (s : State) (dt : Nat), s.regsWf → s.acq.chatFrom + chatNs s ≤ s.baseNs + dt → ∃ t, exec (.chatterWindowEnd dt) s = .next t ∧ (∀ c : Fin 32,
    t.fld (CMP.CTRANS.WIN.at (cmpOff c.val)) = min 65535 (tabGet zeroNat s.acq.chat c.val)) ∧ t.acq =
    { s.acq with chat := [], chatFrom := s.acq.chatFrom + chatNs s } ∧ (∀ a, (a < 0x90100 ∨ 0x90500 ≤ a) → t.rd a = s.rd a) ∧ (∀ c : Fin 32, t.fld
    (CMP.CTRANS.TOTAL.at (cmpOff c.val)) = s.fld (CMP.CTRANS.TOTAL.at (cmpOff c.val))) ∧ { t with reg := s.reg, out := s.out, acq := s.acq } = s) ∧
  (∀ (s : State) (p : Path) (c : Fin 32), s.regsWf → Reaches p (CMP.CCTL.addr + 0x20 * c.val) s → s.isCell = false → ∃ t, exec (.cmpCntClr p c) s =
    .next t ∧ t.fld (CMP.CTRANS.WIN.at (cmpOff c.val)) = 0 ∧ t.fld (CMP.CTRANS.TOTAL.at (cmpOff c.val)) = 0 ∧ t.acq =
    { s.acq with chat := tabSet zeroNat s.acq.chat c.val 0 } ∧ t.out = [] ∧ FieldsKept [(CMP.CTRANS.WIN.at (cmpOff c.val)), (CMP.CTRANS.TOTAL.at
    (cmpOff c.val))] s t ∧ { t with reg := s.reg, out := s.out, acq := s.acq } = s)

/-- An asserted source of the hub whose latch is clear fires: its latch sets, its count rises, the first firing is kept and event 0x0100 + k enters the intake (logs 60, 109, 113). Mapped actions: the interrupt sends one message to its vector and pulls INT_N low; block requests a converter block; stop puts four consecutive stop symbols on every framed running lane; TRIP_OUT goes active and cancels a held clear; freeze makes an armed recorder freeze into the first unlocked slot; high impedance takes its PWM groups; notify names the source to Marl. FIRED bits clear only for sources no longer asserted. A TRIP_CLR with its sources cleared and MIN_MS over ends the trip; before that it is held and acts when MIN_MS runs out (log 153), and with a mapped source fired it is refused. SOFT.SET and CLR set and clear source 127. A vector unmasked while its message is pending sends it once. -/
def Obligations.EventsFireOnceAndAct : Prop :=
  (∀ (s : State) (k : Fin 128) (dt : Nat), s.regsWf → s.isHub = true → s.clodsUp = true → sourceAsserted s k.val = true → sourceFired s k.val = false
    → mapWord s k.val = 0 → k.val ≠ 120 → k.val ≠ 122 → k.val ≠ 124 → s.flag EVR.FIRST.VALID = false → s.strata.intake = [] → ∃ t, exec (.eventFire k
    dt) s = .next t ∧ sourceFired t k.val = true ∧ t.fld ⟨EVR.FCNT.addr + 4 * (k.val / 4), 8 * (k.val % 4), 8⟩ = min (s.fld ⟨EVR.FCNT.addr + 4 *
    (k.val / 4), 8 * (k.val % 4), 8⟩ + 1) 255 ∧ t.flag EVR.FIRST.VALID = true ∧ t.fld EVR.FIRST.SRC = k.val ∧ t.fld EVR.FIRST_PCNT.PCNT =
    s.period.pcnt % 2 ^ 32 ∧ t.strata.intake.map (fun (e : Ev) => e.code) = [0x0100 + k.val] ∧ t.out = [] ∧ FieldsKept [(EVR.FIRED.BITS.at (4 * (k.val
    / 32))), ⟨EVR.FCNT.addr + 4 * (k.val / 4), 8 * (k.val % 4), 8⟩, EVR.FIRST.VALID, EVR.FIRST.SRC, EVR.FIRST_PCNT.PCNT] s t ∧
    { t with reg := s.reg, out := s.out, strata := s.strata } = s) ∧
  (∀ (s : State) (k : Fin 128) (dt : Nat), s.regsWf → s.isHub = true → s.clodsUp = true → sourceAsserted s k.val = true → sourceFired s k.val = false
    → bitAt (mapWord s k.val) 1 = true → ∃ t, exec (.eventFire k dt) s = .next t ∧ sourceFired t k.val = true ∧ t.evr.blockReq = true ∧ t.cp = s.cp ∧
    t.strata.mram = s.strata.mram ∧ { t with reg := s.reg, out := s.out, evr := s.evr, strata := s.strata, lanes := s.lanes, eng := s.eng } = s) ∧
  (∀ (s : State) (k : Fin 128) (dt : Nat), s.regsWf → s.isHub = true → s.clodsUp = true → sourceAsserted s k.val = true → sourceFired s k.val = false
    → k.val ≠ 120 → k.val ≠ 122 → k.val ≠ 124 → (mapWord s k.val) % 1024 = 1 → s.flag HST.PCIE_STAT.MSIX_EN = true → s.flag HST.PCIE_STAT.LINK_UP =
    true → s.evr.msixFunc = false → bitAt s.evr.msixMask (bitsAt (mapWord s k.val) 16 8 % 64) = false → ∃ t, exec (.eventFire k dt) s = .next t ∧
    sourceFired t k.val = true ∧ intN t = false ∧ t.out = [.msix (bitsAt (mapWord s k.val) 16 8 % 64) (tabGet noVector s.ep.table (bitsAt (mapWord s
    k.val) 16 8 % 64)).1 (tabGet noVector s.ep.table (bitsAt (mapWord s k.val) 16 8 % 64)).2] ∧ FieldsKept [(EVR.FIRED.BITS.at (4 * (k.val / 32))),
    ⟨EVR.FCNT.addr + 4 * (k.val / 4), 8 * (k.val % 4), 8⟩, EVR.FIRST.VALID, EVR.FIRST.SRC, EVR.FIRST_PCNT.PCNT, STR.LOST.DROPPED] s t ∧
    { t with reg := s.reg, out := s.out, strata := s.strata } = s) ∧
  (∀ (s : State) (k : Fin 128) (dt : Nat), s.regsWf → s.isHub = true → s.clodsUp = true → sourceAsserted s k.val = true → sourceFired s k.val = false
    → k.val ≠ 120 → k.val ≠ 122 → k.val ≠ 124 → (mapWord s k.val) % 1024 = 512 → ∃ t, exec (.eventFire k dt) s = .next t ∧ sourceFired t k.val = true
    ∧ t.out = [.notify k.val] ∧ FieldsKept [(EVR.FIRED.BITS.at (4 * (k.val / 32))), ⟨EVR.FCNT.addr + 4 * (k.val / 4), 8 * (k.val % 4), 8⟩,
    EVR.FIRST.VALID, EVR.FIRST.SRC, EVR.FIRST_PCNT.PCNT, STR.LOST.DROPPED] s t ∧ { t with reg := s.reg, out := s.out, strata := s.strata } = s) ∧
  (∀ (s : State) (k : Fin 128) (dt : Nat) (l : Fin 128), s.regsWf → s.isHub = true → s.clodsUp = true → sourceAsserted s k.val = true → sourceFired s
    k.val = false → bitAt (mapWord s k.val) 2 = true → dsState s l.val = dsRun → s.fld (LNK.PRBS_CTRL.MODE.at (lnkOff l.val)) ≠ 1 → ∃ t, exec
    (.eventFire k dt) s = .next t ∧ (∃ p, blockNow dt s ≤ p ∧ p ∈ (t.lane l.val).wire.stops ∧ p + 1 ∈ (t.lane l.val).wire.stops ∧ p + 2 ∈ (t.lane
    l.val).wire.stops ∧ p + 3 ∈ (t.lane l.val).wire.stops) ∧
    { t with reg := s.reg, out := s.out, evr := s.evr, strata := s.strata, lanes := s.lanes, eng := s.eng } = s) ∧
  (∀ (s : State) (k : Fin 128) (dt : Nat) (j : Fin 4), s.regsWf → s.isHub = true → s.clodsUp = true → sourceAsserted s k.val = true → sourceFired s
    k.val = false → bitAt (mapWord s k.val) (3 + j.val) = true → ∃ t, exec (.eventFire k dt) s = .next t ∧ bitAt (t.fld EVR.TRIP_STAT.ACTIVE) j.val =
    true ∧ bitAt (t.fld EVR.TRIP_STAT.CLR_PEND) j.val = false ∧ (bitAt (s.fld EVR.TRIP_STAT.ACTIVE) j.val = false → bitAt t.evr.minDone j.val = false
    ∧ tabGet zeroNat t.evr.tripAt j.val = s.period.timeNs + dt) ∧ (bitAt (s.fld EVR.TRIP_STAT.ACTIVE) j.val = true → bitAt t.evr.minDone j.val = bitAt
    s.evr.minDone j.val) ∧ { t with reg := s.reg, out := s.out, evr := s.evr, strata := s.strata, lanes := s.lanes, eng := s.eng } = s) ∧
  (∀ (s : State) (k : Fin 128) (dt : Nat), s.regsWf → s.isHub = true → s.clodsUp = true → sourceAsserted s k.val = true → sourceFired s k.val = false
    → k.val ≠ 120 → k.val ≠ 122 → k.val ≠ 124 → (mapWord s k.val) % 1024 = 128 → s.fld STR.STAT.STATE = strArmed → s.flag STR.STAT.PRE_READY = true →
    s.strata.order.head? = some 2 → bitAt (s.fld STR.STAT.LOCKED) 2 = false → s.strata.intake = [] → ∃ t, exec (.eventFire k dt) s = .next t ∧ t.fld
    STR.STAT.STATE = strPost ∧ t.strata.slot = 2 ∧ t.strata.src = k.val ∧ t.strata.left = strPostN s ∧ bitAt (t.fld STR.STAT.COMPLETE) 2 = false ∧
    t.strata.intake.map (fun (e : Ev) => e.code) = [0x0100 + k.val, 0x0040] ∧ t.out = [] ∧ FieldsKept [(EVR.FIRED.BITS.at (4 * (k.val / 32))),
    ⟨EVR.FCNT.addr + 4 * (k.val / 4), 8 * (k.val % 4), 8⟩, EVR.FIRST.VALID, EVR.FIRST.SRC, EVR.FIRST_PCNT.PCNT, STR.LOST.DROPPED, STR.STAT.STATE,
    STR.STAT.COMPLETE] s t ∧ { t with reg := s.reg, out := s.out, strata := s.strata, eng := s.eng } = s) ∧
  (∀ (s : State) (k : Fin 128) (dt : Nat), s.regsWf → s.isHub = true → s.clodsUp = true → sourceAsserted s k.val = true → sourceFired s k.val = false
    → k.val ≠ 120 → k.val ≠ 122 → k.val ≠ 124 → (mapWord s k.val) % 1024 = 256 → ∃ t, exec (.eventFire k dt) s = .next t ∧ t.fld PWM.GSTAT.HIZ = s.fld
    PWM.GSTAT.HIZ ||| bitsAt (mapWord s k.val) 24 4 ∧ (∀ p : Fin 12, bitAt (bitsAt (mapWord s k.val) 24 4) (s.fld (PWM.PAIR_CFG.GROUP.at (0x40 *
    p.val))) = true → t.fld (PWM.PAIR_CARRY.C.at (0x40 * p.val)) = 0) ∧ t.out = [] ∧ FieldsKept [(EVR.FIRED.BITS.at (4 * (k.val / 32))),
    ⟨EVR.FCNT.addr + 4 * (k.val / 4), 8 * (k.val % 4), 8⟩, EVR.FIRST.VALID, EVR.FIRST.SRC, EVR.FIRST_PCNT.PCNT, STR.LOST.DROPPED, PWM.GSTAT.HIZ,
    PWM.PAIR_CARRY.C.at (pairOff 0), PWM.PAIR_CARRY.C.at (pairOff 1), PWM.PAIR_CARRY.C.at (pairOff 2), PWM.PAIR_CARRY.C.at (pairOff 3),
    PWM.PAIR_CARRY.C.at (pairOff 4), PWM.PAIR_CARRY.C.at (pairOff 5), PWM.PAIR_CARRY.C.at (pairOff 6), PWM.PAIR_CARRY.C.at (pairOff 7),
    PWM.PAIR_CARRY.C.at (pairOff 8), PWM.PAIR_CARRY.C.at (pairOff 9), PWM.PAIR_CARRY.C.at (pairOff 10), PWM.PAIR_CARRY.C.at (pairOff 11)] s t ∧
    { t with reg := s.reg, out := s.out, strata := s.strata } = s) ∧
  (∀ (s : State) (k : Fin 128) (dt : Nat), s.regsWf → (sourceAsserted s k.val = false ∨ sourceFired s k.val = true) → ∃ t, exec (.eventFire k dt) s =
    .next t ∧ t.out = [] ∧ FieldsKept [] s t ∧ { t with reg := s.reg, out := s.out } = s) ∧
  (∀ (s : State) (p : Path) (i : Fin 4) (w : W32), s.regsWf → Reaches p (EVR.FIRED.addr + 4 * i.val) s → ∃ t, exec (.firedClear p i w) s = .next t ∧
    (∀ j : Fin 32, bitAt (t.fld (EVR.FIRED.BITS.at (4 * i.val))) j.val = (bitAt (s.fld (EVR.FIRED.BITS.at (4 * i.val))) j.val && !(bitAt w.toNat j.val
    && !sourceAsserted s (32 * i.val + j.val)))) ∧ (s.flag EVR.GCFG.STOP_REPEAT = false → t.lanes = s.lanes ∧ t.out = []) ∧ FieldsKept
    ([(EVR.FIRED.BITS.at (4 * i.val)), EVR.TRIP_STAT.ACTIVE, EVR.TRIP_STAT.CLR_PEND] ++ ((upto 128).map (fun (l : Nat) => LNK.PRBS_ERR.ERR.at (lnkOff
    l)))) s t ∧ { t with reg := s.reg, out := s.out, lanes := s.lanes } = s) ∧
  (∀ (s : State) (p : Path) (k : Fin 128) (w : W32), s.regsWf → Reaches p (EVR.MAP.addr + 4 * k.val) s → s.isCell = false → s.blocked = true → ∃ t,
    exec (.evrMapWrite p k w) s = .next t ∧ t.fld (EVR.MAP.VECTOR.at (4 * k.val)) = bitsAt w.toNat 16 8 ∧ t.fld (EVR.MAP.PWM_GROUPS.at (4 * k.val)) =
    bitsAt w.toNat 24 4 ∧ (∀ j : Fin 10, bitAt (t.fld (EVR.MAP.ACTIONS.at (4 * k.val))) j.val = bitAt w.toNat j.val) ∧ (s.flag EVR.GCFG.STOP_REPEAT =
    false → t.lanes = s.lanes ∧ t.out = []) ∧ FieldsKept ([⟨EVR.MAP.addr + 4 * k.val, 0, 32⟩, EVR.TRIP_STAT.ACTIVE, EVR.TRIP_STAT.CLR_PEND] ++ ((upto
    128).map (fun (l : Nat) => LNK.PRBS_ERR.ERR.at (lnkOff l)))) s t ∧ { t with reg := s.reg, out := s.out, lanes := s.lanes } = s) ∧
  (∀ (s : State) (p : Path) (m : Fin 16), s.regsWf → Reaches p EVR.TRIP_CLR.addr s → s.isCell = false → s.evr.minDone = 15 → (∀ k : Fin 4, firedWith s
    (fun (x : Nat) => bitAt x (3 + k.val)) = false) → ∃ t, exec (.tripClr p m) s = .next t ∧ t.fld EVR.TRIP_STAT.ACTIVE = s.fld EVR.TRIP_STAT.ACTIVE
    &&& (15 ^^^ (m.val ||| s.fld EVR.TRIP_STAT.CLR_PEND)) ∧ t.fld EVR.TRIP_STAT.CLR_PEND = 0 ∧ t.out = [] ∧ FieldsKept [EVR.TRIP_STAT.ACTIVE,
    EVR.TRIP_STAT.CLR_PEND] s t ∧ { t with reg := s.reg, out := s.out } = s) ∧
  (∀ (s : State) (p : Path) (m : Fin 16), s.regsWf → Reaches p EVR.TRIP_CLR.addr s → s.isCell = false → s.evr.minDone = 0 → (∀ k : Fin 4, firedWith s
    (fun (x : Nat) => bitAt x (3 + k.val)) = false) → ∃ t, exec (.tripClr p m) s = .next t ∧ t.fld EVR.TRIP_STAT.ACTIVE = s.fld EVR.TRIP_STAT.ACTIVE ∧
    t.fld EVR.TRIP_STAT.CLR_PEND = s.fld EVR.TRIP_STAT.CLR_PEND ||| (m.val &&& s.fld EVR.TRIP_STAT.ACTIVE) ∧ t.out = [] ∧ FieldsKept
    [EVR.TRIP_STAT.ACTIVE, EVR.TRIP_STAT.CLR_PEND] s t ∧ { t with reg := s.reg, out := s.out } = s) ∧
  (∀ (s : State) (p : Path) (m : Fin 16) (k : Fin 4), s.regsWf → Reaches p EVR.TRIP_CLR.addr s → s.isCell = false → bitAt m.val k.val = true →
    firedWith s (fun (x : Nat) => bitAt x (3 + k.val)) = true → ∃ t, exec (.tripClr p m) s = .next t ∧ t.flag EVR.TRIP_STAT.CLR_REJ = true ∧ bitAt
    (t.fld EVR.TRIP_STAT.ACTIVE) k.val = bitAt (s.fld EVR.TRIP_STAT.ACTIVE) k.val ∧ t.out = [] ∧ FieldsKept [EVR.TRIP_STAT.ACTIVE,
    EVR.TRIP_STAT.CLR_PEND, EVR.TRIP_STAT.CLR_REJ] s t ∧ { t with reg := s.reg, out := s.out } = s) ∧
  (∀ (s : State) (k : Fin 4) (dt : Nat), s.regsWf → bitAt (s.fld EVR.TRIP_STAT.ACTIVE) k.val = true → tabGet zeroNat s.evr.tripAt k.val + 1000000 *
    max 1 (s.fld EVR.TRIP_CFG.MIN_MS) ≤ s.period.timeNs + dt → bitAt (s.fld EVR.TRIP_STAT.CLR_PEND) k.val = true → tripHeld s k.val = false → ∃ t,
    exec (.tripMinMsExpire k dt) s = .next t ∧ bitAt (t.fld EVR.TRIP_STAT.ACTIVE) k.val = false ∧ bitAt (t.fld EVR.TRIP_STAT.CLR_PEND) k.val = false ∧
    t.evr = { s.evr with minDone := putBit s.evr.minDone k.val true } ∧ FieldsKept [EVR.TRIP_STAT.ACTIVE, EVR.TRIP_STAT.CLR_PEND] s t ∧
    { t with reg := s.reg, out := s.out, evr := s.evr } = s) ∧
  (∀ (s : State) (k : Fin 4) (dt : Nat), s.regsWf → s.period.timeNs + dt < tabGet zeroNat s.evr.tripAt k.val + 1000000 * max 1 (s.fld
    EVR.TRIP_CFG.MIN_MS) → ∃ t, exec (.tripMinMsExpire k dt) s = .next t ∧ t = s ∧ { t with out := s.out } = s) ∧
  (∀ (s : State) (p : Path), s.regsWf → Reaches p EVR.SOFT.addr s → ∃ t, exec (.softSet p) s = .next t ∧ t.evr = { s.evr with soft := true } ∧ t.out =
    [] ∧ { t with out := s.out, evr := s.evr } = s) ∧
  (∀ (s : State) (p : Path), s.regsWf → Reaches p EVR.SOFT.addr s → ∃ t, exec (.softClr p) s = .next t ∧ t.evr = { s.evr with soft := false } ∧ t.out
    = [] ∧ { t with out := s.out, evr := s.evr } = s) ∧
  (∀ (s : State) (p : Path) (j : Fin 32), s.regsWf → Reaches p (EVR.FCNT.addr + 4 * j.val) s → ∃ t, exec (.fcntClear p j) s = .next t ∧ t.rd
    (EVR.FCNT.addr + 4 * j.val) = 0 ∧ t.out = [] ∧ FieldsKept [⟨EVR.FCNT.addr + 4 * j.val, 0, 32⟩] s t ∧ { t with reg := s.reg, out := s.out } = s) ∧
  (∀ (s : State) (mask : BitVec 64) (func : Bool), s.regsWf → s.isHub = true → s.evr.msixPend = 0 → ∃ t, exec (.msixUnmask mask func) s = .next t ∧
    t.evr = { s.evr with msixMask := mask.toNat, msixFunc := func } ∧ t.out = [] ∧ { t with out := s.out, evr := s.evr } = s) ∧
  (∀ (s : State) (mask : BitVec 64) (v : Fin 64), s.regsWf → s.isHub = true → s.evr.msixPend = 2 ^ v.val → s.flag HST.PCIE_STAT.MSIX_EN = true →
    s.flag HST.PCIE_STAT.LINK_UP = true → bitAt mask.toNat v.val = false → ∃ t, exec (.msixUnmask mask false) s = .next t ∧ t.evr =
    { s.evr with msixMask := mask.toNat, msixFunc := false, msixPend := 0 } ∧ t.out = [.msix v.val (tabGet noVector s.ep.table v.val).1 (tabGet
    noVector s.ep.table v.val).2] ∧ { t with out := s.out, evr := s.evr } = s)

/-- A BLOCK write requests a converter block, in effect with the next frame assembled (log 109): the next boundary blocks the converter and REARM_MS counts from it, whatever pends. A DEBLOCK write of a blocked converter with no condition against it sets DEBLOCK_PEND; with one, REFUSE reads the lowest code that holds and nothing pends. At its boundary a pending deblock whose conditions still hold takes effect with the carries zero; otherwise REFUSE reads the code and the converter stays as it is. DBLK_CFG is taken while the converter is blocked. -/
def Obligations.ConverterBlockAndDeblockRequests : Prop :=
  (∀ (s : State) (p : Path), s.regsWf → Reaches p EVR.CONV_CTRL.addr s → s.isHub = true → ∃ t, exec (.block p) s = .next t ∧ t.evr =
    { s.evr with blockReq := true } ∧ t.out = [] ∧ { t with out := s.out, evr := s.evr } = s) ∧
  (∀ (s : State) (p : Path) (dt : Nat), s.regsWf → Reaches p EVR.CONV_CTRL.addr s → s.isCell = false → s.blocked = true → deblockRefusal s (s.baseNs +
    dt) = none → ∃ t, exec (.deblock p dt) s = .next t ∧ t.flag EVR.CONV_STAT.DEBLOCK_PEND = true ∧ t.out = [] ∧ FieldsKept
    [EVR.CONV_STAT.DEBLOCK_PEND] s t ∧ { t with reg := s.reg, out := s.out } = s) ∧
  (∀ (s : State) (p : Path) (dt code : Nat), s.regsWf → Reaches p EVR.CONV_CTRL.addr s → s.isCell = false → deblockRefusal s (s.baseNs + dt) = some
    code → ∃ t, exec (.deblock p dt) s = .next t ∧ t.fld EVR.CONV_STAT.REFUSE = code ∧ t.flag EVR.CONV_STAT.DEBLOCK_PEND = false ∧ t.out = [] ∧
    FieldsKept [EVR.CONV_STAT.REFUSE, EVR.CONV_STAT.DEBLOCK_PEND] s t ∧ { t with reg := s.reg, out := s.out } = s) ∧
  (∀ (s : State) (p : Path) (w : W32), s.regsWf → Reaches p EVR.DBLK_CFG.addr s → s.isCell = false → s.blocked = true → ∃ t, exec (.dblkCfgWrite p w)
    s = .next t ∧ t.fld EVR.DBLK_CFG.VMIN = bitsAt w.toNat 16 16 ∧ t.fld EVR.DBLK_CFG.REARM_MS = bitsAt w.toNat 8 8 ∧ t.flag EVR.DBLK_CFG.REQ_ALIGN =
    bitAt w.toNat 1 ∧ t.flag EVR.DBLK_CFG.REQ_SYNC = bitAt w.toNat 0 ∧ t.out = [] ∧ FieldsKept [⟨EVR.DBLK_CFG.addr, 0, 32⟩] s t ∧
    { t with reg := s.reg, out := s.out } = s) ∧
  (∀ (s : State) (now : Nat), s.regsWf → s.evr.blockReq = true → (convBoundary now s).blocked = true ∧ (convBoundary now s).evr.blockReq = false ∧
    (convBoundary now s).evr.rearmFrom = some now) ∧
  (∀ (s : State) (now : Nat), s.regsWf → s.evr.blockReq = false → mrlSafeBlock s = false → s.flag EVR.CONV_STAT.DEBLOCK_PEND = true → s.fld
    LMP.STAT.STATE ≠ 1 → s.evr.rearmFrom.isSome = true → deblockRefusal (s.setFlag EVR.CONV_STAT.DEBLOCK_PEND false) now = none → (convBoundary now
    s).blocked = false ∧ (convBoundary now s).flag EVR.CONV_STAT.DEBLOCK_PEND = false ∧ (∀ a, ((convBoundary now s).cp.arm a).carry = 0) ∧
    (convBoundary now s).evr = s.evr) ∧
  (∀ (s : State) (now code : Nat), s.regsWf → s.evr.blockReq = false → mrlSafeBlock s = false → s.flag EVR.CONV_STAT.DEBLOCK_PEND = true → s.fld
    LMP.STAT.STATE ≠ 1 → s.evr.rearmFrom.isSome = true → deblockRefusal (s.setFlag EVR.CONV_STAT.DEBLOCK_PEND false) now = some code → (convBoundary
    now s).blocked = s.blocked ∧ (convBoundary now s).flag EVR.CONV_STAT.DEBLOCK_PEND = false ∧ (convBoundary now s).fld EVR.CONV_STAT.REFUSE = code ∧
    (convBoundary now s).cp = s.cp)

/-- A due period start gives every pair without override its clamped duty request and marks the group; its on-time and carry are those of the minimum-pulse rule, in which no pulse is lost: with drop the on-time and the carry add up to the request and the carry is never more than MIN + DT. The edges stand at S, S + DT, S + t and S + t + DT, or about the middle of a centre-aligned period, and an output that stays as it is makes none. An edge that falls due sets the pair's outputs. COMMIT marks its groups pending. OVR_MODE 1 turns a pair off. Enabling a group zeroes the carries of its pairs. A fault input that asserts in three samples outside a blanking window latches and takes its groups to high impedance, their carries zero; three samples without it release the filtered input and leave the latch; the latch clears only with the input released, and HIZ_CLR leaves high impedance only with no fault latched and no mapped source fired; one refused sets HIZ_REJ (log 110). -/
def Obligations.PwmGroupsPairsAndFaults : Prop :=
  (∀ (s : State) (g : Fin 4), s.regsWf → startDue s g.val s.period.pcnt = true → (s.grp g.val).ready = false → ∃ t, exec (.pwmPeriodStart g) s = .next
    t ∧ (t.grp g.val).lastS = some s.period.pcnt ∧ (∀ p : Fin 12, pairGrp s p.val = g.val → s.fld (PWM.PAIR_CFG.OVR_MODE.at (pairOff p.val)) = 0 →
    s.flag (PWM.PAIR_SHD.SRC.at (pairOff p.val)) = false → t.fld (PWM.PAIR_DACT.DUTY.at (pairOff p.val)) = unsignedOf 32 (clampI 0 onePu (signedOf 32
    (s.pair p.val).act))) ∧ (∀ a, (a < 0xA0000 ∨ 0xA0700 ≤ a) → t.rd a = s.rd a) ∧ { t with reg := s.reg, out := s.out, pwm := s.pwm } = s) ∧
  (∀ (s : State) (p : Fin 12) (dt d : Nat) (o : PwmOut) (rest : List (Nat × PwmOut)), s.regsWf → (s.pair p.val).forceOn = none → (s.pair p.val).edges
    = (d, o) :: rest → (s.pair p.val).forceDue = false → ∃ t, exec (.pwmEdge p dt) s = .next t ∧ t.pwm.pairs = tabSet noPair s.pwm.pairs p.val
    { s.pair p.val with gen := o, edges := rest } ∧ t.pwm.grps = s.pwm.grps ∧ FieldsKept [PWM.FLT_STAT.BLANKED.at (fltOff 0), PWM.FLT_STAT.BLANKED.at
    (fltOff 1), PWM.FLT_STAT.BLANKED.at (fltOff 2), PWM.FLT_STAT.BLANKED.at (fltOff 3)] s t ∧ { t with reg := s.reg, out := s.out, pwm := s.pwm } = s) ∧
  (∀ (s : State) (p : Path) (m : Fin 16), s.regsWf → Reaches p PWM.GCTRL.addr s → s.isCell = false → m.val &&& s.fld PWM.GSTAT.PEND = 0 → ∃ t, exec
    (.pwmCommit p m) s = .next t ∧ t.fld PWM.GSTAT.PEND = s.fld PWM.GSTAT.PEND ||| m.val ∧ t.out = [] ∧ FieldsKept [PWM.GSTAT.PEND] s t ∧
    { t with reg := s.reg, out := s.out } = s) ∧
  (∀ (s : State) (p : Path) (pair : Fin 12) (w : W32), s.regsWf → Reaches p (PWM.PAIR_CFG.addr + 0x40 * pair.val) s → s.isCell = false → s.blocked =
    false → bitsAt w.toNat 3 2 = 1 → bitsAt w.toNat 0 2 = pairGrp s pair.val → ∃ t, exec (.pwmOverrideWrite p pair w) s = .next t ∧ t.fld
    (PWM.PAIR_CFG.OVR_MODE.at (pairOff pair.val)) = 1 ∧ t.pwm = (s.setPair pair.val
    { s.pair pair.val with edges := [], gen := .off, forced := none, forceDue := false, forceOn := none, hold := none }).pwm ∧ (inHiz s (pairGrp s
    pair.val) = false → pairPins t pair.val = some .off) ∧ t.out = [] ∧ FieldsKept [⟨PWM.PAIR_CFG.addr + 0x40 * pair.val, 0, 32⟩] s t ∧
    { t with reg := s.reg, out := s.out, pwm := s.pwm } = s) ∧
  (∀ (s : State) (p : Path) (g : Fin 4) (w : W32), s.regsWf → Reaches p (PWM.GRP_CFG.addr + 0x20 * g.val) s → s.isCell = false → s.flag
    (PWM.GRP_CFG.EN.at (grpOff g.val)) = false → bitAt w.toNat 0 = true → ∃ t, exec (.pwmGrpEnWrite p g w) s = .next t ∧ t.flag (PWM.GRP_CFG.EN.at
    (grpOff g.val)) = true ∧ (∀ k : Fin 12, pairGrp s k.val = g.val → t.fld (PWM.PAIR_CARRY.C.at (pairOff k.val)) = 0) ∧ (∀ k : Fin 12, pairGrp s
    k.val ≠ g.val → t.fld (PWM.PAIR_CARRY.C.at (pairOff k.val)) = s.fld (PWM.PAIR_CARRY.C.at (pairOff k.val))) ∧ t.out = [] ∧ FieldsKept
    [⟨PWM.GRP_CFG.addr + 0x20 * g.val, 0, 32⟩, PWM.PAIR_CARRY.C.at (pairOff 0), PWM.PAIR_CARRY.C.at (pairOff 1), PWM.PAIR_CARRY.C.at (pairOff 2),
    PWM.PAIR_CARRY.C.at (pairOff 3), PWM.PAIR_CARRY.C.at (pairOff 4), PWM.PAIR_CARRY.C.at (pairOff 5), PWM.PAIR_CARRY.C.at (pairOff 6),
    PWM.PAIR_CARRY.C.at (pairOff 7), PWM.PAIR_CARRY.C.at (pairOff 8), PWM.PAIR_CARRY.C.at (pairOff 9), PWM.PAIR_CARRY.C.at (pairOff 10),
    PWM.PAIR_CARRY.C.at (pairOff 11)] s t ∧ { t with reg := s.reg, out := s.out, pwm := s.pwm } = s) ∧
  (∀ (s : State) (k : Fin 4) (dt : Nat), s.regsWf → s.isCell = false → s.flag (PWM.FLT_CFG.EN.at (fltOff k.val)) = true → s.flag (PWM.FLT_CFG.POL.at
    (fltOff k.val)) = false → s.flag (PWM.FLT_STAT.FILT.at (fltOff k.val)) = false → tabGet zeroNat s.pwm.blankTo k.val ≤ s.baseNs + dt → ∃ t, exec
    (.pwmFault k [true, true, true] dt) s = .next t ∧ t.flag (PWM.FLT_STAT.LATCH.at (fltOff k.val)) = true ∧ t.flag (PWM.FLT_STAT.FILT.at (fltOff
    k.val)) = true ∧ t.fld PWM.GSTAT.HIZ = s.fld PWM.GSTAT.HIZ ||| s.fld (PWM.FLT_CFG.HIZ_GRP.at (fltOff k.val)) ∧ (∀ j : Fin 12, bitAt (s.fld
    (PWM.FLT_CFG.HIZ_GRP.at (fltOff k.val))) (pairGrp s j.val) = true → t.fld (PWM.PAIR_CARRY.C.at (pairOff j.val)) = 0) ∧ FieldsKept
    [(PWM.FLT_STAT.LATCH.at (fltOff k.val)), (PWM.FLT_STAT.FILT.at (fltOff k.val)), (PWM.FLT_STAT.BLANKED.at (fltOff k.val)), PWM.GSTAT.HIZ,
    PWM.PAIR_CARRY.C.at (pairOff 0), PWM.PAIR_CARRY.C.at (pairOff 1), PWM.PAIR_CARRY.C.at (pairOff 2), PWM.PAIR_CARRY.C.at (pairOff 3),
    PWM.PAIR_CARRY.C.at (pairOff 4), PWM.PAIR_CARRY.C.at (pairOff 5), PWM.PAIR_CARRY.C.at (pairOff 6), PWM.PAIR_CARRY.C.at (pairOff 7),
    PWM.PAIR_CARRY.C.at (pairOff 8), PWM.PAIR_CARRY.C.at (pairOff 9), PWM.PAIR_CARRY.C.at (pairOff 10), PWM.PAIR_CARRY.C.at (pairOff 11)] s t ∧
    { t with reg := s.reg, out := s.out, pwm := s.pwm } = s) ∧
  (∀ (s : State) (k : Fin 4) (dt : Nat), s.regsWf → s.isCell = false → s.flag (PWM.FLT_CFG.EN.at (fltOff k.val)) = true → s.flag (PWM.FLT_CFG.POL.at
    (fltOff k.val)) = true → s.flag (PWM.FLT_STAT.FILT.at (fltOff k.val)) = false → tabGet zeroNat s.pwm.blankTo k.val ≤ s.baseNs + dt → ∃ t, exec
    (.pwmFault k [false, false, false] dt) s = .next t ∧ t.flag (PWM.FLT_STAT.LATCH.at (fltOff k.val)) = true ∧ t.flag (PWM.FLT_STAT.FILT.at (fltOff
    k.val)) = true ∧ t.fld PWM.GSTAT.HIZ = s.fld PWM.GSTAT.HIZ ||| s.fld (PWM.FLT_CFG.HIZ_GRP.at (fltOff k.val)) ∧ (∀ j : Fin 12, bitAt (s.fld
    (PWM.FLT_CFG.HIZ_GRP.at (fltOff k.val))) (pairGrp s j.val) = true → t.fld (PWM.PAIR_CARRY.C.at (pairOff j.val)) = 0) ∧ FieldsKept
    [(PWM.FLT_STAT.LATCH.at (fltOff k.val)), (PWM.FLT_STAT.FILT.at (fltOff k.val)), (PWM.FLT_STAT.BLANKED.at (fltOff k.val)), PWM.GSTAT.HIZ,
    PWM.PAIR_CARRY.C.at (pairOff 0), PWM.PAIR_CARRY.C.at (pairOff 1), PWM.PAIR_CARRY.C.at (pairOff 2), PWM.PAIR_CARRY.C.at (pairOff 3),
    PWM.PAIR_CARRY.C.at (pairOff 4), PWM.PAIR_CARRY.C.at (pairOff 5), PWM.PAIR_CARRY.C.at (pairOff 6), PWM.PAIR_CARRY.C.at (pairOff 7),
    PWM.PAIR_CARRY.C.at (pairOff 8), PWM.PAIR_CARRY.C.at (pairOff 9), PWM.PAIR_CARRY.C.at (pairOff 10), PWM.PAIR_CARRY.C.at (pairOff 11)] s t ∧
    { t with reg := s.reg, out := s.out, pwm := s.pwm } = s) ∧
  (∀ (s : State) (k : Fin 4) (dt : Nat), s.regsWf → s.isCell = false → s.flag (PWM.FLT_CFG.EN.at (fltOff k.val)) = true → s.flag (PWM.FLT_CFG.POL.at
    (fltOff k.val)) = false → ∃ t, exec (.pwmFault k [false, false, false] dt) s = .next t ∧ t.flag (PWM.FLT_STAT.FILT.at (fltOff k.val)) = false ∧
    (tabGet zeroNat s.pwm.fltWin k.val = 0 → t.flag (PWM.FLT_STAT.LATCH.at (fltOff k.val)) = s.flag (PWM.FLT_STAT.LATCH.at (fltOff k.val))) ∧
    FieldsKept [(PWM.FLT_STAT.LATCH.at (fltOff k.val)), (PWM.FLT_STAT.FILT.at (fltOff k.val)), (PWM.FLT_STAT.BLANKED.at (fltOff k.val)),
    PWM.GSTAT.HIZ, PWM.PAIR_CARRY.C.at (pairOff 0), PWM.PAIR_CARRY.C.at (pairOff 1), PWM.PAIR_CARRY.C.at (pairOff 2), PWM.PAIR_CARRY.C.at (pairOff 3),
    PWM.PAIR_CARRY.C.at (pairOff 4), PWM.PAIR_CARRY.C.at (pairOff 5), PWM.PAIR_CARRY.C.at (pairOff 6), PWM.PAIR_CARRY.C.at (pairOff 7),
    PWM.PAIR_CARRY.C.at (pairOff 8), PWM.PAIR_CARRY.C.at (pairOff 9), PWM.PAIR_CARRY.C.at (pairOff 10), PWM.PAIR_CARRY.C.at (pairOff 11)] s t ∧
    { t with reg := s.reg, out := s.out, pwm := s.pwm } = s) ∧
  (∀ (s : State) (p : Path) (k : Fin 4), s.regsWf → Reaches p (PWM.FLT_STAT.addr + 0x10 * k.val) s → s.isCell = false → s.flag (PWM.FLT_STAT.FILT.at
    (fltOff k.val)) = false → ∃ t, exec (.pwmFltLatchClear p k) s = .next t ∧ t.flag (PWM.FLT_STAT.LATCH.at (fltOff k.val)) = false ∧ t.out = [] ∧
    FieldsKept [(PWM.FLT_STAT.LATCH.at (fltOff k.val))] s t ∧ { t with reg := s.reg, out := s.out } = s) ∧
  (∀ (s : State) (p : Path) (k : Fin 4), s.regsWf → Reaches p (PWM.FLT_STAT.addr + 0x10 * k.val) s → s.isCell = false → s.flag (PWM.FLT_STAT.FILT.at
    (fltOff k.val)) = true → ∃ t, exec (.pwmFltLatchClear p k) s = .next t ∧ t.out = [] ∧ FieldsKept [] s t ∧ { t with reg := s.reg, out := s.out } =
    s) ∧
  (∀ (s : State) (p : Path) (m : Fin 16), s.regsWf → Reaches p PWM.GCTRL.addr s → s.isCell = false → (∀ k : Fin 4, s.flag (PWM.FLT_STAT.LATCH.at
    (fltOff k.val)) = false) → (∀ g : Fin 4, firedWith s (fun (x : Nat) => bitAt (bitsAt x 24 4) g.val) = false) → ∃ t, exec (.hizClr p m) s = .next t
    ∧ t.fld PWM.GSTAT.HIZ = s.fld PWM.GSTAT.HIZ &&& (15 ^^^ m.val) ∧ (∀ j : Fin 12, bitAt (s.fld PWM.GSTAT.HIZ &&& m.val) (pairGrp s j.val) = true →
    t.fld (PWM.PAIR_CARRY.C.at (pairOff j.val)) = 0) ∧ t.out = [] ∧ FieldsKept [PWM.GSTAT.HIZ, PWM.PAIR_CARRY.C.at (pairOff 0), PWM.PAIR_CARRY.C.at
    (pairOff 1), PWM.PAIR_CARRY.C.at (pairOff 2), PWM.PAIR_CARRY.C.at (pairOff 3), PWM.PAIR_CARRY.C.at (pairOff 4), PWM.PAIR_CARRY.C.at (pairOff 5),
    PWM.PAIR_CARRY.C.at (pairOff 6), PWM.PAIR_CARRY.C.at (pairOff 7), PWM.PAIR_CARRY.C.at (pairOff 8), PWM.PAIR_CARRY.C.at (pairOff 9),
    PWM.PAIR_CARRY.C.at (pairOff 10), PWM.PAIR_CARRY.C.at (pairOff 11)] s t ∧ { t with reg := s.reg, out := s.out, pwm := s.pwm } = s) ∧
  (∀ (s : State) (p : Path) (m : Fin 16) (g k : Fin 4), s.regsWf → Reaches p PWM.GCTRL.addr s → s.isCell = false → bitAt m.val g.val = true → bitAt
    (s.fld PWM.GSTAT.HIZ) g.val = true → s.flag (PWM.FLT_STAT.LATCH.at (fltOff k.val)) = true → bitAt (s.fld (PWM.FLT_CFG.HIZ_GRP.at (fltOff k.val)))
    g.val = true → ∃ t, exec (.hizClr p m) s = .next t ∧ t.flag PWM.GSTAT.HIZ_REJ = true ∧ bitAt (t.fld PWM.GSTAT.HIZ) g.val = true ∧ t.out = [] ∧
    FieldsKept [PWM.GSTAT.HIZ, PWM.GSTAT.HIZ_REJ, PWM.PAIR_CARRY.C.at (pairOff 0), PWM.PAIR_CARRY.C.at (pairOff 1), PWM.PAIR_CARRY.C.at (pairOff 2),
    PWM.PAIR_CARRY.C.at (pairOff 3), PWM.PAIR_CARRY.C.at (pairOff 4), PWM.PAIR_CARRY.C.at (pairOff 5), PWM.PAIR_CARRY.C.at (pairOff 6),
    PWM.PAIR_CARRY.C.at (pairOff 7), PWM.PAIR_CARRY.C.at (pairOff 8), PWM.PAIR_CARRY.C.at (pairOff 9), PWM.PAIR_CARRY.C.at (pairOff 10),
    PWM.PAIR_CARRY.C.at (pairOff 11)] s t ∧ { t with reg := s.reg, out := s.out, pwm := s.pwm } = s) ∧
  (∀ (st : Bool) (mn dt t tt : Int), 0 ≤ t → t ≤ tt → 0 ≤ dt → 0 < mn → 2 * (mn + dt) ≤ tt → (st = false → (minPulseRule st mn dt t tt).1 +
    (minPulseRule st mn dt t tt).2.1 = t) ∧ -(mn + dt) ≤ (minPulseRule st mn dt t tt).2.1 ∧ (minPulseRule st mn dt t tt).2.1 ≤ mn + dt ∧ 0 ≤
    (minPulseRule st mn dt t tt).1 ∧ (minPulseRule st mn dt t tt).1 ≤ tt ∧ ((minPulseRule st mn dt t tt).1 ≠ 0 → mn ≤ (minPulseRule st mn dt t tt).1 -
    dt) ∧ ((minPulseRule st mn dt t tt).1 ≠ tt → mn ≤ tt - (minPulseRule st mn dt t tt).1 - dt) ∧ ((minPulseRule st mn dt t tt).2.2 = false →
    (minPulseRule st mn dt t tt).1 = t ∧ (minPulseRule st mn dt t tt).2.1 = 0)) ∧
  (∀ (dt t tt : Int), 0 < t → t < tt → periodEdges false .low none dt t tt = [(0, .off), (dt.toNat, .high), (t.toNat, .off), ((t + dt).toNat, .low)] ∧
    periodEdges true .low none dt t tt = [((roundHA (tt - t) 2).toNat, .off), ((roundHA (tt - t) 2 + dt).toNat, .high), ((roundHA (tt + t) 2).toNat,
    .off), ((roundHA (tt + t) 2 + dt).toNat, .low)] ∧ periodEdges false .high none dt t tt = [(t.toNat, .off), ((t + dt).toNat, .low)]) ∧
  (∀ (centre : Bool) (dt t tt : Int), 0 < tt → (t ≤ 0 → periodEdges centre .low none dt t tt = [] ∧ periodEdges centre .high none dt t tt = [(0,
    .off), (dt.toNat, .low)]) ∧ (tt ≤ t → periodEdges centre .high none dt t tt = [] ∧ periodEdges centre .low none dt t tt = [(0, .off), (dt.toNat,
    .high)])) ∧
  (∀ (s : State) (last p : Nat), s.regsWf → p < 12 → s.fld (PWM.PAIR_CFG.OVR_MODE.at (pairOff p)) = 0 → s.flag (PWM.PAIR_SHD.SRC.at (pairOff p)) =
    false → inHiz s (pairGrp s p) = false → s.blocked = false → (pairStart last p s).fld (PWM.PAIR_TON.T.at (pairOff p)) = unsignedOf 32 (minPulseRule
    (s.flag (PWM.PAIR_STAT.MINP_MODE.at (pairOff p))) (minPulse s p) (deadTime s (s.fld THM.STAT.BAND) p) (clampI 0 ((perTc s (pairGrp s p) * tcNs
    s.tc * 8 : Nat) : Int) (roundHA (clampI 0 onePu (signedOf 32 (s.pair p).act) * ((perTc s (pairGrp s p) * tcNs s.tc * 8 : Nat) : Int)) (2 ^ 24) +
    s.sfld (PWM.PAIR_CARRY.C.at (pairOff p)))) ((perTc s (pairGrp s p) * tcNs s.tc * 8 : Nat) : Int)).1 ∧ (pairStart last p s).fld
    (PWM.PAIR_CARRY.C.at (pairOff p)) = unsignedOf 32 (minPulseRule (s.flag (PWM.PAIR_STAT.MINP_MODE.at (pairOff p))) (minPulse s p) (deadTime s
    (s.fld THM.STAT.BAND) p) (clampI 0 ((perTc s (pairGrp s p) * tcNs s.tc * 8 : Nat) : Int) (roundHA (clampI 0 onePu (signedOf 32 (s.pair p).act) *
    ((perTc s (pairGrp s p) * tcNs s.tc * 8 : Nat) : Int)) (2 ^ 24) + s.sfld (PWM.PAIR_CARRY.C.at (pairOff p)))) ((perTc s (pairGrp s p) * tcNs s.tc *
    8 : Nat) : Int)).2.1 ∧ ((minPulseRule (s.flag (PWM.PAIR_STAT.MINP_MODE.at (pairOff p))) (minPulse s p) (deadTime s (s.fld THM.STAT.BAND) p)
    (clampI 0 ((perTc s (pairGrp s p) * tcNs s.tc * 8 : Nat) : Int) (roundHA (clampI 0 onePu (signedOf 32 (s.pair p).act) * ((perTc s (pairGrp s p) *
    tcNs s.tc * 8 : Nat) : Int)) (2 ^ 24) + s.sfld (PWM.PAIR_CARRY.C.at (pairOff p)))) ((perTc s (pairGrp s p) * tcNs s.tc * 8 : Nat) : Int)).2.2 =
    true → (pairStart last p s).flag PWM.GSTAT.MINP = true))

/-- Signal detect in ACQUIRE locks the CDR; the end of adaptation stores the codes and goes to SEARCH; 64 good headers go to TRACK with block lock, where a cell with CELL_REC takes the recovered clock; 200 µs without it go back to ACQUIRE. Loss of lock in TRACK goes to SEARCH with LOCK_LOST; loss of signal goes to HOLD with LOS, its codes frozen, and the return of the signal resumes them, while 1 ms without it goes to ACQUIRE. Out of TRACK for more than 1 ms the cell stops reporting and listens. A far-end loopback not renewed for 1 s ends. The timers of the link act when the sender gives them (log 117); the CDR stays locked through HOLD, and headers count as invalid in TRACK only (log 156). -/
def Obligations.CellReceiverFollowsItsStates : Prop :=
  (∀ (s : State) (amp lsd : Bool), s.regsWf → s.isCell = true → s.clodsUp = true → rxState s = rxAcquire → sdLevel amp lsd s = true → ∃ t, exec
    (.rxSignalDetect amp lsd) s = .next t ∧ t.flag LNK.STAT.SD = true ∧ t.flag LNK.STAT.CDR_LOCK = true ∧ FieldsKept [LNK.STAT.SD, LNK.STAT.CDR_LOCK]
    s t ∧ { t with reg := s.reg, out := s.out } = s) ∧
  (∀ (s : State) (amp lsd : Bool), s.regsWf → s.isCell = true → s.clodsUp = true → sdLevel amp lsd s = false → ∃ t, exec (.rxSignalDetect amp lsd) s =
    .next t ∧ t.flag LNK.STAT.SD = false ∧ FieldsKept [LNK.STAT.SD] s t ∧ { t with reg := s.reg, out := s.out } = s) ∧
  (∀ (s : State) (eq0 eq1 : W32), s.regsWf → s.isCell = true → rxState s = rxAcquire → s.flag LNK.STAT.CDR_LOCK = true → ∃ t, exec (.rxAdaptDone eq0
    eq1) s = .next t ∧ rxState t = rxSearch ∧ t.rd LNK.RX_EQ0.addr = eq0.toNat ∧ t.rd LNK.RX_EQ1.addr = eq1.toNat ∧ t.cell =
    { s.cell with rx := t.cell.rx } ∧ FieldsKept [LNK.STAT.RX_STATE, LNK.RX_EQ0.DFE_LO, LNK.RX_EQ1.EQ_HI] s t ∧
    { t with reg := s.reg, out := s.out, cell := s.cell } = s) ∧
  (∀ (s : State) (now : Nat) (blks : List (BitVec 66)), s.regsWf → s.isCell = true → rxState s = rxSearch → prbsMode s 0 ≠ 1 → loopback s 0 = 0 → 64 ≤
    blks.length → blks.all (fun (b : BitVec 66) => b.toNat % 4 == 1 || b.toNat % 4 == 2) = true → ∃ t, exec (.blockLock now blks) s = .next t ∧
    rxState t = rxTrack ∧ t.flag LNK.STAT.BLOCK_LOCK = true ∧ t.cell =
    { s.cell with lastStart := none, hdrSeen := false, trackAt := now, rx := t.cell.rx } ∧ t.cell.rx.good = 64 ∧ (s.flag CLK.REF_CFG.CELL_REC = true →
    t.flag CLK.STAT.CELL_SRC = true ∧ t.flag CLK.STAT.HOLDOVER = false) ∧ (s.flag CLK.REF_CFG.CELL_REC = false → t.flag CLK.STAT.CELL_SRC = s.flag
    CLK.STAT.CELL_SRC ∧ t.flag CLK.STAT.HOLDOVER = s.flag CLK.STAT.HOLDOVER) ∧ t.out = [] ∧ FieldsKept [LNK.STAT.RX_STATE, LNK.STAT.BLOCK_LOCK,
    CLK.STAT.CELL_SRC, CLK.STAT.HOLDOVER] s t ∧ { t with reg := s.reg, out := s.out, cell := s.cell } = s) ∧
  (∀ (s : State) (now : Nat) (b : BitVec 66), s.regsWf → s.isCell = true → rxState s = rxSearch → prbsMode s 0 ≠ 1 → loopback s 0 = 0 → (b.toNat % 4 =
    0 ∨ b.toNat % 4 = 3) → ∃ t, exec (.blockLock now [b]) s = .next t ∧ rxState t = rxSearch ∧ t.cell = { s.cell with rx := t.cell.rx } ∧
    t.cell.rx.good = 0 ∧ t.out = [] ∧ FieldsKept [] s t ∧ { t with reg := s.reg, out := s.out, cell := s.cell } = s) ∧
  (∀ (s : State), s.regsWf → s.isCell = true → rxState s = rxSearch → ∃ t, exec (.blockSearchTimeout) s = .next t ∧ rxState t = rxAcquire ∧ t.flag
    LNK.STAT.CDR_LOCK = false ∧ FieldsKept [LNK.STAT.RX_STATE, LNK.STAT.CDR_LOCK, LNK.BLOCK_ERR_CNT.COUNT] s t ∧ { t with reg := s.reg, out := s.out }
    = s) ∧
  (∀ (s : State) (blks : List (BitVec 66)), s.regsWf → s.isCell = true → rxState s = rxTrack → prbsMode s 0 ≠ 1 → loopback s 0 = 0 → 16 ≤ blks.length
    → blks.all (fun (b : BitVec 66) => b.toNat % 4 == 0 || b.toNat % 4 == 3) = true → ∃ t, exec (.lockLost blks) s = .next t ∧ rxState t = rxSearch ∧
    t.flag LNK.STAT.BLOCK_LOCK = false ∧ t.flag LNK.EVT.LOCK_LOST = true ∧ t.fld LNK.BLOCK_ERR_CNT.COUNT = min (s.fld LNK.BLOCK_ERR_CNT.COUNT +
    blks.length) (2 ^ 32 - 1) ∧ (s.flag CLK.STAT.CELL_SRC = true → t.flag CLK.STAT.HOLDOVER = true) ∧ t.cell = { s.cell with rx := t.cell.rx } ∧ t.out
    = [] ∧ FieldsKept [LNK.STAT.RX_STATE, LNK.STAT.BLOCK_LOCK, LNK.EVT.LOCK_LOST, LNK.BLOCK_ERR_CNT.COUNT, CLK.STAT.HOLDOVER] s t ∧
    { t with reg := s.reg, out := s.out, cell := s.cell } = s) ∧
  (∀ (s : State) (amp lsd : Bool), s.regsWf → s.isCell = true → sdLevel amp lsd s = false → (rxState s = rxTrack ∨ rxState s = rxSearch) → s.fld
    LNK.CTRL.LOOPBACK ≠ 4 → ∃ t, exec (.los amp lsd) s = .next t ∧ rxState t = rxHold ∧ t.flag LNK.STAT.SD = false ∧ t.flag LNK.EVT.LOS = true ∧
    t.cell = { s.cell with frozen := some (s.rd LNK.RX_EQ0.addr, s.rd LNK.RX_EQ1.addr) } ∧ FieldsKept [LNK.STAT.RX_STATE, LNK.STAT.SD,
    LNK.STAT.BLOCK_LOCK, LNK.EVT.LOS, CLK.STAT.HOLDOVER] s t ∧ { t with reg := s.reg, out := s.out, cell := s.cell } = s) ∧
  (∀ (s : State) (amp lsd : Bool) (a b : Nat), s.regsWf → s.isCell = true → rxState s = rxHold → sdLevel amp lsd s = true → s.cell.frozen = some (a,
    b) → a < 2 ^ 32 → b < 2 ^ 32 → ∃ t, exec (.holdResume amp lsd) s = .next t ∧ rxState t = rxSearch ∧ t.flag LNK.STAT.SD = true ∧ t.rd
    LNK.RX_EQ0.addr = a ∧ t.rd LNK.RX_EQ1.addr = b ∧ t.cell = { s.cell with frozen := none, rx := t.cell.rx } ∧ FieldsKept [LNK.STAT.RX_STATE,
    LNK.STAT.SD, LNK.RX_EQ0.DFE_LO, LNK.RX_EQ1.EQ_HI] s t ∧ { t with reg := s.reg, out := s.out, cell := s.cell } = s) ∧
  (∀ (s : State), s.regsWf → s.isCell = true → rxState s = rxHold → ∃ t, exec (.holdTimeout) s = .next t ∧ rxState t = rxAcquire ∧ t.flag
    LNK.STAT.CDR_LOCK = false ∧ t.cell = { s.cell with frozen := none } ∧ FieldsKept [LNK.STAT.RX_STATE, LNK.STAT.CDR_LOCK] s t ∧
    { t with reg := s.reg, out := s.out, cell := s.cell } = s) ∧
  (∀ (s : State), s.regsWf → s.isCell = true → s.fld LNK.CTRL.LOOPBACK = 4 → ∃ t, exec (.feLoopbackTimeout) s = .next t ∧ t.fld LNK.CTRL.LOOPBACK = 0
    ∧ t.flag LNK.STAT.LB_ACTIVE = false ∧ t.flag LNK.EVT.FE_TIMEOUT = true ∧ t.cell = { s.cell with ltxEn := false } ∧ FieldsKept [LNK.CTRL.LOOPBACK,
    LNK.STAT.LB_ACTIVE, LNK.EVT.FE_TIMEOUT] s t ∧ { t with reg := s.reg, out := s.out, cell := s.cell } = s) ∧
  (∀ (s : State), s.regsWf → s.isCell = true → rxState s ≠ rxTrack → ∃ t, exec (.trackLost1ms) s = .next t ∧ cellAdm t = admListen ∧ t.fld
    LNK.C_ADM.CELL_IDX = 0xFFF ∧ t.fld LNK.C_ADM.SLOT = 0 ∧ t.cell.replies = [] ∧ FieldsKept [LNK.C_ADM.STATE, LNK.C_ADM.CELL_IDX, LNK.C_ADM.SLOT,
    LNK.C_ADM.LEVEL] s t ∧ { t with reg := s.reg, out := s.out, cell := s.cell } = s)

/-- RANGE_ADMIT takes an announced cell to JOINING with its index, slot, level and delays. REFUSE takes it to REFUSED with the reason, or with code 0x0B or 0x0C to back off, and records an event; after 1 s it listens again. An announcement not answered, and a joining not confirmed, back off with the exponent one higher, at most 8. RELEASE makes it listen. An accepted word of a frame that arrives on time clears the miss count and waits for its apply instant; a frame outside TRACK does nothing. In its slot a reporting cell sends its report, and its upstream serialiser may sleep when the next burst lies 1 µs or more ahead (logs 87, 90, 91 and 156). -/
def Obligations.CellJoinsReportsAndLeaves : Prop :=
  (∀ (s : State), s.regsWf → s.isCell = true → cellAdm s = admAnnounced → ∃ t, exec (.announceTimeout) s = .next t ∧ cellAdm t = admWait ∧ t.fld
    LNK.C_CNT.BACKOFF_EXP = min 8 (s.fld LNK.C_CNT.BACKOFF_EXP + 1) ∧ t.cell.draw < 2 ^ min 8 (s.fld LNK.C_CNT.BACKOFF_EXP + 1) ∧ t.cell =
    { s.cell with annCyc := none, draw := t.cell.draw } ∧ FieldsKept [LNK.C_ADM.STATE, LNK.C_CNT.BACKOFF_EXP] s t ∧
    { t with reg := s.reg, out := s.out, cell := s.cell, freeCtr := s.freeCtr } = s) ∧
  (∀ (s : State), s.regsWf → s.isCell = true → cellAdm s = admJoining → s.cell.joinCyc + 5 ≤ s.cell.joined → ∃ t, exec (.joiningTimeout) s = .next t ∧
    cellAdm t = admWait ∧ t.fld LNK.C_CNT.BACKOFF_EXP = min 8 (s.fld LNK.C_CNT.BACKOFF_EXP + 1) ∧ t.fld LNK.C_ADM.CELL_IDX = 0xFFF ∧ FieldsKept
    [LNK.C_ADM.STATE, LNK.C_ADM.CELL_IDX, LNK.C_ADM.SLOT, LNK.C_ADM.LEVEL, LNK.C_ADM.STATE, LNK.C_CNT.BACKOFF_EXP] s t ∧
    { t with reg := s.reg, out := s.out, cell := s.cell, freeCtr := s.freeCtr } = s) ∧
  (∀ (s : State), s.regsWf → s.isCell = true → cellAdm s = admRefused → ∃ t, exec (.refusedTimerEnd) s = .next t ∧ cellAdm t = admListen ∧ t.fld
    LNK.C_CNT.BACKOFF_EXP = 2 ∧ FieldsKept [LNK.C_ADM.STATE, LNK.C_ADM.CELL_IDX, LNK.C_ADM.SLOT, LNK.C_ADM.LEVEL, LNK.C_ADM.STATE,
    LNK.C_CNT.BACKOFF_EXP] s t ∧ { t with reg := s.reg, out := s.out, cell := s.cell } = s) ∧
  (∀ (s : State) (m : MgmtMsg), s.regsWf → cellMsg 0x01 s = some m → linkRepeat m s = false → cellAdm s = admAnnounced → ∃ t, exec (.rangeAdmit) s =
    .next t ∧ cellAdm t = admJoining ∧ t.fld LNK.C_ADM.CELL_IDX = m.val 0 2 % 4096 ∧ t.fld LNK.C_ADM.SLOT = m.byte 2 % 32 ∧ t.fld LNK.C_ADM.LEVEL =
    m.byte 3 % 4 ∧ t.fld LNK.C_EQ.DELAY_EQ = m.val 4 2 % 2048 ∧ t.cell.joinCyc = m.byte 12 ∧ t.cell.tagLink = some m.tag ∧ t.cell.mgmt = none ∧
    FieldsKept [LNK.C_ADM.STATE, LNK.C_ADM.CELL_IDX, LNK.C_ADM.SLOT, LNK.C_ADM.LEVEL, LNK.C_EQ.DELAY_EQ, LNK.C_EQ.ADVANCE] s t ∧
    { t with reg := s.reg, out := s.out, cell := s.cell } = s) ∧
  (∀ (s : State) (m : MgmtMsg), s.regsWf → cellMsg 0x02 s = some m → linkRepeat m s = false → cellAdm s = admAnnounced → m.byte 0 ≠ 0x0B → m.byte 0 ≠
    0x0C → ∃ t, exec (.refuse) s = .next t ∧ cellAdm t = admRefused ∧ t.fld LNK.C_ADM.REASON = m.byte 0 ∧ t.fld LNK.C_CNT.REFUSALS = min (s.fld
    LNK.C_CNT.REFUSALS + 1) 255 ∧ t.cell = { s.cell with mgmt := none, tagLink := some m.tag, annCyc := none } ∧ FieldsKept [LNK.C_ADM.STATE,
    LNK.C_ADM.REASON, LNK.C_CNT.REFUSALS, STR.LOST.DROPPED] s t ∧ { t with reg := s.reg, out := s.out, cell := s.cell, strata := s.strata } = s) ∧
  (∀ (s : State) (m : MgmtMsg), s.regsWf → cellMsg 0x02 s = some m → linkRepeat m s = false → (cellAdm s = admAnnounced ∨ cellAdm s = admJoining) →
    (m.byte 0 = 0x0B ∨ m.byte 0 = 0x0C) → ∃ t, exec (.refuse) s = .next t ∧ cellAdm t = admWait ∧ t.fld LNK.C_ADM.REASON = m.byte 0 ∧ t.fld
    LNK.C_CNT.REFUSALS = min (s.fld LNK.C_CNT.REFUSALS + 1) 255 ∧ t.fld LNK.C_CNT.BACKOFF_EXP = min 8 (s.fld LNK.C_CNT.BACKOFF_EXP + 1) ∧
    t.cell.tagLink = some m.tag ∧ (s.strata.intake = [] → t.strata.intake.map (fun (e : Ev) => e.code) = [0x0010]) ∧ FieldsKept [LNK.C_ADM.STATE,
    LNK.C_ADM.CELL_IDX, LNK.C_ADM.SLOT, LNK.C_ADM.LEVEL, LNK.C_ADM.STATE, LNK.C_CNT.BACKOFF_EXP, LNK.C_ADM.REASON, LNK.C_CNT.REFUSALS,
    STR.LOST.DROPPED] s t ∧ { t with reg := s.reg, out := s.out, cell := s.cell, strata := s.strata, freeCtr := s.freeCtr } = s) ∧
  (∀ (s : State) (m : MgmtMsg), s.regsWf → cellMsg 0x03 s = some m → linkRepeat m s = false → ∃ t, exec (.release) s = .next t ∧ cellAdm t = admListen
    ∧ t.fld LNK.C_ADM.REASON = m.byte 0 ∧ t.fld LNK.C_ADM.CELL_IDX = 0xFFF ∧ t.cell.tagLink = some m.tag ∧ t.cell.replies = [] ∧ FieldsKept
    [LNK.C_ADM.STATE, LNK.C_ADM.CELL_IDX, LNK.C_ADM.SLOT, LNK.C_ADM.LEVEL, LNK.C_ADM.STATE, LNK.C_CNT.BACKOFF_EXP, LNK.C_ADM.REASON] s t ∧
    { t with reg := s.reg, out := s.out, cell := s.cell } = s) ∧
  (∀ (s : State) (start : Nat) (blks : List (BitVec 66)) (lms : List Int), s.regsWf → s.isCell = false → ∃ t, exec (.cellFrameReceived start blks lms)
    s = .next t ∧ FieldsKept [] s t ∧ { t with reg := s.reg, out := s.out } = s) ∧
  (∀ (s : State) (start : Nat) (blks : List (BitVec 66)) (lms : List Int), s.regsWf → s.isCell = true → s.clodsUp = true → rxState s ≠ rxTrack →
    prbsMode s 0 ≠ 1 → loopback s 0 = 0 → ∃ t, exec (.cellFrameReceived start blks lms) s = .next t ∧ t.cell = { s.cell with rx := t.cell.rx } ∧ t.out
    = [] ∧ FieldsKept [] s t ∧ { t with reg := s.reg, out := s.out, cell := s.cell } = s) ∧
  (∀ (s : State) (start : Nat) (h0 : BitVec 64) (rest : List (BitVec 64)) (lms : List Int), s.regsWf → s.isCell = true → s.clodsUp = true → rxState s
    = rxTrack → prbsMode s 0 ≠ 1 → loopback s 0 = 0 → s.cell.rx.dscr < 2 ^ 58 → s.cell.trackAt ≤ start → rest.length = 50 → h0.toNat % 256 = 0x78 →
    hdrCrc h0.toNat ((rest.getD 0 0#64).toNat) ≠ bitsAt ((rest.getD 0 0#64).toNat) 48 16 → ∃ t, exec (.cellFrameReceived start ((scrambleAll
    s.cell.rx.dscr ((hdrCtl, h0.toNat) :: rest.map (fun (w : BitVec 64) => (hdrData, w.toNat)))).map (BitVec.ofNat 66)) lms) s = .next t ∧ t.fld
    LNK.C_ERR.HDR_ERR = min (s.fld LNK.C_ERR.HDR_ERR + 1) (2 ^ 16 - 1) ∧ t.cell.frames = s.cell.frames ∧ t.cell.cycles = s.cell.cycles ∧ t.cell.grid =
    s.cell.grid ∧ t.cell.mgmt = none ∧ t.fld CEL.STAT.MISS = s.fld CEL.STAT.MISS ∧ FieldsKept [LNK.C_ERR.HDR_ERR, LNK.RX_EQ0.DFE_LO, LNK.RX_EQ1.EQ_HI]
    s t ∧ { t with reg := s.reg, out := s.out, cell := s.cell } = s) ∧
  (∀ (s : State) (start : Nat) (h0 : BitVec 64) (rest : List (BitVec 64)) (lms : List Int), s.regsWf → s.isCell = true → s.clodsUp = true → rxState s
    = rxTrack → prbsMode s 0 ≠ 1 → loopback s 0 = 0 → s.cell.rx.dscr < 2 ^ 58 → s.cell.trackAt ≤ start → rest.length = 50 → h0.toNat % 256 = 0x78 →
    hdrCrc h0.toNat ((rest.getD 0 0#64).toNat) = bitsAt ((rest.getD 0 0#64).toNat) 48 16 → bitAt h0.toNat 60 = false → (s.cell.hdrSeen = false ∨ start
    ≤ s.cell.lastStart.getD start + 8 * tcNs s.cell.tc + 160) → cellAdm s = admAdmitted → wordAccepted s (bitsAt h0.toNat 8 48) (bitsAt h0.toNat 58 2)
    ((rest.getD (1 + s.fld LNK.C_ADM.SLOT) 0#64).toNat) = true → s.cell.stItem = none → ∃ t, exec (.cellFrameReceived start ((scrambleAll
    s.cell.rx.dscr ((hdrCtl, h0.toNat) :: rest.map (fun (w : BitVec 64) => (hdrData, w.toNat)))).map (BitVec.ofNat 66)) lms) s = .next t ∧ t.fld
    CEL.STAT.MISS = 0 ∧ t.cell.lastStart = some start ∧ t.cell.frames = (s.cell.frames ++
    [({ start := start, code := bitsAt ((rest.getD (1 + s.fld LNK.C_ADM.SLOT) 0#64).toNat) 0 4, toffs := bitsAt ((rest.getD (1 + s.fld LNK.C_ADM.SLOT) 0#64).toNat) 4 12, recharge := bitAt ((rest.getD (1 + s.fld LNK.C_ADM.SLOT) 0#64).toNat) 24, confirm := bitAt ((rest.getD (1 + s.fld LNK.C_ADM.SLOT) 0#64).toNat) 25, seq := bitsAt ((rest.getD (1 + s.fld LNK.C_ADM.SLOT) 0#64).toNat) 16 8, clearStop := !bitAt h0.toNat 61 && s.cell.lastBlk }
    : CellFrame)]).take 4 ∧ t.cell.lastBlk = bitAt h0.toNat 61 ∧ t.cell.tc = bitsAt h0.toNat 58 2 ∧ t.cell.cycles.head? = some
    { num := bitsAt ((rest.getD 0 0#64).toNat) 16 8, quiet := bitAt h0.toNat 62, grants := bitsAt ((rest.getD 0 0#64).toNat) 24 24 } ∧ t.cell.grid =
    some (bitsAt ((rest.getD 0 0#64).toNat) 16 8, 165 * start + 128 * bitsAt ((rest.getD 0 0#64).toNat) 0 16) ∧ t.cell.mgmt = frameMgmt (h0.toNat ::
    rest.map (fun (w : BitVec 64) => w.toNat)) ∧ t.cell.wordErr = false ∧ cellAdm t = admAdmitted ∧ (s.flag LNK.CTRL.EQ_FREEZE = true → t.rd
    LNK.RX_EQ0.addr = s.rd LNK.RX_EQ0.addr ∧ t.rd LNK.RX_EQ1.addr = s.rd LNK.RX_EQ1.addr) ∧ FieldsKept [CEL.STAT.MISS, LNK.C_ADM.CAD, GDC.OVR.EN,
    GDC.STAT.OVR_ACT, LNK.RX_EQ0.DFE_LO, LNK.RX_EQ1.EQ_HI] s t ∧ { t with reg := s.reg, out := s.out, cell := s.cell } = s) ∧
  (∀ (s : State) (cyc : Fin 256) (slot : Fin 36) (ahead : Nat) (x : CycAnn) (b : Int), s.regsWf → s.isCell = true → rxState s = rxTrack → prbsMode s 0
    ≠ 1 → loopback s 0 ≠ 4 → s.flag LNK.STAT.LB_ACTIVE = false → usSleeps s = false → gridCycle s cyc.val = some x → burstStart s cyc.val slot.val =
    some b → gridFresh s b = true → slot.val < 32 → slot.val = s.fld LNK.C_ADM.SLOT → reportsIn (cadTurn x.num s) x = true → ∃ t, exec (.cellBurstTx
    cyc slot ahead) s = .next t ∧ t.fld LNK.C_ADM.CAD = (cadTurn x.num s).fld LNK.C_ADM.CAD ∧ t.cell =
    { s.cell with cadSent := true, wordErrDue := false, usIdle := decide (1000 ≤ ahead) } ∧ t.out = [.ltxEn (b - 7680) true, .burst b burstDelim
    (scrambleAll burstSeed (ownBurst 1 (reportField (cadTurn x.num s)) (cadTurn x.num s))), .ltxEn (b + 41728) false] ∧ FieldsKept [LNK.C_ADM.CAD] s t
    ∧ { t with reg := s.reg, out := s.out, cell := s.cell } = s) ∧
  (∀ (s : State) (cyc : Fin 256) (slot : Fin 36) (ahead : Nat) (x : CycAnn) (b : Int), s.regsWf → s.isCell = true → rxState s = rxTrack → prbsMode s 0
    ≠ 1 → loopback s 0 ≠ 4 → s.flag LNK.STAT.LB_ACTIVE = false → usSleeps s = false → gridCycle s cyc.val = some x → burstStart s cyc.val slot.val =
    some b → gridFresh s b = true → (slot.val = 32 ∨ slot.val = 33 ∨ slot.val = 34 ∨ slot.val = 35) → s.cell.annCyc = none → grantMine s x (slot.val -
    32) = true → s.cell.testBurst = false → ∃ t, exec (.cellBurstTx cyc slot ahead) s = .next t ∧ t.cell =
    { s.cell with replies := s.cell.replies.drop 1, usIdle := decide (1000 ≤ ahead) } ∧ t.out = [.ltxEn (b - 7680) true, .burst b burstDelim
    (scrambleAll burstSeed (ownBurst 3 (leNat (s.cell.replies.headD (leBytes 16 0x80))) s)), .ltxEn (b + 41728) false] ∧ FieldsKept [] s t ∧
    { t with reg := s.reg, out := s.out, cell := s.cell } = s) ∧
  (∀ (s : State) (cyc : Fin 256) (slot : Fin 36) (ahead : Nat), s.regsWf → s.isCell = true → rxState s ≠ rxTrack → prbsMode s 0 ≠ 1 → ∃ t, exec
    (.cellBurstTx cyc slot ahead) s = .next t ∧ (loopback s 0 ≠ 4 → t.cell = { s.cell with usIdle := decide (1000 ≤ ahead) }) ∧ (loopback s 0 = 4 → t
    = s.fresh) ∧ t.out = [] ∧ FieldsKept [] s t ∧ { t with reg := s.reg, out := s.out, cell := s.cell } = s) ∧
  (∀ (s : State), s.regsWf → ∃ t, exec (.cellUsWake) s = .next t ∧ t.cell = { s.cell with usIdle := false } ∧ { t with out := s.out, cell := s.cell }
    = s)

/-- A message that is not a repeat of the last one is executed and its reply waits for a grant. REG_READ answers the words of a register; REG_WRITE writes them under the access codes; LINK_TEST ends or starts the loopback, raw PRBS and test bursts; STRATA_READ answers up to three words of the MRAM, out of range with an error. An image chunk is stored without a reply; IMG_END names a missing chunk, or gives the whole image to the loader. TIMING_ADJ moves the burst advance. Which STATUS a message with a wrong LEN or block gets, repeats and MGMT_PEND, and where injected errors fall are logs 93 to 96. -/
def Obligations.CellMessagesAreExecutedOnceAndAnswered : Prop :=
  (∀ (s : State) (m : MgmtMsg) (dt ticks : Nat), s.regsWf → cellMsg 0x10 s = some m → s.cell.tagReg ≠ some m.tag → 5 ≤ m.payload.length → m.byte 4 = 1
    → m.val 0 4 % 4 = 0 → 0xC0000 ≤ m.val 0 4 → m.val 0 4 < 0xD0000 → Reaches .mgmt (m.val 0 4) s → ∃ t, exec (.regRead dt ticks) s = .next t ∧ t.cell
    =
    { s.cell with mgmt := none, replies := s.cell.replies ++ [replyBytes m 0 (leBytes 4 (s.rd (m.val 0 4)))], replyErr := false, tagReg := some m.tag, doneReg := replyBytes m 0 (leBytes 4 (s.rd (m.val 0 4))) }
    ∧ FieldsKept [] s t ∧ { t with reg := s.reg, out := s.out, cell := s.cell } = s) ∧
  (∀ (s : State) (m : MgmtMsg) (dt ticks : Nat), s.regsWf → cellMsg 0x10 s = some m → s.cell.tagReg ≠ some m.tag → 3 < m.byte 4 → ∃ t, exec (.regRead
    dt ticks) s = .next t ∧ t.cell =
    { s.cell with mgmt := none, replies := s.cell.replies ++ [replyBytes m 3 []], replyErr := true, tagReg := some m.tag, doneReg := replyBytes m 3 [] }
    ∧ FieldsKept [] s t ∧ { t with reg := s.reg, out := s.out, cell := s.cell } = s) ∧
  (∀ (s : State) (m : MgmtMsg) (dt : Nat) (r : RegRow), s.regsWf → cellMsg 0x11 s = some m → s.cell.tagReg ≠ some m.tag → 12 ≤ m.payload.length →
    m.byte 4 = 1 → m.addr = 1 → m.val 0 4 % 4 = 0 → 0x50000 ≤ m.val 0 4 → m.val 0 4 < 0x60000 → m.val 0 4 ≠ THM.SD.addr → regRow? (m.val 0 4) = some r
    → Reaches .mgmt (m.val 0 4) s → ∃ t, exec (.regWrite dt) s = .next t ∧ t.rd (m.val 0 4) = writeMasked r (s.rd (m.val 0 4)) (m.val 8 4) ∧ t.cell =
    { s.cell with mgmt := none, replies := s.cell.replies ++ [replyBytes m 0 []], replyErr := false, tagReg := some m.tag, doneReg := replyBytes m 0 [] }
    ∧ FieldsKept [⟨m.val 0 4, 0, 32⟩] s t ∧ { t with reg := s.reg, out := s.out, cell := s.cell } = s) ∧
  (∀ (s : State) (m : MgmtMsg), s.regsWf → cellMsg 0x12 s = some m → s.cell.tagReg ≠ some m.tag → 1 ≤ m.payload.length → m.byte 0 = 0 → ∃ t, exec
    (.linkTestEnd) s = .next t ∧ t.fld LNK.CTRL.LOOPBACK = 0 ∧ t.flag LNK.STAT.LB_ACTIVE = false ∧ t.fld LNK.PRBS_CTRL.MODE = 0 ∧ t.flag
    LNK.STAT.PRBS_LOCK = false ∧ t.cell =
    { s.cell with mgmt := none, replies := s.cell.replies ++ [replyBytes m 0 []], replyErr := false, tagReg := some m.tag, doneReg := replyBytes m 0 [], ltxEn := false }
    ∧ FieldsKept [LNK.CTRL.LOOPBACK, LNK.STAT.LB_ACTIVE, LNK.PRBS_CTRL.MODE, LNK.STAT.PRBS_LOCK] s t ∧
    { t with reg := s.reg, out := s.out, cell := s.cell } = s) ∧
  (∀ (s : State) (m : MgmtMsg), s.regsWf → cellMsg 0x12 s = some m → s.cell.tagReg ≠ some m.tag → 1 ≤ m.payload.length → m.byte 0 = 1 → ∃ t, exec
    (.linkTestFarEnd) s = .next t ∧ t.fld LNK.CTRL.LOOPBACK = 4 ∧ t.flag LNK.STAT.LB_ACTIVE = true ∧ t.cell =
    { s.cell with mgmt := none, replies := s.cell.replies ++ [replyBytes m 0 []], replyErr := false, tagReg := some m.tag, doneReg := replyBytes m 0 [], ltxEn := true }
    ∧ FieldsKept [LNK.CTRL.LOOPBACK, LNK.STAT.LB_ACTIVE] s t ∧ { t with reg := s.reg, out := s.out, cell := s.cell } = s) ∧
  (∀ (s : State) (m : MgmtMsg), s.regsWf → cellMsg 0x12 s = some m → s.cell.tagReg ≠ some m.tag → 1 ≤ m.payload.length → m.byte 0 = 2 → ∃ t, exec
    (.linkTestRawPrbs) s = .next t ∧ t.fld LNK.PRBS_CTRL.MODE = 1 ∧ t.fld LNK.PRBS_CTRL.PATTERN = m.byte 1 % 16 ∧ (t.lane 0).wire.gen = 1 + s.draw 104
    % (2 ^ (if prbsPoly (m.byte 1 % 16) = none then 31 else ((prbsPoly (m.byte 1 % 16)).getD (31, 28)).1) - 1) ∧ (t.lane 0).chk = {} ∧ t.flag
    LNK.STAT.PRBS_LOCK = false ∧ t.cell =
    { s.cell with mgmt := none, replies := s.cell.replies ++ [replyBytes m 0 []], replyErr := false, tagReg := some m.tag, doneReg := replyBytes m 0 [] }
    ∧ FieldsKept [LNK.PRBS_CTRL.MODE, LNK.PRBS_CTRL.PATTERN, LNK.PRBS_CTRL.GEN_EN, LNK.STAT.PRBS_LOCK] s t ∧
    { t with reg := s.reg, out := s.out, cell := s.cell, lanes := s.lanes, freeCtr := s.freeCtr } = s) ∧
  (∀ (s : State) (m : MgmtMsg), s.regsWf → cellMsg 0x12 s = some m → s.cell.tagReg ≠ some m.tag → 1 ≤ m.payload.length → m.byte 0 = 3 → ∃ t, exec
    (.linkTestTestBurst) s = .next t ∧ t.cell =
    { s.cell with mgmt := none, testBurst := true, replies := s.cell.replies ++ [replyBytes m 0 []], replyErr := false, tagReg := some m.tag, doneReg := replyBytes m 0 [] }
    ∧ FieldsKept [] s t ∧ { t with reg := s.reg, out := s.out, cell := s.cell } = s) ∧
  (∀ (s : State) (m : MgmtMsg), s.regsWf → cellMsg 0x30 s = some m → s.cell.tagReg ≠ some m.tag → 5 ≤ m.payload.length → 0 < m.byte 4 → m.byte 4 ≤ 3 →
    m.val 0 4 + 4 * m.byte 4 ≤ 2 ^ 21 → ∃ t, exec (.strataRead) s = .next t ∧ t.cell =
    { s.cell with mgmt := none, replies := s.cell.replies ++ [replyBytes m 0 (memRead s.strata.mram (m.val 0 4) (4 * m.byte 4))], replyErr := false, tagReg := some m.tag, doneReg := replyBytes m 0 (memRead s.strata.mram (m.val 0 4) (4 * m.byte 4)) }
    ∧ FieldsKept [] s t ∧ { t with reg := s.reg, out := s.out, cell := s.cell } = s) ∧
  (∀ (s : State) (m : MgmtMsg), s.regsWf → cellMsg 0x30 s = some m → s.cell.tagReg ≠ some m.tag → 5 ≤ m.payload.length → 0 < m.byte 4 → m.byte 4 ≤ 3 →
    2 ^ 21 < m.val 0 4 + 4 * m.byte 4 → ∃ t, exec (.strataRead) s = .next t ∧ t.cell =
    { s.cell with mgmt := none, replies := s.cell.replies ++ [replyBytes m 1 []], replyErr := true, tagReg := some m.tag, doneReg := replyBytes m 1 [] }
    ∧ FieldsKept [] s t ∧ { t with reg := s.reg, out := s.out, cell := s.cell } = s) ∧
  (∀ (s : State) (m : MgmtMsg), s.regsWf → cellMsg 0x20 s = some m → s.cell.tagImg ≠ some m.tag → inLoader s = true → ldState s ≠ ldFailed → ∃ t, exec
    (.imgChunk) s = .next t ∧ t.cell.imgBytes = memWrite s.cell.imgBytes (m.val 0 4) (((m.payload.drop 8 ++ List.replicate 104 0#8).take 104).take
    (m.val 4 4 - m.val 0 4)) ∧ t.cell.imgLen = m.val 4 4 ∧ t.cell.imgHave.contains (m.val 0 4) = true ∧ t.cell.replies = s.cell.replies ∧
    t.cell.tagImg = some m.tag ∧ FieldsKept [] s t ∧ { t with reg := s.reg, out := s.out, cell := s.cell } = s) ∧
  (∀ (s : State) (m : MgmtMsg) (o : Nat), s.regsWf → cellMsg 0x21 s = some m → s.cell.tagImg ≠ some m.tag → inLoader s = true → missingChunk
    s.cell.imgHave (m.val 0 4) = some o → ∃ t, exec (.imgEnd) s = .next t ∧ t.cell =
    { s.cell with mgmt := none, replies := s.cell.replies ++ [replyBytes m 5 (leBytes 4 o)], replyErr := true, tagImg := some m.tag, doneImg := replyBytes m 5 (leBytes 4 o) }
    ∧ FieldsKept [] s t ∧ { t with reg := s.reg, out := s.out, cell := s.cell } = s) ∧
  (∀ (s : State) (m : MgmtMsg), s.regsWf → cellMsg 0x21 s = some m → s.cell.tagImg ≠ some m.tag → inLoader s = true → missingChunk s.cell.imgHave
    (m.val 0 4) = none → crc32 (memRead s.cell.imgBytes 0 (m.val 0 4)) = m.val 4 4 → arrivalFail (imgRole s) 0 (memRead s.cell.imgBytes 0 (m.val 0 4))
    = none → (memRead s.cell.imgBytes 0 (m.val 0 4)).length < 256 → ∃ t, exec (.imgEnd) s = .next t ∧ ldState t = ldFetch ∧ t.img =
    { s.img with src := .lane0, buf := (memRead s.cell.imgBytes 0 (m.val 0 4)), fifo := [] } ∧ t.cell =
    { s.cell with mgmt := none, imgBytes := [], imgHave := [], imgLen := 0, replies := s.cell.replies ++ [replyBytes m 0 []], replyErr := false, tagImg := some m.tag, doneImg := replyBytes m 0 [] }
    ∧ FieldsKept [IMG.STAT.STATE, IMG.STAT.ERR, IMG.ERR_OFFS.OFFS] s t ∧ { t with reg := s.reg, out := s.out, cell := s.cell, img := s.img } = s) ∧
  (∀ (s : State) (m : MgmtMsg), s.regsWf → cellMsg 0x04 s = some m → linkRepeat m s = false → ∃ t, exec (.timingAdj) s = .next t ∧ t.fld
    LNK.C_EQ.ADVANCE = unsignedOf 18 (s.sfld LNK.C_EQ.ADVANCE + signedOf 32 (m.val 0 4)) ∧ t.cell =
    { s.cell with mgmt := none, tagLink := some m.tag, replies := s.cell.replies ++ [replyBytes m 0 []], replyErr := false } ∧ FieldsKept
    [LNK.C_EQ.ADVANCE] s t ∧ { t with reg := s.reg, out := s.out, cell := s.cell } = s)

/-- At the apply instant of the oldest frame, with nothing that forces a state and no override, BLOCK, BYPASS and INSERT of either polarity (a negative one in a full bridge), and diode insertion, take their state and gate pattern, and HOLD keeps the one there is (logs 81, 82, 84). A missing frame counts in MISS; the HOLD_H-th blocks the cell with reason 0x92. A stop symbol blocks at once and drops the frames received. An abort up to position 35 takes the words of the running frame away. A due edge of GD_ON, GD_MC or BYP_CMD drives its pin (log 80); a turn-on that the mate's GD_FB holds back is made when GD_FB falls. -/
def Obligations.CellCommandsSetTheGatePattern : Prop :=
  (∀ (s : State) (f : CellFrame) (rest : List CellFrame), s.regsWf → s.cellLive = true → s.cell.frames = f :: rest → f.word = true → f.code = 1 →
    s.flag CEL.STAT.STOP_LATCHED = false → routedBlock s = false → s.thm.sd = none → s.cell.perm = 0 → s.cell.faults = [] → s.cell.loader = false →
    s.flag GDC.OVR.EN = false → ∃ t, exec (.applyInstant) s = .next t ∧ t.fld GDC.STAT.STATE = 0 ∧ t.cell.want % 16 = 0 ∧ t.cell.frames = rest ∧
    t.cell.seqEcho = f.seq ∧ t.cell.now = (f.start + 1920 + cellEq s) ∧ t.cell.faults = [] ∧ t.cell.perm = 0 ∧ FieldsKept [GDC.STAT.STATE,
    GDC.STAT.OVR_ACT, CEL.STAT.HOLD_OUT, CEL.STAT.BOOT_UV, CEL.STAT.REASON, ⟨GDC.FLT.addr, 0, 32⟩] s t ∧
    { t with reg := s.reg, out := s.out, cell := s.cell } = s) ∧
  (∀ (s : State) (f : CellFrame) (rest : List CellFrame), s.regsWf → s.cellLive = true → s.cell.frames = f :: rest → f.word = true → f.code = 2 →
    s.flag CEL.STAT.STOP_LATCHED = false → routedBlock s = false → s.thm.sd = none → s.cell.perm = 0 → s.cell.faults = [] → s.cell.loader = false →
    s.flag GDC.OVR.EN = false → ∃ t, exec (.applyInstant) s = .next t ∧ t.fld GDC.STAT.STATE = 1 ∧ t.cell.want % 16 = stagePattern s (statePattern
    (fullBridge s) 1) ∧ t.cell.frames = rest ∧ t.cell.seqEcho = f.seq ∧ t.cell.now = (f.start + 1920 + cellEq s) ∧ t.cell.faults = [] ∧ t.cell.perm =
    0 ∧ FieldsKept [GDC.STAT.STATE, GDC.STAT.OVR_ACT, CEL.STAT.HOLD_OUT, CEL.STAT.BOOT_UV, CEL.STAT.REASON, ⟨GDC.FLT.addr, 0, 32⟩] s t ∧
    { t with reg := s.reg, out := s.out, cell := s.cell } = s) ∧
  (∀ (s : State) (f : CellFrame) (rest : List CellFrame), s.regsWf → s.cellLive = true → s.cell.frames = f :: rest → f.word = true → f.code = 3 →
    s.flag CEL.STAT.STOP_LATCHED = false → routedBlock s = false → s.thm.sd = none → s.cell.perm = 0 → s.cell.faults = [] → s.cell.loader = false →
    s.flag GDC.OVR.EN = false → s.flag CEL.STAT.LOW_ENERGY = false → s.flag CEL.STAT.BOOT_UV = false → f.recharge = false → ∃ t, exec (.applyInstant)
    s = .next t ∧ t.fld GDC.STAT.STATE = 2 ∧ t.cell.want % 16 = stagePattern s (statePattern (fullBridge s) 2) ∧ t.cell.frames = rest ∧ t.cell.seqEcho
    = f.seq ∧ t.cell.now = (f.start + 1920 + cellEq s) ∧ t.cell.faults = [] ∧ t.cell.perm = 0 ∧ FieldsKept [GDC.STAT.STATE, GDC.STAT.OVR_ACT,
    CEL.STAT.HOLD_OUT, CEL.STAT.BOOT_UV, CEL.STAT.REASON, ⟨GDC.FLT.addr, 0, 32⟩] s t ∧ { t with reg := s.reg, out := s.out, cell := s.cell } = s) ∧
  (∀ (s : State) (f : CellFrame) (rest : List CellFrame), s.regsWf → s.cellLive = true → s.cell.frames = f :: rest → f.word = true → f.code = 4 →
    s.flag CEL.STAT.STOP_LATCHED = false → routedBlock s = false → s.thm.sd = none → s.cell.perm = 0 → s.cell.faults = [] → s.cell.loader = false →
    s.flag GDC.OVR.EN = false → s.flag CEL.STAT.LOW_ENERGY = false → s.flag CEL.STAT.BOOT_UV = false → f.recharge = false → fullBridge s = true → ∃ t,
    exec (.applyInstant) s = .next t ∧ t.fld GDC.STAT.STATE = 3 ∧ t.cell.want % 16 = stagePattern s (statePattern (fullBridge s) 3) ∧ t.cell.frames =
    rest ∧ t.cell.neg = true ∧ t.cell.faults = [] ∧ FieldsKept [GDC.STAT.STATE, GDC.STAT.OVR_ACT, CEL.STAT.HOLD_OUT, CEL.STAT.BOOT_UV,
    CEL.STAT.REASON, ⟨GDC.FLT.addr, 0, 32⟩] s t ∧ { t with reg := s.reg, out := s.out, cell := s.cell } = s) ∧
  (∀ (s : State) (f : CellFrame) (rest : List CellFrame), s.regsWf → s.cellLive = true → s.cell.frames = f :: rest → f.word = true → f.code = 3 →
    s.flag CEL.STAT.STOP_LATCHED = false → routedBlock s = false → s.thm.sd = none → s.cell.perm = 0 → s.cell.faults = [] → s.cell.loader = false →
    s.flag GDC.OVR.EN = false → f.recharge = true → ∃ t, exec (.applyInstant) s = .next t ∧ t.fld GDC.STAT.STATE = 4 ∧ t.cell.want % 16 = stagePattern
    s (statePattern (fullBridge s) 4) ∧ t.cell.frames = rest ∧ t.cell.neg = false ∧ t.cell.faults = [] ∧ FieldsKept [GDC.STAT.STATE, GDC.STAT.OVR_ACT,
    CEL.STAT.HOLD_OUT, CEL.STAT.BOOT_UV, CEL.STAT.REASON, ⟨GDC.FLT.addr, 0, 32⟩] s t ∧ { t with reg := s.reg, out := s.out, cell := s.cell } = s) ∧
  (∀ (s : State) (f : CellFrame) (rest : List CellFrame), s.regsWf → s.cellLive = true → s.cell.frames = f :: rest → f.word = true → f.code = 0 →
    s.flag CEL.STAT.STOP_LATCHED = false → routedBlock s = false → s.thm.sd = none → s.cell.perm = 0 → s.cell.faults = [] → s.cell.loader = false →
    s.flag GDC.OVR.EN = false → ∃ t, exec (.applyInstant) s = .next t ∧ t.fld GDC.STAT.STATE = s.fld GDC.STAT.STATE ∧ t.cell.want = s.cell.want ∧
    t.cell.edges = s.cell.edges ∧ t.cell.frames = rest ∧ FieldsKept [GDC.STAT.OVR_ACT, CEL.STAT.HOLD_OUT, CEL.STAT.BOOT_UV, CEL.STAT.REASON,
    ⟨GDC.FLT.addr, 0, 32⟩] s t ∧ { t with reg := s.reg, out := s.out, cell := s.cell } = s) ∧
  (∀ (s : State), s.regsWf → s.cellLive = true → (min 15 (s.fld CEL.STAT.MISS + 1)) < s.fld CEL.CFG.HOLD_H → ∃ t, exec (.holdMissingFrame) s = .next t
    ∧ t.fld CEL.STAT.MISS = (min 15 (s.fld CEL.STAT.MISS + 1)) ∧ t.fld LNK.C_MISS.COUNT = min (s.fld LNK.C_MISS.COUNT + 1) (2 ^ 32 - 1) ∧ t.cell =
    { s.cell with now := t.cell.now, permArmed := false } ∧ FieldsKept [CEL.STAT.MISS, LNK.C_MISS.COUNT] s t ∧
    { t with reg := s.reg, out := s.out, cell := s.cell } = s) ∧
  (∀ (s : State), s.regsWf → s.cellLive = true → s.fld CEL.CFG.HOLD_H ≤ (min 15 (s.fld CEL.STAT.MISS + 1)) → s.flag CEL.STAT.HOLD_OUT = false →
    s.cell.perm = 0 → s.cell.faults = [] → ∃ t, exec (.holdMissingFrame) s = .next t ∧ t.flag CEL.STAT.HOLD_OUT = true ∧ t.fld GDC.STAT.STATE = 0 ∧
    t.cell.want % 16 = 0 ∧ t.fld CEL.STAT.REASON = 0x92 ∧ FieldsKept [GDC.STAT.STATE, GDC.STAT.OVR_ACT, CEL.STAT.MISS, LNK.C_MISS.COUNT,
    CEL.STAT.HOLD_OUT, CEL.STAT.REASON] s t ∧ { t with reg := s.reg, out := s.out, cell := s.cell } = s) ∧
  (∀ (s : State) (t0 : Nat) (w : BitVec 64), s.regsWf → s.cellLive = true → prbsMode s 0 ≠ 1 → loopback s 0 = 0 → s.cell.rx.dscr < 2 ^ 58 → rxState s
    = rxTrack → ctlKind w.toNat = .stop → ∃ t, exec (.stopSymbolRx t0 [BitVec.ofNat 66 (2 + 4 * (scramble s.cell.rx.dscr w.toNat).1)]) s = .next t ∧
    t.flag CEL.STAT.STOP_LATCHED = true ∧ t.fld GDC.STAT.STATE = 0 ∧ t.flag GDC.OVR.EN = false ∧ t.cell.want % 16 = 0 ∧ t.cell.frames = [] ∧
    t.cell.rx.drop = true ∧ t.cell.faults = s.cell.faults ∧ t.cell.perm = s.cell.perm ∧ t.out = [] ∧ FieldsKept [GDC.STAT.STATE, GDC.STAT.OVR_ACT,
    CEL.STAT.STOP_LATCHED, GDC.OVR.EN] s t ∧ { t with reg := s.reg, out := s.out, cell := s.cell } = s) ∧
  (∀ (s : State) (t0 : Nat) (w : BitVec 64), s.regsWf → s.cellLive = true → prbsMode s 0 ≠ 1 → loopback s 0 = 0 → s.cell.rx.dscr < 2 ^ 58 → rxState s
    = rxTrack → ctlKind w.toNat = .error → ∃ t, exec (.stopSymbolRx t0 [BitVec.ofNat 66 (2 + 4 * (scramble s.cell.rx.dscr w.toNat).1)]) s = .next t ∧
    t.fld LNK.BLOCK_ERR_CNT.COUNT = min (s.fld LNK.BLOCK_ERR_CNT.COUNT + 1) (2 ^ 32 - 1) ∧ t.cell = { s.cell with rx := t.cell.rx } ∧ t.out = [] ∧
    FieldsKept [LNK.BLOCK_ERR_CNT.COUNT] s t ∧ { t with reg := s.reg, out := s.out, cell := s.cell } = s) ∧
  (∀ (s : State) (w : BitVec 64), s.regsWf → s.cellLive = true → prbsMode s 0 ≠ 1 → loopback s 0 = 0 → s.cell.rx.dscr < 2 ^ 58 → rxState s = rxTrack →
    ctlKind w.toNat = .abort → s.cell.rx.taken = false → ∃ t, exec (.abortBlockRx [BitVec.ofNat 66 (2 + 4 * (scramble s.cell.rx.dscr w.toNat).1)]) s =
    .next t ∧ t.cell = { s.cell with mgmt := none, rx := t.cell.rx } ∧ t.cell.rx.drop = (s.cell.rx.drop || decide (s.cell.rx.pos + 1 ≤ 35)) ∧
    t.cell.rx.noMgmt = true ∧ t.out = [] ∧ FieldsKept [] s t ∧ { t with reg := s.reg, out := s.out, cell := s.cell } = s) ∧
  (∀ (s : State) (w : BitVec 64), s.regsWf → s.cellLive = true → prbsMode s 0 ≠ 1 → loopback s 0 = 0 → s.cell.rx.dscr < 2 ^ 58 → rxState s = rxTrack →
    ctlKind w.toNat ≠ .abort → ctlKind w.toNat ≠ .test → ctlKind w.toNat ≠ .error → ∃ t, exec (.abortBlockRx [BitVec.ofNat 66 (2 + 4 * (scramble
    s.cell.rx.dscr w.toNat).1)]) s = .next t ∧ t.cell = { s.cell with rx := t.cell.rx } ∧ t.out = [] ∧ FieldsKept [] s t ∧
    { t with reg := s.reg, out := s.out, cell := s.cell } = s) ∧
  (∀ (s : State) (fb : Fin 16) (e : GateEdge) (rest : List GateEdge), s.regsWf → s.cell.edges = e :: rest → e.pin = .on → e.level = true → e.sw < 4 →
    s.flag GDC.CFG.FB_EN = false → ∃ t, exec (.gateEdgeDue fb) s = .next t ∧ bitAt (t.fld GDC.STAT.ON) e.sw = true ∧ bitAt (t.fld GDC.STAT.MC) e.sw =
    false ∧ t.cell.now = e.at_ ∧ t.fld GDC.STAT.FB = fb.val ∧ FieldsKept [⟨GDC.STAT.addr, 4 + e.sw, 1⟩, ⟨GDC.STAT.addr, 8 + e.sw, 1⟩, GDC.STAT.FB] s t
    ∧ { t with reg := s.reg, out := s.out, cell := s.cell } = s) ∧
  (∀ (s : State) (fb : Fin 16) (e : GateEdge) (rest : List GateEdge), s.regsWf → s.cell.edges = e :: rest → e.pin = .on → e.level = false → e.sw < 4 →
    ∃ t, exec (.gateEdgeDue fb) s = .next t ∧ bitAt (t.fld GDC.STAT.ON) e.sw = false ∧ t.cell.now = e.at_ ∧ t.cell.edges = edgeInsert
    { at_ := e.at_ + 8 * s.fld GDC.CFG.MC_DLY, sw := e.sw, pin := .mc, level := true } rest ∧ FieldsKept [⟨GDC.STAT.addr, 4 + e.sw, 1⟩, GDC.STAT.FB] s
    t ∧ { t with reg := s.reg, out := s.out, cell := s.cell } = s) ∧
  (∀ (s : State) (fb : Fin 16) (e : GateEdge) (rest : List GateEdge), s.regsWf → s.cell.edges = e :: rest → e.pin = .mc → e.sw < 4 → ∃ t, exec
    (.gateEdgeDue fb) s = .next t ∧ bitAt (t.fld GDC.STAT.MC) e.sw = e.level ∧ t.fld GDC.STAT.ON = s.fld GDC.STAT.ON ∧ t.cell =
    { s.cell with edges := rest, now := e.at_ } ∧ FieldsKept [⟨GDC.STAT.addr, 8 + e.sw, 1⟩, GDC.STAT.FB] s t ∧
    { t with reg := s.reg, out := s.out, cell := s.cell } = s) ∧
  (∀ (s : State) (fb : Fin 16) (e : GateEdge) (rest : List GateEdge), s.regsWf → s.cell.edges = e :: rest → e.pin = .byp → s.flag GDC.STAT.BYP_CMD =
    false → ∃ t, exec (.gateEdgeDue fb) s = .next t ∧ t.flag GDC.STAT.BYP_CMD = true ∧ t.cell =
    { s.cell with edges := rest, now := e.at_, bypAt := e.at_ } ∧ FieldsKept [GDC.STAT.BYP_CMD, GDC.STAT.FB, ⟨GDC.FLT.addr, 0, 32⟩, CEL.STAT.REASON] s
    t ∧ { t with reg := s.reg, out := s.out, cell := s.cell } = s) ∧
  (∀ (s : State) (fb : Fin 16) (e : GateEdge) (rest : List GateEdge), s.regsWf → s.cell.edges = e :: rest → e.pin = .on → e.level = true → e.sw < 4 →
    s.flag GDC.CFG.FB_EN = true → bitAt fb.val (legMate e.sw) = true → ∃ t, exec (.gateEdgeDue fb) s = .next t ∧ t.fld GDC.STAT.ON = s.fld GDC.STAT.ON
    ∧ t.cell = { s.cell with edges := rest, now := e.at_, held := putBit s.cell.held e.sw true } ∧ FieldsKept [GDC.STAT.FB] s t ∧
    { t with reg := s.reg, out := s.out, cell := s.cell } = s) ∧
  (∀ (s : State) (k : Fin 4) (t0 : Nat), s.regsWf → s.isCell = true → bitAt s.cell.held (legMate k.val) = true → ∃ t, exec (.gdFbFall k t0) s = .next
    t ∧ bitAt (t.fld GDC.STAT.ON) (legMate k.val) = true ∧ bitAt (t.fld GDC.STAT.MC) (legMate k.val) = false ∧ bitAt (t.fld GDC.STAT.FB) k.val = false
    ∧ bitAt t.cell.held (legMate k.val) = false ∧ FieldsKept [GDC.STAT.ON, GDC.STAT.MC, GDC.STAT.FB] s t ∧
    { t with reg := s.reg, out := s.out, cell := s.cell } = s)

/-- Desaturation of an armed upper switch latches its fault, counts and starts a soft turn-off, which ends with the gate low; of an armed lower one it turns every switch off softly and starts permanent bypass (log 152). An upper switch that does not turn on as read back is fault 0x86; a lower one is 0x85, and one that does not turn off 0x8C, both with permanent bypass and all gates off once BYP_FB is high. A bypass not confirmed in BYP_TMO is fault 0x87; BYP_FB high is recorded, and in a permanent bypass by command ends the gates' part in it with reason 0x8B (logs 97, 153). FLT_CLR with every cause gone clears the latching faults. GDC.OVR is taken with the converter blocked and the cell not inserted; one that requests both switches of a leg acts at once as the interlock does: both off, counted, fault 0x8A (log 98). -/
def Obligations.CellFaultsAreLatchedAndAnswered : Prop :=
  (∀ (s : State) (k : Fin 4) (t0 : Nat), s.regsWf → s.cellLive = true → k.val % 2 = 0 → bitAt (s.fld GDC.STAT.ON) k.val = true → bitAt (s.fld
    GDC.DSAT_CFG.EN &&& switchMask s) k.val = true → bitAt s.cell.soft k.val = false → tabGet zeroNat s.cell.onAt k.val + 400 * max 1 (s.fld
    GDC.DSAT_CFG.BLANK) ≤ t0 → tabGet zeroNat s.cell.dsatRun k.val = 0 → ∃ t, exec (.desatDetect k [true, true, true, true] t0) s = .next t ∧ bitAt
    (t.fld GDC.STAT.DSAT) k.val = true ∧ t.flag GDC.EVT.DESAT = true ∧ t.fld GDC.CNT.DESAT = min (s.fld GDC.CNT.DESAT + 1) 65535 ∧
    t.cell.faults.contains (if k.val = 0 then 0x81 else 0x82) = true ∧ bitAt (t.fld GDC.STAT.STO) k.val = true ∧ bitAt t.cell.soft k.val = true ∧
    t.cell.perm = s.cell.perm ∧ FieldsKept [GDC.STAT.STATE, GDC.STAT.OVR_ACT, CEL.STAT.REASON, ⟨GDC.FLT.addr, 0, 32⟩, GDC.OVR.EN, GDC.STAT.DSAT,
    GDC.STAT.STO, GDC.EVT.DESAT, GDC.CNT.DESAT] s t ∧ { t with reg := s.reg, out := s.out, cell := s.cell } = s) ∧
  (∀ (s : State) (k : Fin 4) (t0 : Nat), s.regsWf → s.cellLive = true → ∃ t, exec (.desatDetect k [false] t0) s = .next t ∧ bitAt (t.fld
    GDC.STAT.DSAT) k.val = false ∧ tabGet zeroNat t.cell.dsatRun k.val = 0 ∧ t.cell = { s.cell with dsatRun := t.cell.dsatRun } ∧ FieldsKept
    [GDC.STAT.DSAT] s t ∧ { t with reg := s.reg, out := s.out, cell := s.cell } = s) ∧
  (∀ (s : State) (k : Fin 4) (t0 : Nat), s.regsWf → bitAt s.cell.soft k.val = true → tabGet zeroNat s.cell.offAt k.val ≤ t0 + 1 → ∃ t, exec
    (.softTurnoffEnd k t0) s = .next t ∧ t.cell.now = t0 ∧ bitAt (t.fld GDC.STAT.STO) k.val = false ∧ bitAt (t.fld GDC.STAT.DSAT) k.val = false ∧
    bitAt (t.fld GDC.STAT.ON) k.val = false ∧ bitAt t.cell.soft k.val = false ∧ FieldsKept [GDC.STAT.STO, GDC.STAT.DSAT, GDC.STAT.ON] s t ∧
    { t with reg := s.reg, out := s.out, cell := s.cell } = s) ∧
  (∀ (s : State) (k : Fin 4) (t0 : Nat), s.regsWf → t0 + 1 < tabGet zeroNat s.cell.offAt k.val → ∃ t, exec (.softTurnoffEnd k t0) s = .next t ∧ t = s
    ∧ { t with out := s.out } = s) ∧
  (∀ (s : State) (k : Fin 4) (t0 : Nat), s.regsWf → s.cellLive = true → s.flag GDC.CFG.FB_EN = true → bitAt (s.fld GDC.STAT.ON) k.val = true → k.val %
    2 = 0 → gateEdgeAt s k.val + 80 * max 1 (s.fld GDC.CFG.FB_TMO) ≤ t0 → ∃ t, exec (.gateFbTimeout k false t0) s = .next t ∧ t.cell.faults.contains
    0x86 = true ∧ bitAt (t.fld GDC.STAT.FB) k.val = false ∧ t.cell.perm = s.cell.perm ∧ FieldsKept [GDC.STAT.STATE, GDC.STAT.OVR_ACT, CEL.STAT.REASON,
    ⟨GDC.FLT.addr, 0, 32⟩, GDC.OVR.EN, GDC.STAT.FB, GDC.EVT.BYPASS_FAIL] s t ∧ { t with reg := s.reg, out := s.out, cell := s.cell } = s) ∧
  (∀ (s : State) (t0 : Nat), s.regsWf → s.cellLive = true → s.flag GDC.STAT.BYP_CMD = true → s.flag GDC.STAT.BYP_FB = false → s.cell.bypAt + 8000000 *
    max 1 (s.fld GDC.BYP_CFG.BYP_TMO) ≤ t0 → ∃ t, exec (.bypTimeout t0) s = .next t ∧ t.cell.faults = s.cell.faults.filter (fun (x : Nat) => x !=
    0x87) ++ [0x87] ∧ t.flag GDC.EVT.BYPASS_FAIL = true ∧ t.flag GDC.OVR.EN = false ∧ FieldsKept [CEL.STAT.REASON, ⟨GDC.FLT.addr, 0, 32⟩, GDC.OVR.EN,
    GDC.EVT.BYPASS_FAIL] s t ∧ { t with reg := s.reg, out := s.out, cell := s.cell } = s) ∧
  (∀ (s : State) (t0 : Nat), s.regsWf → s.isCell = true → s.cell.perm = 0 → ∃ t, exec (.bypFbHigh t0) s = .next t ∧ t.flag GDC.STAT.BYP_FB = true ∧
    t.cell = { s.cell with now := t0 } ∧ FieldsKept [GDC.STAT.BYP_FB] s t ∧ { t with reg := s.reg, out := s.out, cell := s.cell } = s) ∧
  (∀ (s : State) (k : Fin 4) (t0 : Nat), s.regsWf → s.cellLive = true → k.val % 2 = 1 → bitAt (s.fld GDC.STAT.ON) k.val = true → bitAt (s.fld
    GDC.DSAT_CFG.EN &&& switchMask s) k.val = true → bitAt s.cell.soft k.val = false → tabGet zeroNat s.cell.onAt k.val + 400 * max 1 (s.fld
    GDC.DSAT_CFG.BLANK) ≤ t0 → tabGet zeroNat s.cell.dsatRun k.val = 0 → s.cell.perm = 0 → s.flag CEL.STAT.STOP_LATCHED = false → routedBlock s =
    false → s.thm.sd = none → ∃ t, exec (.desatDetect k [true, true, true, true] t0) s = .next t ∧ t.cell.perm = 2 ∧ t.flag GDC.STAT.BYP_CMD = true ∧
    t.fld GDC.STAT.STATE = 0 ∧ t.cell.want % 16 = 0 ∧ t.flag GDC.OVR.EN = false ∧ t.cell.faults.contains (if k.val = 1 then 0x83 else 0x84) = true ∧
    t.fld GDC.CNT.DESAT = min (s.fld GDC.CNT.DESAT + 1) 65535 ∧ bitAt (t.fld GDC.STAT.STO) k.val = true ∧ bitAt t.cell.soft k.val = true ∧ FieldsKept
    [GDC.STAT.STATE, GDC.STAT.OVR_ACT, CEL.STAT.REASON, ⟨GDC.FLT.addr, 0, 32⟩, GDC.OVR.EN, GDC.STAT.BYP_CMD, GDC.STAT.DSAT, GDC.STAT.STO,
    GDC.EVT.DESAT, GDC.CNT.DESAT] s t ∧ { t with reg := s.reg, out := s.out, cell := s.cell } = s) ∧
  (∀ (s : State) (k : Fin 4) (t0 : Nat), s.regsWf → s.cellLive = true → s.flag GDC.CFG.FB_EN = true → bitAt (s.fld GDC.STAT.ON) k.val = true → k.val %
    2 = 1 → gateEdgeAt s k.val + 80 * max 1 (s.fld GDC.CFG.FB_TMO) ≤ t0 → s.cell.perm = 0 → s.flag CEL.STAT.STOP_LATCHED = false → routedBlock s =
    false → s.thm.sd = none → ∃ t, exec (.gateFbTimeout k false t0) s = .next t ∧ t.cell.perm = 2 ∧ t.flag GDC.STAT.BYP_CMD = true ∧ t.fld
    GDC.STAT.STATE = 0 ∧ t.cell.want % 16 = 0 ∧ t.flag GDC.OVR.EN = false ∧ t.cell.faults.contains 0x85 = true ∧ bitAt (t.fld GDC.STAT.FB) k.val =
    false ∧ FieldsKept [GDC.STAT.STATE, GDC.STAT.OVR_ACT, CEL.STAT.REASON, ⟨GDC.FLT.addr, 0, 32⟩, GDC.OVR.EN, GDC.STAT.BYP_CMD, GDC.STAT.FB,
    GDC.EVT.BYPASS_FAIL] s t ∧ { t with reg := s.reg, out := s.out, cell := s.cell } = s) ∧
  (∀ (s : State) (k : Fin 4) (t0 : Nat), s.regsWf → s.cellLive = true → s.flag GDC.CFG.FB_EN = true → bitAt (s.fld GDC.STAT.ON) k.val = false →
    gateEdgeAt s k.val + 80 * max 1 (s.fld GDC.CFG.FB_TMO) ≤ t0 → s.cell.perm = 0 → s.flag CEL.STAT.STOP_LATCHED = false → routedBlock s = false →
    s.thm.sd = none → ∃ t, exec (.gateFbTimeout k true t0) s = .next t ∧ t.cell.perm = 2 ∧ t.flag GDC.STAT.BYP_CMD = true ∧ t.fld GDC.STAT.STATE = 0 ∧
    t.cell.want % 16 = 0 ∧ t.flag GDC.OVR.EN = false ∧ t.cell.faults.contains 0x8C = true ∧ bitAt (t.fld GDC.STAT.FB) k.val = true ∧ FieldsKept
    [GDC.STAT.STATE, GDC.STAT.OVR_ACT, CEL.STAT.REASON, ⟨GDC.FLT.addr, 0, 32⟩, GDC.OVR.EN, GDC.STAT.BYP_CMD, GDC.STAT.FB, GDC.EVT.BYPASS_FAIL] s t ∧
    { t with reg := s.reg, out := s.out, cell := s.cell } = s) ∧
  (∀ (s : State) (t0 : Nat), s.regsWf → s.cellLive = true → s.cell.perm = 1 → s.flag CEL.STAT.STOP_LATCHED = false → routedBlock s = false → s.thm.sd
    = none → ∃ t, exec (.bypFbHigh t0) s = .next t ∧ t.flag GDC.STAT.BYP_FB = true ∧ t.fld GDC.STAT.STATE = 0 ∧ t.cell.want % 16 = 0 ∧ t.cell.perm = 1
    ∧ (s.cell.faults = [] → t.fld CEL.STAT.REASON = 0x8B) ∧ FieldsKept [GDC.STAT.BYP_FB, GDC.STAT.STATE, GDC.STAT.OVR_ACT, CEL.STAT.REASON,
    ⟨GDC.FLT.addr, 0, 32⟩, GDC.OVR.EN] s t ∧ { t with reg := s.reg, out := s.out, cell := s.cell } = s) ∧
  (∀ (s : State) (p : Path), s.regsWf → Reaches p GDC.FLT_CLR.addr s → s.isCell = true → s.fld GDC.STAT.STATE < 2 → (s.cell.faults.filter
    latchingFault).all (fun (x : Nat) => causeGone s x) = true → ∃ t, exec (.fltClr p) s = .next t ∧ t.cell =
    { s.cell with faults := s.cell.faults.filter (fun (x : Nat) => !latchingFault x) } ∧ t.out = [] ∧ FieldsKept [CEL.STAT.REASON, ⟨GDC.FLT.addr, 0,
    32⟩] s t ∧ { t with reg := s.reg, out := s.out, cell := s.cell } = s) ∧
  (∀ (s : State) (p : Path), s.regsWf → Reaches p GDC.FLT_CLR.addr s → s.isCell = true → 2 ≤ s.fld GDC.STAT.STATE → ∃ t, exec (.fltClr p) s = .next t
    ∧ t.cell = { s.cell with replyErr := true } ∧ t.out = [] ∧ FieldsKept [] s t ∧ { t with reg := s.reg, out := s.out, cell := s.cell } = s) ∧
  (∀ (s : State) (p : Path) (w : W32), s.regsWf → Reaches p GDC.OVR.addr s → s.isCell = true → s.fld GDC.STAT.STATE < 2 → bitAt w.toNat 31 = true →
    s.cell.hdrBlk = true → (bitAt w.toNat 0 && bitAt w.toNat 1) = false → (bitAt w.toNat 2 && bitAt w.toNat 3) = false → ∃ t, exec (.gdcOvrWrite p w)
    s = .next t ∧ t.flag GDC.OVR.EN = true ∧ t.fld GDC.OVR.ON = bitsAt w.toNat 0 4 ∧ t.out = [] ∧ FieldsKept [GDC.OVR.EN, GDC.OVR.ON] s t ∧
    { t with reg := s.reg, out := s.out } = s) ∧
  (∀ (s : State) (p : Path) (w : W32), s.regsWf → Reaches p GDC.OVR.addr s → s.cellLive = true → s.fld GDC.STAT.STATE < 2 → bitAt w.toNat 31 = true →
    s.cell.hdrBlk = true → bitsAt w.toNat 0 4 = 3 → forcedState s = none → ∃ t, exec (.gdcOvrWrite p w) s = .next t ∧ t.cell.faults.contains 0x8A =
    true ∧ t.flag GDC.EVT.INTERLOCK = true ∧ t.fld GDC.CNT.INTERLOCK = min (s.fld GDC.CNT.INTERLOCK + 1) 65535 ∧ bitsAt t.cell.want 0 2 = 0 ∧ t.out =
    [] ∧ FieldsKept [GDC.STAT.STATE, GDC.STAT.OVR_ACT, CEL.STAT.REASON, ⟨GDC.FLT.addr, 0, 32⟩, GDC.OVR.EN, GDC.OVR.ON, GDC.EVT.INTERLOCK,
    GDC.CNT.INTERLOCK] s t ∧ { t with reg := s.reg, out := s.out, cell := s.cell } = s)

/-- A self-test asked for with the cell not inserted starts with its first item; its last item passed ends it with STATE 2. A window end takes the calibrated voltage into VC, judges the threshold order and moves at most one stage. A wear commit that is granted writes the older record with the next count: its bytes are the count, WEAR and their CRC-32 (log 157), it reads back as the newest record, and the other record stands (logs 100, 152, 153). -/
def Obligations.CellSupervisesItself : Prop :=
  (∀ (s : State) (p : Path) (w : W32) (i : Nat) (rest : List Nat), s.regsWf → Reaches p GDC.SELFTEST.addr s → s.isCell = true → s.fld GDC.STAT.STATE <
    2 → s.flag GDC.OVR.EN = false → s.fld GDC.STAT.ON = 0 → s.fld GDC.ST_RES.STATE ≠ 1 → stItems (bitsAt w.toNat 0 8) (bitsAt w.toNat 8 4) = i :: rest
    → i < 8 → ∃ t, exec (.selftestGo p w) s = .next t ∧ t.fld GDC.ST_RES.STATE = 1 ∧ t.flag GDC.STAT.ST_BUSY = true ∧ t.cell =
    { s.cell with stItem := some i, stLeft := rest } ∧ t.flag (CMP.CCFG.TEST.at (cmpOff i)) = true ∧ (s.flag (CMP.CCFG.EN.at (cmpOff i)) = true → 0 <
    s.fld (CMP.CTH.CODE.at (cmpOff i)) → t.flag (CMP.CSTAT.FILT.at (cmpOff i)) = true) ∧ t.fld GDC.SELFTEST.CMP_MASK = bitsAt w.toNat 0 8 ∧ t.out = []
    ∧ FieldsKept [⟨GDC.ST_RES.addr, 0, 32⟩, GDC.STAT.ST_BUSY, ⟨GDC.SELFTEST.addr, 0, 32⟩, CMP.CCFG.TEST.at (cmpOff i), ⟨CMP.CSTAT.addr + cmpOff i, 0,
    32⟩, CMP.CTRANS.TOTAL.at (cmpOff i)] s t ∧ { t with reg := s.reg, out := s.out, cell := s.cell, acq := s.acq } = s) ∧
  (∀ (s : State) (vs : List Int) (up dn : List Bool) (t0 : Nat) (i : Nat), s.regsWf → s.cell.stItem = some i → 8 ≤ i → s.cell.stLeft = [] →
    dsatAsserts 0 up = true → (dn.reverse.take 4).all id = false → ∃ t, exec (.selftestItemDone vs up dn t0) s = .next t ∧ t.fld GDC.ST_RES.STATE = 2
    ∧ t.flag GDC.STAT.ST_BUSY = false ∧ t.cell = { s.cell with stItem := none, stPassed := putBit s.cell.stPassed i true, now := t0 } ∧ FieldsKept
    [GDC.ST_RES.STATE, GDC.STAT.ST_BUSY] s t ∧ { t with reg := s.reg, out := s.out, cell := s.cell } = s) ∧
  (∀ (s : State) (vs : List Int) (up dn : List Bool) (t0 : Nat) (i : Nat), s.regsWf → s.cell.stItem = some i → i < 8 → s.cell.stLeft = [] → s.flag
    (CMP.CCFG.EN.at (cmpOff i)) = true → s.flag (CMP.CSTAT.LATCH.at (cmpOff i)) = true → (stRemove vs s).flag (CMP.CSTAT.FILT.at (cmpOff i)) = false →
    ∃ t, exec (.selftestItemDone vs up dn t0) s = .next t ∧ t.fld GDC.ST_RES.STATE = 2 ∧ t.flag GDC.STAT.ST_BUSY = false ∧ t.flag (CMP.CCFG.TEST.at
    (cmpOff i)) = false ∧ t.flag (CMP.CSTAT.LATCH.at (cmpOff i)) = false ∧ t.cell =
    { s.cell with stItem := none, stPassed := putBit s.cell.stPassed i true, now := t0 } ∧ FieldsKept [GDC.ST_RES.STATE, GDC.STAT.ST_BUSY,
    CMP.CCFG.TEST.at (cmpOff i), ⟨CMP.CSTAT.addr + cmpOff i, 0, 32⟩, CMP.CTRANS.TOTAL.at (cmpOff i)] s t ∧
    { t with reg := s.reg, out := s.out, cell := s.cell, acq := s.acq } = s) ∧
  (∀ (s : State) (vs : List Int) (up dn : List Bool) (t0 : Nat) (i : Nat), s.regsWf → s.cellLive = true → s.cell.stItem = some i → 8 ≤ i →
    s.cell.stLeft = [] → (dsatAsserts 0 up = false ∨ (dn.reverse.take 4).all id = true) → i < 12 → ∃ t, exec (.selftestItemDone vs up dn t0) s = .next
    t ∧ t.fld GDC.ST_RES.DSAT_FAIL = putBit (s.fld GDC.ST_RES.DSAT_FAIL) (i - 8) true ∧ t.cell.faults.contains (0xA0 + i) = true ∧ t.fld
    GDC.ST_RES.STATE = 2 ∧ t.flag GDC.STAT.ST_BUSY = false ∧ t.flag GDC.EVT.SELFTEST = true ∧ FieldsKept [GDC.STAT.STATE, GDC.STAT.OVR_ACT,
    CEL.STAT.REASON, ⟨GDC.FLT.addr, 0, 32⟩, GDC.OVR.EN, GDC.ST_RES.DSAT_FAIL, GDC.ST_RES.STATE, GDC.STAT.ST_BUSY, GDC.EVT.SELFTEST] s t ∧
    { t with reg := s.reg, out := s.out, cell := s.cell } = s) ∧
  (∀ (s : State) (conv : List Int) (t0 vhold : Nat), s.regsWf → s.cellLive = true → ∃ t, exec (.cellWindowEnd conv t0 vhold) s = .next t ∧ t.fld
    CEL.VC.C = t.fld (ACQ.IN_CAL.C.at (inputOff 0)) ∧ t.flag CEL.STAT.CFG_ERR = (vlimRead s).isNone ∧ t.fld CEL.STAT.STAGE ≤ s.fld CEL.STAT.STAGE + 1
    ∧ s.fld CEL.STAT.STAGE ≤ t.fld CEL.STAT.STAGE + 1 ∧ t.acq.winNs = t0 / 8 ∧ t.cell.turnOns = 0 ∧ t.cell.now = t0 ∧ (∀ a, a < 0x40000 → t.rd a =
    s.rd a) ∧ (∀ a, 0xB0000 ≤ a → a < GDC.EVT.addr → t.rd a = s.rd a) ∧ (∀ a, 0xD0000 ≤ a → a ≠ LNK.C_ADM.addr → t.rd a = s.rd a) ∧
    { t with reg := s.reg, out := s.out, acq := s.acq, cell := s.cell, lss := s.lss, strata := s.strata } = s) ∧
  (∀ (s : State) (t0 vhold : Nat), s.regsWf → s.cellLive = true → 8000 * 2 ^ 24 * (s.cell.wearTicks + 1) ≤ t0 → (lssRequest .wear 1 0 vhold s).2 =
    true → ∃ t, exec (.wearCommitTimer t0 vhold) s = .next t ∧ t.cell =
    { s.cell with now := t0, wearTicks := s.cell.wearTicks + 1, wearRec := wearStore (s.fld CEL.WEAR.WEAR) s.cell.wearRec } ∧ t.fld
    CEL.WEAR_REC.COMMITS = min (s.fld CEL.WEAR_REC.COMMITS + 1) 65535 ∧ t.lss.granted = s.lss.granted ++ [(CommitKind.wear, 450)] ∧ FieldsKept
    [LSS.HOLD.MV, LSS.E_EST.E, LSS.E_RES.E, LSS.E_AVAIL.E, LSS.STAT.NO_MARK, CEL.WEAR_REC.COMMITS] s t ∧
    { t with reg := s.reg, out := s.out, cell := s.cell, lss := s.lss } = s) ∧
  (∀ (w : Nat) (a b : List Byte), w < 2 ^ 32 → max (wearSeq a) (wearSeq b) < 2 ^ 32 → wearLoad (wearStore w [a, b]) = some w ∧ (wearStore w [a, b] =
    [wearBytes (max (wearSeq a) (wearSeq b)) w, b] ∧ wearSeq a ≤ wearSeq b ∨ wearStore w [a, b] = [a, wearBytes (max (wearSeq a) (wearSeq b)) w] ∧
    wearSeq b < wearSeq a))

/-- With a set in force a sample corrects its six codes, those of channels 2 to 5 delayed by PHASE (an operand; one not given is free: log 158), takes its family energies and adds them to the block sums. At a block end of a DC block whose mean |x1| reaches ISTART_DC the DC totals take the block sums exactly; a block below it adds nothing and counts in NOLOAD_BLK; the sums start again at zero, time moves on by a tenth of a second, and the island commits. An interval end writes the interval record; a VDDM warning commits into the record in turn. R377 and R379 are stated by these equations. Whether a warning commit finishes is an operand, a power-up without a record starts at zero, and intervals end when the command says so: logs 115, 130, 158. -/
def Obligations.KaolinMetersSamplesAndBlocks : Prop :=
  (∀ (s : State) (codes : List Int) (late : List (Nat × Int × Int)), s.regsWf → s.sys.vddm = true → s.kao.live.k < 3200 → s.kao.live.set ≠ [] → setAc
    s.kao.live.set = true → (∀ c : Fin 6, (codes.getD c.val 0).natAbs < 2 ^ 23 - 1) → ∃ t, exec (.kaoSample codes late) s = .next t ∧ t.kao =
    { s.kao with live := { s.kao.live with k := s.kao.live.k + 1, abs1 := s.kao.live.abs1 + (kaoCorrect s.kao.live.set 1 (segOf s.kao.live 1) (kaoDelayed s.kao.live.set late 1 (segOf s.kao.live 1) (codes.getD 1 0))).natAbs, sq3 := s.kao.live.sq3 + (kaoCorrect s.kao.live.set 3 (segOf s.kao.live 3) (kaoDelayed s.kao.live.set late 3 (segOf s.kao.live 3) (codes.getD 3 0))).natAbs ^ 2, sq5 := s.kao.live.sq5 + (kaoCorrect s.kao.live.set 5 (segOf s.kao.live 5) (kaoDelayed s.kao.live.set late 5 (segOf s.kao.live 5) (codes.getD 5 0))).natAbs ^ 2, dc := { s.kao.live.dc with sImp := s.kao.live.dc.sImp + ((sampleEnergy (setDir s.kao.live.set) ((kaoCorrect s.kao.live.set 0 (segOf s.kao.live 0) (kaoDelayed s.kao.live.set late 0 (segOf s.kao.live 0) (codes.getD 0 0))) * (kaoCorrect s.kao.live.set 1 (segOf s.kao.live 1) (kaoDelayed s.kao.live.set late 1 (segOf s.kao.live 1) (codes.getD 1 0)))))).toNat, sExp := s.kao.live.dc.sExp + (-(sampleEnergy (setDir s.kao.live.set) ((kaoCorrect s.kao.live.set 0 (segOf s.kao.live 0) (kaoDelayed s.kao.live.set late 0 (segOf s.kao.live 0) (codes.getD 0 0))) * (kaoCorrect s.kao.live.set 1 (segOf s.kao.live 1) (kaoDelayed s.kao.live.set late 1 (segOf s.kao.live 1) (codes.getD 1 0)))))).toNat, sNet := s.kao.live.dc.sNet + (sampleEnergy (setDir s.kao.live.set) ((kaoCorrect s.kao.live.set 0 (segOf s.kao.live 0) (kaoDelayed s.kao.live.set late 0 (segOf s.kao.live 0) (codes.getD 0 0))) * (kaoCorrect s.kao.live.set 1 (segOf s.kao.live 1) (kaoDelayed s.kao.live.set late 1 (segOf s.kao.live 1) (codes.getD 1 0))))) }, ac := { s.kao.live.ac with sImp := s.kao.live.ac.sImp + ((sampleEnergy (setDir s.kao.live.set) ((kaoCorrect s.kao.live.set 2 (segOf s.kao.live 2) (kaoDelayed s.kao.live.set late 2 (segOf s.kao.live 2) (codes.getD 2 0))) * (kaoCorrect s.kao.live.set 3 (segOf s.kao.live 3) (kaoDelayed s.kao.live.set late 3 (segOf s.kao.live 3) (codes.getD 3 0))) + (kaoCorrect s.kao.live.set 4 (segOf s.kao.live 4) (kaoDelayed s.kao.live.set late 4 (segOf s.kao.live 4) (codes.getD 4 0))) * (kaoCorrect s.kao.live.set 5 (segOf s.kao.live 5) (kaoDelayed s.kao.live.set late 5 (segOf s.kao.live 5) (codes.getD 5 0)))))).toNat, sExp := s.kao.live.ac.sExp + (-(sampleEnergy (setDir s.kao.live.set) ((kaoCorrect s.kao.live.set 2 (segOf s.kao.live 2) (kaoDelayed s.kao.live.set late 2 (segOf s.kao.live 2) (codes.getD 2 0))) * (kaoCorrect s.kao.live.set 3 (segOf s.kao.live 3) (kaoDelayed s.kao.live.set late 3 (segOf s.kao.live 3) (codes.getD 3 0))) + (kaoCorrect s.kao.live.set 4 (segOf s.kao.live 4) (kaoDelayed s.kao.live.set late 4 (segOf s.kao.live 4) (codes.getD 4 0))) * (kaoCorrect s.kao.live.set 5 (segOf s.kao.live 5) (kaoDelayed s.kao.live.set late 5 (segOf s.kao.live 5) (codes.getD 5 0)))))).toNat, sNet := s.kao.live.ac.sNet + (sampleEnergy (setDir s.kao.live.set) ((kaoCorrect s.kao.live.set 2 (segOf s.kao.live 2) (kaoDelayed s.kao.live.set late 2 (segOf s.kao.live 2) (codes.getD 2 0))) * (kaoCorrect s.kao.live.set 3 (segOf s.kao.live 3) (kaoDelayed s.kao.live.set late 3 (segOf s.kao.live 3) (codes.getD 3 0))) + (kaoCorrect s.kao.live.set 4 (segOf s.kao.live 4) (kaoDelayed s.kao.live.set late 4 (segOf s.kao.live 4) (codes.getD 4 0))) * (kaoCorrect s.kao.live.set 5 (segOf s.kao.live 5) (kaoDelayed s.kao.live.set late 5 (segOf s.kao.live 5) (codes.getD 5 0))))) } } }
    ∧ { t with out := s.out, kao := s.kao } = s) ∧
  (∀ (s : State) (codes : List Int), s.regsWf → s.sys.vddm = true → s.kao.live.k < 3200 → s.kao.live.set = [] → (∀ c : Fin 6, (codes.getD c.val
    0).natAbs < 2 ^ 23 - 1) → ∃ t, exec (.kaoSample codes) s = .next t ∧ t.kao = { s.kao with live := { s.kao.live with k := s.kao.live.k + 1 } } ∧
    { t with out := s.out, kao := s.kao } = s) ∧
  (∀ (s : State) (warn : Bool), s.regsWf → s.sys.vddm = true → s.kao.live.k = 3200 → s.kao.live.set ≠ [] → s.kao.live.nextSet = none → 3200 * setNat
    s.kao.live.set 0xC 4 ≤ s.kao.live.abs1 → ∃ t, exec (.kaoBlockEnd warn) s = .next t ∧ t.kao.live.dc.imp = s.kao.live.dc.imp + s.kao.live.dc.sImp ∧
    t.kao.live.dc.exp_ = s.kao.live.dc.exp_ + s.kao.live.dc.sExp ∧ t.kao.live.dc.net = s.kao.live.dc.net + s.kao.live.dc.sNet ∧ t.kao.live.noload =
    s.kao.live.noload ∧ t.kao.live.dc.sImp = 0 ∧ t.kao.live.dc.sExp = 0 ∧ t.kao.live.dc.sNet = 0 ∧ t.kao.live.ac.sNet = 0 ∧ t.kao.live.k = 0 ∧
    t.kao.live.abs1 = 0 ∧ t.kao.live.set = s.kao.live.set ∧ t.kao.live.tenths = (s.kao.live.tenths + 1) % (10 * 2 ^ 64) ∧ t.kao.vddmWarn = warn ∧ (∃
    n, t.kao.commits = s.kao.commits.set s.kao.nextCommit (some (n, t.kao.live))) ∧ t.kao.nextCommit = 1 - s.kao.nextCommit ∧ FieldsKept
    [SYS.KAO_EVT.PEND] s t ∧ { t with reg := s.reg, out := s.out, kao := s.kao } = s) ∧
  (∀ (s : State) (warn : Bool), s.regsWf → s.sys.vddm = true → s.kao.live.k = 3200 → s.kao.live.set ≠ [] → s.kao.live.nextSet = none → s.kao.live.abs1
    < 3200 * setNat s.kao.live.set 0xC 4 → ∃ t, exec (.kaoBlockEnd warn) s = .next t ∧ t.kao.live.dc =
    { s.kao.live.dc with sImp := 0, sExp := 0, sNet := 0 } ∧ t.kao.live.noload = (s.kao.live.noload + 1) % 2 ^ 16 ∧ t.kao.live.dc.sImp = 0 ∧
    t.kao.live.dc.sExp = 0 ∧ t.kao.live.dc.sNet = 0 ∧ t.kao.live.ac.sNet = 0 ∧ t.kao.live.k = 0 ∧ t.kao.live.abs1 = 0 ∧ t.kao.live.set =
    s.kao.live.set ∧ t.kao.live.tenths = (s.kao.live.tenths + 1) % (10 * 2 ^ 64) ∧ t.kao.vddmWarn = warn ∧ (∃ n, t.kao.commits = s.kao.commits.set
    s.kao.nextCommit (some (n, t.kao.live))) ∧ t.kao.nextCommit = 1 - s.kao.nextCommit ∧ FieldsKept [SYS.KAO_EVT.PEND] s t ∧
    { t with reg := s.reg, out := s.out, kao := s.kao } = s) ∧
  (∀ (s : State), s.regsWf → s.sys.vddm = true → s.kao.live.k = 0 → s.kao.live.set ≠ [] → 10 * s.kao.live.ivlEnd ≤ s.kao.live.tenths →
    s.kao.live.nextSet = none → booksHold s.kao.live.dc = true → booksHold s.kao.live.ac = true → ∃ t, exec (.kaoIntervalEnd) s = .next t ∧ t.kao.recs
    = ((ivlRecord s.kao.live ++ leBytes 4 (crc32 (ivlRecord s.kao.live))) :: s.kao.recs).take 2048 ∧ t.kao.live.seq = (s.kao.live.seq + 1) % 2 ^ 32 ∧
    t.kao.live.dc = { s.kao.live.dc with rev := 0, imp0 := mwh s.kao.live.dc.imp, exp0 := mwh s.kao.live.dc.exp_ } ∧ t.kao.live.ac =
    { s.kao.live.ac with rev := 0, imp0 := mwh s.kao.live.ac.imp, exp0 := mwh s.kao.live.ac.exp_ } ∧ t.kao.live.noload = 0 ∧ t.kao.live.ivlEnd =
    nextEnd s.kao.live.set (s.kao.live.tenths / 10) ∧ t.kao.live.tenths = s.kao.live.tenths ∧ t.kao =
    { s.kao with live := t.kao.live, recs := t.kao.recs } ∧ { t with out := s.out, kao := s.kao } = s) ∧
  (∀ (s : State) (done off : Bool), s.regsWf → s.sys.vddm = true → ∃ t, exec (.kaoVddmWarn done off) s = .next t ∧ t.sys = { s.sys with vddm := !off }
    ∧ t.kao.live = s.kao.live ∧ t.kao.vddmWarn = true ∧ t.kao.torn = !done ∧ t.kao.nextCommit = (if done then 1 - s.kao.nextCommit else
    s.kao.nextCommit) ∧ t.kao = { s.kao with commits := t.kao.commits, nextCommit := t.kao.nextCommit, torn := t.kao.torn, vddmWarn := true } ∧ (∃ n,
    t.kao.commits = s.kao.commits.set s.kao.nextCommit (if done then some (n, s.kao.live) else none)) ∧
    { t with out := s.out, kao := s.kao, sys := s.sys } = s) ∧
  (∀ (s : State) (x : Nat × KaoLive), s.regsWf → s.sys.vddm = false → kaoNewest s.kao = some x → s.kao.torn = false → ∃ t, exec (.kaoPowerUp true) s =
    .next t ∧ t.sys = { s.sys with vddm := true } ∧ t.kao.live =
    { x.2 with timeInvalid := true, flags := x.2.flags ||| 4, unsealCnt := s.kao.live.unsealCnt, nextSet := ((sealedSince s.kao (some x.1)).orElse (fun _ => x.2.nextSet)), seq := (s.kao.live.seq + 1) % 2 ^ 32 }
    ∧ (t.kao.recs.headD []).getD 1 0#8 = 0x07#8 ∧ t.kao.recs.tail = s.kao.recs.take 2047 ∧ t.flag SYS.KAO_EVT.PEND = true ∧ FieldsKept
    [SYS.KAO_EVT.PEND, LSS.SEAL_MIR.UNSEAL_CNT, LSS.SEAL_MIR_ST.STATE, LSS.SEAL_MIR_ST.VALID] s t ∧
    { t with reg := s.reg, out := s.out, kao := s.kao, sys := s.sys } = s) ∧
  (∀ (s : State) (sealLow : Bool), s.regsWf → s.sys.vddm = false → kaoNewest s.kao = none → ∃ t, exec (.kaoPowerUp sealLow) s = .next t ∧ t.sys =
    { s.sys with vddm := true } ∧ t.kao.live =
    { timeInvalid := true, flags := 4, unsealCnt := s.kao.live.unsealCnt, nextSet := sealedSince s.kao none, seq := s.kao.live.seq } ∧ t.kao.recs =
    s.kao.recs ∧ FieldsKept [LSS.SEAL_MIR.UNSEAL_CNT, LSS.SEAL_MIR_ST.STATE, LSS.SEAL_MIR_ST.VALID] s t ∧
    { t with reg := s.reg, out := s.out, kao := s.kao, sys := s.sys } = s)

/-- A KAO_CMD write with KEY and UNSEAL sends the offer as it stands and sets CMD_BUSY; while CMD_BUSY is set it is an access error with cause 4. With SEAL_N released the island only writes UNSEAL_REJ. From SEALED it counts once, saturating, writes UNSEALED and is UNSEALED, from the other states it is UNSEALED with the counter unchanged; an argument outside the compatibility range or not valid leaves the set and reports 0b010 or 0b011, a valid one waits for the next block start and reports 0b001. SEAL_N released seals an UNSEALED island with its set and check value in MRAM, or returns it to BLANK with no set; a power-up restores the committed state, and an UNSEALED one with SEAL_N released seals at once. The counter, and a set sealed after the commit that is loaded, stand in MRAM and survive it (log 115). -/
def Obligations.KaolinSealsAndTakesSets : Prop :=
  (∀ (s : State) (p : Path), s.regsWf → Reaches p SYS.KAO_CMD.addr s → s.flag SYS.KAO_EVT.CMD_BUSY = false → ∃ t, exec (.kaoUnsealCommand p) s = .next
    t ∧ t.flag SYS.KAO_EVT.CMD_BUSY = true ∧ t.kao = { s.kao with arg := some s.kao.offer } ∧ t.out = [] ∧ FieldsKept [SYS.KAO_EVT.CMD_BUSY] s t ∧
    { t with reg := s.reg, out := s.out, kao := s.kao } = s) ∧
  (∀ (s : State), s.regsWf → Reaches .spi SYS.KAO_CMD.addr s → s.flag SYS.KAO_EVT.CMD_BUSY = true → s.flag HST.AERR.VALID = false → ∃ t, exec
    (.kaoUnsealCommand .spi) s = .next t ∧ t.rd HST.AERR.addr = 2 ^ 31 + 16 + 4 ∧ t.rd HST.AERR_ADDR.addr = SYS.KAO_CMD.addr ∧ t.out = [] ∧ FieldsKept
    [⟨HST.AERR.addr, 0, 32⟩, ⟨HST.AERR_ADDR.addr, 0, 32⟩] s t ∧ { t with reg := s.reg, out := s.out } = s) ∧
  (∀ (s : State) (a : Option (List Byte × Nat × Nat × Nat)), s.regsWf → s.sys.vddm = true → s.kao.arg = some a → s.kao.sealLow = false → ∃ t, exec
    (.kaoUnseal) s = .next t ∧ t.kao.arg = none ∧ t.flag SYS.KAO_EVT.CMD_BUSY = false ∧ t.flag SYS.KAO_EVT.PEND = true ∧ t.kao.live.set =
    s.kao.live.set ∧ t.kao.live.state = s.kao.live.state ∧ t.kao.live.unsealCnt = s.kao.live.unsealCnt ∧ t.kao.live.nextSet = s.kao.live.nextSet ∧
    (t.kao.recs.headD []).getD 1 0#8 = 0x03#8 ∧ FieldsKept [SYS.KAO_EVT.PEND, SYS.KAO_EVT.CMD_BUSY] s t ∧
    { t with reg := s.reg, out := s.out, kao := s.kao } = s) ∧
  (∀ (s : State), s.regsWf → s.sys.vddm = true → s.kao.arg = some none → s.kao.sealLow = true → s.kao.live.state = 1 → ∃ t, exec (.kaoUnseal) s =
    .next t ∧ t.kao.arg = none ∧ t.flag SYS.KAO_EVT.CMD_BUSY = false ∧ t.flag SYS.KAO_EVT.PEND = true ∧ t.kao.live.set = s.kao.live.set ∧
    t.kao.live.state = 2 ∧ t.kao.live.unsealCnt = (if s.kao.live.state = 1 then min (2 ^ 32 - 1) (s.kao.live.unsealCnt + 1) else s.kao.live.unsealCnt)
    ∧ t.kao.live.nextSet = s.kao.live.nextSet ∧ ((t.kao.recs.getD 0 []).getD 1 0#8 = 0x01#8 ∨ s.kao.live.state ≠ 1) ∧ t.fld LSS.SEAL_MIR_ST.STATE = 2
    ∧ FieldsKept [SYS.KAO_EVT.PEND, SYS.KAO_EVT.CMD_BUSY, LSS.SEAL_MIR.UNSEAL_CNT, LSS.SEAL_MIR_ST.STATE, LSS.SEAL_MIR_ST.VALID] s t ∧
    { t with reg := s.reg, out := s.out, kao := s.kao } = s) ∧
  (∀ (s : State), s.regsWf → s.sys.vddm = true → s.kao.arg = some none → s.kao.sealLow = true → s.kao.live.state ≠ 1 → ∃ t, exec (.kaoUnseal) s =
    .next t ∧ t.flag SYS.KAO_EVT.CMD_BUSY = false ∧ t.kao =
    { s.kao with arg := none, live := { s.kao.live with state := 2, flags := s.kao.live.flags ||| 1 } } ∧ FieldsKept [SYS.KAO_EVT.CMD_BUSY,
    LSS.SEAL_MIR.UNSEAL_CNT, LSS.SEAL_MIR_ST.STATE, LSS.SEAL_MIR_ST.VALID] s t ∧ { t with reg := s.reg, out := s.out, kao := s.kao } = s) ∧
  (∀ (s : State) (q : List Byte) (len cmin cmax : Nat), s.regsWf → s.sys.vddm = true → s.kao.arg = some (some (q, len, cmin, cmax)) → s.kao.sealLow =
    true → cmin ≤ 1 → 1 ≤ cmax → kaoSetOk len q = true → ∃ t, exec (.kaoUnseal) s = .next t ∧ t.kao.arg = none ∧ t.flag SYS.KAO_EVT.CMD_BUSY = false ∧
    t.flag SYS.KAO_EVT.PEND = true ∧ t.kao.live.set = s.kao.live.set ∧ t.kao.live.state = 2 ∧ t.kao.live.unsealCnt = (if s.kao.live.state = 1 then min
    (2 ^ 32 - 1) (s.kao.live.unsealCnt + 1) else s.kao.live.unsealCnt) ∧ ((t.kao.recs.getD 1 []).getD 1 0#8 = 0x01#8 ∨ s.kao.live.state ≠ 1) ∧
    t.kao.live.nextSet = some q ∧ t.fld IMG.STAT.KAO_PROP = 1 ∧ (t.kao.recs.headD []).getD 1 0#8 = 0x04#8 ∧ FieldsKept [SYS.KAO_EVT.PEND,
    SYS.KAO_EVT.CMD_BUSY, IMG.STAT.KAO_PROP, LSS.SEAL_MIR.UNSEAL_CNT, LSS.SEAL_MIR_ST.STATE, LSS.SEAL_MIR_ST.VALID] s t ∧
    { t with reg := s.reg, out := s.out, kao := s.kao } = s) ∧
  (∀ (s : State) (q : List Byte) (len cmin cmax : Nat), s.regsWf → s.sys.vddm = true → s.kao.arg = some (some (q, len, cmin, cmax)) → s.kao.sealLow =
    true → (1 < cmin ∨ cmax = 0) → ∃ t, exec (.kaoUnseal) s = .next t ∧ t.kao.arg = none ∧ t.flag SYS.KAO_EVT.CMD_BUSY = false ∧ t.flag
    SYS.KAO_EVT.PEND = true ∧ t.kao.live.set = s.kao.live.set ∧ t.kao.live.state = 2 ∧ t.kao.live.unsealCnt = (if s.kao.live.state = 1 then min (2 ^
    32 - 1) (s.kao.live.unsealCnt + 1) else s.kao.live.unsealCnt) ∧ ((t.kao.recs.getD 1 []).getD 1 0#8 = 0x01#8 ∨ s.kao.live.state ≠ 1) ∧
    t.kao.live.nextSet = s.kao.live.nextSet ∧ t.fld IMG.STAT.KAO_PROP = 2 ∧ (t.kao.recs.headD []).getD 1 0#8 = 0x05#8 ∧ FieldsKept [SYS.KAO_EVT.PEND,
    SYS.KAO_EVT.CMD_BUSY, IMG.STAT.KAO_PROP, LSS.SEAL_MIR.UNSEAL_CNT, LSS.SEAL_MIR_ST.STATE, LSS.SEAL_MIR_ST.VALID] s t ∧
    { t with reg := s.reg, out := s.out, kao := s.kao } = s) ∧
  (∀ (s : State) (q : List Byte) (len cmin cmax : Nat), s.regsWf → s.sys.vddm = true → s.kao.arg = some (some (q, len, cmin, cmax)) → s.kao.sealLow =
    true → cmin ≤ 1 → 1 ≤ cmax → kaoSetOk len q = false → ∃ t, exec (.kaoUnseal) s = .next t ∧ t.kao.arg = none ∧ t.flag SYS.KAO_EVT.CMD_BUSY = false
    ∧ t.flag SYS.KAO_EVT.PEND = true ∧ t.kao.live.set = s.kao.live.set ∧ t.kao.live.state = 2 ∧ t.kao.live.unsealCnt = (if s.kao.live.state = 1 then
    min (2 ^ 32 - 1) (s.kao.live.unsealCnt + 1) else s.kao.live.unsealCnt) ∧ ((t.kao.recs.getD 1 []).getD 1 0#8 = 0x01#8 ∨ s.kao.live.state ≠ 1) ∧
    t.kao.live.nextSet = s.kao.live.nextSet ∧ t.fld IMG.STAT.KAO_PROP = 3 ∧ (t.kao.recs.headD []).getD 1 0#8 = 0x05#8 ∧ FieldsKept [SYS.KAO_EVT.PEND,
    SYS.KAO_EVT.CMD_BUSY, IMG.STAT.KAO_PROP, LSS.SEAL_MIR.UNSEAL_CNT, LSS.SEAL_MIR_ST.STATE, LSS.SEAL_MIR_ST.VALID] s t ∧
    { t with reg := s.reg, out := s.out, kao := s.kao } = s) ∧
  (∀ (s : State), s.regsWf → ∃ t, exec (.sealNAssert) s = .next t ∧ t.kao = { s.kao with sealLow := true } ∧ { t with out := s.out, kao := s.kao } =
    s) ∧
  (∀ (s : State), s.regsWf → s.sys.vddm = true → s.kao.live.state = 2 → s.kao.live.nextSet.getD s.kao.live.set ≠ [] → ∃ t, exec (.sealNRelease) s =
    .next t ∧ t.kao.sealLow = false ∧ t.kao.live.state = 1 ∧ t.fld LSS.SEAL_MIR_ST.STATE = 1 ∧ (t.kao.recs.headD []).getD 1 0#8 = 0x02#8 ∧ t.kao.live
    = { s.kao.live with state := 1, seq := (s.kao.live.seq + 1) % 2 ^ 32 } ∧ t.kao.sealSet = some (s.kao.live.nextSet.getD s.kao.live.set, checkOf
    (s.kao.live.nextSet.getD s.kao.live.set), kaoTop s) ∧ FieldsKept [SYS.KAO_EVT.PEND, LSS.SEAL_MIR.UNSEAL_CNT, LSS.SEAL_MIR_ST.STATE,
    LSS.SEAL_MIR_ST.VALID] s t ∧ { t with reg := s.reg, out := s.out, kao := s.kao } = s) ∧
  (∀ (s : State), s.regsWf → s.sys.vddm = true → s.kao.live.state = 2 → s.kao.live.set = [] → s.kao.live.nextSet = none → ∃ t, exec (.sealNRelease) s
    = .next t ∧ t.fld LSS.SEAL_MIR_ST.STATE = 0 ∧ t.kao = { s.kao with sealLow := false, live := { s.kao.live with state := 0 } } ∧ FieldsKept
    [LSS.SEAL_MIR.UNSEAL_CNT, LSS.SEAL_MIR_ST.STATE, LSS.SEAL_MIR_ST.VALID] s t ∧ { t with reg := s.reg, out := s.out, kao := s.kao } = s) ∧
  (∀ (s : State), s.regsWf → s.kao.live.state ≠ 2 → ∃ t, exec (.sealNRelease) s = .next t ∧ t.kao = { s.kao with sealLow := false } ∧
    { t with out := s.out, kao := s.kao } = s) ∧
  (∀ (s : State) (x : Nat × KaoLive), s.regsWf → s.sys.vddm = false → kaoNewest s.kao = some x → s.kao.torn = false → x.2.state = 2 → ((sealedSince
    s.kao (some x.1)).orElse (fun _ => x.2.nextSet)).getD x.2.set ≠ [] → ∃ t, exec (.kaoPowerUp false) s = .next t ∧ t.sys =
    { s.sys with vddm := true } ∧ t.kao.live =
    { x.2 with state := 1, timeInvalid := true, flags := x.2.flags ||| 4, unsealCnt := s.kao.live.unsealCnt, nextSet := ((sealedSince s.kao (some x.1)).orElse (fun _ => x.2.nextSet)), seq := (((s.kao.live.seq + 1) % 2 ^ 32) + 1) % 2 ^ 32 }
    ∧ (t.kao.recs.headD []).getD 1 0#8 = 0x02#8 ∧ t.flag SYS.KAO_EVT.PEND = true ∧ FieldsKept [SYS.KAO_EVT.PEND, LSS.SEAL_MIR.UNSEAL_CNT,
    LSS.SEAL_MIR_ST.STATE, LSS.SEAL_MIR_ST.VALID] s t ∧ { t with reg := s.reg, out := s.out, kao := s.kao, sys := s.sys } = s)

/-- A pulse output with a backlog emits one pulse and counts it. An input entering its active state counts, unless it comes before MIN_PERIOD: then SI_OVR sets and is written as an event; a stuck one sets SI_STUCK, which clears on release. While VDDM is present the port answers ID, TOT, SET, REC, TIME and anything else with its values, "*" and the CRC-16 in four hex digits. TIME sets any time in BLANK and UNSEALED; in SEALED a step of at most 10 s once in 24 h is taken, others are refused with TIME_REJ. The reply's shape is log 131's, the elapsed times are operands (log 153), and S0 inputs without a set do not count (log 115). -/
def Obligations.KaolinPulsesAndVerificationPort : Prop :=
  (∀ (s : State) (k : Fin 2) (since : Nat), s.regsWf → s.sys.vddm = true → 0 < (s.kao.live.outs.getD k.val {}).backlog → 2 * (setPulse s.kao.live.set
    k.val).2.1 ≤ since → ∃ t, exec (.kaoPulseOut k since) s = .next t ∧ t.kao =
    { s.kao with live := { s.kao.live with outs := s.kao.live.outs.set k.val { (s.kao.live.outs.getD k.val {}) with backlog := (s.kao.live.outs.getD k.val {}).backlog - 1, count := ((s.kao.live.outs.getD k.val {}).count + 1) % 2 ^ 32 } } }
    ∧ t.out = [.pulse k.val (setPulse s.kao.live.set k.val).2.1] ∧ { t with out := s.out, kao := s.kao } = s) ∧
  (∀ (s : State) (k : Fin 2) (since : Nat), s.regsWf → since < 2 * (setPulse s.kao.live.set k.val).2.1 → ∃ t, exec (.kaoPulseOut k since) s = .next t
    ∧ t.out = [] ∧ { t with out := s.out } = s) ∧
  (∀ (s : State) (k : Fin 4) (since : Nat), s.regsWf → s.sys.vddm = true → bitAt s.kao.active k.val = false → s.kao.live.set ≠ [] → setPeriod
    s.kao.live.set k.val ≤ since → ∃ t, exec (.kaoS0Input k since) s = .next t ∧ t.kao =
    { s.kao with active := putBit s.kao.active k.val true, live := { s.kao.live with ins := s.kao.live.ins.set k.val ((s.kao.live.ins.getD k.val 0 + 1) % 2 ^ 32) } }
    ∧ { t with out := s.out, kao := s.kao } = s) ∧
  (∀ (s : State) (k : Fin 4) (since : Nat), s.regsWf → s.sys.vddm = true → bitAt s.kao.active k.val = false → s.kao.live.set ≠ [] → since < setPeriod
    s.kao.live.set k.val → ∃ t, exec (.kaoS0Input k since) s = .next t ∧ t.kao.live = { s.kao.live with seq := (s.kao.live.seq + 1) % 2 ^ 32 } ∧ bitAt
    t.kao.pstat (4 + k.val) = true ∧ bitAt t.kao.active k.val = true ∧ (t.kao.recs.headD []).getD 1 0#8 = 0x0C#8 ∧ FieldsKept [SYS.KAO_EVT.PEND] s t ∧
    { t with reg := s.reg, out := s.out, kao := s.kao } = s) ∧
  (∀ (s : State) (k : Fin 4) (held : Nat), s.regsWf → s.sys.vddm = true → bitAt s.kao.active k.val = true → bitAt s.kao.pstat k.val = false → 1000 *
    setNat s.kao.live.set (0x1B2 + 4 * k.val) 2 < held → ∃ t, exec (.kaoS0Stuck k held) s = .next t ∧ t.kao.live =
    { s.kao.live with seq := (s.kao.live.seq + 1) % 2 ^ 32 } ∧ bitAt t.kao.pstat k.val = true ∧ t.kao.active = s.kao.active ∧ (t.kao.recs.headD
    []).getD 1 0#8 = 0x0B#8 ∧ t.flag SYS.KAO_EVT.PEND = true ∧ FieldsKept [SYS.KAO_EVT.PEND] s t ∧ { t with reg := s.reg, out := s.out, kao := s.kao }
    = s) ∧
  (∀ (s : State) (k : Fin 4) (held : Nat), s.regsWf → held ≤ 1000 * setNat s.kao.live.set (0x1B2 + 4 * k.val) 2 → ∃ t, exec (.kaoS0Stuck k held) s =
    .next t ∧ FieldsKept [] s t ∧ { t with reg := s.reg, out := s.out } = s) ∧
  (∀ (s : State) (k : Fin 4), s.regsWf → ∃ t, exec (.kaoS0Release k) s = .next t ∧ t.kao =
    { s.kao with active := putBit s.kao.active k.val false, pstat := putBit s.kao.pstat k.val false } ∧ { t with out := s.out, kao := s.kao } = s) ∧
  (∀ (s : State), s.regsWf → s.sys.vddm = true → ∃ t, exec (.kaoVportId) s = .next t ∧ t.out = [.line ((spaced [hexOf 4 0x4096, decOf 1, decOf
    s.kao.live.state, hexOf 8 (checkOf s.kao.live.set), decOf s.kao.live.unsealCnt, decOf (s.kao.live.tenths / 10), decOf
    s.kao.live.timeInvalid.toNat]) ++ 42 :: hexOf 4 (crcMsb 16 0x1021 0xFFFF ((spaced [hexOf 4 0x4096, decOf 1, decOf s.kao.live.state, hexOf 8
    (checkOf s.kao.live.set), decOf s.kao.live.unsealCnt, decOf (s.kao.live.tenths / 10), decOf s.kao.live.timeInvalid.toNat]).flatMap (fun (c : Nat)
    => (upto 8).map (fun i => bitAt c i)))))] ∧ { t with out := s.out } = s) ∧
  (∀ (s : State), s.regsWf → s.sys.vddm = true → ∃ t, exec (.kaoVportTot) s = .next t ∧ t.out = [.line ((spaced (famWords s.kao.live.dc ++ famWords
    s.kao.live.ac)) ++ 42 :: hexOf 4 (crcMsb 16 0x1021 0xFFFF ((spaced (famWords s.kao.live.dc ++ famWords s.kao.live.ac)).flatMap (fun (c : Nat) =>
    (upto 8).map (fun i => bitAt c i)))))] ∧ { t with out := s.out } = s) ∧
  (∀ (s : State), s.regsWf → s.sys.vddm = true → ∃ t, exec (.kaoVportSet) s = .next t ∧ t.out = [.line ((spaced [s.kao.live.set.flatMap (fun b =>
    hexOf 2 b.toNat), hexOf 8 (checkOf s.kao.live.set)]) ++ 42 :: hexOf 4 (crcMsb 16 0x1021 0xFFFF ((spaced [s.kao.live.set.flatMap (fun b => hexOf 2
    b.toNat), hexOf 8 (checkOf s.kao.live.set)]).flatMap (fun (c : Nat) => (upto 8).map (fun i => bitAt c i)))))] ∧ { t with out := s.out } = s) ∧
  (∀ (s : State) (n : Nat) (r : List Byte), s.regsWf → s.sys.vddm = true → s.kao.recs.find? (fun r => leNat ((r.drop 4).take 4) == n) = some r → ∃ t,
    exec (.kaoVportRec n) s = .next t ∧ t.out = [.line ((r.flatMap (fun b => hexOf 2 b.toNat)) ++ 42 :: hexOf 4 (crcMsb 16 0x1021 0xFFFF ((r.flatMap
    (fun b => hexOf 2 b.toNat)).flatMap (fun (c : Nat) => (upto 8).map (fun i => bitAt c i)))))] ∧ { t with out := s.out } = s) ∧
  (∀ (s : State) (n : Nat), s.regsWf → s.sys.vddm = true → s.kao.recs.find? (fun r => leNat ((r.drop 4).take 4) == n) = none → ∃ t, exec (.kaoVportRec
    n) s = .next t ∧ t.out = [.line (([78, 79, 78, 69]) ++ 42 :: hexOf 4 (crcMsb 16 0x1021 0xFFFF (([78, 79, 78, 69]).flatMap (fun (c : Nat) => (upto
    8).map (fun i => bitAt c i)))))] ∧ { t with out := s.out } = s) ∧
  (∀ (s : State), s.regsWf → s.sys.vddm = true → ∃ t, exec (.kaoVportOther) s = .next t ∧ t.out = [.line (([69, 82, 82]) ++ 42 :: hexOf 4 (crcMsb 16
    0x1021 0xFFFF (([69, 82, 82]).flatMap (fun (c : Nat) => (upto 8).map (fun i => bitAt c i)))))] ∧ { t with out := s.out } = s) ∧
  (∀ (s : State) (u : Nat), s.regsWf → s.sys.vddm = true → u < 2 ^ 64 → (s.kao.live.state ≠ 1 ∨ s.kao.live.timeInvalid = true) → ∃ t, exec
    (.kaoVportTime u) s = .next t ∧ t.kao.live =
    { s.kao.live with seq := (s.kao.live.seq + 1) % 2 ^ 32, tenths := 10 * u, timeInvalid := false, flags := s.kao.live.flags ||| 16, ivlEnd := nextEnd s.kao.live.set u }
    ∧ (t.kao.recs.headD []).getD 1 0#8 = 0x08#8 ∧ t.out = [.line (([84, 73, 77, 69]) ++ 42 :: hexOf 4 (crcMsb 16 0x1021 0xFFFF (([84, 73, 77,
    69]).flatMap (fun (c : Nat) => (upto 8).map (fun i => bitAt c i)))))] ∧ FieldsKept [SYS.KAO_EVT.PEND] s t ∧
    { t with reg := s.reg, out := s.out, kao := s.kao } = s) ∧
  (∀ (s : State) (u : Nat), s.regsWf → s.sys.vddm = true → u < 2 ^ 64 → s.kao.live.state = 1 → s.kao.live.timeInvalid = false → s.kao.live.lastStep =
    none → u ≤ (s.kao.live.tenths / 10) + 10 → (s.kao.live.tenths / 10) ≤ u + 10 → ∃ t, exec (.kaoVportTime u) s = .next t ∧ t.kao.live.tenths = 10 *
    u ∧ t.kao.live.lastStep = some u ∧ (t.kao.recs.headD []).getD 1 0#8 = 0x08#8 ∧ t.out = [.line (([84, 73, 77, 69]) ++ 42 :: hexOf 4 (crcMsb 16
    0x1021 0xFFFF (([84, 73, 77, 69]).flatMap (fun (c : Nat) => (upto 8).map (fun i => bitAt c i)))))] ∧ FieldsKept [SYS.KAO_EVT.PEND] s t ∧
    { t with reg := s.reg, out := s.out, kao := s.kao } = s) ∧
  (∀ (s : State) (u v : Nat), s.regsWf → s.sys.vddm = true → u < 2 ^ 64 → s.kao.live.state = 1 → s.kao.live.timeInvalid = false → ((s.kao.live.tenths
    / 10) + 10 < u ∨ u + 10 < (s.kao.live.tenths / 10) ∨ (s.kao.live.lastStep = some v ∧ (s.kao.live.tenths / 10) < v + 86400)) → ∃ t, exec
    (.kaoVportTime u) s = .next t ∧ t.kao.live = { s.kao.live with seq := (s.kao.live.seq + 1) % 2 ^ 32 } ∧ (t.kao.recs.headD []).getD 1 0#8 = 0x09#8
    ∧ t.out = [.line (([84, 73, 77, 69]) ++ 42 :: hexOf 4 (crcMsb 16 0x1021 0xFFFF (([84, 73, 77, 69]).flatMap (fun (c : Nat) => (upto 8).map (fun i
    => bitAt c i)))))] ∧ FieldsKept [SYS.KAO_EVT.PEND] s t ∧ { t with reg := s.reg, out := s.out, kao := s.kao } = s)

/-- At a tick of either channel an enabled input without a latched fault follows R409, a voltage-absent pair R419 and R420, and a readback that contradicts its command latches STUCK, or LOST at the second tick outside every window. In RUN a command that is on has its output enabled, its terms at 1 and no fault; outside RUN all are off, and safe block is requested exactly outside RUN or with a term of SB_MASK at 0. The tick at which the reset input, ON for 50 to 2,000 ticks, goes OFF clears the faults whose condition holds and the notify latch, moves WAIT_RESET to RUN and releases an output whose condition holds. A due discrepancy latches. A test window keeps its owner's pin low till its end, passes with a low readback, latches SW_A or SW_B with a high one, and gives no result once the command changed. A routed event sets the notify latch. A fault found halts both channels. -/
def Obligations.MarlTicksEvaluateInputsAndOutputs : Prop :=
  (∀ (s : State) (b : Bool) (c1 c2 : Fin 65536) (rb : Fin 256) (code0 code1 : Fin 4096) (k : Fin 16), s.regsWf → s.sys.vddf = true → s.marl.found = 0
    → (s.marl.ch b).next = none → s.marl.state ≠ 2 → s.marl.a.ins.length = 16 → s.marl.b.ins.length = 16 → mInEn (s.marl.ch b).set k.val = true →
    ((s.marl.ch b).ins.getD k.val {}).disc = false → ((s.marl.ch (!b)).ins.getD k.val {}).disc = false → ((s.marl.ch b).ins.getD k.val {}).count <
    mDiscMs (s.marl.ch b).set k.val → ∃ t, exec (.marlTick b c1 c2 rb code0 code1) s = .next t ∧ (((t.marl.ch b).ins.getD k.val {}) = if showsOn
    (s.marl.ch b).set k.val c1.val c2.val then
    { ((s.marl.ch b).ins.getD k.val {}) with count := 0, on := ((s.marl.ch b).ins.getD k.val {}).on || ((s.marl.ch b).ins.getD k.val {}).bothSafe }
    else if showsSafe (s.marl.ch b).set k.val c1.val c2.val then { ((s.marl.ch b).ins.getD k.val {}) with count := 0, on := false, bothSafe := true }
    else { ((s.marl.ch b).ins.getD k.val {}) with count := ((s.marl.ch b).ins.getD k.val {}).count + 1, on := false, bothSafe := false }) ∧ FieldsKept
    [SYS.MRL_EVT.PEND] s t ∧ { t with reg := s.reg, out := s.out, marl := s.marl } = s) ∧
  (∀ (s : State) (b : Bool) (c1 c2 : Fin 65536) (rb : Fin 256) (code0 code1 : Fin 4096), s.regsWf → s.sys.vddf = true → s.marl.found = 0 → (s.marl.ch
    b).next = none → s.marl.state = 1 → ∃ t, exec (.marlTick b c1 c2 rb code0 code1) s = .next t ∧ t.marl.state = 1 ∧ (∀ k : Fin 8, ((t.marl.ch
    b).outs.getD k.val {}).cmd = true → mOutEn (s.marl.ch b).set k.val = true ∧ termsOn (s.marl.ch b).set (t.marl.ch b) (mOutMask (s.marl.ch b).set
    k.val) = true ∧ ((t.marl.ch b).outs.getD k.val {}).faults = 0) ∧ ((s.marl.ch b).set ≠ [] → (t.marl.ch b).sb = !termsOn (s.marl.ch b).set
    (t.marl.ch b) (mSbMask (s.marl.ch b).set)) ∧ (t.marl.ch b).ticks = ((s.marl.ch b).ticks + 1) % 2 ^ 32 ∧ (∀ k : Fin 8, ((t.marl.ch b).outs.getD
    k.val {}).cmd ≠ ((s.marl.ch b).outs.getD k.val {}).cmd → ((t.marl.ch b).outs.getD k.val {}).winOk = false ∧ ((t.marl.ch (!b)).outs.getD k.val
    {}).winOk = false) ∧ FieldsKept [SYS.MRL_EVT.PEND] s t ∧ { t with reg := s.reg, out := s.out, marl := s.marl } = s) ∧
  (∀ (s : State) (b : Bool) (c1 c2 : Fin 65536) (rb : Fin 256) (code0 code1 : Fin 4096), s.regsWf → s.sys.vddf = true → s.marl.found = 0 → (s.marl.ch
    b).next = none → s.marl.state = 0 → ∃ t, exec (.marlTick b c1 c2 rb code0 code1) s = .next t ∧ t.marl.state = 0 ∧ (∀ k : Fin 8, ((t.marl.ch
    b).outs.getD k.val {}).cmd = false) ∧ (t.marl.ch b).sb = true ∧ FieldsKept [SYS.MRL_EVT.PEND] s t ∧
    { t with reg := s.reg, out := s.out, marl := s.marl } = s) ∧
  (∀ (s : State) (b : Bool) (c1 c2 : Fin 65536) (rb : Fin 256) (code0 code1 : Fin 4096), s.regsWf → s.marl.state = 2 → ∃ t, exec (.marlTick b c1 c2 rb
    code0 code1) s = .next t ∧ { t with out := s.out } = s) ∧
  (∀ (s : State) (b : Bool) (c1 c2 : Fin 65536) (rb : Fin 256) (code0 code1 : Fin 4096) (i : Fin 2), s.regsWf → s.sys.vddf = true → s.marl.found = 0 →
    (s.marl.ch b).next = none → s.marl.state ≠ 2 → (s.marl.ch b).pairs.length = 2 → (s.marl.ch (!b)).pairs.length = 2 → mPairEn (s.marl.ch b).set
    i.val = true → ((s.marl.ch b).pairs.getD i.val {}).broken = false → ((s.marl.ch b).pairs.getD i.val {}).xc = false → ((s.marl.ch (!b)).pairs.getD
    i.val {}).broken = false → ((s.marl.ch (!b)).pairs.getD i.val {}).xc = false → (((([code0.val, code1.val].getD i.val 0) : Int) - ((mPair
    (s.marl.ch b).set i.val 0) : Nat)).natAbs ≤ (mPair (s.marl.ch b).set i.val 1)) → (((((s.marl.ch (!b)).codes.getD i.val 0) : Int) - ((mPair
    (s.marl.ch b).set i.val 0) : Nat)).natAbs ≤ (mPair (s.marl.ch b).set i.val 1)) → (¬ (([code0.val, code1.val].getD i.val 0) < (mPair (s.marl.ch
    b).set i.val 2) ∨ (mPair (s.marl.ch b).set i.val 3) < ([code0.val, code1.val].getD i.val 0))) → (¬ (((s.marl.ch (!b)).codes.getD i.val 0) < (mPair
    (s.marl.ch b).set i.val 2) ∨ (mPair (s.marl.ch b).set i.val 3) < ((s.marl.ch (!b)).codes.getD i.val 0))) → ¬ (((([code0.val, code1.val].getD i.val
    0) : Int) - (((s.marl.ch (!b)).codes.getD i.val 0) : Int)).natAbs > (mPair (s.marl.ch b).set i.val 4)) → ∃ t, exec (.marlTick b c1 c2 rb code0
    code1) s = .next t ∧ ((t.marl.ch b).pairs.getD i.val {}) =
    { term := decide ((mPair (s.marl.ch b).set i.val 5) ≤ ((s.marl.ch b).pairs.getD i.val {}).hold + 1), hold := min (((s.marl.ch b).pairs.getD i.val {}).hold + 1) (mPair (s.marl.ch b).set i.val 5), broken := false, xc := false, brokenRun := 0, xcRun := 0 }
    ∧ FieldsKept [SYS.MRL_EVT.PEND] s t ∧ { t with reg := s.reg, out := s.out, marl := s.marl } = s) ∧
  (∀ (s : State) (b : Bool) (c1 c2 : Fin 65536) (rb : Fin 256) (code0 code1 : Fin 4096) (i : Fin 2), s.regsWf → s.sys.vddf = true → s.marl.found = 0 →
    (s.marl.ch b).next = none → s.marl.state ≠ 2 → (s.marl.ch b).pairs.length = 2 → (s.marl.ch (!b)).pairs.length = 2 → mPairEn (s.marl.ch b).set
    i.val = true → ((s.marl.ch b).pairs.getD i.val {}).broken = false → ((s.marl.ch b).pairs.getD i.val {}).xc = false → ((s.marl.ch (!b)).pairs.getD
    i.val {}).broken = false → ((s.marl.ch (!b)).pairs.getD i.val {}).xc = false → (¬ (((([code0.val, code1.val].getD i.val 0) : Int) - ((mPair
    (s.marl.ch b).set i.val 0) : Nat)).natAbs ≤ (mPair (s.marl.ch b).set i.val 1)) ∨ ¬ (((((s.marl.ch (!b)).codes.getD i.val 0) : Int) - ((mPair
    (s.marl.ch b).set i.val 0) : Nat)).natAbs ≤ (mPair (s.marl.ch b).set i.val 1))) → ∃ t, exec (.marlTick b c1 c2 rb code0 code1) s = .next t ∧
    ((t.marl.ch b).pairs.getD i.val {}).term = false ∧ ((t.marl.ch b).pairs.getD i.val {}).hold = 0 ∧ FieldsKept [SYS.MRL_EVT.PEND] s t ∧
    { t with reg := s.reg, out := s.out, marl := s.marl } = s) ∧
  (∀ (s : State) (b : Bool) (c1 c2 : Fin 65536) (rb : Fin 256) (code0 code1 : Fin 4096) (i : Fin 2), s.regsWf → s.sys.vddf = true → s.marl.found = 0 →
    (s.marl.ch b).next = none → s.marl.state ≠ 2 → (s.marl.ch b).pairs.length = 2 → (s.marl.ch (!b)).pairs.length = 2 → mPairEn (s.marl.ch b).set
    i.val = true → ((s.marl.ch b).pairs.getD i.val {}).broken = false → ((s.marl.ch b).pairs.getD i.val {}).xc = false → ((s.marl.ch (!b)).pairs.getD
    i.val {}).broken = false → ((s.marl.ch (!b)).pairs.getD i.val {}).xc = false → ((([code0.val, code1.val].getD i.val 0) < (mPair (s.marl.ch b).set
    i.val 2) ∨ (mPair (s.marl.ch b).set i.val 3) < ([code0.val, code1.val].getD i.val 0)) ∨ (((s.marl.ch (!b)).codes.getD i.val 0) < (mPair (s.marl.ch
    b).set i.val 2) ∨ (mPair (s.marl.ch b).set i.val 3) < ((s.marl.ch (!b)).codes.getD i.val 0))) → ∃ t, exec (.marlTick b c1 c2 rb code0 code1) s =
    .next t ∧ ((t.marl.ch b).pairs.getD i.val {}).term = false ∧ ((t.marl.ch b).pairs.getD i.val {}).brokenRun = ((s.marl.ch b).pairs.getD i.val
    {}).brokenRun + 1 ∧ ((t.marl.ch b).pairs.getD i.val {}).broken = decide (2 ≤ ((s.marl.ch b).pairs.getD i.val {}).brokenRun + 1) ∧ FieldsKept
    [SYS.MRL_EVT.PEND] s t ∧ { t with reg := s.reg, out := s.out, marl := s.marl } = s) ∧
  (∀ (s : State) (b : Bool) (c1 c2 : Fin 65536) (rb : Fin 256) (code0 code1 : Fin 4096) (i : Fin 2), s.regsWf → s.sys.vddf = true → s.marl.found = 0 →
    (s.marl.ch b).next = none → s.marl.state ≠ 2 → (s.marl.ch b).pairs.length = 2 → (s.marl.ch (!b)).pairs.length = 2 → mPairEn (s.marl.ch b).set
    i.val = true → ((s.marl.ch b).pairs.getD i.val {}).broken = false → ((s.marl.ch b).pairs.getD i.val {}).xc = false → ((s.marl.ch (!b)).pairs.getD
    i.val {}).broken = false → ((s.marl.ch (!b)).pairs.getD i.val {}).xc = false → (((([code0.val, code1.val].getD i.val 0) : Int) - (((s.marl.ch
    (!b)).codes.getD i.val 0) : Int)).natAbs > (mPair (s.marl.ch b).set i.val 4)) → ∃ t, exec (.marlTick b c1 c2 rb code0 code1) s = .next t ∧
    ((t.marl.ch b).pairs.getD i.val {}).xcRun = ((s.marl.ch b).pairs.getD i.val {}).xcRun + 1 ∧ ((t.marl.ch b).pairs.getD i.val {}).xc = decide (3 ≤
    ((s.marl.ch b).pairs.getD i.val {}).xcRun + 1) ∧ (3 ≤ ((s.marl.ch b).pairs.getD i.val {}).xcRun + 1 → ((t.marl.ch b).pairs.getD i.val {}).term =
    false) ∧ FieldsKept [SYS.MRL_EVT.PEND] s t ∧ { t with reg := s.reg, out := s.out, marl := s.marl } = s) ∧
  (∀ (s : State) (b : Bool) (c1 c2 : Fin 65536) (rb : Fin 256) (code0 code1 : Fin 4096) (k : Fin 8), s.regsWf → s.sys.vddf = true → s.marl.found = 0 →
    (s.marl.ch b).next = none → s.marl.state = 1 → mOutEn (s.marl.ch b).set k.val = true → s.marl.a.outs.length = 8 → s.marl.b.outs.length = 8 →
    ((s.marl.ch b).outs.getD k.val {}).cmd = false → bitAt rb.val k.val = true → mOffChk (s.marl.ch b).set k.val ≤ ((s.marl.ch b).outs.getD k.val
    {}).offTicks + 1 → ∃ t, exec (.marlTick b c1 c2 rb code0 code1) s = .next t ∧ bitAt ((t.marl.ch b).outs.getD k.val {}).faults 0 = true ∧
    ((t.marl.ch b).outs.getD k.val {}).cmd = false ∧ FieldsKept [SYS.MRL_EVT.PEND] s t ∧ { t with reg := s.reg, out := s.out, marl := s.marl } = s) ∧
  (∀ (s : State) (b : Bool) (c1 c2 : Fin 65536) (rb : Fin 256) (code0 code1 : Fin 4096) (k : Fin 8), s.regsWf → s.sys.vddf = true → s.marl.found = 0 →
    (s.marl.ch b).next = none → s.marl.state = 1 → mOutEn (s.marl.ch b).set k.val = true → s.marl.a.outs.length = 8 → s.marl.b.outs.length = 8 →
    ((s.marl.ch b).outs.getD k.val {}).cmd = true → ((s.marl.ch b).outs.getD k.val {}).win = false → ((s.marl.ch (!b)).outs.getD k.val {}).win = false
    → 1 ≤ ((s.marl.ch b).outs.getD k.val {}).winAge → bitAt rb.val k.val = false → 1 ≤ ((s.marl.ch b).outs.getD k.val {}).lowRun → ∃ t, exec
    (.marlTick b c1 c2 rb code0 code1) s = .next t ∧ bitAt ((t.marl.ch b).outs.getD k.val {}).faults 1 = true ∧ ((t.marl.ch b).outs.getD k.val {}).cmd
    = false ∧ FieldsKept [SYS.MRL_EVT.PEND] s t ∧ { t with reg := s.reg, out := s.out, marl := s.marl } = s) ∧
  (∀ (s : State) (b : Bool) (c1 c2 : Fin 65536) (rb : Fin 256) (code0 code1 : Fin 4096) (k : Fin 8), s.regsWf → s.sys.vddf = true → s.marl.found = 0 →
    (s.marl.ch b).next = none → s.marl.state = 1 → mOutEn (s.marl.ch b).set k.val = true → s.marl.a.outs.length = 8 → s.marl.b.outs.length = 8 →
    ((s.marl.ch b).outs.getD k.val {}).cmd = true → (((s.marl.ch b).outs.getD k.val {}).win = true ∨ ((s.marl.ch (!b)).outs.getD k.val {}).win = true
    ∨ ((s.marl.ch b).outs.getD k.val {}).winAge = 0) → ((s.marl.ch b).outs.getD k.val {}).faults = 0 → ((s.marl.ch (!b)).outs.getD k.val {}).faults =
    0 → ∃ t, exec (.marlTick b c1 c2 rb code0 code1) s = .next t ∧ ((t.marl.ch b).outs.getD k.val {}).faults = 0 ∧ ((t.marl.ch b).outs.getD k.val
    {}).lowRun = 0 ∧ FieldsKept [SYS.MRL_EVT.PEND] s t ∧ { t with reg := s.reg, out := s.out, marl := s.marl } = s) ∧
  (∀ (s : State) (b : Bool) (c1 c2 : Fin 65536) (rb : Fin 256) (code0 code1 : Fin 4096), s.regsWf → s.sys.vddf = true → s.marl.found = 0 → (s.marl.ch
    b).next = none → s.marl.state = 1 → (s.marl.ch b).set ≠ [] → mInEn (s.marl.ch b).set (mResetIn (s.marl.ch b).set) = true → ((s.marl.ch b).ins.getD
    (mResetIn (s.marl.ch b).set) {}).on = true → showsOn (s.marl.ch b).set (mResetIn (s.marl.ch b).set) c1.val c2.val = false → 50 ≤ (s.marl.ch
    b).onRun → (s.marl.ch b).onRun ≤ 2000 → (s.marl.ch b).supp = false → ∃ t, exec (.marlTick b c1 c2 rb code0 code1) s = .next t ∧ (t.marl.ch
    b).notify = false ∧ (b = false → (t.marl.recs.any (fun r => r.getD 4 0#8 == 0x0C#8)) = true) ∧ FieldsKept [SYS.MRL_EVT.PEND] s t ∧
    { t with reg := s.reg, out := s.out, marl := s.marl } = s) ∧
  (∀ (s : State) (b : Bool) (c1 c2 : Fin 65536) (rb : Fin 256) (code0 code1 : Fin 4096) (k : Fin 16), s.regsWf → s.sys.vddf = true → s.marl.found = 0
    → (s.marl.ch b).next = none → s.marl.state = 1 → (s.marl.ch b).set ≠ [] → mInEn (s.marl.ch b).set (mResetIn (s.marl.ch b).set) = true →
    ((s.marl.ch b).ins.getD (mResetIn (s.marl.ch b).set) {}).on = true → showsOn (s.marl.ch b).set (mResetIn (s.marl.ch b).set) c1.val c2.val = false
    → 50 ≤ (s.marl.ch b).onRun → (s.marl.ch b).onRun ≤ 2000 → (s.marl.ch b).supp = false → k.val ≠ (mResetIn (s.marl.ch b).set) → mInEn (s.marl.ch
    b).set k.val = true → (s.marl.ch b).ins.length = 16 → (s.marl.ch (!b)).ins.length = 16 → showsSafe (s.marl.ch b).set k.val c1.val c2.val = true →
    ∃ t, exec (.marlTick b c1 c2 rb code0 code1) s = .next t ∧ ((t.marl.ch b).ins.getD k.val {}).disc = false ∧ ((t.marl.ch b).ins.getD k.val {}).on =
    false ∧ FieldsKept [SYS.MRL_EVT.PEND] s t ∧ { t with reg := s.reg, out := s.out, marl := s.marl } = s) ∧
  (∀ (s : State) (b : Bool) (c1 c2 : Fin 65536) (rb : Fin 256) (code0 code1 : Fin 4096) (k : Fin 8), s.regsWf → s.sys.vddf = true → s.marl.found = 0 →
    (s.marl.ch b).next = none → s.marl.state = 1 → (s.marl.ch b).set ≠ [] → mInEn (s.marl.ch b).set (mResetIn (s.marl.ch b).set) = true → ((s.marl.ch
    b).ins.getD (mResetIn (s.marl.ch b).set) {}).on = true → showsOn (s.marl.ch b).set (mResetIn (s.marl.ch b).set) c1.val c2.val = false → 50 ≤
    (s.marl.ch b).onRun → (s.marl.ch b).onRun ≤ 2000 → (s.marl.ch b).supp = false → s.marl.a.outs.length = 8 → s.marl.b.outs.length = 8 → ((s.marl.ch
    b).outs.getD k.val {}).cmd = false → bitAt rb.val k.val = false → ((s.marl.ch b).outs.getD k.val {}).faults ≠ 0 → ∃ t, exec (.marlTick b c1 c2 rb
    code0 code1) s = .next t ∧ ((t.marl.ch b).outs.getD k.val {}).faults = 0 ∧ ((t.marl.ch b).outs.getD k.val {}).wait = true ∧ ((t.marl.ch
    b).outs.getD k.val {}).cmd = false ∧ FieldsKept [SYS.MRL_EVT.PEND] s t ∧ { t with reg := s.reg, out := s.out, marl := s.marl } = s) ∧
  (∀ (s : State) (b : Bool) (c1 c2 : Fin 65536) (rb : Fin 256) (code0 code1 : Fin 4096) (k : Fin 8), s.regsWf → s.sys.vddf = true → s.marl.found = 0 →
    (s.marl.ch b).next = none → s.marl.state = 1 → (s.marl.ch b).set ≠ [] → mInEn (s.marl.ch b).set (mResetIn (s.marl.ch b).set) = true → ((s.marl.ch
    b).ins.getD (mResetIn (s.marl.ch b).set) {}).on = true → showsOn (s.marl.ch b).set (mResetIn (s.marl.ch b).set) c1.val c2.val = false → 50 ≤
    (s.marl.ch b).onRun → (s.marl.ch b).onRun ≤ 2000 → (s.marl.ch b).supp = false → s.marl.a.outs.length = 8 → s.marl.b.outs.length = 8 → mOutEn
    (s.marl.ch b).set k.val = true → ((s.marl.ch b).outs.getD k.val {}).cmd = false → ((s.marl.ch b).outs.getD k.val {}).wait = true → bitAt rb.val
    k.val = false → ((s.marl.ch b).outs.getD k.val {}).faults = 0 → ((s.marl.ch (!b)).outs.getD k.val {}).faults = 0 → ∃ t, exec (.marlTick b c1 c2 rb
    code0 code1) s = .next t ∧ ((t.marl.ch b).outs.getD k.val {}).cmd = termsOn (s.marl.ch b).set (t.marl.ch b) (mOutMask (s.marl.ch b).set k.val) ∧
    ((t.marl.ch b).outs.getD k.val {}).wait = !((t.marl.ch b).outs.getD k.val {}).cmd ∧ FieldsKept [SYS.MRL_EVT.PEND] s t ∧
    { t with reg := s.reg, out := s.out, marl := s.marl } = s) ∧
  (∀ (s : State) (b : Bool) (c1 c2 : Fin 65536) (rb : Fin 256) (code0 code1 : Fin 4096) (n : Fin 4), s.regsWf → s.sys.vddf = true → s.marl.found = 0 →
    (s.marl.ch b).next = none → s.marl.state = 1 → (s.marl.ch b).set ≠ [] → mInEn (s.marl.ch b).set (mResetIn (s.marl.ch b).set) = true → ((s.marl.ch
    b).ins.getD (mResetIn (s.marl.ch b).set) {}).on = true → showsOn (s.marl.ch b).set (mResetIn (s.marl.ch b).set) c1.val c2.val = false → 50 ≤
    (s.marl.ch b).onRun → (s.marl.ch b).onRun ≤ 2000 → (s.marl.ch b).supp = false → (s.marl.ch b).rx = [] → mConnEn (s.marl.ch b).set n.val = true →
    (s.marl.ch b).conns.length = 4 → ((s.marl.ch b).conns.getD n.val {}).st = 1 → ((s.marl.ch b).conns.getD n.val {}).wd + 1 < mWdMs (s.marl.ch b).set
    n.val → ∃ t, exec (.marlTick b c1 c2 rb code0 code1) s = .next t ∧ ((t.marl.ch b).conns.getD n.val {}).st = 2 ∧ FieldsKept [SYS.MRL_EVT.PEND] s t
    ∧ { t with reg := s.reg, out := s.out, marl := s.marl } = s) ∧
  (∀ (s : State) (b : Bool) (c1 c2 : Fin 65536) (rb : Fin 256) (code0 code1 : Fin 4096) (i : Fin 2), s.regsWf → s.sys.vddf = true → s.marl.found = 0 →
    (s.marl.ch b).next = none → s.marl.state = 1 → (s.marl.ch b).set ≠ [] → mInEn (s.marl.ch b).set (mResetIn (s.marl.ch b).set) = true → ((s.marl.ch
    b).ins.getD (mResetIn (s.marl.ch b).set) {}).on = true → showsOn (s.marl.ch b).set (mResetIn (s.marl.ch b).set) c1.val c2.val = false → 50 ≤
    (s.marl.ch b).onRun → (s.marl.ch b).onRun ≤ 2000 → (s.marl.ch b).supp = false → (s.marl.ch b).pairs.length = 2 → (s.marl.ch (!b)).pairs.length = 2
    → (¬ (([code0.val, code1.val].getD i.val 0) < (mPair (s.marl.ch b).set i.val 2) ∨ (mPair (s.marl.ch b).set i.val 3) < ([code0.val, code1.val].getD
    i.val 0))) → (¬ (((s.marl.ch (!b)).codes.getD i.val 0) < (mPair (s.marl.ch b).set i.val 2) ∨ (mPair (s.marl.ch b).set i.val 3) < ((s.marl.ch
    (!b)).codes.getD i.val 0))) → ¬ (((([code0.val, code1.val].getD i.val 0) : Int) - (((s.marl.ch (!b)).codes.getD i.val 0) : Int)).natAbs > (mPair
    (s.marl.ch b).set i.val 4)) → ∃ t, exec (.marlTick b c1 c2 rb code0 code1) s = .next t ∧ ((t.marl.ch b).pairs.getD i.val {}).broken = false ∧
    ((t.marl.ch b).pairs.getD i.val {}).xc = false ∧ FieldsKept [SYS.MRL_EVT.PEND] s t ∧ { t with reg := s.reg, out := s.out, marl := s.marl } = s) ∧
  (∀ (s : State) (b : Bool) (c1 c2 : Fin 65536) (rb : Fin 256) (code0 code1 : Fin 4096), s.regsWf → s.sys.vddf = true → s.marl.found ≠ 0 →
    s.marl.state ≠ 2 → ∃ t, exec (.marlTick b c1 c2 rb code0 code1) s = .next t ∧ t.marl.state = 2 ∧ t.marl.fault = s.marl.found ∧ t.marl.a.sb = true
    ∧ t.marl.b.sb = true ∧ (∀ k : Fin 8, (t.marl.a.outs.getD k.val {}).cmd = false) ∧ (∀ k : Fin 8, (t.marl.b.outs.getD k.val {}).cmd = false) ∧
    (t.marl.recs.headD []).getD 4 0#8 = 0x0E#8 ∧ FieldsKept [SYS.MRL_EVT.PEND] s t ∧ { t with reg := s.reg, out := s.out, marl := s.marl } = s) ∧
  (∀ (s : State), s.regsWf → s.sys.vddf = true → s.marl.found ≠ 0 → s.marl.state ≠ 2 → ∃ t, exec (.marlInternalFault) s = .next t ∧ t.marl.state = 2 ∧
    t.marl.fault = s.marl.found ∧ t.marl.a.sb = true ∧ t.marl.b.sb = true ∧ (∀ k : Fin 8, (t.marl.a.outs.getD k.val {}).cmd = false) ∧ (∀ k : Fin 8,
    (t.marl.b.outs.getD k.val {}).cmd = false) ∧ (t.marl.recs.headD []).getD 4 0#8 = 0x0E#8 ∧ FieldsKept [SYS.MRL_EVT.PEND] s t ∧
    { t with reg := s.reg, out := s.out, marl := s.marl } = s) ∧
  (∀ (s : State), s.regsWf → s.sys.vddf = true → s.marl.found = 0 → s.marl.state ≠ 2 → ∃ t, exec (.marlSelfTest false) s = .next t ∧ t.marl =
    { s.marl with found := 4 } ∧ { t with out := s.out, marl := s.marl } = s) ∧
  (∀ (s : State), s.regsWf → ∃ t, exec (.marlSelfTest true) s = .next t ∧ { t with out := s.out } = s) ∧
  (∀ (s : State) (k : Fin 16), s.regsWf → s.sys.vddf = true → s.marl.state ≠ 2 → s.marl.a.ins.length = 16 → mInEn s.marl.a.set k.val = true →
    (s.marl.a.ins.getD k.val {}).disc = false → mDiscMs s.marl.a.set k.val ≤ (s.marl.a.ins.getD k.val {}).count → ∃ t, exec (.marlDiscFault k) s =
    .next t ∧ (t.marl.a.ins.getD k.val {}) = { (s.marl.a.ins.getD k.val {}) with disc := true } ∧ t.marl.a.outs = s.marl.a.outs ∧ FieldsKept
    [SYS.MRL_EVT.PEND] s t ∧ { t with reg := s.reg, out := s.out, marl := s.marl } = s) ∧
  (∀ (s : State) (b : Bool) (k : Fin 8) (rb : Bool), s.regsWf → s.sys.vddf = true → s.marl.state = 1 → s.marl.a.outs.length = 8 → s.marl.b.outs.length
    = 8 → mOutEn (s.marl.ch b).set k.val = true → windowDue s.marl b k.val = true → ((s.marl.ch b).outs.getD k.val {}).win = false → ∃ t, exec
    (.marlTestWindow b k rb false) s = .next t ∧ ((t.marl.ch b).outs.getD k.val {}).win = true ∧ ((t.marl.ch b).outs.getD k.val {}).winOk =
    ((s.marl.ch b).outs.getD k.val {}).cmd ∧ ((t.marl.ch b).outs.getD k.val {}).cmd = ((s.marl.ch b).outs.getD k.val {}).cmd ∧ ((t.marl.ch
    b).outs.getD k.val {}).faults = ((s.marl.ch b).outs.getD k.val {}).faults ∧ ((t.marl.ch (!b)).outs.getD k.val {}).cmd = ((s.marl.ch
    (!b)).outs.getD k.val {}).cmd ∧ (t.marl.a.outs.getD k.val {}).winTicks = (if b then (s.marl.a.outs.getD k.val {}).winTicks else 0) ∧
    (t.marl.a.outs.getD k.val {}).winMid = b ∧ marlPin t.marl b k.val = false ∧ t.out = [.window b k.val (10 * mTp (s.marl.ch b).set k.val)] ∧
    { t with out := s.out, marl := s.marl } = s) ∧
  (∀ (s : State) (b : Bool) (k : Fin 8) (rb : Bool), s.regsWf → s.sys.vddf = true → s.marl.state = 1 → s.marl.a.outs.length = 8 → s.marl.b.outs.length
    = 8 → mOutEn (s.marl.ch b).set k.val = true → (windowDue s.marl b k.val = false ∨ ((s.marl.ch b).outs.getD k.val {}).win = true) → ∃ t, exec
    (.marlTestWindow b k rb false) s = .next t ∧ t.out = [] ∧ { t with out := s.out } = s) ∧
  (∀ (s : State) (b : Bool) (k : Fin 8) (rb : Bool), s.regsWf → s.sys.vddf = true → s.marl.state = 1 → s.marl.a.outs.length = 8 → s.marl.b.outs.length
    = 8 → mOutEn (s.marl.ch b).set k.val = true → ((s.marl.ch b).outs.getD k.val {}).win = true → (((s.marl.ch b).outs.getD k.val {}).winOk &&
    ((s.marl.ch b).outs.getD k.val {}).cmd && rb) = false → ∃ t, exec (.marlTestWindow b k rb true) s = .next t ∧ ((t.marl.ch b).outs.getD k.val {}) =
    { ((s.marl.ch b).outs.getD k.val {}) with win := false, winOk := false, winAge := 0 } ∧ ((t.marl.ch (!b)).outs.getD k.val {}) =
    { ((s.marl.ch (!b)).outs.getD k.val {}) with winAge := 0 } ∧ marlPin t.marl b k.val = ((s.marl.ch b).outs.getD k.val {}).cmd ∧ t.out = [] ∧
    { t with out := s.out, marl := s.marl } = s) ∧
  (∀ (s : State) (b : Bool) (k : Fin 8), s.regsWf → s.sys.vddf = true → s.marl.state = 1 → s.marl.a.outs.length = 8 → s.marl.b.outs.length = 8 →
    mOutEn (s.marl.ch b).set k.val = true → ((s.marl.ch b).outs.getD k.val {}).win = true → ((s.marl.ch b).outs.getD k.val {}).winOk = true →
    ((s.marl.ch b).outs.getD k.val {}).cmd = true → ∃ t, exec (.marlTestWindow b k true true) s = .next t ∧ bitAt ((t.marl.ch b).outs.getD k.val
    {}).faults (if b then 3 else 2) = true ∧ ((t.marl.ch b).outs.getD k.val {}).cmd = false ∧ ((t.marl.ch b).outs.getD k.val {}).win = false ∧
    ((t.marl.ch (!b)).outs.getD k.val {}) = { ((s.marl.ch (!b)).outs.getD k.val {}) with winAge := 0 } ∧ marlPin t.marl b k.val = false ∧ t.out = [] ∧
    FieldsKept [SYS.MRL_EVT.PEND] s t ∧ { t with reg := s.reg, out := s.out, marl := s.marl } = s) ∧
  (∀ (s : State) (k : Fin 128), s.regsWf → s.sys.vddf = true → s.marl.state ≠ 2 → mNotify s.marl.a.set k.val = true → mNotify s.marl.b.set k.val =
    true → ∃ t, exec (.marlNotify k) s = .next t ∧ t.marl.a = { s.marl.a with notify := true } ∧ t.marl.b = { s.marl.b with notify := true } ∧
    (t.marl.recs.headD []).getD 4 0#8 = 0x0D#8 ∧ t.flag SYS.MRL_EVT.PEND = true ∧ FieldsKept [SYS.MRL_EVT.PEND] s t ∧
    { t with reg := s.reg, out := s.out, marl := s.marl } = s)

/-- With both channels building the same telegram, connection n sends it on every port its PORT names, with one SEQ, which then rises by one; the third build mismatch in a row is internal fault 0x03. A telegram at the seam reaches both channels. At its next tick each takes it: a valid one in SYNC leads to WAIT_RESET; with 1 ≤ d ≤ SEQ_GAP it is accepted (LAST, watchdog, DATA), and the second acceptance in WAIT_RESET under AUTO leads to RUN; d = 0 counts as a duplicate, any other d as a sequence error, an invalid one as a CRC error. The tick at which WD_MS ticks have passed since the last acceptance returns the connection to SYNC with its data zero, and the timeout is counted. -/
def Obligations.MarlTelegramsDriveTheConnections : Prop :=
  (∀ (s : State) (n : Fin 4), s.regsWf → s.sys.vddf = true → s.marl.state = 1 → mConnEn s.marl.set n.val = true → mTxMs s.marl.set n.val ≤
    s.marl.txTicks.getD n.val 0 → telegram s.marl s.marl.a.set n.val = telegram s.marl s.marl.b.set n.val → bitsAt (mConnFlags s.marl.set n.val) 2 2 =
    1 → s.station.ports.length = 2 → portUp s 0 = true → (s.port 0).wire = none → (s.port 0).telegrams = [] → ∃ t, exec (.marlTelegramSend n) s =
    .next t ∧ t.marl =
    { s.marl with txTicks := s.marl.txTicks.set n.val 0, txSeq := s.marl.txSeq.set n.val ((s.marl.txSeq.getD n.val 0 + 1) % 2 ^ 32), mismatch := s.marl.mismatch.set n.val 0 }
    ∧ (t.port 0) = { s.port 0 with wire := some true } ∧ t.port 1 = s.port 1 ∧ t.out = [.bytes 0 (telegramFrame s n.val 0 (telegram s.marl
    s.marl.a.set n.val))] ∧ { t with out := s.out, marl := s.marl, station := s.station } = s) ∧
  (∀ (s : State) (n : Fin 4), s.regsWf → s.sys.vddf = true → s.marl.state = 1 → mConnEn s.marl.set n.val = true → mTxMs s.marl.set n.val ≤
    s.marl.txTicks.getD n.val 0 → telegram s.marl s.marl.a.set n.val = telegram s.marl s.marl.b.set n.val → bitsAt (mConnFlags s.marl.set n.val) 2 2 =
    2 → s.station.ports.length = 2 → portUp s 1 = true → (s.port 1).wire = none → (s.port 1).telegrams = [] → ∃ t, exec (.marlTelegramSend n) s =
    .next t ∧ t.marl =
    { s.marl with txTicks := s.marl.txTicks.set n.val 0, txSeq := s.marl.txSeq.set n.val ((s.marl.txSeq.getD n.val 0 + 1) % 2 ^ 32), mismatch := s.marl.mismatch.set n.val 0 }
    ∧ (t.port 1) = { s.port 1 with wire := some true } ∧ t.port 0 = s.port 0 ∧ t.out = [.bytes 1 (telegramFrame s n.val 1 (telegram s.marl
    s.marl.a.set n.val))] ∧ { t with out := s.out, marl := s.marl, station := s.station } = s) ∧
  (∀ (s : State) (n : Fin 4), s.regsWf → s.sys.vddf = true → s.marl.state = 1 → mConnEn s.marl.set n.val = true → mTxMs s.marl.set n.val ≤
    s.marl.txTicks.getD n.val 0 → telegram s.marl s.marl.a.set n.val = telegram s.marl s.marl.b.set n.val → bitsAt (mConnFlags s.marl.set n.val) 2 2 =
    3 → s.station.ports.length = 2 → portUp s 0 = true → (s.port 0).wire = none → (s.port 0).telegrams = [] → portUp s 1 = true → (s.port 1).wire =
    none → (s.port 1).telegrams = [] → ∃ t, exec (.marlTelegramSend n) s = .next t ∧ t.marl =
    { s.marl with txTicks := s.marl.txTicks.set n.val 0, txSeq := s.marl.txSeq.set n.val ((s.marl.txSeq.getD n.val 0 + 1) % 2 ^ 32), mismatch := s.marl.mismatch.set n.val 0 }
    ∧ (t.port 0) = { s.port 0 with wire := some true } ∧ (t.port 1) = { s.port 1 with wire := some true } ∧ t.out = [.bytes 0 (telegramFrame s n.val 0
    (telegram s.marl s.marl.a.set n.val)), .bytes 1 (telegramFrame s n.val 1 (telegram s.marl s.marl.a.set n.val))] ∧
    { t with out := s.out, marl := s.marl, station := s.station } = s) ∧
  (∀ (s : State) (n : Fin 4), s.regsWf → s.sys.vddf = true → s.marl.state = 1 → mConnEn s.marl.set n.val = true → mTxMs s.marl.set n.val ≤
    s.marl.txTicks.getD n.val 0 → telegram s.marl s.marl.a.set n.val = telegram s.marl s.marl.b.set n.val → bitsAt (mConnFlags s.marl.set n.val) 2 2 =
    1 → s.station.ports.length = 2 → portUp s 0 = true → (s.port 0).wire ≠ none → ∃ t, exec (.marlTelegramSend n) s = .next t ∧ t.marl =
    { s.marl with txTicks := s.marl.txTicks.set n.val 0, txSeq := s.marl.txSeq.set n.val ((s.marl.txSeq.getD n.val 0 + 1) % 2 ^ 32), mismatch := s.marl.mismatch.set n.val 0 }
    ∧ (t.port 0) = { s.port 0 with telegrams := (s.port 0).telegrams ++ [telegramFrame s n.val 0 (telegram s.marl s.marl.a.set n.val)] } ∧ t.out = []
    ∧ { t with out := s.out, marl := s.marl, station := s.station } = s) ∧
  (∀ (s : State) (n : Fin 4), s.regsWf → s.sys.vddf = true → s.marl.state = 1 → mConnEn s.marl.set n.val = true → mTxMs s.marl.set n.val ≤
    s.marl.txTicks.getD n.val 0 → telegram s.marl s.marl.a.set n.val ≠ telegram s.marl s.marl.b.set n.val → s.marl.found = 0 → ∃ t, exec
    (.marlTelegramSend n) s = .next t ∧ t.marl =
    { s.marl with txTicks := s.marl.txTicks.set n.val 0, mismatch := s.marl.mismatch.set n.val (s.marl.mismatch.getD n.val 0 + 1), found := if 3 ≤ s.marl.mismatch.getD n.val 0 + 1 then 3 else 0 }
    ∧ t.out = [] ∧ { t with out := s.out, marl := s.marl } = s) ∧
  (∀ (s : State) (w : List Byte) (ws : List (List Byte)), s.regsWf → s.sys.vddf = true → s.marl.state ≠ 2 → s.marl.seam = w :: ws → w.length = 32 → ∃
    t, exec (.marlTelegramRx) s = .next t ∧ t.marl =
    { s.marl with seam := ws, a := { s.marl.a with rx := s.marl.a.rx ++ [w] }, b := { s.marl.b with rx := s.marl.b.rx ++ [w] } } ∧ t.out = s.out ∧
    { t with out := s.out, marl := s.marl } = s) ∧
  (∀ (s : State), s.regsWf → s.marl.seam = [] → ∃ t, exec (.marlTelegramRx) s = .next t ∧ { t with out := s.out } = s) ∧
  (∀ (s : State) (b : Bool) (c1 c2 : Fin 65536) (rb : Fin 256) (code0 code1 : Fin 4096) (n : Fin 4) (w : List Byte), s.regsWf → s.sys.vddf = true →
    s.marl.found = 0 → (s.marl.ch b).next = none → s.marl.state ≠ 2 → (s.marl.ch b).rx = [w] → w.length = 32 → telegramTo (s.marl.ch b).set w =
    [n.val] → mConnEn (s.marl.ch b).set n.val = true → (s.marl.ch b).conns.length = 4 → ((s.marl.ch b).conns.getD n.val {}).expired = false →
    ((s.marl.ch b).ins.getD (mResetIn (s.marl.ch b).set) {}).on = false → leNat ((w.drop 28).take 4) = telegramCrc (mRxId (s.marl.ch b).set n.val) w →
    leNat (w.take 4) = mRxId (s.marl.ch b).set n.val → w.getD 8 0#8 = 1#8 → 1 ≤ mWdMs (s.marl.ch b).set n.val → ((s.marl.ch b).conns.getD n.val {}).st
    = 0 → ∃ t, exec (.marlTick b c1 c2 rb code0 code1) s = .next t ∧ ((t.marl.ch b).conns.getD n.val {}) =
    { ((s.marl.ch b).conns.getD n.val {}) with last := leNat ((w.drop 4).take 4), wd := 0, st := 1, acc := 0 } ∧ (t.marl.ch b).rx = [] ∧ FieldsKept
    [SYS.MRL_EVT.PEND] s t ∧ { t with reg := s.reg, out := s.out, marl := s.marl } = s) ∧
  (∀ (s : State) (b : Bool) (c1 c2 : Fin 65536) (rb : Fin 256) (code0 code1 : Fin 4096) (n : Fin 4) (w : List Byte), s.regsWf → s.sys.vddf = true →
    s.marl.found = 0 → (s.marl.ch b).next = none → s.marl.state ≠ 2 → (s.marl.ch b).rx = [w] → w.length = 32 → telegramTo (s.marl.ch b).set w =
    [n.val] → mConnEn (s.marl.ch b).set n.val = true → (s.marl.ch b).conns.length = 4 → ((s.marl.ch b).conns.getD n.val {}).expired = false →
    ((s.marl.ch b).ins.getD (mResetIn (s.marl.ch b).set) {}).on = false → leNat ((w.drop 28).take 4) = telegramCrc (mRxId (s.marl.ch b).set n.val) w →
    leNat (w.take 4) = mRxId (s.marl.ch b).set n.val → w.getD 8 0#8 = 1#8 → 1 ≤ mWdMs (s.marl.ch b).set n.val → ((s.marl.ch b).conns.getD n.val {}).st
    = 2 → 1 ≤ ((leNat ((w.drop 4).take 4) + 2 ^ 32 - ((s.marl.ch b).conns.getD n.val {}).last) % 2 ^ 32) → ((leNat ((w.drop 4).take 4) + 2 ^ 32 -
    ((s.marl.ch b).conns.getD n.val {}).last) % 2 ^ 32) ≤ mSeqGap (s.marl.ch b).set n.val → ∃ t, exec (.marlTick b c1 c2 rb code0 code1) s = .next t ∧
    ((t.marl.ch b).conns.getD n.val {}) =
    { ((s.marl.ch b).conns.getD n.val {}) with last := leNat ((w.drop 4).take 4), wd := 0, data := (w.drop 12).take 16, echo := leNat ((w.drop 10).take 2) }
    ∧ (t.marl.ch b).rx = [] ∧ FieldsKept [SYS.MRL_EVT.PEND] s t ∧ { t with reg := s.reg, out := s.out, marl := s.marl } = s) ∧
  (∀ (s : State) (b : Bool) (c1 c2 : Fin 65536) (rb : Fin 256) (code0 code1 : Fin 4096) (n : Fin 4) (w : List Byte), s.regsWf → s.sys.vddf = true →
    s.marl.found = 0 → (s.marl.ch b).next = none → s.marl.state ≠ 2 → (s.marl.ch b).rx = [w] → w.length = 32 → telegramTo (s.marl.ch b).set w =
    [n.val] → mConnEn (s.marl.ch b).set n.val = true → (s.marl.ch b).conns.length = 4 → ((s.marl.ch b).conns.getD n.val {}).expired = false →
    ((s.marl.ch b).ins.getD (mResetIn (s.marl.ch b).set) {}).on = false → leNat ((w.drop 28).take 4) = telegramCrc (mRxId (s.marl.ch b).set n.val) w →
    leNat (w.take 4) = mRxId (s.marl.ch b).set n.val → w.getD 8 0#8 = 1#8 → 1 ≤ mWdMs (s.marl.ch b).set n.val → ((s.marl.ch b).conns.getD n.val {}).st
    = 1 → 1 ≤ ((leNat ((w.drop 4).take 4) + 2 ^ 32 - ((s.marl.ch b).conns.getD n.val {}).last) % 2 ^ 32) → ((leNat ((w.drop 4).take 4) + 2 ^ 32 -
    ((s.marl.ch b).conns.getD n.val {}).last) % 2 ^ 32) ≤ mSeqGap (s.marl.ch b).set n.val → ∃ t, exec (.marlTick b c1 c2 rb code0 code1) s = .next t ∧
    ((t.marl.ch b).conns.getD n.val {}) = (if bitAt (mConnFlags (s.marl.ch b).set n.val) 1 then
    { ((s.marl.ch b).conns.getD n.val {}) with last := leNat ((w.drop 4).take 4), wd := 0, data := (w.drop 12).take 16, echo := leNat ((w.drop 10).take 2), acc := ((s.marl.ch b).conns.getD n.val {}).acc + 1, st := if 2 ≤ ((s.marl.ch b).conns.getD n.val {}).acc + 1 then 2 else 1 }
    else
    { ((s.marl.ch b).conns.getD n.val {}) with last := leNat ((w.drop 4).take 4), wd := 0, data := (w.drop 12).take 16, echo := leNat ((w.drop 10).take 2) })
    ∧ FieldsKept [SYS.MRL_EVT.PEND] s t ∧ { t with reg := s.reg, out := s.out, marl := s.marl } = s) ∧
  (∀ (s : State) (b : Bool) (c1 c2 : Fin 65536) (rb : Fin 256) (code0 code1 : Fin 4096) (n : Fin 4) (w : List Byte), s.regsWf → s.sys.vddf = true →
    s.marl.found = 0 → (s.marl.ch b).next = none → s.marl.state ≠ 2 → (s.marl.ch b).rx = [w] → w.length = 32 → telegramTo (s.marl.ch b).set w =
    [n.val] → mConnEn (s.marl.ch b).set n.val = true → (s.marl.ch b).conns.length = 4 → ((s.marl.ch b).conns.getD n.val {}).expired = false →
    ((s.marl.ch b).ins.getD (mResetIn (s.marl.ch b).set) {}).on = false → leNat ((w.drop 28).take 4) = telegramCrc (mRxId (s.marl.ch b).set n.val) w →
    leNat (w.take 4) = mRxId (s.marl.ch b).set n.val → w.getD 8 0#8 = 1#8 → 1 ≤ mWdMs (s.marl.ch b).set n.val → ((s.marl.ch b).conns.getD n.val {}).wd
    + 1 < mWdMs (s.marl.ch b).set n.val → ((s.marl.ch b).conns.getD n.val {}).st ≠ 0 → ((leNat ((w.drop 4).take 4) + 2 ^ 32 - ((s.marl.ch
    b).conns.getD n.val {}).last) % 2 ^ 32) = 0 → ∃ t, exec (.marlTick b c1 c2 rb code0 code1) s = .next t ∧ ((t.marl.ch b).conns.getD n.val {}) =
    { ((s.marl.ch b).conns.getD n.val {}) with dup := min (((s.marl.ch b).conns.getD n.val {}).dup + 1) 65535, wd := ((s.marl.ch b).conns.getD n.val {}).wd + 1 }
    ∧ FieldsKept [SYS.MRL_EVT.PEND] s t ∧ { t with reg := s.reg, out := s.out, marl := s.marl } = s) ∧
  (∀ (s : State) (b : Bool) (c1 c2 : Fin 65536) (rb : Fin 256) (code0 code1 : Fin 4096) (n : Fin 4) (w : List Byte), s.regsWf → s.sys.vddf = true →
    s.marl.found = 0 → (s.marl.ch b).next = none → s.marl.state ≠ 2 → (s.marl.ch b).rx = [w] → w.length = 32 → telegramTo (s.marl.ch b).set w =
    [n.val] → mConnEn (s.marl.ch b).set n.val = true → (s.marl.ch b).conns.length = 4 → ((s.marl.ch b).conns.getD n.val {}).expired = false →
    ((s.marl.ch b).ins.getD (mResetIn (s.marl.ch b).set) {}).on = false → leNat ((w.drop 28).take 4) = telegramCrc (mRxId (s.marl.ch b).set n.val) w →
    leNat (w.take 4) = mRxId (s.marl.ch b).set n.val → w.getD 8 0#8 = 1#8 → 1 ≤ mWdMs (s.marl.ch b).set n.val → ((s.marl.ch b).conns.getD n.val {}).wd
    + 1 < mWdMs (s.marl.ch b).set n.val → ((s.marl.ch b).conns.getD n.val {}).st ≠ 0 → mSeqGap (s.marl.ch b).set n.val < ((leNat ((w.drop 4).take 4) +
    2 ^ 32 - ((s.marl.ch b).conns.getD n.val {}).last) % 2 ^ 32) → ∃ t, exec (.marlTick b c1 c2 rb code0 code1) s = .next t ∧ ((t.marl.ch
    b).conns.getD n.val {}) =
    { ((s.marl.ch b).conns.getD n.val {}) with seqErr := min (((s.marl.ch b).conns.getD n.val {}).seqErr + 1) 65535, wd := ((s.marl.ch b).conns.getD n.val {}).wd + 1 }
    ∧ FieldsKept [SYS.MRL_EVT.PEND] s t ∧ { t with reg := s.reg, out := s.out, marl := s.marl } = s) ∧
  (∀ (s : State) (b : Bool) (c1 c2 : Fin 65536) (rb : Fin 256) (code0 code1 : Fin 4096) (n : Fin 4) (w : List Byte), s.regsWf → s.sys.vddf = true →
    s.marl.found = 0 → (s.marl.ch b).next = none → s.marl.state ≠ 2 → (s.marl.ch b).rx = [w] → w.length = 32 → telegramTo (s.marl.ch b).set w =
    [n.val] → mConnEn (s.marl.ch b).set n.val = true → (s.marl.ch b).conns.length = 4 → ((s.marl.ch b).conns.getD n.val {}).expired = false →
    ((s.marl.ch b).ins.getD (mResetIn (s.marl.ch b).set) {}).on = false → ((s.marl.ch b).conns.getD n.val {}).wd + 1 < mWdMs (s.marl.ch b).set n.val →
    ((s.marl.ch b).conns.getD n.val {}).st ≠ 0 → leNat ((w.drop 28).take 4) ≠ telegramCrc (mRxId (s.marl.ch b).set n.val) w → ∃ t, exec (.marlTick b
    c1 c2 rb code0 code1) s = .next t ∧ ((t.marl.ch b).conns.getD n.val {}) =
    { ((s.marl.ch b).conns.getD n.val {}) with crcErr := min (((s.marl.ch b).conns.getD n.val {}).crcErr + 1) 65535, wd := ((s.marl.ch b).conns.getD n.val {}).wd + 1 }
    ∧ FieldsKept [SYS.MRL_EVT.PEND] s t ∧ { t with reg := s.reg, out := s.out, marl := s.marl } = s) ∧
  (∀ (s : State) (b : Bool) (c1 c2 : Fin 65536) (rb : Fin 256) (code0 code1 : Fin 4096) (n : Fin 4), s.regsWf → s.sys.vddf = true → s.marl.found = 0 →
    (s.marl.ch b).next = none → s.marl.state ≠ 2 → (s.marl.ch b).rx = [] → mConnEn (s.marl.ch b).set n.val = true → (s.marl.ch b).conns.length = 4 →
    ((s.marl.ch b).conns.getD n.val {}).st ≠ 0 → ((s.marl.ch b).conns.getD n.val {}).expired = false → mWdMs (s.marl.ch b).set n.val ≤ ((s.marl.ch
    b).conns.getD n.val {}).wd + 1 → ∃ t, exec (.marlTick b c1 c2 rb code0 code1) s = .next t ∧ ((t.marl.ch b).conns.getD n.val {}) =
    { ((s.marl.ch b).conns.getD n.val {}) with st := 0, wd := 0, acc := 0, data := List.replicate 16 0#8, expired := true } ∧ FieldsKept
    [SYS.MRL_EVT.PEND] s t ∧ { t with reg := s.reg, out := s.out, marl := s.marl } = s) ∧
  (∀ (s : State) (n : Fin 4), s.regsWf → s.sys.vddf = true → s.marl.state ≠ 2 → s.marl.a.conns.length = 4 → (s.marl.a.conns.getD n.val {}).expired =
    true → ∃ t, exec (.connTimeout n) s = .next t ∧ (t.marl.a.conns.getD n.val {}) =
    { (s.marl.a.conns.getD n.val {}) with expired := false, timeouts := min ((s.marl.a.conns.getD n.val {}).timeouts + 1) 65535 } ∧ (∀ i : Fin 4, i ≠
    n → (t.marl.a.conns.getD i.val {}) = (s.marl.a.conns.getD i.val {})) ∧ (t.marl.recs.headD []).getD 4 0#8 = 0x0A#8 ∧ FieldsKept [SYS.MRL_EVT.PEND]
    s t ∧ { t with reg := s.reg, out := s.out, marl := s.marl } = s) ∧
  (∀ (s : State) (n : Fin 4), s.regsWf → s.sys.vddf = true → s.marl.state ≠ 2 → s.marl.b.conns.length = 4 → (s.marl.b.conns.getD n.val {}).expired =
    true → ∃ t, exec (.connTimeout n) s = .next t ∧ (t.marl.b.conns.getD n.val {}) =
    { (s.marl.b.conns.getD n.val {}) with expired := false, timeouts := min ((s.marl.b.conns.getD n.val {}).timeouts + 1) 65535 } ∧ (∀ i : Fin 4, i ≠
    n → (t.marl.b.conns.getD i.val {}) = (s.marl.b.conns.getD i.val {})) ∧ FieldsKept [SYS.MRL_EVT.PEND] s t ∧
    { t with reg := s.reg, out := s.out, marl := s.marl } = s)

/-- A hand-over without MRLPROP discards the held proposal; one outside the compatibility range gives 0b010, an invalid one 0b011, the set in force again 0b001, and any other is held with 0b100. A write to MRL.CONFIRM waits for the next tick of each channel: the held proposal is stored only when both find its check value and the reset input on; a refusal writes its event and changes nothing else; while busy a write is an access error. Each channel takes a stored set at its next tick: outputs off and awaiting restart, connections in SYNC, inputs restarted. Power-on restores a set both channels hold, else none; that it writes POWER_UP also where no channel holds a record is the model's reading (log 159), the starting SEQ a free value. Loss of VDDF turns outputs off and requests safe block. -/
def Obligations.MarlSetsAreProposedConfirmedAndStored : Prop :=
  (∀ (s : State), bitsAt (rdMRL MRL.ID.addr s) 24 8 = 1) ∧
  (∀ (s : State), s.regsWf → s.sys.vddf = true → s.marl.state ≠ 2 → s.marl.handed = some none → ∃ t, exec (.marlProposal) s = .next t ∧ t.fld
    IMG.STAT.MRL_PROP = 0 ∧ t.marl = { s.marl with handed := none, held := none } ∧ FieldsKept [IMG.STAT.MRL_PROP] s t ∧
    { t with reg := s.reg, out := s.out, marl := s.marl } = s) ∧
  (∀ (s : State) (q : List Byte) (len cmin cmax : Nat), s.regsWf → s.sys.vddf = true → s.marl.state ≠ 2 → s.marl.handed = some (some (q, len, cmin,
    cmax)) → (1 < cmin ∨ cmax = 0) → ∃ t, exec (.marlProposal) s = .next t ∧ t.fld IMG.STAT.MRL_PROP = 2 ∧ t.marl.held = s.marl.held ∧ t.marl.a =
    s.marl.a ∧ t.marl.b = s.marl.b ∧ t.marl.state = s.marl.state ∧ (t.marl.recs.headD []).getD 4 0#8 = 0x02#8 ∧ (t.marl.recs.headD []).getD 5 0#8 =
    1#8 ∧ FieldsKept [IMG.STAT.MRL_PROP, SYS.MRL_EVT.PEND] s t ∧ { t with reg := s.reg, out := s.out, marl := s.marl } = s) ∧
  (∀ (s : State) (q : List Byte) (len cmin cmax : Nat), s.regsWf → s.sys.vddf = true → s.marl.state ≠ 2 → s.marl.handed = some (some (q, len, cmin,
    cmax)) → cmin ≤ 1 → 1 ≤ cmax → marlSetOk len q = false → ∃ t, exec (.marlProposal) s = .next t ∧ t.fld IMG.STAT.MRL_PROP = 3 ∧ t.marl.held =
    s.marl.held ∧ t.marl.a = s.marl.a ∧ t.marl.b = s.marl.b ∧ t.marl.state = s.marl.state ∧ (t.marl.recs.headD []).getD 4 0#8 = 0x02#8 ∧
    (t.marl.recs.headD []).getD 5 0#8 = 2#8 ∧ FieldsKept [IMG.STAT.MRL_PROP, SYS.MRL_EVT.PEND] s t ∧
    { t with reg := s.reg, out := s.out, marl := s.marl } = s) ∧
  (∀ (s : State) (q : List Byte) (len cmin cmax : Nat), s.regsWf → s.sys.vddf = true → s.marl.state ≠ 2 → s.marl.handed = some (some (q, len, cmin,
    cmax)) → cmin ≤ 1 → 1 ≤ cmax → marlSetOk len q = true → s.marl.set ≠ [] → checkOf q = checkOf s.marl.set → ∃ t, exec (.marlProposal) s = .next t ∧
    t.fld IMG.STAT.MRL_PROP = 1 ∧ t.marl = { s.marl with handed := none, held := none } ∧ FieldsKept [IMG.STAT.MRL_PROP] s t ∧
    { t with reg := s.reg, out := s.out, marl := s.marl } = s) ∧
  (∀ (s : State) (q : List Byte) (len cmin cmax : Nat), s.regsWf → s.sys.vddf = true → s.marl.state ≠ 2 → s.marl.handed = some (some (q, len, cmin,
    cmax)) → cmin ≤ 1 → 1 ≤ cmax → marlSetOk len q = true → (s.marl.set = [] ∨ checkOf q ≠ checkOf s.marl.set) → ∃ t, exec (.marlProposal) s = .next t
    ∧ t.fld IMG.STAT.MRL_PROP = 4 ∧ t.marl.held = some q ∧ t.marl.a = s.marl.a ∧ t.marl.b = s.marl.b ∧ t.marl.state = s.marl.state ∧
    (t.marl.recs.headD []).getD 4 0#8 = 0x01#8 ∧ leNat (((t.marl.recs.headD []).drop 8).take 4) = checkOf q % 2 ^ 32 ∧ FieldsKept [IMG.STAT.MRL_PROP,
    SYS.MRL_EVT.PEND] s t ∧ { t with reg := s.reg, out := s.out, marl := s.marl } = s) ∧
  (∀ (s : State) (p : Path) (w : W32), s.regsWf → Reaches p MRL.CONFIRM.addr s → s.sys.vddf = true → s.marl.storing = none → s.marl.conf = none →
    s.marl.a.next = none → s.marl.b.next = none → s.marl.state ≠ 2 → ∃ t, exec (.mrlConfirm p w) s = .next t ∧ t.marl =
    { s.marl with conf := some w.toNat, confA := none, confB := none } ∧ t.out = [] ∧ { t with out := s.out, marl := s.marl } = s) ∧
  (∀ (s : State) (c1 c2 : Fin 65536) (rb : Fin 256) (code0 code1 : Fin 4096) (w : Nat) (q : List Byte), s.regsWf → s.sys.vddf = true → s.marl.found =
    0 → s.marl.state ≠ 2 → s.marl.a.next = none → s.marl.conf = some w → s.marl.confA = none → s.marl.confB = none → s.marl.held = some q → w =
    checkOf q → showsOn q (mResetIn q) c1.val c2.val = true → ∃ t, exec (.marlTick false c1 c2 rb code0 code1) s = .next t ∧ t.marl.conf = some w ∧
    t.marl.confA = some 0 ∧ t.marl.confB = none ∧ t.marl.storing = s.marl.storing ∧ t.marl.held = s.marl.held ∧ t.marl.a.set = s.marl.a.set ∧ t.marl.b
    = { s.marl.b with outs := t.marl.b.outs, partner := t.marl.b.partner, gap := t.marl.b.gap } ∧ FieldsKept [SYS.MRL_EVT.PEND] s t ∧
    { t with reg := s.reg, out := s.out, marl := s.marl } = s) ∧
  (∀ (s : State) (c1 c2 : Fin 65536) (rb : Fin 256) (code0 code1 : Fin 4096) (w : Nat) (q : List Byte), s.regsWf → s.sys.vddf = true → s.marl.found =
    0 → s.marl.state ≠ 2 → s.marl.a.next = none → s.marl.conf = some w → s.marl.confA = none → s.marl.confB = some 0 → s.marl.held = some q → w =
    checkOf q → showsOn q (mResetIn q) c1.val c2.val = true → ∃ t, exec (.marlTick false c1 c2 rb code0 code1) s = .next t ∧ t.marl.conf = none ∧
    t.marl.storing = some q ∧ t.marl.held = s.marl.held ∧ t.marl.a.set = s.marl.a.set ∧ t.marl.b =
    { s.marl.b with outs := t.marl.b.outs, partner := t.marl.b.partner, gap := t.marl.b.gap } ∧ FieldsKept [SYS.MRL_EVT.PEND] s t ∧
    { t with reg := s.reg, out := s.out, marl := s.marl } = s) ∧
  (∀ (s : State) (c1 c2 : Fin 65536) (rb : Fin 256) (code0 code1 : Fin 4096) (w : Nat), s.regsWf → s.sys.vddf = true → s.marl.found = 0 → s.marl.state
    ≠ 2 → s.marl.a.next = none → s.marl.conf = some w → s.marl.confA = none → s.marl.confB = some 1 → s.marl.held = none → ∃ t, exec (.marlTick false
    c1 c2 rb code0 code1) s = .next t ∧ t.marl.conf = none ∧ t.marl.storing = s.marl.storing ∧ t.marl.held = s.marl.held ∧ t.marl.a.set = s.marl.a.set
    ∧ t.marl.b = { s.marl.b with outs := t.marl.b.outs, partner := t.marl.b.partner, gap := t.marl.b.gap } ∧ (t.marl.recs.headD []).getD 4 0#8 =
    0x04#8 ∧ (t.marl.recs.headD []).getD 5 0#8 = 1#8 ∧ FieldsKept [SYS.MRL_EVT.PEND] s t ∧ { t with reg := s.reg, out := s.out, marl := s.marl } = s) ∧
  (∀ (s : State) (c1 c2 : Fin 65536) (rb : Fin 256) (code0 code1 : Fin 4096) (w : Nat) (q : List Byte), s.regsWf → s.sys.vddf = true → s.marl.found =
    0 → s.marl.state ≠ 2 → s.marl.a.next = none → s.marl.conf = some w → s.marl.confA = none → s.marl.confB = some 2 → s.marl.held = some q → w ≠
    checkOf q → ∃ t, exec (.marlTick false c1 c2 rb code0 code1) s = .next t ∧ t.marl.conf = none ∧ t.marl.storing = s.marl.storing ∧ t.marl.held =
    s.marl.held ∧ t.marl.a.set = s.marl.a.set ∧ t.marl.b = { s.marl.b with outs := t.marl.b.outs, partner := t.marl.b.partner, gap := t.marl.b.gap } ∧
    (t.marl.recs.headD []).getD 4 0#8 = 0x04#8 ∧ (t.marl.recs.headD []).getD 5 0#8 = 2#8 ∧ FieldsKept [SYS.MRL_EVT.PEND] s t ∧
    { t with reg := s.reg, out := s.out, marl := s.marl } = s) ∧
  (∀ (s : State) (c1 c2 : Fin 65536) (rb : Fin 256) (code0 code1 : Fin 4096) (w : Nat) (q : List Byte), s.regsWf → s.sys.vddf = true → s.marl.found =
    0 → s.marl.state ≠ 2 → s.marl.a.next = none → s.marl.conf = some w → s.marl.confA = none → s.marl.confB = some 3 → s.marl.held = some q → w =
    checkOf q → showsOn q (mResetIn q) c1.val c2.val = false → ∃ t, exec (.marlTick false c1 c2 rb code0 code1) s = .next t ∧ t.marl.conf = none ∧
    t.marl.storing = s.marl.storing ∧ t.marl.held = s.marl.held ∧ t.marl.a.set = s.marl.a.set ∧ t.marl.b =
    { s.marl.b with outs := t.marl.b.outs, partner := t.marl.b.partner, gap := t.marl.b.gap } ∧ (t.marl.recs.headD []).getD 4 0#8 = 0x04#8 ∧
    (t.marl.recs.headD []).getD 5 0#8 = 3#8 ∧ FieldsKept [SYS.MRL_EVT.PEND] s t ∧ { t with reg := s.reg, out := s.out, marl := s.marl } = s) ∧
  (∀ (s : State) (c1 c2 : Fin 65536) (rb : Fin 256) (code0 code1 : Fin 4096) (w : Nat) (q : List Byte), s.regsWf → s.sys.vddf = true → s.marl.found =
    0 → s.marl.state ≠ 2 → s.marl.a.next = none → s.marl.conf = some w → s.marl.confA = none → s.marl.confB = some 0 → s.marl.held = some q → w =
    checkOf q → showsOn q (mResetIn q) c1.val c2.val = false → ∃ t, exec (.marlTick false c1 c2 rb code0 code1) s = .next t ∧ t.marl.conf = none ∧
    t.marl.storing = s.marl.storing ∧ t.marl.held = s.marl.held ∧ t.marl.a.set = s.marl.a.set ∧ t.marl.b =
    { s.marl.b with outs := t.marl.b.outs, partner := t.marl.b.partner, gap := t.marl.b.gap } ∧ (t.marl.recs.headD []).getD 4 0#8 = 0x04#8 ∧
    (t.marl.recs.headD []).getD 5 0#8 = 4#8 ∧ FieldsKept [SYS.MRL_EVT.PEND] s t ∧ { t with reg := s.reg, out := s.out, marl := s.marl } = s) ∧
  (∀ (s : State) (w : W32), s.regsWf → Reaches .pcie MRL.CONFIRM.addr s → (s.marl.storing ≠ none ∨ s.marl.conf ≠ none ∨ s.marl.a.next ≠ none ∨
    s.marl.b.next ≠ none) → s.flag HST.AERR.VALID = false → ∃ t, exec (.mrlConfirm .pcie w) s = .next t ∧ t.rd HST.AERR.addr = 2 ^ 31 + 4 ∧ t.rd
    HST.AERR_ADDR.addr = MRL.CONFIRM.addr ∧ t.out = [] ∧ FieldsKept [⟨HST.AERR.addr, 0, 32⟩, ⟨HST.AERR_ADDR.addr, 0, 32⟩] s t ∧
    { t with reg := s.reg, out := s.out } = s) ∧
  (∀ (s : State) (q : List Byte), s.regsWf → s.sys.vddf = true → s.marl.state ≠ 2 → s.marl.storing = some q → s.marl.a.recs.length = 2 →
    s.marl.b.recs.length = 2 → ∃ t, exec (.marlConfirmStored) s = .next t ∧ t.marl =
    { s.marl with storing := none, a := { s.marl.a with recs := t.marl.a.recs, next := some q }, b := { s.marl.b with recs := t.marl.b.recs, next := some q } }
    ∧ chLoad t.marl.a = some q ∧ chLoad t.marl.b = some q ∧ { t with out := s.out, marl := s.marl } = s) ∧
  (∀ (s : State) (b : Bool) (c1 c2 : Fin 65536) (rb : Fin 256) (code0 code1 : Fin 4096) (q : List Byte), s.regsWf → s.sys.vddf = true → s.marl.found =
    0 → s.marl.state ≠ 2 → (s.marl.ch b).next = some q → (s.marl.ch b).rx = [] → (s.marl.ch b).ins.length = 16 → (s.marl.ch (!b)).ins.length = 16 → ∃
    t, exec (.marlTick b c1 c2 rb code0 code1) s = .next t ∧ (t.marl.ch b).set = q ∧ (t.marl.ch b).next = none ∧ t.marl.state = 1 ∧ (t.marl.ch
    b).notify = false ∧ (∀ k : Fin 8, ((t.marl.ch b).outs.getD k.val {}).cmd = false ∧ ((t.marl.ch b).outs.getD k.val {}).wait = true) ∧ (∀ n : Fin 4,
    ((t.marl.ch b).conns.getD n.val {}).st = 0) ∧ (∀ k : Fin 16, mInEn q k.val = true → ((t.marl.ch b).ins.getD k.val {}).disc = false → ((t.marl.ch
    b).ins.getD k.val {}).on = showsOn q k.val c1.val c2.val) ∧ (b = false → t.marl.held = none ∧ t.fld IMG.STAT.MRL_PROP = 1 ∧ (t.marl.recs.any (fun
    r => r.getD 4 0#8 == 0x03#8)) = true) ∧ FieldsKept [IMG.STAT.MRL_PROP, SYS.MRL_EVT.PEND] s t ∧
    { t with reg := s.reg, out := s.out, marl := s.marl } = s) ∧
  (∀ (s : State) (q : List Byte), s.regsWf → s.sys.role = Role.hub → s.sys.vddf = false → chLoad s.marl.a = some q → chLoad s.marl.b = some q → q ≠ []
    → ∃ t, exec (.marlPowerOn) s = .next t ∧ t.sys.vddf = true ∧ t.marl.state = 1 ∧ t.marl.held = none ∧ (t.marl.recs.headD []).getD 4 0#8 = 0x0F#8 ∧
    t.marl.a = { recs := s.marl.a.recs, set := q, c2 := t.marl.a.c2 } ∧ t.marl.b = { recs := s.marl.b.recs, set := q, c2 := t.marl.b.c2 } ∧ (∀ k : Fin
    16, showsSafe q k.val t.marl.a.c1 t.marl.a.c2 = true) ∧ (∀ k : Fin 16, showsSafe q k.val t.marl.b.c1 t.marl.b.c2 = true) ∧ (∀ i : Fin 4,
    t.marl.txSeq.getD i.val 0 = Config.free 121 (s.freeCtr + i.val) % 2 ^ 32) ∧ t.freeCtr = s.freeCtr + 4 ∧ FieldsKept [SYS.MRL_EVT.PEND] s t ∧
    { t with reg := s.reg, out := s.out, marl := s.marl, sys := s.sys, freeCtr := s.freeCtr } = s) ∧
  (∀ (s : State) (q : List Byte), s.regsWf → s.sys.role = Role.hub → s.sys.vddf = false → chLoad s.marl.a = some q → chLoad s.marl.b = none → ∃ t,
    exec (.marlPowerOn) s = .next t ∧ t.sys.vddf = true ∧ t.marl.state = 0 ∧ (t.marl.recs.headD []).getD 4 0#8 = 0x05#8 ∧ t.marl.a =
    { recs := s.marl.a.recs, set := [], c2 := t.marl.a.c2 } ∧ t.marl.b = { recs := s.marl.b.recs, set := [], c2 := t.marl.b.c2 } ∧ FieldsKept
    [SYS.MRL_EVT.PEND] s t ∧ { t with reg := s.reg, out := s.out, marl := s.marl, sys := s.sys, freeCtr := s.freeCtr } = s) ∧
  (∀ (s : State), s.regsWf → s.sys.role = Role.hub → s.sys.vddf = false → chLoad s.marl.a = none → chLoad s.marl.b = none → ∃ t, exec (.marlPowerOn) s
    = .next t ∧ t.sys.vddf = true ∧ t.marl.state = 0 ∧ t.marl.recs.all (fun r => r.getD 4 0#8 != 5#8) = true ∧ t.marl.a =
    { recs := s.marl.a.recs, set := [], c2 := t.marl.a.c2 } ∧ t.marl.b = { recs := s.marl.b.recs, set := [], c2 := t.marl.b.c2 } ∧ FieldsKept
    [SYS.MRL_EVT.PEND] s t ∧ { t with reg := s.reg, out := s.out, marl := s.marl, sys := s.sys, freeCtr := s.freeCtr } = s) ∧
  (∀ (s : State) (doneA doneB : Bool), s.regsWf → s.sys.vddf = true → s.marl.storing = none → ∃ t, exec (.vddfLoss doneA doneB) s = .next t ∧ t.sys =
    { s.sys with vddf := false, mrlLost := s.sys.mrlLost || s.sys.mrlPwrSeen } ∧ t.marl.state = s.marl.state ∧ t.marl.a.sb = true ∧ (∀ k : Fin 8,
    (t.marl.a.outs.getD k.val {}).cmd = false) ∧ t.marl.a.recs = s.marl.a.recs ∧ t.marl.a.set = s.marl.a.set ∧ t.marl.b.sb = true ∧ (∀ k : Fin 8,
    (t.marl.b.outs.getD k.val {}).cmd = false) ∧ t.marl.b.recs = s.marl.b.recs ∧ t.marl.b.set = s.marl.b.set ∧
    { t with out := s.out, marl := s.marl, sys := s.sys } = s) ∧
  (∀ (s : State) (doneA doneB : Bool) (q : List Byte), s.regsWf → s.sys.vddf = true → s.marl.storing = some q → s.marl.a.recs.length = 2 →
    s.marl.b.recs.length = 2 → (recCount (s.marl.a.recs.getD 0 none) ≠ recCount (s.marl.a.recs.getD 1 none) ∨ chLoad s.marl.a = none) → (recCount
    (s.marl.b.recs.getD 0 none) ≠ recCount (s.marl.b.recs.getD 1 none) ∨ chLoad s.marl.b = none) → ∃ t, exec (.vddfLoss doneA doneB) s = .next t ∧
    t.sys.vddf = false ∧ t.marl.storing = none ∧ chLoad t.marl.a = (if doneA then some q else chLoad s.marl.a) ∧ chLoad t.marl.b = (if doneB then some
    q else chLoad s.marl.b) ∧ { t with out := s.out, marl := s.marl, sys := s.sys } = s)

/-- PERST_N, a hot reset and a link-down disable MSI-X, mask every vector, reset its configuration space (its table and AER status too: log 31) and leave the link down with LDOWN_SEEN set; D3hot leaves the link. A link-up shows its width and speed. The SPI target returns 0x5A and four bytes per word read, writes complete words from the address on in order, records a word cut short with cause 1, and returns the status byte. A GO sends the flash command and sets BUSY; while BUSY it is an access error with cause 4; its end stores the answer in the buffer. -/
def Obligations.HostPortsAndImageFlash : Prop :=
  (∀ (s : State) (k : Fin 4), s.regsWf → s.isHub = true → k ≠ 3 → s.flag HST.PCIE_STAT.LINK_UP = true → ∃ t, exec (.pcieReset k) s = .next t ∧ t.flag
    HST.PCIE_STAT.LDOWN_SEEN = true ∧ t.fld HST.PCIE_STAT.WIDTH = 0 ∧ t.fld HST.PCIE_STAT.SPEED = 0 ∧ t.flag HST.PCIE_STAT.MSIX_EN = false ∧ t.flag
    HST.PCIE_STAT.LINK_UP = false ∧ t.evr = { s.evr with msixMask := 2 ^ 64 - 1, msixFunc := false, msixPend := 0 } ∧ t.ep = {} ∧ FieldsKept
    [HST.PCIE_STAT.LDOWN_SEEN, HST.PCIE_STAT.WIDTH, HST.PCIE_STAT.SPEED, HST.PCIE_STAT.MSIX_EN, HST.PCIE_STAT.LINK_UP] s t ∧
    { t with reg := s.reg, out := s.out, evr := s.evr, ep := s.ep } = s) ∧
  (∀ (s : State) (k : Fin 4), s.regsWf → s.isHub = true → (k = 3 ∨ s.flag HST.PCIE_STAT.LINK_UP = false) → ∃ t, exec (.pcieReset k) s = .next t ∧
    t.flag HST.PCIE_STAT.LDOWN_SEEN = s.flag HST.PCIE_STAT.LDOWN_SEEN ∧ t.flag HST.PCIE_STAT.LINK_UP = s.flag HST.PCIE_STAT.LINK_UP ∧ t.flag
    HST.PCIE_STAT.MSIX_EN = false ∧ t.evr = { s.evr with msixMask := 2 ^ 64 - 1, msixFunc := false, msixPend := 0 } ∧ t.ep =
    { d3hot := decide (k = 3) } ∧ FieldsKept [HST.PCIE_STAT.LDOWN_SEEN, HST.PCIE_STAT.WIDTH, HST.PCIE_STAT.SPEED, HST.PCIE_STAT.MSIX_EN,
    HST.PCIE_STAT.LINK_UP] s t ∧ { t with reg := s.reg, out := s.out, evr := s.evr, ep := s.ep } = s) ∧
  (∀ (s : State) (lanes speed : Fin 3) (msixEn : Bool), s.regsWf → s.isHub = true → ∃ t, exec (.pcieLinkUp lanes speed msixEn) s = .next t ∧ t.flag
    HST.PCIE_STAT.LINK_UP = true ∧ t.fld HST.PCIE_STAT.WIDTH = 2 ^ lanes.val ∧ t.fld HST.PCIE_STAT.SPEED = speed.val + 1 ∧ t.flag
    HST.PCIE_STAT.MSIX_EN = msixEn ∧ t.ep = { s.ep with d3hot := false } ∧ FieldsKept [HST.PCIE_STAT.WIDTH, HST.PCIE_STAT.SPEED,
    HST.PCIE_STAT.MSIX_EN, HST.PCIE_STAT.LINK_UP, CLK.STAT.LOCKED] s t ∧ { t with reg := s.reg, out := s.out, ep := s.ep } = s) ∧
  (∀ (s : State) (lanes speed : Fin 3) (msixEn : Bool), s.regsWf → s.isHub = false → ∃ t, exec (.pcieLinkUp lanes speed msixEn) s = .next t ∧
    FieldsKept [] s t ∧ { t with reg := s.reg, out := s.out } = s) ∧
  (∀ (s : State) (k : Fin 4), s.regsWf → s.isHub = false → ∃ t, exec (.pcieReset k) s = .next t ∧ FieldsKept [] s t ∧
    { t with reg := s.reg, out := s.out } = s) ∧
  (∀ (s u : State) (a : W32) (dt ticks v : Nat), spiOn s = true → busRead .spi (a.toNat / 4 * 4) dt ticks s.fresh = (u, some v) → exec (.spiRead a 1
    dt ticks) s = .next { u with out := u.out ++ [.bytes 0 (0x5A#8 :: leBytes 4 v)] }) ∧
  (∀ (s : State) (a : W32) (n dt ticks : Nat), spiOn s = true → ∃ t, exec (.spiRead a n dt ticks) s = .next t ∧ t = (spiReads dt ticks n (a.toNat / 4
    * 4) s.fresh).2.emit (.bytes 0 (spiReads dt ticks n (a.toNat / 4 * 4) s.fresh).1)) ∧
  (∀ (s : State) (a : W32) (ws : List W32) (dt ticks : Nat), spiOn s = true → exec (.spiWrite a ws 0 dt ticks) s = .next (ws.zipIdx.foldl (fun s x =>
    busWriteBytes .spi (a.toNat / 4 * 4 + 4 * x.2) 15 x.1.toNat dt ticks s) s.fresh)) ∧
  (∀ (s : State) (a : W32) (rest : Fin 4) (dt ticks : Nat), s.regsWf → spiOn s = true → rest ≠ 0 → s.flag HST.AERR.VALID = false → ∃ t, exec
    (.spiWrite a [] rest dt ticks) s = .next t ∧ t.rd HST.AERR.addr = 2 ^ 31 + 16 + 1 ∧ t.rd HST.AERR_ADDR.addr = a.toNat / 4 * 4 ∧ t.out = [] ∧
    FieldsKept [⟨HST.AERR.addr, 0, 32⟩, ⟨HST.AERR_ADDR.addr, 0, 32⟩] s t ∧ { t with reg := s.reg, out := s.out } = s) ∧
  (∀ (s : State), s.regsWf → spiOn s = true → ∃ t, exec (.spiStatus) s = .next t ∧ t.out = [.bytes 0 [BitVec.ofNat 8 ((!intN s).toNat + 2 * (s.flag
    HST.AERR.VALID).toNat)]] ∧ { t with out := s.out } = s) ∧
  (∀ (s : State), s.regsWf → ∃ t, exec (.spiOther) s = .next t ∧ t.out = [] ∧ { t with out := s.out } = s) ∧
  (∀ (s : State) (p : Path) (w : W32), s.regsWf → Reaches p HST.SPIC_CMD.addr s → s.flag HST.SPIC_STAT.BUSY = false → s.fld IMG.STAT.STATE ≠ 2 → ∃ t,
    exec (.spicGo p w) s = .next t ∧ t.flag HST.SPIC_STAT.BUSY = true ∧ t.fld HST.SPIC_CMD.OPCODE = w.toNat % 256 ∧ t.flag HST.SPIC_CMD.WRITE = bitAt
    w.toNat 30 ∧ t.fld HST.SPIC_CMD.LEN = bitsAt w.toNat 20 9 ∧ t.flag HST.SPIC_CMD.QUAD = bitAt w.toNat 29 ∧ t.fld HST.SPIC_CMD.ADDR_BYTES = bitsAt
    w.toNat 18 2 ∧ t.fld HST.SPIC_CMD.DUMMY = bitsAt w.toNat 14 4 ∧ t.out = [.flash (t.rd HST.SPIC_CMD.addr) (s.fld HST.SPIC_ADDR.ADDR) (if bitAt
    w.toNat 30 then stRead s spicBuf (min 256 (bitsAt w.toNat 20 9)) else [])] ∧ FieldsKept [⟨HST.SPIC_CMD.addr, 0, 32⟩, HST.SPIC_STAT.BUSY] s t ∧
    { t with reg := s.reg, out := s.out } = s) ∧
  (∀ (s : State) (w : W32), s.regsWf → Reaches .pcie HST.SPIC_CMD.addr s → s.flag HST.SPIC_STAT.BUSY = true → s.flag HST.AERR.VALID = false → ∃ t,
    exec (.spicGo .pcie w) s = .next t ∧ t.rd HST.AERR.addr = 2 ^ 31 + 4 ∧ t.rd HST.AERR_ADDR.addr = HST.SPIC_CMD.addr ∧ t.out = [] ∧ FieldsKept
    [⟨HST.AERR.addr, 0, 32⟩, ⟨HST.AERR_ADDR.addr, 0, 32⟩] s t ∧ { t with reg := s.reg, out := s.out } = s) ∧
  (∀ (s : State) (data : List Byte), s.regsWf → Memory.wf s.station.mem = true → s.flag HST.SPIC_STAT.BUSY = true → s.flag HST.SPIC_CMD.WRITE = false
    → ∃ t, exec (.spicDone data) s = .next t ∧ t.flag HST.SPIC_STAT.BUSY = false ∧ (∀ i : Fin 256, i.val < (min 256 (s.fld HST.SPIC_CMD.LEN)) → memGet
    t.station.mem (spicBuf + i.val) = data.getD i.val 0#8) ∧ (∀ a, a < spicBuf ∨ spicBuf + (min 256 (s.fld HST.SPIC_CMD.LEN)) ≤ a → memGet
    t.station.mem a = memGet s.station.mem a) ∧ t.station = { s.station with mem := t.station.mem } ∧ FieldsKept [HST.SPIC_STAT.BUSY] s t ∧
    { t with reg := s.reg, out := s.out, station := s.station } = s) ∧
  (∀ (s : State) (data : List Byte), s.regsWf → s.flag HST.SPIC_STAT.BUSY = true → s.flag HST.SPIC_CMD.WRITE = true → ∃ t, exec (.spicDone data) s =
    .next t ∧ t.flag HST.SPIC_STAT.BUSY = false ∧ FieldsKept [HST.SPIC_STAT.BUSY] s t ∧ { t with reg := s.reg, out := s.out } = s)

/-- On a port that is up a frame with a bad FCS or below 64 bytes is dropped and counted, a PAUSE frame is counted, a telegram frame crosses its first 32 bytes to the Marl islands, and any other accepted frame goes to the receive ring after a header with its length and corrected timestamp, advancing RX_WR; it is dropped with RX_DROP and RING_FULL when it would reach RX_RD. RX_RD takes multiples of 16. A SEND with LEN 14 to 1,518 holds BUSY and sends the padded frame with its FCS once nothing is on the wire and no telegram waits; its end counts it, clears BUSY, raises TXDONE and starts what waits, a telegram first. A link change is shown and raises its INT bit. -/
def Obligations.EthernetPortsReceiveAndSend : Prop :=
  (∀ (s : State) (q : Fin 2) (b : List Byte) (ticks : Nat), s.regsWf → portUp s q.val = true → b.length ≤ 1522 → (b.length < 64 ∨ leNat (b.drop
    (b.length - 4)) ≠ crc32 (b.take (b.length - 4))) → ∃ t, exec (.ethFrameRx q b ticks) s = .next t ∧ t.fld (ETH.RX_FCS.COUNT.at (0x1000 * q.val)) =
    min (s.fld (ETH.RX_FCS.COUNT.at (0x1000 * q.val)) + 1) (2 ^ 32 - 1) ∧ FieldsKept [(ETH.RX_FCS.COUNT.at (0x1000 * q.val))] s t ∧
    { t with reg := s.reg, out := s.out } = s) ∧
  (∀ (s : State) (q : Fin 2) (b : List Byte) (ticks : Nat), s.regsWf → portUp s q.val = true → 1522 < b.length → ∃ t, exec (.ethFrameRx q b ticks) s =
    .next t ∧ FieldsKept [] s t ∧ { t with reg := s.reg, out := s.out } = s) ∧
  (∀ (s : State) (q : Fin 2) (b : List Byte) (ticks : Nat), s.regsWf → portUp s q.val = true → 64 ≤ b.length → b.length ≤ 1522 → leNat (b.drop
    (b.length - 4)) = crc32 (b.take (b.length - 4)) → isPause (b.take (b.length - 4)) = true → ∃ t, exec (.ethFrameRx q b ticks) s = .next t ∧ t.fld
    (ETH.RX_PAUSE.COUNT.at (0x1000 * q.val)) = min (s.fld (ETH.RX_PAUSE.COUNT.at (0x1000 * q.val)) + 1) (2 ^ 32 - 1) ∧ FieldsKept
    [(ETH.RX_PAUSE.COUNT.at (0x1000 * q.val))] s t ∧ { t with reg := s.reg, out := s.out } = s) ∧
  (∀ (s : State) (q : Fin 2) (b : List Byte) (ticks : Nat), s.regsWf → portUp s q.val = true → 64 ≤ b.length → b.length ≤ 1522 → leNat (b.drop
    (b.length - 4)) = crc32 (b.take (b.length - 4)) → isPause (b.take (b.length - 4)) = false → ethAccepts s q.val (b.take (b.length - 4)) = false → ∃
    t, exec (.ethFrameRx q b ticks) s = .next t ∧ FieldsKept [] s t ∧ { t with reg := s.reg, out := s.out } = s) ∧
  (∀ (s : State) (q : Fin 2) (b : List Byte) (ticks : Nat), s.regsWf → portUp s q.val = true → 64 ≤ b.length → b.length ≤ 1522 → leNat (b.drop
    (b.length - 4)) = crc32 (b.take (b.length - 4)) → isPause (b.take (b.length - 4)) = false → ethAccepts s q.val (b.take (b.length - 4)) = true →
    isTelegram (b.take (b.length - 4)) = true → s.flag ETH.MRL_CFG.COPY_HOST = false → ∃ t, exec (.ethFrameRx q b ticks) s = .next t ∧ t.marl =
    { s.marl with seam := s.marl.seam ++ [((b.take (b.length - 4)).drop (etherAt (b.take (b.length - 4)) + 2)).take 32] } ∧ t.fld (ETH.MRL_RX.COUNT.at
    (0x1000 * q.val)) = min (s.fld (ETH.MRL_RX.COUNT.at (0x1000 * q.val)) + 1) (2 ^ 32 - 1) ∧ FieldsKept [(ETH.MRL_RX.COUNT.at (0x1000 * q.val))] s t
    ∧ { t with reg := s.reg, out := s.out, marl := s.marl } = s) ∧
  (∀ (s : State) (q : Fin 2) (b : List Byte) (ticks : Nat), s.regsWf → portUp s q.val = true → 64 ≤ b.length → b.length ≤ 1522 → leNat (b.drop
    (b.length - 4)) = crc32 (b.take (b.length - 4)) → isPause (b.take (b.length - 4)) = false → ethAccepts s q.val (b.take (b.length - 4)) = true →
    isTelegram (b.take (b.length - 4)) = false → (s.fld (ETH.RX_WR.WR.at (0x1000 * q.val))) + (16 + ((b.take (b.length - 4)).length + 15) / 16 * 16) ≤
    16384 → ((s.fld (ETH.RX_WR.WR.at (0x1000 * q.val))) + 16384 - (s.fld (ETH.RX_RD.RD.at (0x1000 * q.val)))) % 16384 + (16 + ((b.take (b.length -
    4)).length + 15) / 16 * 16) < 16384 → ∃ t, exec (.ethFrameRx q b ticks) s = .next t ∧ t.fld (ETH.RX_WR.WR.at (0x1000 * q.val)) = ((s.fld
    (ETH.RX_WR.WR.at (0x1000 * q.val))) + (16 + ((b.take (b.length - 4)).length + 15) / 16 * 16)) % 16384 ∧ t.fld (ETH.RX_OK.COUNT.at (0x1000 *
    q.val)) = min (s.fld (ETH.RX_OK.COUNT.at (0x1000 * q.val)) + 1) (2 ^ 32 - 1) ∧ bitAt (t.fld ETH.INT.BITS) q.val = true ∧ t.station =
    { s.station with mem := memWrite s.station.mem (rxRing q.val + (s.fld (ETH.RX_WR.WR.at (0x1000 * q.val)))) ((leBytes 4 ((b.take (b.length - 4)).length + 65536 * (ethTagged (b.take (b.length - 4))).toNat) ++ leBytes 4 (ptpNs (ptpAt s ticks - s.fld (ETH.LAT.RX_LAT.at (0x1000 * q.val)) * ptpLat)) ++ leBytes 6 (ptpSec (ptpAt s ticks - s.fld (ETH.LAT.RX_LAT.at (0x1000 * q.val)) * ptpLat)) ++ leBytes 2 0) ++ padTo ((16 + ((b.take (b.length - 4)).length + 15) / 16 * 16) - 16) (b.take (b.length - 4))) }
    ∧ (∀ a, a < rxRing q.val + (s.fld (ETH.RX_WR.WR.at (0x1000 * q.val))) ∨ rxRing q.val + (s.fld (ETH.RX_WR.WR.at (0x1000 * q.val))) + (16 + ((b.take
    (b.length - 4)).length + 15) / 16 * 16) ≤ a → memGet t.station.mem a = memGet s.station.mem a) ∧ FieldsKept [(ETH.RX_WR.WR.at (0x1000 * q.val)),
    (ETH.RX_OK.COUNT.at (0x1000 * q.val)), ⟨ETH.INT.addr, q.val, 1⟩] s t ∧ { t with reg := s.reg, out := s.out, station := s.station } = s) ∧
  (∀ (s : State) (q : Fin 2) (b : List Byte) (ticks : Nat), s.regsWf → portUp s q.val = true → 64 ≤ b.length → b.length ≤ 1522 → leNat (b.drop
    (b.length - 4)) = crc32 (b.take (b.length - 4)) → isPause (b.take (b.length - 4)) = false → ethAccepts s q.val (b.take (b.length - 4)) = true →
    isTelegram (b.take (b.length - 4)) = false → (s.fld (ETH.RX_WR.WR.at (0x1000 * q.val))) + (16 + ((b.take (b.length - 4)).length + 15) / 16 * 16) ≤
    16384 → 16384 ≤ ((s.fld (ETH.RX_WR.WR.at (0x1000 * q.val))) + 16384 - (s.fld (ETH.RX_RD.RD.at (0x1000 * q.val)))) % 16384 + (16 + ((b.take
    (b.length - 4)).length + 15) / 16 * 16) → ∃ t, exec (.ethFrameRx q b ticks) s = .next t ∧ t.fld (ETH.RX_DROP.COUNT.at (0x1000 * q.val)) = min
    (s.fld (ETH.RX_DROP.COUNT.at (0x1000 * q.val)) + 1) (2 ^ 32 - 1) ∧ t.flag (ETH.PSTAT.RING_FULL.at (0x1000 * q.val)) = true ∧ FieldsKept
    [(ETH.RX_DROP.COUNT.at (0x1000 * q.val)), (ETH.PSTAT.RING_FULL.at (0x1000 * q.val))] s t ∧ { t with reg := s.reg, out := s.out } = s) ∧
  (∀ (s : State) (p : Path) (q : Fin 2) (w : W32), s.regsWf → Reaches p (ETH.RX_RD.addr + 0x1000 * q.val) s → w.toNat % 16 = 0 → ∃ t, exec
    (.ethRxRdWrite p q w) s = .next t ∧ t.fld (ETH.RX_RD.RD.at (0x1000 * q.val)) = w.toNat % 16384 ∧ t.flag (ETH.PSTAT.RING_FULL.at (0x1000 * q.val))
    = false ∧ t.out = [] ∧ FieldsKept [(ETH.RX_RD.RD.at (0x1000 * q.val)), (ETH.PSTAT.RING_FULL.at (0x1000 * q.val))] s t ∧
    { t with reg := s.reg, out := s.out } = s) ∧
  (∀ (s : State) (q : Fin 2) (w : W32), s.regsWf → Reaches .spi (ETH.RX_RD.addr + 0x1000 * q.val) s → w.toNat % 16 ≠ 0 → s.flag HST.AERR.VALID = false
    → ∃ t, exec (.ethRxRdWrite .spi q w) s = .next t ∧ t.rd HST.AERR.addr = 2 ^ 31 + 16 + 6 ∧ t.rd HST.AERR_ADDR.addr = (ETH.RX_RD.addr + 0x1000 *
    q.val) ∧ t.out = [] ∧ FieldsKept [⟨HST.AERR.addr, 0, 32⟩, ⟨HST.AERR_ADDR.addr, 0, 32⟩] s t ∧ { t with reg := s.reg, out := s.out } = s) ∧
  (∀ (s : State) (p : Path) (q : Fin 2) (w : W32) (ticks : Nat), s.regsWf → Reaches p (ETH.TX_CTRL.addr + 0x1000 * q.val) s → s.flag
    (ETH.TX_CTRL.BUSY.at (0x1000 * q.val)) = false → 14 ≤ (bitsAt w.toNat 0 11) → (bitsAt w.toNat 0 11) ≤ 1518 → s.station.ports.length = 2 → portUp s
    q.val = true → (s.port q.val).wire = none → (s.port q.val).telegrams = [] → ∃ t, exec (.ethTxSend p q w ticks) s = .next t ∧ t.flag
    (ETH.TX_CTRL.BUSY.at (0x1000 * q.val)) = true ∧ t.flag (ETH.TX_CTRL.TS_REQ.at (0x1000 * q.val)) = bitAt w.toNat 29 ∧ t.flag (ETH.TX_TS_NS.VALID.at
    (0x1000 * q.val)) = false ∧ (t.port q.val) = { (s.port q.val) with wire := some false, host := none } ∧ (∀ r : Fin 2, r ≠ q → t.port r.val =
    s.port r.val) ∧ t.out = [.bytes q.val ((padTo (max 60 (bitsAt w.toNat 0 11)) (stRead s (txBuf q.val) (bitsAt w.toNat 0 11))) ++ leBytes 4 (crc32
    (padTo (max 60 (bitsAt w.toNat 0 11)) (stRead s (txBuf q.val) (bitsAt w.toNat 0 11)))))] ∧ FieldsKept [(ETH.TX_CTRL.BUSY.at (0x1000 * q.val)),
    (ETH.TX_CTRL.TS_REQ.at (0x1000 * q.val)), (ETH.TX_CTRL.LEN.at (0x1000 * q.val)), (ETH.TX_TS_NS.VALID.at (0x1000 * q.val))] s t ∧
    { t with reg := s.reg, out := s.out, station := s.station } = s) ∧
  (∀ (s : State) (p : Path) (q : Fin 2) (w : W32) (ticks : Nat), s.regsWf → Reaches p (ETH.TX_CTRL.addr + 0x1000 * q.val) s → s.flag
    (ETH.TX_CTRL.BUSY.at (0x1000 * q.val)) = false → 14 ≤ (bitsAt w.toNat 0 11) → (bitsAt w.toNat 0 11) ≤ 1518 → s.station.ports.length = 2 → (s.port
    q.val).wire ≠ none → ∃ t, exec (.ethTxSend p q w ticks) s = .next t ∧ t.flag (ETH.TX_CTRL.BUSY.at (0x1000 * q.val)) = true ∧ t.flag
    (ETH.TX_CTRL.TS_REQ.at (0x1000 * q.val)) = bitAt w.toNat 29 ∧ t.flag (ETH.TX_TS_NS.VALID.at (0x1000 * q.val)) = false ∧ (t.port q.val) =
    { (s.port q.val) with host := some ((padTo (max 60 (bitsAt w.toNat 0 11)) (stRead s (txBuf q.val) (bitsAt w.toNat 0 11))) ++ leBytes 4 (crc32 (padTo (max 60 (bitsAt w.toNat 0 11)) (stRead s (txBuf q.val) (bitsAt w.toNat 0 11))))) }
    ∧ (∀ r : Fin 2, r ≠ q → t.port r.val = s.port r.val) ∧ t.out = [] ∧ FieldsKept [(ETH.TX_CTRL.BUSY.at (0x1000 * q.val)), (ETH.TX_CTRL.TS_REQ.at
    (0x1000 * q.val)), (ETH.TX_CTRL.LEN.at (0x1000 * q.val)), (ETH.TX_TS_NS.VALID.at (0x1000 * q.val))] s t ∧
    { t with reg := s.reg, out := s.out, station := s.station } = s) ∧
  (∀ (s : State) (q : Fin 2) (w : W32) (ticks : Nat), s.regsWf → Reaches .pcie (ETH.TX_CTRL.addr + 0x1000 * q.val) s → s.flag (ETH.TX_CTRL.BUSY.at
    (0x1000 * q.val)) = true → s.flag HST.AERR.VALID = false → ∃ t, exec (.ethTxSend .pcie q w ticks) s = .next t ∧ t.rd HST.AERR.addr = 2 ^ 31 + 4 ∧
    t.rd HST.AERR_ADDR.addr = (ETH.TX_CTRL.addr + 0x1000 * q.val) ∧ t.out = [] ∧ FieldsKept [⟨HST.AERR.addr, 0, 32⟩, ⟨HST.AERR_ADDR.addr, 0, 32⟩] s t
    ∧ { t with reg := s.reg, out := s.out } = s) ∧
  (∀ (s : State) (q : Fin 2) (w : W32) (ticks : Nat), s.regsWf → Reaches .pcie (ETH.TX_CTRL.addr + 0x1000 * q.val) s → s.flag (ETH.TX_CTRL.BUSY.at
    (0x1000 * q.val)) = false → bitAt w.toNat 31 = true → ((bitsAt w.toNat 0 11) < 14 ∨ 1518 < (bitsAt w.toNat 0 11)) → s.flag HST.AERR.VALID = false
    → ∃ t, exec (.ethTxSend .pcie q w ticks) s = .next t ∧ t.rd HST.AERR.addr = 2 ^ 31 + 6 ∧ t.rd HST.AERR_ADDR.addr = (ETH.TX_CTRL.addr + 0x1000 *
    q.val) ∧ t.out = [] ∧ FieldsKept [⟨HST.AERR.addr, 0, 32⟩, ⟨HST.AERR_ADDR.addr, 0, 32⟩] s t ∧ { t with reg := s.reg, out := s.out } = s) ∧
  (∀ (s : State) (q : Fin 2) (ticks : Nat), s.regsWf → s.station.ports.length = 2 → (s.port q.val).wire = some false → (s.port q.val).telegrams = [] →
    (s.port q.val).host = none → s.flag (ETH.TX_CTRL.TS_REQ.at (0x1000 * q.val)) = false → ∃ t, exec (.ethTxDone q ticks) s = .next t ∧ t.flag
    (ETH.TX_CTRL.BUSY.at (0x1000 * q.val)) = false ∧ t.fld (ETH.TX_OK.COUNT.at (0x1000 * q.val)) = min (s.fld (ETH.TX_OK.COUNT.at (0x1000 * q.val)) +
    1) (2 ^ 32 - 1) ∧ bitAt (t.fld ETH.INT.BITS) (2 + q.val) = true ∧ (t.port q.val) = { (s.port q.val) with wire := none } ∧ (∀ r : Fin 2, r ≠ q →
    t.port r.val = s.port r.val) ∧ t.out = [] ∧ FieldsKept [(ETH.TX_CTRL.BUSY.at (0x1000 * q.val)), (ETH.TX_OK.COUNT.at (0x1000 * q.val)),
    ⟨ETH.INT.addr, 2 + q.val, 1⟩] s t ∧ { t with reg := s.reg, out := s.out, station := s.station } = s) ∧
  (∀ (s : State) (q : Fin 2) (ticks : Nat), s.regsWf → s.station.ports.length = 2 → (s.port q.val).wire = some false → (s.port q.val).telegrams = [] →
    (s.port q.val).host = none → s.flag (ETH.TX_CTRL.TS_REQ.at (0x1000 * q.val)) = true → ∃ t, exec (.ethTxDone q ticks) s = .next t ∧ t.flag
    (ETH.TX_CTRL.BUSY.at (0x1000 * q.val)) = false ∧ t.fld (ETH.TX_OK.COUNT.at (0x1000 * q.val)) = min (s.fld (ETH.TX_OK.COUNT.at (0x1000 * q.val)) +
    1) (2 ^ 32 - 1) ∧ bitAt (t.fld ETH.INT.BITS) (2 + q.val) = true ∧ (t.port q.val) = { (s.port q.val) with wire := none } ∧ (∀ r : Fin 2, r ≠ q →
    t.port r.val = s.port r.val) ∧ t.flag (ETH.TX_TS_NS.VALID.at (0x1000 * q.val)) = true ∧ t.fld (ETH.TX_TS_NS.NS.at (0x1000 * q.val)) = ptpNs (ptpAt
    s ticks + s.fld (ETH.LAT.TX_LAT.at (0x1000 * q.val)) * ptpLat) ∧ t.fld (ETH.TX_TS_SEC_LO.SEC.at (0x1000 * q.val)) = ptpSec (ptpAt s ticks + s.fld
    (ETH.LAT.TX_LAT.at (0x1000 * q.val)) * ptpLat) % 2 ^ 32 ∧ t.out = [] ∧ FieldsKept [(ETH.TX_CTRL.BUSY.at (0x1000 * q.val)), (ETH.TX_OK.COUNT.at
    (0x1000 * q.val)), ⟨ETH.INT.addr, 2 + q.val, 1⟩, (ETH.TX_TS_NS.VALID.at (0x1000 * q.val)), (ETH.TX_TS_NS.NS.at (0x1000 * q.val)),
    (ETH.TX_TS_SEC_LO.SEC.at (0x1000 * q.val)), (ETH.TX_TS_SEC_HI.SEC.at (0x1000 * q.val))] s t ∧
    { t with reg := s.reg, out := s.out, station := s.station } = s) ∧
  (∀ (s : State) (q : Fin 2) (ticks : Nat) (f : List Byte) (fs : List (List Byte)), s.regsWf → s.station.ports.length = 2 → portUp s q.val = true →
    (s.port q.val).wire = some true → (s.port q.val).telegrams = f :: fs → ∃ t, exec (.ethTxDone q ticks) s = .next t ∧ t.fld (ETH.TX_OK.COUNT.at
    (0x1000 * q.val)) = min (s.fld (ETH.TX_OK.COUNT.at (0x1000 * q.val)) + 1) (2 ^ 32 - 1) ∧ (t.port q.val) =
    { (s.port q.val) with wire := some true, telegrams := fs } ∧ (∀ r : Fin 2, r ≠ q → t.port r.val = s.port r.val) ∧ t.out = [.bytes q.val f] ∧
    FieldsKept [(ETH.TX_OK.COUNT.at (0x1000 * q.val))] s t ∧ { t with reg := s.reg, out := s.out, station := s.station } = s) ∧
  (∀ (s : State) (q : Fin 2) (ticks : Nat) (f : List Byte), s.regsWf → s.station.ports.length = 2 → portUp s q.val = true → (s.port q.val).wire = some
    true → (s.port q.val).telegrams = [] → (s.port q.val).host = some f → ∃ t, exec (.ethTxDone q ticks) s = .next t ∧ t.fld (ETH.TX_OK.COUNT.at
    (0x1000 * q.val)) = min (s.fld (ETH.TX_OK.COUNT.at (0x1000 * q.val)) + 1) (2 ^ 32 - 1) ∧ (t.port q.val) =
    { (s.port q.val) with wire := some false, host := none } ∧ (∀ r : Fin 2, r ≠ q → t.port r.val = s.port r.val) ∧ t.out = [.bytes q.val f] ∧
    FieldsKept [(ETH.TX_OK.COUNT.at (0x1000 * q.val))] s t ∧ { t with reg := s.reg, out := s.out, station := s.station } = s) ∧
  (∀ (s : State) (q : Fin 2) (up an : Bool), s.regsWf → stationOn s = true → (up = true ∨ s.fld ETH.PTP_CTRL.PTP_PORT ≠ q.val) → ∃ t, exec
    (.ethLinkChange q up an) s = .next t ∧ t.flag (ETH.PSTAT.LINK.at (0x1000 * q.val)) = up ∧ t.flag (ETH.PSTAT.AN_DONE.at (0x1000 * q.val)) = an ∧
    bitAt (t.fld ETH.INT.BITS) (4 + q.val) = true ∧ FieldsKept [(ETH.PSTAT.LINK.at (0x1000 * q.val)), (ETH.PSTAT.AN_DONE.at (0x1000 * q.val)),
    ⟨ETH.INT.addr, 4 + q.val, 1⟩] s t ∧ { t with reg := s.reg, out := s.out } = s)

/-- A write of STEP adds the signed STEP_SEC and STEP_NS to the running clock, sets STEPPED and clears LOCKED. A write with LOCK one sets LOCKED; one with LOCK zero, a lapse of LOCK_TO, or loss of the link of port PTP_PORT clears it, and its falling edge sets INT.LOCK_LOST. A read of PTP_NS or PPS_NS returns the nanoseconds and latches the seconds. A PPS_IN edge is timestamped and raises INT bit 6. With OUT_EN a whole second gives a pulse of WIDTH ms. -/
def Obligations.PtpClockStepsLocksAndStamps : Prop :=
  (∀ (s : State) (p : Path) (w : W32) (ticks : Nat), s.regsWf → Reaches p ETH.PTP_CTRL.addr s → ∃ t, exec (.ptpStep p w ticks) s = .next t ∧ t.station
    =
    { s.station with ptp := ptpAt s ticks + (s.sfld ETH.STEP_SEC.SEC * ptpSecond + s.sfld ETH.STEP_NS.NS * 5 * ptpTick / 32), lockAt := if bitAt w.toNat 0 then ptpAt s ticks else s.station.lockAt }
    ∧ t.flag ETH.PTP_STAT.STEPPED = true ∧ t.flag ETH.PTP_STAT.LOCKED = false ∧ t.fld ETH.PTP_CTRL.LOCK_TO = bitsAt w.toNat 8 4 ∧ t.out = [] ∧
    FieldsKept [⟨ETH.PTP_CTRL.addr, 0, 32⟩, ETH.PTP_STAT.STEPPED, ETH.PTP_STAT.LOCKED, ⟨ETH.INT.addr, 7, 1⟩] s t ∧
    { t with reg := s.reg, out := s.out, station := s.station } = s) ∧
  (∀ (s : State) (p : Path) (w : W32) (ticks : Nat), s.regsWf → Reaches p ETH.PTP_CTRL.addr s → bitAt w.toNat 0 = true → ∃ t, exec (.ptpLockWrite p w
    ticks) s = .next t ∧ t.flag ETH.PTP_STAT.LOCKED = true ∧ t.fld ETH.PTP_CTRL.PTP_PORT = bitsAt w.toNat 1 1 ∧ t.station =
    { s.station with lockAt := ptpAt s ticks } ∧ t.out = [] ∧ FieldsKept [⟨ETH.PTP_CTRL.addr, 0, 32⟩, ETH.PTP_STAT.LOCKED] s t ∧
    { t with reg := s.reg, out := s.out, station := s.station } = s) ∧
  (∀ (s : State) (p : Path) (w : W32) (ticks : Nat), s.regsWf → Reaches p ETH.PTP_CTRL.addr s → bitAt w.toNat 0 = false → s.flag ETH.PTP_STAT.LOCKED =
    true → ∃ t, exec (.ptpLockWrite p w ticks) s = .next t ∧ t.flag ETH.PTP_STAT.LOCKED = false ∧ bitAt (t.fld ETH.INT.BITS) 7 = true ∧ t.out = [] ∧
    FieldsKept [⟨ETH.PTP_CTRL.addr, 0, 32⟩, ETH.PTP_STAT.LOCKED, ⟨ETH.INT.addr, 7, 1⟩] s t ∧ { t with reg := s.reg, out := s.out } = s) ∧
  (∀ (s : State) (ticks : Nat), s.regsWf → s.flag ETH.PTP_STAT.LOCKED = true → s.station.lockAt + (max 1 (s.fld ETH.PTP_CTRL.LOCK_TO) : Nat) *
    ptpSecond ≤ ptpAt s ticks → ∃ t, exec (.ptpLockTimeout ticks) s = .next t ∧ t.flag ETH.PTP_STAT.LOCKED = false ∧ bitAt (t.fld ETH.INT.BITS) 7 =
    true ∧ FieldsKept [ETH.PTP_STAT.LOCKED, ⟨ETH.INT.addr, 7, 1⟩] s t ∧ { t with reg := s.reg, out := s.out } = s) ∧
  (∀ (s : State) (ticks : Nat), s.regsWf → s.flag ETH.PTP_STAT.LOCKED = true → s.station.lockAt + (max 1 (s.fld ETH.PTP_CTRL.LOCK_TO) : Nat) *
    ptpSecond > ptpAt s ticks → ∃ t, exec (.ptpLockTimeout ticks) s = .next t ∧ FieldsKept [] s t ∧ { t with reg := s.reg, out := s.out } = s) ∧
  (∀ (s : State) (p : Path) (w : W32) (ticks : Nat), s.regsWf → Reaches p ETH.PTP_CTRL.addr s → bitAt w.toNat 0 = false → s.flag ETH.PTP_STAT.LOCKED =
    false → ∃ t, exec (.ptpLockWrite p w ticks) s = .next t ∧ t.flag ETH.PTP_STAT.LOCKED = false ∧ t.out = [] ∧ FieldsKept [⟨ETH.PTP_CTRL.addr, 0,
    32⟩] s t ∧ { t with reg := s.reg, out := s.out } = s) ∧
  (∀ (s : State) (ticks : Nat), s.regsWf → s.flag ETH.PTP_STAT.LOCKED = false → s.station.lockAt + (max 1 (s.fld ETH.PTP_CTRL.LOCK_TO) : Nat) *
    ptpSecond ≤ ptpAt s ticks → ∃ t, exec (.ptpLockTimeout ticks) s = .next t ∧ t.flag ETH.PTP_STAT.LOCKED = false ∧ FieldsKept [] s t ∧
    { t with reg := s.reg, out := s.out } = s) ∧
  (∀ (s : State) (ticks : Nat), s.regsWf → s.flag ETH.PTP_STAT.LOCKED = false → s.station.lockAt + (max 1 (s.fld ETH.PTP_CTRL.LOCK_TO) : Nat) *
    ptpSecond > ptpAt s ticks → ∃ t, exec (.ptpLockTimeout ticks) s = .next t ∧ FieldsKept [] s t ∧ { t with reg := s.reg, out := s.out } = s) ∧
  (∀ (s : State) (p : Path) (be : Fin 16) (ticks : Nat), s.regsWf → Reaches p ETH.PTP_NS.addr s → readEnables p be.val ≠ 0 → ∃ t, exec (.ptpNsRead p
    be ticks) s = .next t ∧ t.fld ETH.PTP_SEC_LO.SEC = ptpSec (ptpAt s ticks) % 2 ^ 32 ∧ t.fld ETH.PTP_SEC_HI.SEC = ptpSec (ptpAt s ticks) / 2 ^ 32 ∧
    t.out = [.word (mergeBytes (readEnables p be.val) (ptpNs (ptpAt s ticks)) 0)] ∧ FieldsKept [ETH.PTP_SEC_LO.SEC, ETH.PTP_SEC_HI.SEC] s t ∧
    { t with reg := s.reg, out := s.out } = s) ∧
  (∀ (s : State) (p : Path) (be : Fin 16), s.regsWf → Reaches p ETH.PPS_NS.addr s → readEnables p be.val ≠ 0 → ∃ t, exec (.ppsNsRead p be) s = .next t
    ∧ t.fld ETH.PPS_SEC_LO.SEC = s.station.ppsSec % 2 ^ 32 ∧ t.fld ETH.PPS_SEC_HI.SEC = s.station.ppsSec / 2 ^ 32 % 65536 ∧ t.out = [.word (mergeBytes
    (readEnables p be.val) (s.rd ETH.PPS_NS.addr) 0)] ∧ FieldsKept [ETH.PPS_SEC_LO.SEC, ETH.PPS_SEC_HI.SEC] s t ∧
    { t with reg := s.reg, out := s.out } = s) ∧
  (∀ (s : State) (ticks : Nat), s.regsWf → stationOn s = true → ∃ t, exec (.ppsInEdge ticks) s = .next t ∧ t.fld ETH.PPS_NS.NS = ptpNs (ptpAt s ticks)
    ∧ t.station = { s.station with ppsSec := ptpSec (ptpAt s ticks) } ∧ bitAt (t.fld ETH.INT.BITS) 6 = true ∧ t.period =
    { s.period with ppsSeen := true } ∧ FieldsKept [ETH.PPS_NS.NS, ⟨ETH.INT.addr, 6, 1⟩] s t ∧
    { t with reg := s.reg, out := s.out, station := s.station, period := s.period } = s) ∧
  (∀ (s : State), s.regsWf → stationOn s = true → s.flag ETH.PPS_CFG.OUT_EN = true → ∃ t, exec (.ppsOutSecond) s = .next t ∧ t.out = [.pps (s.fld
    ETH.PPS_CFG.WIDTH)] ∧ { t with out := s.out } = s) ∧
  (∀ (s : State), s.regsWf → s.flag ETH.PPS_CFG.OUT_EN = false → ∃ t, exec (.ppsOutSecond) s = .next t ∧ t.out = [] ∧ { t with out := s.out } = s) ∧
  (∀ (s : State) (q : Fin 2) (an : Bool), s.regsWf → stationOn s = true → s.fld ETH.PTP_CTRL.PTP_PORT = q.val → s.flag ETH.PTP_STAT.LOCKED = true → ∃
    t, exec (.ethLinkChange q false an) s = .next t ∧ t.flag (ETH.PSTAT.LINK.at (0x1000 * q.val)) = false ∧ t.flag ETH.PTP_STAT.LOCKED = false ∧ bitAt
    (t.fld ETH.INT.BITS) 7 = true ∧ bitAt (t.fld ETH.INT.BITS) (4 + q.val) = true ∧ FieldsKept [(ETH.PSTAT.LINK.at (0x1000 * q.val)),
    (ETH.PSTAT.AN_DONE.at (0x1000 * q.val)), ⟨ETH.INT.addr, 4 + q.val, 1⟩, ⟨ETH.INT.addr, 7, 1⟩, ETH.PTP_STAT.LOCKED] s t ∧
    { t with reg := s.reg, out := s.out } = s)

/-- A TXSLOT write with REQ submits a host-owned buffer to an empty slot within the quota while EN is set; else it is an access error with cause 6, or 4 for a slot in use. An attempt takes the slot that R462 picks and stamps its start of frame; in bus monitoring and restricted operation none starts, an FD frame waits while FD_EN is clear, and in loopback the controller receives its own frame, not its pin (log 160). Sent, the slot completes as TRANSMITTED: slot empty, TXDONE set, buffer freed (a controller may claim it as its reserve), an event in the transmit event FIFO. A failed attempt counts in ATTEMPTS and is pending again, or completes as CANCELLED or RETRY_EXHAUSTED, or is held where its error makes TEC pass 255; TEC counts as ISO 11898-1 has it (log 160). CANCEL completes a pending slot at once and marks one in its attempt; clearing EN empties every slot. A pop removes the head event. -/
def Obligations.CanSlotsSubmitAttemptAndComplete : Prop :=
  (∀ (s : State) (p : Path) (n : Fin 4) (k : Fin 3) (w : W32), s.regsWf → Reaches p (CAN.TXSLOT.addr + 0x1000 * n.val + 4 * k.val) s → s.fld
    (CAN.TXSLOT.STATE.at (0x1000 * n.val + 4 * k.val)) = 0 → own s (bitsAt w.toNat 0 9) = ownHost → belowQuota s n.val = true → s.flag (CAN.CTRL.EN.at
    (0x1000 * n.val)) = true → (s.fld (CAN.STAT.STATE.at (0x1000 * n.val))) < 2 → s.station.cans.length = 4 → ∃ t, exec (.canTxslotSubmit p n k w) s =
    .next t ∧ t.fld (CAN.TXSLOT.STATE.at (0x1000 * n.val + 4 * k.val)) = 1 ∧ t.fld (CAN.TXSLOT.BUF.at (0x1000 * n.val + 4 * k.val)) = (bitsAt w.toNat
    0 9) ∧ t.fld (CAN.TXSLOT.ATTEMPTS.at (0x1000 * n.val + 4 * k.val)) = 0 ∧ own t (bitsAt w.toNat 0 9) = ownSlot ∧ t.fld (SLT.META.CTRL.at (4 *
    ((bitsAt w.toNat 0 9)))) = n.val ∧ (t.can n.val) =
    { (s.can n.val) with tries := (s.can n.val).tries.set k.val 0, cancel := (s.can n.val).cancel.set k.val false, sof := (s.can n.val).sof.set k.val none }
    ∧ ((∀ b : Fin 512, own s b.val ≤ 6) → t.flag SLT.EVT.BOOKS = s.flag SLT.EVT.BOOKS) ∧ t.station = { s.station with cans := t.station.cans } ∧ t.out
    = [] ∧ FieldsKept [⟨(CAN.TXSLOT.addr + 0x1000 * n.val + 4 * k.val), 0, 32⟩, (SLT.META.OWNER.at (4 * ((bitsAt w.toNat 0 9)))), (SLT.META.CTRL.at (4
    * ((bitsAt w.toNat 0 9)))), SLT.EVT.BOOKS] s t ∧ { t with reg := s.reg, out := s.out, station := s.station } = s) ∧
  (∀ (s : State) (n : Fin 4) (k : Fin 3) (w : W32), s.regsWf → Reaches .pcie (CAN.TXSLOT.addr + 0x1000 * n.val + 4 * k.val) s → s.fld
    (CAN.TXSLOT.STATE.at (0x1000 * n.val + 4 * k.val)) ≠ 0 → s.flag HST.AERR.VALID = false → ∃ t, exec (.canTxslotSubmit .pcie n k w) s = .next t ∧
    t.rd HST.AERR.addr = 2 ^ 31 + 4 ∧ t.rd HST.AERR_ADDR.addr = (CAN.TXSLOT.addr + 0x1000 * n.val + 4 * k.val) ∧ t.out = [] ∧ FieldsKept
    [⟨HST.AERR.addr, 0, 32⟩, ⟨HST.AERR_ADDR.addr, 0, 32⟩] s t ∧ { t with reg := s.reg, out := s.out } = s) ∧
  (∀ (s : State) (n : Fin 4) (k : Fin 3) (w : W32), s.regsWf → Reaches .pcie (CAN.TXSLOT.addr + 0x1000 * n.val + 4 * k.val) s → s.fld
    (CAN.TXSLOT.STATE.at (0x1000 * n.val + 4 * k.val)) = 0 → (own s (bitsAt w.toNat 0 9) ≠ ownHost ∨ belowQuota s n.val = false ∨ s.flag
    (CAN.CTRL.EN.at (0x1000 * n.val)) = false) → s.flag HST.AERR.VALID = false → ∃ t, exec (.canTxslotSubmit .pcie n k w) s = .next t ∧ t.rd
    HST.AERR.addr = 2 ^ 31 + 6 ∧ t.rd HST.AERR_ADDR.addr = (CAN.TXSLOT.addr + 0x1000 * n.val + 4 * k.val) ∧ t.out = [] ∧ FieldsKept [⟨HST.AERR.addr,
    0, 32⟩, ⟨HST.AERR_ADDR.addr, 0, 32⟩] s t ∧ { t with reg := s.reg, out := s.out } = s) ∧
  (∀ (s : State) (n : Fin 4) (cyc : Nat) (k : Fin 3), s.regsWf → s.flag (CAN.CTRL.EN.at (0x1000 * n.val)) = true → busMonitoring s n.val = false →
    (s.fld (CAN.CTRL.MODE.at (0x1000 * n.val))) ≠ 1 → (s.fld (CAN.STAT.STATE.at (0x1000 * n.val))) < 2 → (∀ j : Fin 3, s.fld (CAN.TXSLOT.STATE.at
    (0x1000 * n.val + 4 * j.val)) ≠ 2) → pickSlot s n.val = some k.val → s.station.cans.length = 4 → ∃ t, exec (.canTxAttempt n cyc) s = .next t ∧
    t.fld (CAN.TXSLOT.STATE.at (0x1000 * n.val + 4 * k.val)) = 2 ∧ (t.can n.val) =
    { (s.can n.val) with sof := (s.can n.val).sof.set k.val (some (canTime s cyc)), first := none } ∧ (∀ j : Fin 4, j ≠ n → t.can j.val = s.can j.val)
    ∧ t.station = { s.station with cans := t.station.cans } ∧ t.out = (if (s.fld (CAN.CTRL.MODE.at (0x1000 * n.val))) = 3 then [] else [.can n.val
    (s.fld (CAN.TXSLOT.BUF.at (0x1000 * n.val + 4 * k.val)))]) ∧ FieldsKept [(CAN.TXSLOT.STATE.at (0x1000 * n.val + 4 * k.val))] s t ∧
    { t with reg := s.reg, out := s.out, station := s.station } = s) ∧
  (∀ (s : State) (n : Fin 4) (cyc : Nat), s.regsWf → (s.flag (CAN.CTRL.EN.at (0x1000 * n.val)) = false ∨ busMonitoring s n.val = true ∨ (s.fld
    (CAN.CTRL.MODE.at (0x1000 * n.val))) = 1 ∨ 2 ≤ (s.fld (CAN.STAT.STATE.at (0x1000 * n.val))) ∨ pickSlot s n.val = none) → ∃ t, exec (.canTxAttempt
    n cyc) s = .next t ∧ t.out = [] ∧ FieldsKept [] s t ∧ { t with reg := s.reg, out := s.out } = s) ∧
  (∀ (s : State) (n : Fin 4) (k : Fin 3), s.flag (CAN.CTRL.FD_EN.at (0x1000 * n.val)) = false → bitAt (leNat (stRead s (siltAt (s.fld
    (CAN.TXSLOT.BUF.at (0x1000 * n.val + 4 * k.val)))) 4)) 31 = true → pickSlot s n.val ≠ some k.val) ∧
  (∀ (s : State) (n : Fin 4) (k : Fin 3) (more exempt : Nat), s.regsWf → inAttempt s n.val = some k.val → s.station.cans.length = 4 → canLoopback s
    n.val = false → ∃ t, exec (.canTxAttemptEnd n .sent more exempt) s = .next t ∧ t.rd (CAN.TXSLOT.addr + 0x1000 * n.val + 4 * k.val) = 0 ∧ bitAt
    (t.fld (CAN.INT.BITS.at (0x1000 * n.val))) 2 = true ∧ (own t (s.fld (CAN.TXSLOT.BUF.at (0x1000 * n.val + 4 * k.val))) = ownFree ∨ own t (s.fld
    (CAN.TXSLOT.BUF.at (0x1000 * n.val + 4 * k.val))) = ownReserve) ∧ (t.can n.val).evts = (if 16 ≤ (s.can n.val).evts.length then (s.can
    n.val).evts.drop 1 else (s.can n.val).evts) ++
    [{ status := 1, slot := k.val, buf := (s.fld (CAN.TXSLOT.BUF.at (0x1000 * n.val + 4 * k.val))), ident := leNat (stRead s (siltAt (s.fld (CAN.TXSLOT.BUF.at (0x1000 * n.val + 4 * k.val)))) 4) % 2 ^ 30, ts := ((s.can n.val).sof.getD k.val none).getD (s.draw 122 % 2 ^ 32) }]
    ∧ (bitAt (t.fld (CAN.INT.BITS.at (0x1000 * n.val))) 8 = true ∨ (s.can n.val).evts.length < 16) ∧ t.station.mem = s.station.mem ∧ t.station.ptp =
    s.station.ptp ∧ (∀ a, a < 0x1E0000 ∨ 0x200000 ≤ a → t.rd a = s.rd a) ∧ t.fld (CAN.STAT.TEC.at (0x1000 * n.val)) = (s.fld (CAN.STAT.TEC.at (0x1000
    * n.val))) - 1 ∧ t.fld (CAN.STAT.REC.at (0x1000 * n.val)) = (s.fld (CAN.STAT.REC.at (0x1000 * n.val))) ∧
    { t with reg := s.reg, out := s.out, station := s.station, freeCtr := s.freeCtr } = s) ∧
  (∀ (s : State) (n : Fin 4) (k : Fin 3) (more exempt b j : Nat), s.regsWf → inAttempt s n.val = some k.val → s.station.cans.length = 4 → canLoopback
    s n.val = true → Memory.wf s.station.mem = true → (s.can n.val).reserve = some b → b < 512 → b ≠ (s.fld (CAN.TXSLOT.BUF.at (0x1000 * n.val + 4 *
    k.val))) → filterFor s n.val (leNat (stRead s (siltAt (s.fld (CAN.TXSLOT.BUF.at (0x1000 * n.val + 4 * k.val)))) 4)) = some j → s.flag
    (CAN.FTGT.MB.at (0x1000 * n.val + 0x10 * j)) = false → (s.can n.val).fifo.length < 64 → ∃ t, exec (.canTxAttemptEnd n .sent more exempt) s = .next
    t ∧ t.rd (CAN.TXSLOT.addr + 0x1000 * n.val + 4 * k.val) = 0 ∧ bitAt (t.fld (CAN.INT.BITS.at (0x1000 * n.val))) 0 = true ∧ bitAt (t.fld
    (CAN.INT.BITS.at (0x1000 * n.val))) 2 = true ∧ (t.can n.val).fifo = (s.can n.val).fifo ++ [b] ∧ own t b = ownFifo ∧ stRead t (siltAt b) 4 = stRead
    s (siltAt (s.fld (CAN.TXSLOT.BUF.at (0x1000 * n.val + 4 * k.val)))) 4 ∧ (∀ a, a < 0x1E0000 ∨ 0x200000 ≤ a → t.rd a = s.rd a) ∧
    { t with reg := s.reg, out := s.out, station := s.station, freeCtr := s.freeCtr } = s) ∧
  (∀ (s : State) (n : Fin 4) (k : Fin 3) (how : CanEnd) (more exempt : Nat), s.regsWf → inAttempt s n.val = some k.val → s.station.cans.length = 4 →
    (how = .lost ∨ (how = .error ∧ (exempt ≠ 0 ∨ (s.fld (CAN.STAT.TEC.at (0x1000 * n.val))) + 8 * (1 + more) ≤ 255))) → (s.can n.val).cancel.getD
    k.val false = false → (s.flag (CAN.CTRL.RETRY_EN.at (0x1000 * n.val)) = false ∨ (s.can n.val).tries.getD k.val 0 < s.fld (CAN.CTRL.RETRY.at
    (0x1000 * n.val))) → ∃ t, exec (.canTxAttemptEnd n how more exempt) s = .next t ∧ t.fld (CAN.TXSLOT.STATE.at (0x1000 * n.val + 4 * k.val)) = 1 ∧
    t.fld (CAN.TXSLOT.ATTEMPTS.at (0x1000 * n.val + 4 * k.val)) = min 15 ((s.can n.val).tries.getD k.val 0 + 1) ∧ t.fld (CAN.TXSLOT.BUF.at (0x1000 *
    n.val + 4 * k.val)) = s.fld (CAN.TXSLOT.BUF.at (0x1000 * n.val + 4 * k.val)) ∧ (t.can n.val) =
    { (s.can n.val) with tries := (s.can n.val).tries.set k.val ((s.can n.val).tries.getD k.val 0 + 1) } ∧ t.fld (CAN.STAT.TEC.at (0x1000 * n.val)) =
    (if how = .error ∧ exempt = 0 then (s.fld (CAN.STAT.TEC.at (0x1000 * n.val))) + 8 * (1 + more) else (s.fld (CAN.STAT.TEC.at (0x1000 * n.val)))) ∧
    t.fld (CAN.STAT.REC.at (0x1000 * n.val)) = (s.fld (CAN.STAT.REC.at (0x1000 * n.val))) ∧ FieldsKept [(CAN.TXSLOT.STATE.at (0x1000 * n.val + 4 *
    k.val)), (CAN.TXSLOT.ATTEMPTS.at (0x1000 * n.val + 4 * k.val)), (CAN.STAT.TEC.at (0x1000 * n.val)), (CAN.STAT.REC.at (0x1000 * n.val)),
    (CAN.STAT.WARN.at (0x1000 * n.val)), (CAN.STAT.STATE.at (0x1000 * n.val)), ⟨CAN.INT.addr + 0x1000 * n.val, 5, 1⟩, ⟨CAN.INT.addr + 0x1000 * n.val,
    6, 1⟩] s t ∧ { t with reg := s.reg, out := s.out, station := s.station } = s) ∧
  (∀ (s : State) (n : Fin 4) (k : Fin 3) (how : CanEnd) (more exempt : Nat), s.regsWf → inAttempt s n.val = some k.val → s.station.cans.length = 4 →
    (how = .lost ∨ (how = .error ∧ (exempt ≠ 0 ∨ (s.fld (CAN.STAT.TEC.at (0x1000 * n.val))) + 8 * (1 + more) ≤ 255))) → (s.can n.val).cancel.getD
    k.val false = false → s.flag (CAN.CTRL.RETRY_EN.at (0x1000 * n.val)) = true → s.fld (CAN.CTRL.RETRY.at (0x1000 * n.val)) ≤ (s.can
    n.val).tries.getD k.val 0 → ∃ t, exec (.canTxAttemptEnd n how more exempt) s = .next t ∧ t.rd (CAN.TXSLOT.addr + 0x1000 * n.val + 4 * k.val) = 0 ∧
    bitAt (t.fld (CAN.INT.BITS.at (0x1000 * n.val))) 2 = true ∧ (own t (s.fld (CAN.TXSLOT.BUF.at (0x1000 * n.val + 4 * k.val))) = ownFree ∨ own t
    (s.fld (CAN.TXSLOT.BUF.at (0x1000 * n.val + 4 * k.val))) = ownReserve) ∧ (t.can n.val).evts = (if 16 ≤ (s.can n.val).evts.length then (s.can
    n.val).evts.drop 1 else (s.can n.val).evts) ++
    [{ status := 3, slot := k.val, buf := (s.fld (CAN.TXSLOT.BUF.at (0x1000 * n.val + 4 * k.val))), ident := leNat (stRead s (siltAt (s.fld (CAN.TXSLOT.BUF.at (0x1000 * n.val + 4 * k.val)))) 4) % 2 ^ 30, ts := ((s.can n.val).sof.getD k.val none).getD (s.draw 122 % 2 ^ 32) }]
    ∧ (bitAt (t.fld (CAN.INT.BITS.at (0x1000 * n.val))) 8 = true ∨ (s.can n.val).evts.length < 16) ∧ t.station.mem = s.station.mem ∧ t.station.ptp =
    s.station.ptp ∧ (∀ a, a < 0x1E0000 ∨ 0x200000 ≤ a → t.rd a = s.rd a) ∧
    { t with reg := s.reg, out := s.out, station := s.station, freeCtr := s.freeCtr } = s) ∧
  (∀ (s : State) (n : Fin 4) (k : Fin 3) (how : CanEnd) (more exempt : Nat), s.regsWf → inAttempt s n.val = some k.val → s.station.cans.length = 4 →
    (how = .lost ∨ (how = .error ∧ (exempt ≠ 0 ∨ (s.fld (CAN.STAT.TEC.at (0x1000 * n.val))) + 8 * (1 + more) ≤ 255))) → (s.can n.val).cancel.getD
    k.val false = true → ∃ t, exec (.canTxAttemptEnd n how more exempt) s = .next t ∧ t.rd (CAN.TXSLOT.addr + 0x1000 * n.val + 4 * k.val) = 0 ∧ bitAt
    (t.fld (CAN.INT.BITS.at (0x1000 * n.val))) 2 = true ∧ (own t (s.fld (CAN.TXSLOT.BUF.at (0x1000 * n.val + 4 * k.val))) = ownFree ∨ own t (s.fld
    (CAN.TXSLOT.BUF.at (0x1000 * n.val + 4 * k.val))) = ownReserve) ∧ (t.can n.val).evts = (if 16 ≤ (s.can n.val).evts.length then (s.can
    n.val).evts.drop 1 else (s.can n.val).evts) ++
    [{ status := 2, slot := k.val, buf := (s.fld (CAN.TXSLOT.BUF.at (0x1000 * n.val + 4 * k.val))), ident := leNat (stRead s (siltAt (s.fld (CAN.TXSLOT.BUF.at (0x1000 * n.val + 4 * k.val)))) 4) % 2 ^ 30, ts := ((s.can n.val).sof.getD k.val none).getD (s.draw 122 % 2 ^ 32) }]
    ∧ (bitAt (t.fld (CAN.INT.BITS.at (0x1000 * n.val))) 8 = true ∨ (s.can n.val).evts.length < 16) ∧ t.station.mem = s.station.mem ∧ t.station.ptp =
    s.station.ptp ∧ (∀ a, a < 0x1E0000 ∨ 0x200000 ≤ a → t.rd a = s.rd a) ∧
    { t with reg := s.reg, out := s.out, station := s.station, freeCtr := s.freeCtr } = s) ∧
  (∀ (s : State) (n : Fin 4) (k : Fin 3) (more : Nat), s.regsWf → inAttempt s n.val = some k.val → s.station.cans.length = 4 → 255 < (s.fld
    (CAN.STAT.TEC.at (0x1000 * n.val))) + 8 * (1 + more) → (s.can n.val).cancel.getD k.val false = false → (s.flag (CAN.CTRL.RETRY_EN.at (0x1000 *
    n.val)) = false ∨ (s.can n.val).tries.getD k.val 0 < s.fld (CAN.CTRL.RETRY.at (0x1000 * n.val))) → ∃ t, exec (.canTxAttemptEnd n .error more 0) s
    = .next t ∧ t.fld (CAN.STAT.STATE.at (0x1000 * n.val)) = (if s.flag (CAN.CTRL.AUTO_REC.at (0x1000 * n.val)) then 3 else 2) ∧ t.fld
    (CAN.STAT.TEC.at (0x1000 * n.val)) = min 511 ((s.fld (CAN.STAT.TEC.at (0x1000 * n.val))) + 8 * (1 + more)) ∧ bitAt (t.fld (CAN.INT.BITS.at (0x1000
    * n.val))) 3 = true ∧ t.fld (CAN.TXSLOT.STATE.at (0x1000 * n.val + 4 * k.val)) = 3 ∧ t.fld (CAN.TXSLOT.BUF.at (0x1000 * n.val + 4 * k.val)) =
    s.fld (CAN.TXSLOT.BUF.at (0x1000 * n.val + 4 * k.val)) ∧ t.fld (CAN.TXSLOT.ATTEMPTS.at (0x1000 * n.val + 4 * k.val)) = min 15 ((s.can
    n.val).tries.getD k.val 0 + 1) ∧ FieldsKept [(CAN.TXSLOT.STATE.at (0x1000 * n.val + 4 * 0)), (CAN.TXSLOT.STATE.at (0x1000 * n.val + 4 * 1)),
    (CAN.TXSLOT.STATE.at (0x1000 * n.val + 4 * 2)), (CAN.TXSLOT.ATTEMPTS.at (0x1000 * n.val + 4 * k.val)), (CAN.STAT.STATE.at (0x1000 * n.val)),
    (CAN.STAT.TEC.at (0x1000 * n.val)), (CAN.STAT.WARN.at (0x1000 * n.val)), ⟨CAN.INT.addr + 0x1000 * n.val, 3, 1⟩, ⟨CAN.INT.addr + 0x1000 * n.val, 6,
    1⟩] s t ∧ { t with reg := s.reg, out := s.out, station := s.station } = s) ∧
  (∀ (s : State) (p : Path) (n : Fin 4) (k : Fin 3) (m : Fin 8), s.regsWf → Reaches p (CAN.CMD.addr + 0x1000 * n.val) s → bitAt m.val k.val = true →
    (∀ j : Fin 3, j ≠ k → bitAt m.val j.val = true → s.fld (CAN.TXSLOT.STATE.at (0x1000 * n.val + 4 * j.val)) = 0) → (s.fld (CAN.TXSLOT.STATE.at
    (0x1000 * n.val + 4 * k.val)) = 1 ∨ s.fld (CAN.TXSLOT.STATE.at (0x1000 * n.val + 4 * k.val)) = 3) → s.station.cans.length = 4 → ∃ t, exec (.cancel
    p n m) s = .next t ∧ t.rd (CAN.TXSLOT.addr + 0x1000 * n.val + 4 * k.val) = 0 ∧ bitAt (t.fld (CAN.INT.BITS.at (0x1000 * n.val))) 2 = true ∧ (own t
    (s.fld (CAN.TXSLOT.BUF.at (0x1000 * n.val + 4 * k.val))) = ownFree ∨ own t (s.fld (CAN.TXSLOT.BUF.at (0x1000 * n.val + 4 * k.val))) = ownReserve)
    ∧ (t.can n.val).evts = (if 16 ≤ (s.can n.val).evts.length then (s.can n.val).evts.drop 1 else (s.can n.val).evts) ++
    [{ status := 2, slot := k.val, buf := (s.fld (CAN.TXSLOT.BUF.at (0x1000 * n.val + 4 * k.val))), ident := leNat (stRead s (siltAt (s.fld (CAN.TXSLOT.BUF.at (0x1000 * n.val + 4 * k.val)))) 4) % 2 ^ 30, ts := ((s.can n.val).sof.getD k.val none).getD (s.draw 122 % 2 ^ 32) }]
    ∧ (bitAt (t.fld (CAN.INT.BITS.at (0x1000 * n.val))) 8 = true ∨ (s.can n.val).evts.length < 16) ∧ t.station.mem = s.station.mem ∧ t.station.ptp =
    s.station.ptp ∧ (∀ a, a < 0x1E0000 ∨ 0x200000 ≤ a → t.rd a = s.rd a) ∧ t.out = [] ∧
    { t with reg := s.reg, out := s.out, station := s.station, freeCtr := s.freeCtr } = s) ∧
  (∀ (s : State) (p : Path) (n : Fin 4) (k : Fin 3) (m : Fin 8), s.regsWf → Reaches p (CAN.CMD.addr + 0x1000 * n.val) s → bitAt m.val k.val = true →
    (∀ j : Fin 3, j ≠ k → bitAt m.val j.val = true → s.fld (CAN.TXSLOT.STATE.at (0x1000 * n.val + 4 * j.val)) = 0) → s.fld (CAN.TXSLOT.STATE.at
    (0x1000 * n.val + 4 * k.val)) = 2 → s.station.cans.length = 4 → ∃ t, exec (.cancel p n m) s = .next t ∧ (t.can n.val) =
    { (s.can n.val) with cancel := (s.can n.val).cancel.set k.val true } ∧ t.out = [] ∧ FieldsKept [] s t ∧
    { t with reg := s.reg, out := s.out, station := s.station } = s) ∧
  (∀ (s : State) (p : Path) (n : Fin 4) (m : Fin 8), s.regsWf → Reaches p (CAN.CMD.addr + 0x1000 * n.val) s → (∀ k : Fin 3, bitAt m.val k.val = true →
    s.fld (CAN.TXSLOT.STATE.at (0x1000 * n.val + 4 * k.val)) = 0) → ∃ t, exec (.cancel p n m) s = .next t ∧ t.out = [] ∧ FieldsKept [] s t ∧
    { t with reg := s.reg, out := s.out } = s) ∧
  (∀ (s : State) (p : Path) (n : Fin 4) (w : W32), s.regsWf → Reaches p (CAN.CTRL.addr + 0x1000 * n.val) s → s.flag (CAN.CTRL.EN.at (0x1000 * n.val))
    = true → (w.toNat ^^^ s.rd (CAN.CTRL.addr + 0x1000 * n.val)) &&& 0x3E = 0 → s.station.cans.length = 4 → ∃ t, exec (.canDisable p n w) s = .next t
    ∧ t.flag (CAN.CTRL.EN.at (0x1000 * n.val)) = false ∧ (∀ k : Fin 3, t.fld (CAN.TXSLOT.STATE.at (0x1000 * n.val + 4 * k.val)) = 0) ∧ (∀ k : Fin 3,
    s.fld (CAN.TXSLOT.STATE.at (0x1000 * n.val + 4 * k.val)) ≠ 0 → own t (s.fld (CAN.TXSLOT.BUF.at (0x1000 * n.val + 4 * k.val))) = ownFree ∨ own t
    (s.fld (CAN.TXSLOT.BUF.at (0x1000 * n.val + 4 * k.val))) = ownReserve) ∧ t.station.mem = s.station.mem ∧ (∀ a, a < 0x1E0000 ∨ 0x200000 ≤ a → t.rd
    a = s.rd a) ∧ t.out = [] ∧ { t with reg := s.reg, out := s.out, station := s.station, freeCtr := s.freeCtr } = s) ∧
  (∀ (s : State) (p : Path) (n : Fin 4), s.regsWf → Reaches p (CAN.TXEVT_POP.addr + 0x1000 * n.val) s → s.station.cans.length = 4 → ∃ t, exec
    (.txevtPop p n) s = .next t ∧ (t.can n.val) = { (s.can n.val) with evts := (s.can n.val).evts.drop 1 } ∧ (∀ j : Fin 4, j ≠ n → t.can j.val = s.can
    j.val) ∧ t.station = { s.station with cans := t.station.cans } ∧ t.out = [] ∧ FieldsKept [] s t ∧
    { t with reg := s.reg, out := s.out, station := s.station } = s)

/-- A transmitter's error that makes TEC pass 255 (its counts by ISO 11898-1, log 160) is bus-off: the controller stops, raises BUS_OFF and holds every pending slot with its buffer owned; recovery starts at once with AUTO_REC, else by RECOVER, which is ignored while not bus-off. When it ends, TEC and REC are zero, the controller is error active, RECOVERED is raised, held slots are pending again, and with AUTO_REC the slot that was in its attempt is the first candidate. -/
def Obligations.CanBusOffAndRecovery : Prop :=
  (∀ (s : State) (n : Fin 4) (more : Nat), s.regsWf → s.flag (CAN.CTRL.EN.at (0x1000 * n.val)) = true → 255 < (s.fld (CAN.STAT.TEC.at (0x1000 *
    n.val))) + 8 * (1 + more) → (s.fld (CAN.STAT.STATE.at (0x1000 * n.val))) < 2 → inAttempt s n.val = none → s.station.cans.length = 4 → ∃ t, exec
    (.canBusOff n more) s = .next t ∧ t.fld (CAN.STAT.STATE.at (0x1000 * n.val)) = (if s.flag (CAN.CTRL.AUTO_REC.at (0x1000 * n.val)) then 3 else 2) ∧
    t.fld (CAN.STAT.TEC.at (0x1000 * n.val)) = min 511 ((s.fld (CAN.STAT.TEC.at (0x1000 * n.val))) + 8 * (1 + more)) ∧ bitAt (t.fld (CAN.INT.BITS.at
    (0x1000 * n.val))) 3 = true ∧ (∀ k : Fin 3, s.fld (CAN.TXSLOT.STATE.at (0x1000 * n.val + 4 * k.val)) = 1 → t.fld (CAN.TXSLOT.STATE.at (0x1000 *
    n.val + 4 * k.val)) = 3 ∧ t.fld (CAN.TXSLOT.BUF.at (0x1000 * n.val + 4 * k.val)) = s.fld (CAN.TXSLOT.BUF.at (0x1000 * n.val + 4 * k.val))) ∧ (∀ k
    : Fin 3, s.fld (CAN.TXSLOT.STATE.at (0x1000 * n.val + 4 * k.val)) = 0 → t.fld (CAN.TXSLOT.STATE.at (0x1000 * n.val + 4 * k.val)) = 0) ∧ (t.can
    n.val) = { (s.can n.val) with atOff := none } ∧ FieldsKept [(CAN.TXSLOT.STATE.at (0x1000 * n.val + 4 * 0)), (CAN.TXSLOT.STATE.at (0x1000 * n.val +
    4 * 1)), (CAN.TXSLOT.STATE.at (0x1000 * n.val + 4 * 2)), (CAN.STAT.STATE.at (0x1000 * n.val)), (CAN.STAT.TEC.at (0x1000 * n.val)),
    (CAN.STAT.WARN.at (0x1000 * n.val)), ⟨CAN.INT.addr + 0x1000 * n.val, 3, 1⟩, ⟨CAN.INT.addr + 0x1000 * n.val, 6, 1⟩] s t ∧
    { t with reg := s.reg, out := s.out, station := s.station } = s) ∧
  (∀ (s : State) (n : Fin 4) (more : Nat) (k : Fin 3), s.regsWf → s.flag (CAN.CTRL.EN.at (0x1000 * n.val)) = true → 255 < (s.fld (CAN.STAT.TEC.at
    (0x1000 * n.val))) + 8 * (1 + more) → (s.fld (CAN.STAT.STATE.at (0x1000 * n.val))) < 2 → inAttempt s n.val = some k.val → s.flag
    (CAN.CTRL.AUTO_REC.at (0x1000 * n.val)) = true → (s.can n.val).cancel.getD k.val false = false → (s.flag (CAN.CTRL.RETRY_EN.at (0x1000 * n.val)) =
    false ∨ (s.can n.val).tries.getD k.val 0 < s.fld (CAN.CTRL.RETRY.at (0x1000 * n.val))) → s.station.cans.length = 4 → ∃ t, exec (.canBusOff n more)
    s = .next t ∧ t.fld (CAN.STAT.STATE.at (0x1000 * n.val)) = 3 ∧ bitAt (t.fld (CAN.INT.BITS.at (0x1000 * n.val))) 3 = true ∧ t.fld
    (CAN.TXSLOT.STATE.at (0x1000 * n.val + 4 * k.val)) = 3 ∧ t.fld (CAN.TXSLOT.ATTEMPTS.at (0x1000 * n.val + 4 * k.val)) = min 15 ((s.can
    n.val).tries.getD k.val 0 + 1) ∧ t.fld (CAN.TXSLOT.BUF.at (0x1000 * n.val + 4 * k.val)) = s.fld (CAN.TXSLOT.BUF.at (0x1000 * n.val + 4 * k.val)) ∧
    (t.can n.val).atOff = some k.val ∧ FieldsKept [(CAN.TXSLOT.STATE.at (0x1000 * n.val + 4 * 0)), (CAN.TXSLOT.STATE.at (0x1000 * n.val + 4 * 1)),
    (CAN.TXSLOT.STATE.at (0x1000 * n.val + 4 * 2)), (CAN.TXSLOT.ATTEMPTS.at (0x1000 * n.val + 4 * k.val)), (CAN.STAT.STATE.at (0x1000 * n.val)),
    (CAN.STAT.TEC.at (0x1000 * n.val)), (CAN.STAT.WARN.at (0x1000 * n.val)), ⟨CAN.INT.addr + 0x1000 * n.val, 3, 1⟩, ⟨CAN.INT.addr + 0x1000 * n.val, 6,
    1⟩] s t ∧ { t with reg := s.reg, out := s.out, station := s.station } = s) ∧
  (∀ (s : State) (n : Fin 4) (more : Nat), s.regsWf → (s.flag (CAN.CTRL.EN.at (0x1000 * n.val)) = false ∨ 2 ≤ (s.fld (CAN.STAT.STATE.at (0x1000 *
    n.val))) ∨ (s.fld (CAN.STAT.TEC.at (0x1000 * n.val))) + 8 * (1 + more) ≤ 255) → ∃ t, exec (.canBusOff n more) s = .next t ∧ FieldsKept [] s t ∧
    { t with reg := s.reg, out := s.out } = s) ∧
  (∀ (s : State) (p : Path) (n : Fin 4), s.regsWf → Reaches p (CAN.CMD.addr + 0x1000 * n.val) s → (s.fld (CAN.STAT.STATE.at (0x1000 * n.val))) = 2 → ∃
    t, exec (.recover p n) s = .next t ∧ t.fld (CAN.STAT.STATE.at (0x1000 * n.val)) = 3 ∧ t.out = [] ∧ FieldsKept [(CAN.STAT.STATE.at (0x1000 *
    n.val))] s t ∧ { t with reg := s.reg, out := s.out } = s) ∧
  (∀ (s : State) (p : Path) (n : Fin 4), s.regsWf → Reaches p (CAN.CMD.addr + 0x1000 * n.val) s → (s.fld (CAN.STAT.STATE.at (0x1000 * n.val))) ≠ 2 → ∃
    t, exec (.recover p n) s = .next t ∧ t.out = [] ∧ FieldsKept [] s t ∧ { t with reg := s.reg, out := s.out } = s) ∧
  (∀ (s : State) (n : Fin 4), s.regsWf → (s.fld (CAN.STAT.STATE.at (0x1000 * n.val))) = 3 → s.station.cans.length = 4 → ∃ t, exec (.canRecoveryDone n)
    s = .next t ∧ t.rd (CAN.STAT.addr + 0x1000 * n.val) = 0 ∧ bitAt (t.fld (CAN.INT.BITS.at (0x1000 * n.val))) 4 = true ∧ (∀ k : Fin 3, t.fld
    (CAN.TXSLOT.STATE.at (0x1000 * n.val + 4 * k.val)) = (if s.fld (CAN.TXSLOT.STATE.at (0x1000 * n.val + 4 * k.val)) = 3 then 1 else s.fld
    (CAN.TXSLOT.STATE.at (0x1000 * n.val + 4 * k.val)))) ∧ (t.can n.val) = { (s.can n.val) with first := (s.can n.val).atOff, atOff := none } ∧
    FieldsKept [(CAN.TXSLOT.STATE.at (0x1000 * n.val + 4 * 0)), (CAN.TXSLOT.STATE.at (0x1000 * n.val + 4 * 1)), (CAN.TXSLOT.STATE.at (0x1000 * n.val +
    4 * 2)), ⟨CAN.STAT.addr + 0x1000 * n.val, 0, 32⟩, ⟨CAN.INT.addr + 0x1000 * n.val, 4, 1⟩] s t ∧
    { t with reg := s.reg, out := s.out, station := s.station } = s)

/-- A frame whose first matching filter targets the FIFO fills the reserve, which joins the FIFO, with RX set; without a reserve, or with the FIFO full, it is dropped and counted; one that matches none is discarded, and every received frame is written to the reserve; a mailbox filter writes its buffer, with SEQ up by one, ND and RX_MB set, and keeps the reserve. Enabling a mailbox filter takes its host-owned buffer. A pop gives the head to the host. ALLOC returns the lowest free buffer; FREE frees a host-owned one and else only sets FREE_ERR; ND_CLR clears ND only with the buffer's SEQ; TS_SNAP captures both clocks at one edge. Error counts on receive, the value an error passive receiver comes down to (a constant of the die) and FD frames without FD_EN are log 160's. -/
def Obligations.CanFramesReachFifoOrMailbox : Prop :=
  (∀ (s : State) (n : Fin 4) (o : CanObs) (b j : Nat), s.regsWf → s.flag (CAN.CTRL.EN.at (0x1000 * n.val)) = true → (s.fld (CAN.STAT.STATE.at (0x1000
    * n.val))) < 2 → canLoopback s n.val = false → s.station.cans.length = 4 → o.pxe = false → o.err = false → (bitAt o.ident 31 = false ∨ s.flag
    (CAN.CTRL.FD_EN.at (0x1000 * n.val)) = true) → Memory.wf s.station.mem = true → (s.can n.val).reserve = some b → b < 512 → filterFor s n.val
    o.ident = some j → s.flag (CAN.FTGT.MB.at (0x1000 * n.val + 0x10 * j)) = false → (s.can n.val).fifo.length < 64 → ∃ t, exec (.canFrameRx n o) s =
    .next t ∧ (t.can n.val).fifo = (s.can n.val).fifo ++ [b] ∧ own t b = ownFifo ∧ t.fld (SLT.META.CTRL.at (4 * (b))) = n.val ∧ bitAt (t.fld
    (CAN.INT.BITS.at (0x1000 * n.val))) 0 = true ∧ (∀ a, a < 0x1E0000 ∨ 0x200000 ≤ a → t.rd a = s.rd a) ∧ stRead t (siltAt b) 4 = leBytes 4 o.ident ∧
    t.fld (SLT.META.DLC.at (4 * (b))) = o.dlc % 16 ∧ t.fld (SLT.META.FILTER.at (4 * (b))) = j % 32 ∧ (∀ a, a < siltAt b ∨ siltAt b + 72 ≤ a → memGet
    t.station.mem a = memGet s.station.mem a) ∧ { t with reg := s.reg, out := s.out, station := s.station } = s) ∧
  (∀ (s : State) (n : Fin 4) (o : CanObs), s.regsWf → s.flag (CAN.CTRL.EN.at (0x1000 * n.val)) = true → (s.fld (CAN.STAT.STATE.at (0x1000 * n.val))) <
    2 → canLoopback s n.val = false → s.station.cans.length = 4 → o.pxe = false → o.err = false → (bitAt o.ident 31 = false ∨ s.flag
    (CAN.CTRL.FD_EN.at (0x1000 * n.val)) = true) → (s.can n.val).reserve = none → filterFor s n.val o.ident ≠ none → ∃ t, exec (.canFrameRx n o) s =
    .next t ∧ t.fld (CAN.CNT.NOBUF.at (0x1000 * n.val)) = min (s.fld (CAN.CNT.NOBUF.at (0x1000 * n.val)) + 1) 65535 ∧ bitAt (t.fld (CAN.INT.BITS.at
    (0x1000 * n.val))) 7 = true ∧ (t.can n.val).fifo = (s.can n.val).fifo ∧ t.station.mem = s.station.mem ∧ (∀ a, a < 0x1E0000 ∨ 0x200000 ≤ a → t.rd a
    = s.rd a) ∧ { t with reg := s.reg, out := s.out, station := s.station } = s) ∧
  (∀ (s : State) (n : Fin 4) (o : CanObs) (b j : Nat), s.regsWf → s.flag (CAN.CTRL.EN.at (0x1000 * n.val)) = true → (s.fld (CAN.STAT.STATE.at (0x1000
    * n.val))) < 2 → canLoopback s n.val = false → s.station.cans.length = 4 → o.pxe = false → o.err = false → (bitAt o.ident 31 = false ∨ s.flag
    (CAN.CTRL.FD_EN.at (0x1000 * n.val)) = true) → Memory.wf s.station.mem = true → (s.can n.val).reserve = some b → filterFor s n.val o.ident = some
    j → s.flag (CAN.FTGT.MB.at (0x1000 * n.val + 0x10 * j)) = false → 64 ≤ (s.can n.val).fifo.length → ∃ t, exec (.canFrameRx n o) s = .next t ∧ t.fld
    (CAN.CNT.FIFO_FULL.at (0x1000 * n.val)) = min (s.fld (CAN.CNT.FIFO_FULL.at (0x1000 * n.val)) + 1) 65535 ∧ bitAt (t.fld (CAN.INT.BITS.at (0x1000 *
    n.val))) 7 = true ∧ t.station.cans = s.station.cans ∧ stRead t (siltAt b) 4 = leBytes 4 o.ident ∧ (∀ a, a < siltAt b ∨ siltAt b + 72 ≤ a → memGet
    t.station.mem a = memGet s.station.mem a) ∧ FieldsKept [(CAN.STAT.TEC.at (0x1000 * n.val)), (CAN.STAT.REC.at (0x1000 * n.val)), (CAN.STAT.WARN.at
    (0x1000 * n.val)), (CAN.STAT.STATE.at (0x1000 * n.val)), ⟨CAN.INT.addr + 0x1000 * n.val, 5, 1⟩, ⟨CAN.INT.addr + 0x1000 * n.val, 6, 1⟩,
    (CAN.CNT.FIFO_FULL.at (0x1000 * n.val)), ⟨CAN.INT.addr + 0x1000 * n.val, 7, 1⟩, (SLT.META.DLC.at (4 * (b))), (SLT.META.BRS.at (4 * (b))),
    (SLT.META.ESI.at (4 * (b)))] s t ∧ { t with reg := s.reg, out := s.out, station := s.station } = s) ∧
  (∀ (s : State) (n : Fin 4) (o : CanObs), s.regsWf → s.flag (CAN.CTRL.EN.at (0x1000 * n.val)) = true → (s.fld (CAN.STAT.STATE.at (0x1000 * n.val))) <
    2 → canLoopback s n.val = false → s.station.cans.length = 4 → o.pxe = false → (bitAt o.ident 31 = false ∨ s.flag (CAN.CTRL.FD_EN.at (0x1000 *
    n.val)) = true) → o.err = true → ∃ t, exec (.canFrameRx n o) s = .next t ∧ t.fld (CAN.STAT.TEC.at (0x1000 * n.val)) = (s.fld (CAN.STAT.TEC.at
    (0x1000 * n.val))) ∧ t.fld (CAN.STAT.REC.at (0x1000 * n.val)) = (if (s.fld (CAN.CTRL.MODE.at (0x1000 * n.val))) = 1 then (s.fld (CAN.STAT.REC.at
    (0x1000 * n.val))) else min 255 ((s.fld (CAN.STAT.REC.at (0x1000 * n.val))) + 1 + 8 * o.more)) ∧ FieldsKept [(CAN.STAT.TEC.at (0x1000 * n.val)),
    (CAN.STAT.REC.at (0x1000 * n.val)), (CAN.STAT.WARN.at (0x1000 * n.val)), (CAN.STAT.STATE.at (0x1000 * n.val)), ⟨CAN.INT.addr + 0x1000 * n.val, 5,
    1⟩, ⟨CAN.INT.addr + 0x1000 * n.val, 6, 1⟩] s t ∧ { t with reg := s.reg, out := s.out } = s) ∧
  (∀ (s : State) (n : Fin 4) (o : CanObs), s.regsWf → s.flag (CAN.CTRL.EN.at (0x1000 * n.val)) = true → (s.fld (CAN.STAT.STATE.at (0x1000 * n.val))) <
    2 → canLoopback s n.val = false → s.station.cans.length = 4 → (o.pxe = true ∨ (bitAt o.ident 31 = true ∧ s.flag (CAN.CTRL.FD_EN.at (0x1000 *
    n.val)) = false)) → s.flag (CAN.CTRL.PXHD.at (0x1000 * n.val)) = false → ∃ t, exec (.canFrameRx n o) s = .next t ∧ bitAt (t.fld (CAN.INT.BITS.at
    (0x1000 * n.val))) 9 = true ∧ FieldsKept [⟨CAN.INT.addr + 0x1000 * n.val, 9, 1⟩] s t ∧ { t with reg := s.reg, out := s.out } = s) ∧
  (∀ (s : State) (n : Fin 4) (o : CanObs), s.regsWf → s.flag (CAN.CTRL.EN.at (0x1000 * n.val)) = true → (s.fld (CAN.STAT.STATE.at (0x1000 * n.val))) <
    2 → canLoopback s n.val = false → s.station.cans.length = 4 → (o.pxe = true ∨ (bitAt o.ident 31 = true ∧ s.flag (CAN.CTRL.FD_EN.at (0x1000 *
    n.val)) = false)) → s.flag (CAN.CTRL.PXHD.at (0x1000 * n.val)) = true → ∃ t, exec (.canFrameRx n o) s = .next t ∧ t.fld (CAN.STAT.TEC.at (0x1000 *
    n.val)) = (s.fld (CAN.STAT.TEC.at (0x1000 * n.val))) ∧ t.fld (CAN.STAT.REC.at (0x1000 * n.val)) = (if (s.fld (CAN.CTRL.MODE.at (0x1000 * n.val)))
    = 1 then (s.fld (CAN.STAT.REC.at (0x1000 * n.val))) else min 255 ((s.fld (CAN.STAT.REC.at (0x1000 * n.val))) + 1 + 8 * o.more)) ∧ FieldsKept
    [(CAN.STAT.TEC.at (0x1000 * n.val)), (CAN.STAT.REC.at (0x1000 * n.val)), (CAN.STAT.WARN.at (0x1000 * n.val)), (CAN.STAT.STATE.at (0x1000 *
    n.val)), ⟨CAN.INT.addr + 0x1000 * n.val, 5, 1⟩, ⟨CAN.INT.addr + 0x1000 * n.val, 6, 1⟩] s t ∧ { t with reg := s.reg, out := s.out } = s) ∧
  (∀ (s : State) (n : Fin 4) (o : CanObs), s.regsWf → (s.flag (CAN.CTRL.EN.at (0x1000 * n.val)) = false ∨ 2 ≤ (s.fld (CAN.STAT.STATE.at (0x1000 *
    n.val))) ∨ canLoopback s n.val = true) → ∃ t, exec (.canFrameRx n o) s = .next t ∧ FieldsKept [] s t ∧ { t with reg := s.reg, out := s.out } = s) ∧
  (∀ (s : State) (n : Fin 4) (o : CanObs), s.regsWf → s.flag (CAN.CTRL.EN.at (0x1000 * n.val)) = true → (s.fld (CAN.STAT.STATE.at (0x1000 * n.val))) <
    2 → canLoopback s n.val = false → s.station.cans.length = 4 → o.pxe = false → o.err = false → (bitAt o.ident 31 = false ∨ s.flag
    (CAN.CTRL.FD_EN.at (0x1000 * n.val)) = true) → (s.can n.val).reserve = none → filterFor s n.val o.ident = none → ∃ t, exec (.canFrameRx n o) s =
    .next t ∧ t.fld (CAN.STAT.TEC.at (0x1000 * n.val)) = (s.fld (CAN.STAT.TEC.at (0x1000 * n.val))) ∧ t.fld (CAN.STAT.REC.at (0x1000 * n.val)) = (if
    (s.fld (CAN.CTRL.MODE.at (0x1000 * n.val))) = 1 then (s.fld (CAN.STAT.REC.at (0x1000 * n.val))) else if (s.fld (CAN.STAT.REC.at (0x1000 * n.val)))
    ≤ 127 then (s.fld (CAN.STAT.REC.at (0x1000 * n.val))) - 1 else 119 + Config.die 466 % 9) ∧ FieldsKept [(CAN.STAT.TEC.at (0x1000 * n.val)),
    (CAN.STAT.REC.at (0x1000 * n.val)), (CAN.STAT.WARN.at (0x1000 * n.val)), (CAN.STAT.STATE.at (0x1000 * n.val)), ⟨CAN.INT.addr + 0x1000 * n.val, 5,
    1⟩, ⟨CAN.INT.addr + 0x1000 * n.val, 6, 1⟩] s t ∧ { t with reg := s.reg, out := s.out } = s) ∧
  (∀ (s : State) (n : Fin 4) (o : CanObs) (b : Nat), s.regsWf → s.flag (CAN.CTRL.EN.at (0x1000 * n.val)) = true → (s.fld (CAN.STAT.STATE.at (0x1000 *
    n.val))) < 2 → canLoopback s n.val = false → s.station.cans.length = 4 → o.pxe = false → o.err = false → (bitAt o.ident 31 = false ∨ s.flag
    (CAN.CTRL.FD_EN.at (0x1000 * n.val)) = true) → Memory.wf s.station.mem = true → (s.can n.val).reserve = some b → filterFor s n.val o.ident = none
    → ∃ t, exec (.canFrameRx n o) s = .next t ∧ t.fld (CAN.STAT.TEC.at (0x1000 * n.val)) = (s.fld (CAN.STAT.TEC.at (0x1000 * n.val))) ∧ t.fld
    (CAN.STAT.REC.at (0x1000 * n.val)) = (if (s.fld (CAN.CTRL.MODE.at (0x1000 * n.val))) = 1 then (s.fld (CAN.STAT.REC.at (0x1000 * n.val))) else if
    (s.fld (CAN.STAT.REC.at (0x1000 * n.val))) ≤ 127 then (s.fld (CAN.STAT.REC.at (0x1000 * n.val))) - 1 else 119 + Config.die 466 % 9) ∧
    t.station.cans = s.station.cans ∧ stRead t (siltAt b) 4 = leBytes 4 o.ident ∧ (∀ a, a < siltAt b ∨ siltAt b + 72 ≤ a → memGet t.station.mem a =
    memGet s.station.mem a) ∧ FieldsKept [(CAN.STAT.TEC.at (0x1000 * n.val)), (CAN.STAT.REC.at (0x1000 * n.val)), (CAN.STAT.WARN.at (0x1000 * n.val)),
    (CAN.STAT.STATE.at (0x1000 * n.val)), ⟨CAN.INT.addr + 0x1000 * n.val, 5, 1⟩, ⟨CAN.INT.addr + 0x1000 * n.val, 6, 1⟩, (SLT.META.DLC.at (4 * (b))),
    (SLT.META.BRS.at (4 * (b))), (SLT.META.ESI.at (4 * (b)))] s t ∧ { t with reg := s.reg, out := s.out, station := s.station } = s) ∧
  (∀ (s : State) (n : Fin 4) (o : CanObs) (b j : Nat), s.regsWf → s.flag (CAN.CTRL.EN.at (0x1000 * n.val)) = true → (s.fld (CAN.STAT.STATE.at (0x1000
    * n.val))) < 2 → canLoopback s n.val = false → s.station.cans.length = 4 → o.pxe = false → o.err = false → (bitAt o.ident 31 = false ∨ s.flag
    (CAN.CTRL.FD_EN.at (0x1000 * n.val)) = true) → Memory.wf s.station.mem = true → (s.can n.val).reserve = some b → filterFor s n.val o.ident = some
    j → s.flag (CAN.FTGT.MB.at (0x1000 * n.val + 0x10 * j)) = true → ∃ t, exec (.canFrameRx n o) s = .next t ∧ t.fld (SLT.META.SEQ.at (4 * ((s.fld
    (CAN.FTGT.BUF.at (0x1000 * n.val + 0x10 * j)))))) = (s.fld (SLT.META.SEQ.at (4 * ((s.fld (CAN.FTGT.BUF.at (0x1000 * n.val + 0x10 * j)))))) + 1) %
    16 ∧ t.flag (SLT.META.ND.at (4 * ((s.fld (CAN.FTGT.BUF.at (0x1000 * n.val + 0x10 * j)))))) = true ∧ bitAt (t.fld (CAN.INT.BITS.at (0x1000 *
    n.val))) 1 = true ∧ t.station.cans = s.station.cans ∧ stRead t (siltAt (s.fld (CAN.FTGT.BUF.at (0x1000 * n.val + 0x10 * j)))) 4 = leBytes 4
    o.ident ∧ t.fld (SLT.META.DLC.at (4 * ((s.fld (CAN.FTGT.BUF.at (0x1000 * n.val + 0x10 * j)))))) = o.dlc % 16 ∧ t.fld (SLT.META.FILTER.at (4 *
    ((s.fld (CAN.FTGT.BUF.at (0x1000 * n.val + 0x10 * j)))))) = j % 32 ∧ (∀ a, (a < siltAt (s.fld (CAN.FTGT.BUF.at (0x1000 * n.val + 0x10 * j))) ∨
    siltAt (s.fld (CAN.FTGT.BUF.at (0x1000 * n.val + 0x10 * j))) + 72 ≤ a) → (a < siltAt b ∨ siltAt b + 72 ≤ a) → memGet t.station.mem a = memGet
    s.station.mem a) ∧ FieldsKept [(CAN.STAT.TEC.at (0x1000 * n.val)), (CAN.STAT.REC.at (0x1000 * n.val)), (CAN.STAT.WARN.at (0x1000 * n.val)),
    (CAN.STAT.STATE.at (0x1000 * n.val)), ⟨CAN.INT.addr + 0x1000 * n.val, 5, 1⟩, ⟨CAN.INT.addr + 0x1000 * n.val, 6, 1⟩, ⟨CAN.INT.addr + 0x1000 *
    n.val, 1, 1⟩, (SLT.META.DLC.at (4 * (b))), (SLT.META.BRS.at (4 * (b))), (SLT.META.ESI.at (4 * (b))), (SLT.META.DLC.at (4 * ((s.fld
    (CAN.FTGT.BUF.at (0x1000 * n.val + 0x10 * j)))))), (SLT.META.BRS.at (4 * ((s.fld (CAN.FTGT.BUF.at (0x1000 * n.val + 0x10 * j)))))),
    (SLT.META.ESI.at (4 * ((s.fld (CAN.FTGT.BUF.at (0x1000 * n.val + 0x10 * j)))))), (SLT.META.FILTER.at (4 * ((s.fld (CAN.FTGT.BUF.at (0x1000 * n.val
    + 0x10 * j)))))), (SLT.META.SEQ.at (4 * ((s.fld (CAN.FTGT.BUF.at (0x1000 * n.val + 0x10 * j)))))), (SLT.META.ND.at (4 * ((s.fld (CAN.FTGT.BUF.at
    (0x1000 * n.val + 0x10 * j))))))] s t ∧ { t with reg := s.reg, out := s.out, station := s.station } = s) ∧
  (∀ (s : State) (p : Path) (n : Fin 4) (j : Fin 32) (part : Fin 3) (w : W32), s.regsWf → Reaches p (CAN.FID.addr + 0x1000 * n.val + 0x10 * j.val + 4
    * part.val) s → (part = 1 ∨ (part = 2 ∧ s.flag (CAN.FID.EN.at (0x1000 * n.val + 0x10 * j.val)) = false) ∨ (part = 0 ∧ (s.flag (CAN.FTGT.MB.at
    (0x1000 * n.val + 0x10 * j.val)) = false ∨ (s.flag (CAN.FID.EN.at (0x1000 * n.val + 0x10 * j.val)) = true ∧ bitAt w.toNat 31 = true)))) → ∃ t,
    exec (.canFilterWrite p n j part w) s = .next t ∧ (part = 0 → t.flag (CAN.FID.EN.at (0x1000 * n.val + 0x10 * j.val)) = bitAt w.toNat 31 ∧ t.fld
    (CAN.FID.ID.at (0x1000 * n.val + 0x10 * j.val)) = w.toNat % 2 ^ 29) ∧ (part = 1 → t.fld (CAN.FMASK.MASK.at (0x1000 * n.val + 0x10 * j.val)) =
    w.toNat % 2 ^ 29) ∧ (part = 2 → t.flag (CAN.FTGT.MB.at (0x1000 * n.val + 0x10 * j.val)) = bitAt w.toNat 31 ∧ t.fld (CAN.FTGT.BUF.at (0x1000 *
    n.val + 0x10 * j.val)) = w.toNat % 512) ∧ t.out = [] ∧ FieldsKept [⟨(CAN.FID.addr + 0x1000 * n.val + 0x10 * j.val + 4 * part.val), 0, 32⟩] s t ∧
    { t with reg := s.reg, out := s.out } = s) ∧
  (∀ (s : State) (n : Fin 4) (j : Fin 32) (w : W32), s.regsWf → Reaches .pcie (CAN.FID.addr + 0x1000 * n.val + 0x10 * j.val + 4 * (2 : Fin 3).val) s →
    s.flag (CAN.FID.EN.at (0x1000 * n.val + 0x10 * j.val)) = true → s.flag HST.AERR.VALID = false → ∃ t, exec (.canFilterWrite .pcie n j 2 w) s =
    .next t ∧ t.rd HST.AERR.addr = 2 ^ 31 + 6 ∧ t.rd HST.AERR_ADDR.addr = (CAN.FID.addr + 0x1000 * n.val + 0x10 * j.val + 4 * (2 : Fin 3).val) ∧ t.out
    = [] ∧ FieldsKept [⟨HST.AERR.addr, 0, 32⟩, ⟨HST.AERR_ADDR.addr, 0, 32⟩] s t ∧ { t with reg := s.reg, out := s.out } = s) ∧
  (∀ (s : State) (p : Path) (n : Fin 4) (j : Fin 32) (w : W32), s.regsWf → Reaches p (CAN.FID.addr + 0x1000 * n.val + 0x10 * j.val + 4 * (0 : Fin
    3).val) s → s.flag (CAN.FID.EN.at (0x1000 * n.val + 0x10 * j.val)) = false → s.flag (CAN.FTGT.MB.at (0x1000 * n.val + 0x10 * j.val)) = true →
    bitAt w.toNat 31 = true → own s (s.fld (CAN.FTGT.BUF.at (0x1000 * n.val + 0x10 * j.val))) = ownHost → belowQuota s n.val = true → ∃ t, exec
    (.canFilterWrite p n j 0 w) s = .next t ∧ own t (s.fld (CAN.FTGT.BUF.at (0x1000 * n.val + 0x10 * j.val))) = ownMailbox ∧ t.fld (SLT.META.CTRL.at
    (4 * ((s.fld (CAN.FTGT.BUF.at (0x1000 * n.val + 0x10 * j.val)))))) = n.val ∧ t.flag (CAN.FID.EN.at (0x1000 * n.val + 0x10 * j.val)) = true ∧ t.out
    = [] ∧ FieldsKept [⟨(CAN.FID.addr + 0x1000 * n.val + 0x10 * j.val + 4 * (0 : Fin 3).val), 0, 32⟩, (SLT.META.OWNER.at (4 * ((s.fld (CAN.FTGT.BUF.at
    (0x1000 * n.val + 0x10 * j.val)))))), (SLT.META.CTRL.at (4 * ((s.fld (CAN.FTGT.BUF.at (0x1000 * n.val + 0x10 * j.val)))))), SLT.EVT.BOOKS] s t ∧
    { t with reg := s.reg, out := s.out } = s) ∧
  (∀ (s : State) (n : Fin 4) (j : Fin 32) (w : W32), s.regsWf → Reaches .pcie (CAN.FID.addr + 0x1000 * n.val + 0x10 * j.val + 4 * (0 : Fin 3).val) s →
    s.flag (CAN.FID.EN.at (0x1000 * n.val + 0x10 * j.val)) = false → s.flag (CAN.FTGT.MB.at (0x1000 * n.val + 0x10 * j.val)) = true → bitAt w.toNat 31
    = true → (own s (s.fld (CAN.FTGT.BUF.at (0x1000 * n.val + 0x10 * j.val))) ≠ ownHost ∨ belowQuota s n.val = false) → s.flag HST.AERR.VALID = false
    → ∃ t, exec (.canFilterWrite .pcie n j 0 w) s = .next t ∧ t.rd HST.AERR.addr = 2 ^ 31 + 6 ∧ t.rd HST.AERR_ADDR.addr = (CAN.FID.addr + 0x1000 *
    n.val + 0x10 * j.val + 4 * (0 : Fin 3).val) ∧ t.out = [] ∧ FieldsKept [⟨HST.AERR.addr, 0, 32⟩, ⟨HST.AERR_ADDR.addr, 0, 32⟩] s t ∧
    { t with reg := s.reg, out := s.out } = s) ∧
  (∀ (s : State) (p : Path) (n : Fin 4) (j : Fin 32) (w : W32), s.regsWf → Reaches p (CAN.FID.addr + 0x1000 * n.val + 0x10 * j.val + 4 * (0 : Fin
    3).val) s → s.flag (CAN.FID.EN.at (0x1000 * n.val + 0x10 * j.val)) = true → s.flag (CAN.FTGT.MB.at (0x1000 * n.val + 0x10 * j.val)) = true → bitAt
    w.toNat 31 = false → own s (s.fld (CAN.FTGT.BUF.at (0x1000 * n.val + 0x10 * j.val))) = ownMailbox → s.station.cans.length = 4 → ∃ t, exec
    (.canFilterWrite p n j 0 w) s = .next t ∧ own t (s.fld (CAN.FTGT.BUF.at (0x1000 * n.val + 0x10 * j.val))) = ownHost ∧ t.flag (CAN.FID.EN.at
    (0x1000 * n.val + 0x10 * j.val)) = false ∧ t.station.mem = s.station.mem ∧ (∀ a, a < 0x1E0000 ∨ 0x200000 ≤ a → t.rd a = s.rd a) ∧ t.out = [] ∧
    { t with reg := s.reg, out := s.out, station := s.station } = s) ∧
  (∀ (s : State) (p : Path) (n : Fin 4) (b : Nat) (bs : List Nat), s.regsWf → Reaches p (CAN.RXPOP.addr + 0x1000 * n.val) s → (s.can n.val).fifo = b
    :: bs → b < 512 → s.station.cans.length = 4 → ∃ t, exec (.rxpop p n) s = .next t ∧ (t.can n.val).fifo = bs ∧ own t b = ownHost ∧ t.station.mem =
    s.station.mem ∧ (∀ a, a < 0x1E0000 ∨ 0x200000 ≤ a → t.rd a = s.rd a) ∧ t.out = [] ∧ { t with reg := s.reg, out := s.out, station := s.station } =
    s) ∧
  (∀ (s : State) (p : Path) (dt ticks : Nat), s.regsWf → Reaches p CAN.TS_SNAP.addr s → ∃ t, exec (.tsSnap p dt ticks) s = .next t ∧ t.fld
    CAN.SNAP_TS.TS = canTime s dt ∧ t.fld CAN.SNAP_NS.NS = ptpNs (ptpAt s ticks) ∧ t.fld CAN.SNAP_SEC_LO.SEC = ptpSec (ptpAt s ticks) % 2 ^ 32 ∧ t.fld
    CAN.SNAP_SEC_HI.SEC = ptpSec (ptpAt s ticks) / 2 ^ 32 ∧ t.out = [] ∧ FieldsKept [CAN.SNAP_TS.TS, CAN.SNAP_NS.NS, CAN.SNAP_SEC_LO.SEC,
    CAN.SNAP_SEC_HI.SEC] s t ∧ { t with reg := s.reg, out := s.out } = s) ∧
  (∀ (s : State) (p : Path) (be : Fin 16) (b : Fin 512), s.regsWf → Reaches p SLT.ALLOC.addr s → readEnables p be.val ≠ 0 → own s b.val = ownFree → (∀
    j : Fin 512, j.val < b.val → own s j.val ≠ ownFree) → ∃ t, exec (.sltAlloc p be) s = .next t ∧ own t b.val = ownHost ∧ ((∀ b : Fin 512, own s
    b.val ≤ 6) → t.flag SLT.EVT.BOOKS = s.flag SLT.EVT.BOOKS) ∧ t.out = [.word (mergeBytes (readEnables p be.val) (2 ^ 31 + b.val) 0)] ∧ FieldsKept
    [(SLT.META.OWNER.at (4 * (b.val))), (SLT.META.CTRL.at (4 * (b.val))), SLT.EVT.BOOKS] s t ∧ { t with reg := s.reg, out := s.out } = s) ∧
  (∀ (s : State) (p : Path) (be : Fin 16), s.regsWf → Reaches p SLT.ALLOC.addr s → readEnables p be.val ≠ 0 → (∀ j : Fin 512, own s j.val ≠ ownFree) →
    ∃ t, exec (.sltAlloc p be) s = .next t ∧ t.flag SLT.EVT.ALLOC_FAIL = true ∧ t.out = [.word (mergeBytes (readEnables p be.val) 0 0)] ∧ FieldsKept
    [SLT.EVT.ALLOC_FAIL] s t ∧ { t with reg := s.reg, out := s.out } = s) ∧
  (∀ (s : State) (p : Path) (b : Fin 512), s.regsWf → Reaches p SLT.FREE.addr s → own s b.val = ownHost → s.station.cans.length = 4 → ∃ t, exec
    (.sltFree p b) s = .next t ∧ (own t b.val = ownFree ∨ own t b.val = ownReserve) ∧ t.station.mem = s.station.mem ∧ (∀ a, a < 0x1E0000 ∨ 0x200000 ≤
    a → t.rd a = s.rd a) ∧ t.out = [] ∧ { t with reg := s.reg, out := s.out, station := s.station } = s) ∧
  (∀ (s : State) (p : Path) (b : Fin 512), s.regsWf → Reaches p SLT.FREE.addr s → own s b.val ≠ ownHost → ∃ t, exec (.sltFree p b) s = .next t ∧
    t.flag SLT.EVT.FREE_ERR = true ∧ t.out = [] ∧ FieldsKept [SLT.EVT.FREE_ERR] s t ∧ { t with reg := s.reg, out := s.out } = s) ∧
  (∀ (s : State) (p : Path) (b : Fin 512) (q : Fin 16), s.regsWf → Reaches p SLT.ND_CLR.addr s → ∃ t, exec (.ndClr p b q) s = .next t ∧ t.flag
    (SLT.META.ND.at (4 * (b.val))) = (s.flag (SLT.META.ND.at (4 * (b.val))) && !decide (s.fld (SLT.META.SEQ.at (4 * (b.val))) = q.val)) ∧ t.out = [] ∧
    FieldsKept [(SLT.META.ND.at (4 * (b.val)))] s t ∧ { t with reg := s.reg, out := s.out } = s)

/-- A register write to a gated clod, or to one held in reset, is discarded with cause 2; when an error is already held only COUNT rises, saturating. While the converter is deblocked a CLOD_PWR write that would gate an acquisition core that feeds a named input, or the station clod while discipline uses PTP, a QUAD_PWR write that would gate a quad with an admitted cell, and a PERIOD_CFG write that would change TC, OUTER_KM1 or SYNC_MODE are discarded with cause 3; one that leaves those three is accepted. -/
def Obligations.AccessErrorsLeaveTheBlockUntouched : Prop :=
  (∀ (s : State) (p : Path) (word : Fin 8388608) (be : Fin 16) (w : W32) (dt ticks : Nat), s.regsWf → p ≠ .mgmt → s.isCell = false → answerAt (4 *
    word.val) s = .gated → be ≠ 0 → s.flag HST.AERR.VALID = false → ∃ t, exec (.registerWrite p word be w dt ticks) s = .next t ∧ t.rd HST.AERR.addr =
    2 ^ 31 + (if p = .spi then 16 else 0) + 2 ∧ t.rd HST.AERR_ADDR.addr = 4 * word.val ∧ t.out = [] ∧ FieldsKept [⟨HST.AERR.addr, 0, 32⟩,
    ⟨HST.AERR_ADDR.addr, 0, 32⟩] s t ∧ { t with reg := s.reg, out := s.out } = s) ∧
  (∀ (s : State) (p : Path) (word : Fin 8388608) (be : Fin 16) (w : W32) (dt ticks : Nat), s.regsWf → p ≠ .mgmt → s.isCell = false → answerAt (4 *
    word.val) s = .gated → be ≠ 0 → s.flag HST.AERR.VALID = true → ∃ t, exec (.registerWrite p word be w dt ticks) s = .next t ∧ t.fld HST.AERR.COUNT
    = min (s.fld HST.AERR.COUNT + 1) 255 ∧ t.out = [] ∧ FieldsKept [HST.AERR.COUNT] s t ∧ { t with reg := s.reg, out := s.out } = s) ∧
  (∀ (s : State) (w : W32) (i : Fin 32), s.regsWf → Reaches .pcie SYS.CLOD_PWR.addr s → s.isCell = false → s.blocked = false → s.flag HST.AERR.VALID =
    false → i.val ∈ graphInputs s.img.graph → bitAt (s.fld SYS.CLOD_PWR.ACQ_EN) (i.val / 8) = true → bitAt w.toNat (i.val / 8) = false → ∃ t, exec
    (.clodGateWrite .pcie false w) s = .next t ∧ t.rd HST.AERR.addr = 2 ^ 31 + 3 ∧ t.rd HST.AERR_ADDR.addr = SYS.CLOD_PWR.addr ∧ t.out = [] ∧
    FieldsKept [⟨HST.AERR.addr, 0, 32⟩, ⟨HST.AERR_ADDR.addr, 0, 32⟩] s t ∧ { t with reg := s.reg, out := s.out } = s) ∧
  (∀ (s : State) (w : W32), s.regsWf → Reaches .pcie SYS.CLOD_PWR.addr s → s.isCell = false → s.blocked = false → s.flag HST.AERR.VALID = false →
    s.flag SYS.CLOD_PWR.STN_EN = true → bitAt w.toNat 4 = false → syncMode s = 1 → ∃ t, exec (.clodGateWrite .pcie false w) s = .next t ∧ t.rd
    HST.AERR.addr = 2 ^ 31 + 3 ∧ t.rd HST.AERR_ADDR.addr = SYS.CLOD_PWR.addr ∧ t.out = [] ∧ FieldsKept [⟨HST.AERR.addr, 0, 32⟩, ⟨HST.AERR_ADDR.addr,
    0, 32⟩] s t ∧ { t with reg := s.reg, out := s.out } = s) ∧
  (∀ (s : State) (w : W32) (l : Fin 128), s.regsWf → Reaches .pcie SYS.QUAD_PWR.addr s → s.isCell = false → s.blocked = false → s.flag HST.AERR.VALID
    = false → laneAdmitted s l.val = true → bitAt (s.fld SYS.QUAD_PWR.QUAD_EN) (l.val / 4) = true → bitAt w.toNat (l.val / 4) = false → ∃ t, exec
    (.clodGateWrite .pcie true w) s = .next t ∧ t.rd HST.AERR.addr = 2 ^ 31 + 3 ∧ t.rd HST.AERR_ADDR.addr = SYS.QUAD_PWR.addr ∧ t.out = [] ∧
    FieldsKept [⟨HST.AERR.addr, 0, 32⟩, ⟨HST.AERR_ADDR.addr, 0, 32⟩] s t ∧ { t with reg := s.reg, out := s.out } = s) ∧
  (∀ (s : State) (p : Path) (w : W32), s.regsWf → Reaches p SYS.QUAD_PWR.addr s → s.isCell = false → (s.fld SYS.QUAD_PWR.QUAD_EN &&& w.toNat) = s.fld
    SYS.QUAD_PWR.QUAD_EN → ∃ t, exec (.clodGateWrite p true w) s = .next t ∧ t.fld SYS.QUAD_PWR.QUAD_EN = w.toNat ∧ t.lanes = s.lanes ∧ t.out = [] ∧
    FieldsKept [SYS.QUAD_PWR.QUAD_EN, SYS.QUAD_STAT.QUAD_RDY] s t ∧ { t with reg := s.reg, out := s.out } = s) ∧
  (∀ (s : State) (w : W32), s.regsWf → Reaches .pcie SYS.PERIOD_CFG.addr s → s.isCell = false → s.blocked = false → s.flag HST.AERR.VALID = false →
    (s.rd SYS.PERIOD_CFG.addr &&& 0x33F03) ≠ (w.toNat &&& 0x33F03) → ∃ t, exec (.periodCfgWrite .pcie w) s = .next t ∧ t.rd HST.AERR.addr = 2 ^ 31 + 3
    ∧ t.rd HST.AERR_ADDR.addr = SYS.PERIOD_CFG.addr ∧ t.out = [] ∧ FieldsKept [⟨HST.AERR.addr, 0, 32⟩, ⟨HST.AERR_ADDR.addr, 0, 32⟩] s t ∧
    { t with reg := s.reg, out := s.out } = s) ∧
  (∀ (s : State) (p : Path) (w : W32), s.regsWf → Reaches p SYS.PERIOD_CFG.addr s → s.isCell = false → s.blocked = false → (s.rd SYS.PERIOD_CFG.addr
    &&& 0x33F03) = (w.toNat &&& 0x33F03) → ∃ t, exec (.periodCfgWrite p w) s = .next t ∧ t.fld SYS.PERIOD_CFG.SLEW_EXP = bitsAt w.toNat 20 4 ∧ t.out =
    [] ∧ FieldsKept [SYS.PERIOD_CFG.SLEW_EXP] s t ∧ { t with reg := s.reg, out := s.out } = s)

/-- For every command and state, the step with that command in front is exec of the command on the state with the rest of the queue. With no command waiting the step changes nothing (the model's design choice: logs 6 and 7). -/
def Obligations.StepRunsTheFrontCommandOrIdles : Prop :=
  (∀ (s : State) (i : Instr) (rest : List Instr), s.pending = i :: rest → step s = exec i { s with pending := rest }) ∧
  (∀ (s : State), s.pending = [] → step s = .next s)

/-- Every command of the table answers a next state from every state and leaves the commands that wait behind it as they are. Whatever it is, the Kaolin island keeps its totals, sets, records, commits and counters unless the command is one of the island's own (its supply, crystal time, pins, verification port, or the unseal command that crossed the seam): neither PORST_N, a clod reset, an image load nor a register write touches it. The Marl island likewise keeps its channels, sets, records and states: only a hand-over, a confirmation and telegrams stand at its seams. -/
def Obligations.OnlyTheirOwnCommandsReachTheIslands : Prop :=
  ∀ (i : Instr) (s : State), ∃ t, exec i s = .next t ∧ t.pending = s.pending ∧ (kaolinCommand i = false → s.KaolinKept t) ∧ (marlCommand i = false →
    s.MarlKept t)

/-- A register with a field map reads its reset word and any other reads 0; the converter is blocked; all 512 silt buffers are free with quotas of 128; TS_CFG divides by 80; the period counter and the queue are empty. The island values named here (Kaolin BLANK and unset, Marl UNCONFIGURED with safe block requested) and the powered islands are the values of log 2. The state is canonical. -/
def Obligations.ResetHoldsTheResetColumns : Prop :=
  (∀ (a : Nat), State.reset.rd a = (match regRow? a with | some r => r.reset % 2 ^ 32 | none => 0)) ∧
  (State.reset.blocked = true ∧ State.reset.freeCtr = 4 ∧ (∀ i : Fin 4, State.reset.marl.txSeq.getD i.val 0 = Config.free 121 i.val % 2 ^ 32) ∧ (∀ b :
    Fin 512, own State.reset b.val = ownFree) ∧ State.reset.rd SLT.QUOTA.addr = 0x80808080 ∧ State.reset.fld CAN.TS_CFG.PRESC = 79 ∧
    State.reset.period.pcnt = 0 ∧ State.reset.kao.live.state = 0 ∧ State.reset.marl.state = 0 ∧ State.reset.marl.a.sb = true ∧ State.reset.pending =
    [] ∧ State.reset.Canonical ∧ State.reset.Booked)

/-- From every canonical state, whatever command is in front, a step that answers a next state answers a canonical one: the register file lists rising addresses and no register at its reset word, and the station, strata and image memories list rising addresses and no zero byte. -/
def Obligations.EveryStepKeepsTheStateCanonical : Prop :=
  ∀ (s t : State), s.Canonical → step s = .next t → t.Canonical

/-- Each family keeps total and residue as one number of 2^−32 mWh, so E × 2^32 + R of R379 is imp, exp_ or net. If import less export equals net in the island and in both commit records, it does after every step, whatever command ran. A registering block end adds the three block sums exactly, and E_imp − E_exp − NET of whole mWh is 0 or 1. -/
def Obligations.KaolinBooksHoldAtEveryStep : Prop :=
  (∀ (s t : State), s.Booked → step s = .next t → t.Booked) ∧
  (∀ (s : State) (warn : Bool), s.regsWf → s.sys.vddm = true → s.kao.live.k = 3200 → s.kao.live.set ≠ [] → 3200 * setNat s.kao.live.set 0xC 4 ≤
    s.kao.live.abs1 → ∃ t, exec (.kaoBlockEnd warn) s = .next t ∧ t.kao.live.dc.imp = s.kao.live.dc.imp + s.kao.live.dc.sImp ∧ t.kao.live.dc.exp_ =
    s.kao.live.dc.exp_ + s.kao.live.dc.sExp ∧ t.kao.live.dc.net = s.kao.live.dc.net + s.kao.live.dc.sNet ∧ t.kao.live.dc.sImp = 0 ∧ t.kao.live.dc.sExp
    = 0 ∧ t.kao.live.dc.sNet = 0 ∧ FieldsKept [SYS.KAO_EVT.PEND] s t ∧ { t with reg := s.reg, out := s.out, kao := s.kao } = s) ∧
  (∀ (s : State) (warn : Bool), s.regsWf → s.sys.vddm = true → s.kao.live.k = 3200 → s.kao.live.set ≠ [] → 3200 * setNat s.kao.live.set 0x10 4 ^ 2 ≤
    max s.kao.live.sq3 s.kao.live.sq5 → ∃ t, exec (.kaoBlockEnd warn) s = .next t ∧ t.kao.live.ac.imp = s.kao.live.ac.imp + s.kao.live.ac.sImp ∧
    t.kao.live.ac.exp_ = s.kao.live.ac.exp_ + s.kao.live.ac.sExp ∧ t.kao.live.ac.net = s.kao.live.ac.net + s.kao.live.ac.sNet ∧ t.kao.live.ac.sImp = 0
    ∧ t.kao.live.ac.sExp = 0 ∧ t.kao.live.ac.sNet = 0 ∧ FieldsKept [SYS.KAO_EVT.PEND] s t ∧ { t with reg := s.reg, out := s.out, kao := s.kao } = s) ∧
  (∀ (f : KaoFam), f.Booked → ((f.imp / 2 ^ 32 : Nat) : Int) - (f.exp_ / 2 ^ 32 : Nat) - f.net / (2 ^ 32 : Nat) = 0 ∨ ((f.imp / 2 ^ 32 : Nat) : Int) -
    (f.exp_ / 2 ^ 32 : Nat) - f.net / (2 ^ 32 : Nat) = 1)

/-- A rank array in ascending order of K, then of cell index, is in that order after every insertion and removal; an inserted cell stands in it once, under its new key, and no other cell moves in or out. A cell that becomes excluded leaves through its arm's queue. Must-bypass cells are not eligible. Selection gives every eligible cell exactly one word: exactly one of them switches at the remainder edge if there is one and none otherwise, m of them (less the one that falls) are inserted for the whole period, and m is never more than the eligible cells. Modulation: a full bridge's level is v_ref × NEEDED within ±1,024; a negative reference of a half bridge gives level 0 and NEG_HB; the direction is that of p × i outside the dead band. -/
def Obligations.GradingOrdersAndSelects : Prop :=
  (∀ (r : List (Nat × Nat)) (op : RankOp), r.Pairwise (fun (x y : Nat × Nat) => rankBefore x y = true) → (rankApply r op).Pairwise (fun (x y : Nat ×
    Nat) => rankBefore x y = true)) ∧
  (∀ (r : List (Nat × Nat)) (cell key : Nat) (v : Int) (x : Nat × Nat), (x ∈ rankApply r (.insert cell key v) ↔ x = (key, cell) ∨ (x ∈ r ∧ x.2 ≠
    cell)) ∧ (x ∈ rankApply r (.remove cell) ↔ x ∈ r ∧ x.2 ≠ cell)) ∧
  (∀ (e : CtEntry) (i n : Nat) (report : Bool) (k : Copy), exclusion e (k.grade i) = some n → (k.grade i).ranked = true → ((settleCopy e i report
    k).arm e.cfg.arm).queue = (k.arm e.cfg.arm).queue ++ [.remove i] ∧ ((settleCopy e i report k).grade i).ranked = false) ∧
  (∀ (k : Copy) (a : Nat) (x : Cand), x ∈ eligible k a → (x.key, x.cell) ∈ (k.arm a).rank ∧ (k.grade x.cell).refresh ≠ .mustBypass) ∧
  (∀ (x : SelectIn) (n : Nat) (elig : List Cand) (ins : Nat → Bool), 0 < x.unit → 0 < x.t → 2 * x.unit ≤ x.tc → ((selectArm x n elig ins).cmds.map
    (fun (k : CellCmd) => k.cell)).Perm (elig.map (fun (k : Cand) => k.cell)) ∧ (selectArm x n elig ins).m ≤ elig.length ∧ (selectArm x n elig
    ins).cmds.countP (fun (k : CellCmd) => decide (k.toffs ≠ 0)) = (if (selectArm x n elig ins).edge = .none then 0 else 1) ∧ (selectArm x n elig
    ins).cmds.countP (fun (k : CellCmd) => decide (k.code = (if x.polNeg = true then 4 else 3) ∧ k.toffs = 0)) = (selectArm x n elig ins).m - (if
    (selectArm x n elig ins).edge = .falling then 1 else 0)) ∧
  (∀ (s : State) (a : Fin 6) (v : Int), s.regsWf → (s.img.arms.getD a.val {}).fullBridge = true → s.flag (MOD.ARM_CFG.NORM.at (modOff a.val)) = false
    → -(2 ^ 30) ≤ roundHA (v * (s.img.arms.getD a.val {}).needed * 2 ^ 20) (2 ^ 24) → roundHA (v * (s.img.arms.getD a.val {}).needed * 2 ^ 20) (2 ^
    24) ≤ 2 ^ 30 → (modArm v a.val s).sfld (MOD.ARM_LEVEL.L.at (modOff a.val)) = roundHA (v * (s.img.arms.getD a.val {}).needed * 2 ^ 20) (2 ^ 24) ∧
    (modArm v a.val s).flag (MOD.ARM_FLAG.SAT.at (modOff a.val)) = s.flag (MOD.ARM_FLAG.SAT.at (modOff a.val))) ∧
  (∀ (s : State) (a : Fin 6) (v : Int), s.regsWf → (s.img.arms.getD a.val {}).fullBridge = false → roundHA (v * (s.img.arms.getD a.val {}).needed * 2
    ^ 20) (2 ^ 24) < 0 → s.flag (MOD.ARM_CFG.NORM.at (modOff a.val)) = false → (modArm v a.val s).sfld (MOD.ARM_LEVEL.L.at (modOff a.val)) = 0 ∧
    (modArm v a.val s).flag (MOD.ARM_FLAG.NEG_HB.at (modOff a.val)) = true) ∧
  (∀ (s : State) (a : Fin 6) (v : Int), s.regsWf → (armLevel s s.cp a.val v).polNeg = false → ((s.fld (MOD.ARM_IDB.IDB.at (modOff a.val)) : Nat) :
    Int) < (armCurrent s a.val (fun (k : Nat) => s.eng.samples.getD k 0)).natAbs → (modArm v a.val s).flag (MOD.ARM_DIR.DIR.at (modOff a.val)) =
    decide (0 < armCurrent s a.val (fun (k : Nat) => s.eng.samples.getD k 0)) ∧ (modArm v a.val s).flag (MOD.ARM_DIR.HELD.at (modOff a.val)) = false)
end

