-- ==== Sys2Proof/Laws/Tables.lean ====
section
/-!
SUPPORT. Laws of the sparse tables and byte memories: a read after a write, and that every operation keeps the canonical form.
-/
namespace Sys2Proof.Machine

variable {α : Type} [DecidableEq α] (d : Nat → α)

/-- A weaker lower bound still bounds. -/
theorem tabWfFrom_mono {b c : Nat} {t : Tab α} (h : tabWfFrom d c t = true) (hbc : b ≤ c) : tabWfFrom d b t = true := by
  cases t with
  | nil => rfl
  | cons x t =>
    obtain ⟨k, v⟩ := x
    simp only [tabWfFrom, Bool.and_eq_true, decide_eq_true_eq] at h ⊢
    exact ⟨⟨by omega, h.1.2⟩, h.2⟩

/-- A key below the bound is not listed. -/
theorem tabGet_of_lt {b k : Nat} {t : Tab α} (h : tabWfFrom d b t = true) (hk : k < b) : tabGet d t k = d k := by
  induction t generalizing b with
  | nil => rfl
  | cons x t ih =>
    obtain ⟨k', v⟩ := x
    simp only [tabWfFrom, Bool.and_eq_true, decide_eq_true_eq] at h
    have : ¬ k' = k := by omega
    simp only [tabGet, if_neg this]
    exact ih h.2 (by omega)

/-- Reading another key than the one written. -/
theorem tabGet_tabSet_ne {t : Tab α} {k j : Nat} (v : α) (h : j ≠ k) : tabGet d (tabSet d t k v) j = tabGet d t j := by
  have hk : ¬ k = j := fun e => h e.symm
  induction t with
  | nil =>
    simp only [tabSet]
    split <;> simp_all [tabGet]
  | cons x t ih =>
    obtain ⟨k', v'⟩ := x
    simp only [tabSet]
    split
    · split <;> simp [tabGet, hk]
    · split
      · rename_i h2
        have hj : ¬ k' = j := by omega
        split <;> simp [tabGet, hk, hj]
      · simp only [tabGet]
        split
        · rfl
        · exact ih

/-- Reading the key written. -/
theorem tabGet_tabSet_self {b : Nat} {t : Tab α} {k : Nat} (v : α) (h : tabWfFrom d b t = true) : tabGet d (tabSet d t k v) k = v := by
  induction t generalizing b with
  | nil =>
    simp only [tabSet]
    split <;> simp_all [tabGet]
  | cons x t ih =>
    obtain ⟨k', v'⟩ := x
    simp only [tabWfFrom, Bool.and_eq_true, decide_eq_true_eq] at h
    simp only [tabSet]
    split
    · rename_i h1
      have hne : ¬ k' = k := by omega
      split
      · rename_i h3
        simp only [tabGet, if_neg hne]
        rw [tabGet_of_lt d h.2 (by omega), h3]
      · simp [tabGet]
    · split
      · rename_i h2
        split
        · rename_i h3
          rw [tabGet_of_lt d h.2 (by omega), h3]
        · simp [tabGet]
      · rename_i h2
        have hne : ¬ k' = k := by omega
        simp only [tabGet, if_neg hne]
        exact ih h.2

/-- A write keeps the canonical form. -/
theorem tabSet_wfFrom {b : Nat} {t : Tab α} {k : Nat} (v : α) (h : tabWfFrom d b t = true) (hb : b ≤ k) :
    tabWfFrom d b (tabSet d t k v) = true := by
  induction t generalizing b with
  | nil =>
    simp only [tabSet]
    split
    · rfl
    · rename_i hv
      simp [tabWfFrom, hb, hv]
  | cons x t ih =>
    obtain ⟨k', v'⟩ := x
    have h0 := h
    simp only [tabWfFrom, Bool.and_eq_true, decide_eq_true_eq, Bool.not_eq_true', decide_eq_false_iff_not] at h
    simp only [tabSet]
    split
    · rename_i h1
      split
      · exact h0
      · rename_i hv
        simp only [tabWfFrom, Bool.and_eq_true, decide_eq_true_eq, Bool.not_eq_true', decide_eq_false_iff_not]
        exact ⟨⟨hb, hv⟩, ⟨by omega, h.1.2⟩, h.2⟩
    · split
      · rename_i h2
        split
        · exact tabWfFrom_mono d h.2 (by omega)
        · rename_i hv
          simp only [tabWfFrom, Bool.and_eq_true, decide_eq_true_eq, Bool.not_eq_true', decide_eq_false_iff_not]
          exact ⟨⟨hb, hv⟩, by rw [h2]; exact h.2⟩
      · simp only [tabWfFrom, Bool.and_eq_true, decide_eq_true_eq, Bool.not_eq_true', decide_eq_false_iff_not]
        exact ⟨h.1, ih h.2 (by omega)⟩

theorem tabSet_wf {t : Tab α} (k : Nat) (v : α) (h : tabWf d t = true) : tabWf d (tabSet d t k v) = true :=
  tabSet_wfFrom d v h (Nat.zero_le k)

/-- A filtered table, with values changed but never to what an unlisted key reads as, is canonical. -/
theorem tabFilterMap_wfFrom {b : Nat} {t : Tab α} (f : Nat × α → Option (Nat × α)) (hf : ∀ x y, f x = some y → y.1 = x.1 ∧ (x.2 ≠ d x.1 → y.2 ≠ d y.1))
    (h : tabWfFrom d b t = true) : tabWfFrom d b (t.filterMap f) = true := by
  induction t generalizing b with
  | nil => rfl
  | cons x t ih =>
    simp only [tabWfFrom, Bool.and_eq_true, decide_eq_true_eq, Bool.not_eq_true', decide_eq_false_iff_not] at h
    simp only [List.filterMap_cons]
    split
    · exact tabWfFrom_mono d (ih h.2) (by omega)
    · rename_i y hy
      obtain ⟨h1, h2⟩ := hf x y hy
      obtain ⟨yk, yv⟩ := y
      simp only at h1
      subst h1
      simp only [tabWfFrom, Bool.and_eq_true, decide_eq_true_eq, Bool.not_eq_true', decide_eq_false_iff_not]
      exact ⟨⟨h.1.1, h2 h.1.2⟩, ih h.2⟩

theorem tabMap_wf {t : Tab α} (f : Nat → α → α) (h : tabWf d t = true) : tabWf d (tabMap d t f) = true := by
  refine tabFilterMap_wfFrom d _ ?_ h
  intro x y hy
  split at hy
  · cases hy
  · rename_i hne
    cases hy
    exact ⟨rfl, fun _ => hne⟩

/-! ## Byte memories -/

/-- A byte read after a byte write. -/
theorem memGet_memSet {m : Mem} {a : Nat} {b : Byte} (h : Memory.wf m = true) (x : Nat) :
    memGet (memSet m a b) x = if x = a then b else memGet m x := by
  split
  · rename_i e
    subst e
    exact tabGet_tabSet_self zeroByte b h
  · rename_i e
    exact tabGet_tabSet_ne zeroByte b e

theorem memSet_wf {m : Mem} (a : Nat) (b : Byte) (h : Memory.wf m = true) : Memory.wf (memSet m a b) = true := tabSet_wf zeroByte a b h

/-- Every memory operation keeps the canonical form. -/
theorem memWrite_wf {m : Mem} (a : Nat) (bs : List Byte) (h : Memory.wf m = true) : Memory.wf (memWrite m a bs) = true := by
  induction bs generalizing m a with
  | nil => exact h
  | cons b bs ih => exact ih (a + 1) (memSet_wf a b h)

/-- A byte outside what is written reads as before. -/
theorem memGet_memWrite_outside {m : Mem} (a : Nat) (bs : List Byte) (x : Nat) (hx : x < a ∨ a + bs.length ≤ x) :
    memGet (memWrite m a bs) x = memGet m x := by
  induction bs generalizing m a with
  | nil => rfl
  | cons b bs ih =>
    simp only [List.length_cons] at hx
    rw [memWrite, ih (a + 1) (by omega)]
    exact tabGet_tabSet_ne zeroByte b (by omega)

/-- A byte written reads as written. -/
theorem memGet_memWrite_inside {m : Mem} (a : Nat) (bs : List Byte) (h : Memory.wf m = true) (k : Nat) (hk : k < bs.length) :
    memGet (memWrite m a bs) (a + k) = bs.getD k 0#8 := by
  induction bs generalizing m a k with
  | nil => simp at hk
  | cons b bs ih =>
    cases k with
    | zero =>
      rw [memWrite, memGet_memWrite_outside (a + 1) bs (a + 0) (by omega)]
      exact tabGet_tabSet_self zeroByte b h
    | succ k =>
      have := ih (m := memSet m a b) (a + 1) (memSet_wf a b h) k (by simpa using hk)
      simp only [memWrite, List.getD_cons_succ]
      rw [← this]
      congr 1
      omega

end Sys2Proof.Machine
end

