-- ==== Sys2Proof/Laws/Registers.lean ====
section
/-!
SUPPORT. Laws of bit fields and registers: a field read after a field write, every field apart from it, and the canonical register file.
-/
namespace Sys2Proof.Machine

/-! ## Bit fields of a number -/

theorem bitsAt_lt (w lo n : Nat) : bitsAt w lo n < 2 ^ n := Nat.mod_lt _ (Nat.two_pow_pos n)

/-- A number as what lies below a field, the field, and what lies above. -/
theorem nat_split (w lo n : Nat) : w = w % 2 ^ lo + bitsAt w lo n * 2 ^ lo + w / 2 ^ (lo + n) * 2 ^ (lo + n) := by
  have h1 := Nat.mod_add_div w (2 ^ lo)
  have h2 := Nat.mod_add_div (w / 2 ^ lo) (2 ^ n)
  rw [Nat.div_div_eq_div_mul, ← Nat.pow_add] at h2
  unfold bitsAt
  calc w = w % 2 ^ lo + 2 ^ lo * (w / 2 ^ lo) := h1.symm
    _ = w % 2 ^ lo + 2 ^ lo * (w / 2 ^ lo % 2 ^ n + 2 ^ n * (w / 2 ^ (lo + n))) := by rw [h2]
    _ = _ := by rw [Nat.mul_add, ← Nat.mul_assoc, ← Nat.pow_add]; simp only [Nat.mul_comm, Nat.add_assoc]

theorem putBits_eq (w lo n v : Nat) : putBits w lo n v = w % 2 ^ lo + (v % 2 ^ n) * 2 ^ lo + w / 2 ^ (lo + n) * 2 ^ (lo + n) := by
  have h := nat_split w lo n
  unfold putBits
  omega

theorem putBits_mod (w lo n v : Nat) : putBits w lo n v % 2 ^ lo = w % 2 ^ lo := by
  rw [putBits_eq, Nat.pow_add, show w % 2 ^ lo + v % 2 ^ n * 2 ^ lo + w / (2 ^ lo * 2 ^ n) * (2 ^ lo * 2 ^ n)
    = w % 2 ^ lo + 2 ^ lo * (v % 2 ^ n + w / (2 ^ lo * 2 ^ n) * 2 ^ n) by
      rw [Nat.mul_add]; simp only [Nat.mul_comm, Nat.add_assoc, Nat.mul_assoc]]
  simp [Nat.add_mul_mod_self_left]

theorem putBits_div_lo (w lo n v : Nat) : putBits w lo n v / 2 ^ lo = v % 2 ^ n + 2 ^ n * (w / 2 ^ (lo + n)) := by
  rw [putBits_eq, show w % 2 ^ lo + v % 2 ^ n * 2 ^ lo + w / 2 ^ (lo + n) * 2 ^ (lo + n)
    = w % 2 ^ lo + 2 ^ lo * (v % 2 ^ n + 2 ^ n * (w / 2 ^ (lo + n))) by
      rw [Nat.pow_add, Nat.mul_add]; simp only [Nat.mul_comm, Nat.add_assoc, Nat.mul_assoc]]
  rw [Nat.add_mul_div_left _ _ (Nat.two_pow_pos lo), Nat.div_eq_of_lt (Nat.mod_lt _ (Nat.two_pow_pos lo)), Nat.zero_add]

theorem putBits_div_hi (w lo n v : Nat) : putBits w lo n v / 2 ^ (lo + n) = w / 2 ^ (lo + n) := by
  rw [Nat.pow_add, ← Nat.div_div_eq_div_mul, putBits_div_lo, Nat.add_mul_div_left _ _ (Nat.two_pow_pos n),
    Nat.div_eq_of_lt (Nat.mod_lt _ (Nat.two_pow_pos n)), Nat.zero_add, Nat.pow_add]

/-- A field reads what was put there. -/
theorem bitsAt_putBits_self (w lo n v : Nat) : bitsAt (putBits w lo n v) lo n = v % 2 ^ n := by
  unfold bitsAt
  rw [putBits_div_lo]
  simp

/-- A field below the one put. -/
theorem bitsAt_putBits_below {w lo n v a m : Nat} (h : a + m ≤ lo) : bitsAt (putBits w lo n v) a m = bitsAt w a m := by
  have key : ∀ x : Nat, bitsAt x a m = bitsAt (x % 2 ^ lo) a m := by
    intro x
    unfold bitsAt
    obtain ⟨k, rfl⟩ := Nat.exists_eq_add_of_le h
    have e : x % 2 ^ (a + m + k) / 2 ^ a = x / 2 ^ a % 2 ^ (m + k) := by
      rw [Nat.add_assoc, Nat.pow_add 2 a, Nat.mod_mul_right_div_self]
    rw [e, Nat.pow_add, Nat.mod_mul_right_mod]
  rw [key, putBits_mod, ← key]

/-- A field above the one put. -/
theorem bitsAt_putBits_above {w lo n v a m : Nat} (h : lo + n ≤ a) : bitsAt (putBits w lo n v) a m = bitsAt w a m := by
  unfold bitsAt
  obtain ⟨k, rfl⟩ := Nat.exists_eq_add_of_le h
  rw [Nat.pow_add 2 (lo + n) k, ← Nat.div_div_eq_div_mul, ← Nat.div_div_eq_div_mul, putBits_div_hi]

/-- A field put in a 32-bit word leaves a 32-bit word. -/
theorem putBits_lt {w lo n v : Nat} (hw : w < 2 ^ 32) (h : lo + n ≤ 32) : putBits w lo n v < 2 ^ 32 := by
  obtain ⟨k, hk⟩ := Nat.exists_eq_add_of_le h
  have h1 : putBits w lo n v / 2 ^ (lo + n) < 2 ^ k := by
    rw [putBits_div_hi]
    apply Nat.div_lt_of_lt_mul
    rw [← Nat.pow_add, ← hk]
    exact hw
  have h2 := (Nat.div_lt_iff_lt_mul (Nat.two_pow_pos (lo + n))).mp h1
  rw [hk, Nat.pow_add, Nat.mul_comm]
  exact h2

/-! ## Registers -/

theorem rd_lt (s : State) (a : Nat) : s.rd a < 2 ^ 32 := (tabGet regReset s.reg a).isLt

/-- A register reads the word stored there. -/
theorem rd_wr_self {s : State} (h : tabWf regReset s.reg = true) (a w : Nat) : (s.wr a w).rd a = w % 2 ^ 32 := by
  show (tabGet regReset (tabSet regReset s.reg a (BitVec.ofNat 32 w)) a).toNat = _
  rw [tabGet_tabSet_self regReset _ h]
  simp

/-- Every other register reads as before. -/
theorem rd_wr_ne (s : State) {a b : Nat} (w : Nat) (h : b ≠ a) : (s.wr a w).rd b = s.rd b := by
  show (tabGet regReset (tabSet regReset s.reg a (BitVec.ofNat 32 w)) b).toNat = (tabGet regReset s.reg b).toNat
  rw [tabGet_tabSet_ne regReset _ h]

theorem wr_wf {s : State} (h : tabWf regReset s.reg = true) (a w : Nat) : tabWf regReset (s.wr a w).reg = true :=
  tabSet_wf regReset _ _ h

theorem setFld_wf {s : State} (h : tabWf regReset s.reg = true) (f : Fld) (v : Nat) : tabWf regReset (s.setFld f v).reg = true :=
  wr_wf h _ _

theorem setFlag_wf {s : State} (h : tabWf regReset s.reg = true) (f : Fld) (b : Bool) : tabWf regReset (s.setFlag f b).reg = true :=
  wr_wf h _ _

theorem raise_wf {s : State} (h : tabWf regReset s.reg = true) (f : Fld) : tabWf regReset (s.raise f).reg = true := wr_wf h _ _

theorem raiseBit_wf {s : State} (h : tabWf regReset s.reg = true) (f : Fld) (k : Nat) : tabWf regReset (s.raiseBit f k).reg = true :=
  wr_wf h _ _

theorem count_wf {s : State} (h : tabWf regReset s.reg = true) (f : Fld) (n : Nat) : tabWf regReset (s.count f n).reg = true := wr_wf h _ _

theorem store_wf {s : State} (h : tabWf regReset s.reg = true) (a w : Nat) : tabWf regReset (s.store a w).reg = true := by
  unfold State.store
  split
  · exact wr_wf h _ _
  · exact h

/-- A field that fits its register reads what was set. -/
theorem fld_setFld_self {s : State} (h : tabWf regReset s.reg = true) (f : Fld) (v : Nat) (hf : f.lo + f.width ≤ 32) :
    (s.setFld f v).fld f = v % 2 ^ f.width := by
  unfold State.fld State.setFld
  rw [rd_wr_self h, Nat.mod_eq_of_lt (putBits_lt (rd_lt s f.addr) hf), bitsAt_putBits_self]

/-- A field apart from the one set reads as before. -/
theorem fld_setFld_apart {s : State} (h : tabWf regReset s.reg = true) {f g : Fld} (v : Nat) (hg : g.lo + g.width ≤ 32)
    (hfg : Fld.apart f g = true) : (s.setFld g v).fld f = s.fld f := by
  unfold State.fld State.setFld
  by_cases ha : f.addr = g.addr
  · rw [ha, rd_wr_self h, Nat.mod_eq_of_lt (putBits_lt (rd_lt s g.addr) hg)]
    simp only [Fld.apart, ha, bne_self_eq_false, Bool.false_or, Bool.or_eq_true, decide_eq_true_eq] at hfg
    rcases hfg with h1 | h1
    · exact bitsAt_putBits_below h1
    · exact bitsAt_putBits_above h1
  · rw [rd_wr_ne s _ ha]

/-- A one-bit flag reads what was set. -/
theorem flag_setFlag_self {s : State} (h : tabWf regReset s.reg = true) (f : Fld) (b : Bool) (hf : f.lo + f.width ≤ 32) (hw : 0 < f.width) :
    (s.setFlag f b).flag f = b := by
  unfold State.flag State.setFlag
  rw [fld_setFld_self h f _ hf, Nat.mod_eq_of_lt]
  · cases b <;> simp
  · have : 2 ^ 1 ≤ 2 ^ f.width := Nat.pow_le_pow_right (by decide) hw
    cases b <;> simp <;> omega

/-- Only `f` of the other parts is touched: every part of the state but the register file stands as before. -/
theorem setFld_rest (s : State) (f : Fld) (v : Nat) : { s.setFld f v with reg := s.reg } = s := rfl

/-! ## The register file as a table: for proofs that go through many field writes -/

/-- A field of a register file. -/
def rfld (r : Tab W32) (f : Fld) : Nat := bitsAt (tabGet regReset r f.addr).toNat f.lo f.width

/-- A register file with one field set. -/
def rset (r : Tab W32) (f : Fld) (v : Nat) : Tab W32 :=
  tabSet regReset r f.addr (BitVec.ofNat 32 (putBits (tabGet regReset r f.addr).toNat f.lo f.width v))

theorem fld_eq (s : State) (f : Fld) : s.fld f = rfld s.reg f := rfl
theorem flag_eq (s : State) (f : Fld) : s.flag f = (rfld s.reg f == 1) := rfl
theorem setFld_eq (s : State) (f : Fld) (v : Nat) : s.setFld f v = { s with reg := rset s.reg f v } := rfl
theorem setFlag_eq (s : State) (f : Fld) (b : Bool) : s.setFlag f b = { s with reg := rset s.reg f b.toNat } := rfl
theorem raise_eq (s : State) (f : Fld) : s.raise f = { s with reg := rset s.reg f (2 ^ f.width - 1) } := rfl
theorem raiseBit_eq (s : State) (f : Fld) (k : Nat) : s.raiseBit f k = { s with reg := rset s.reg f (putBit (rfld s.reg f) k true) } := rfl
theorem count_eq (s : State) (f : Fld) (n : Nat) : s.count f n = { s with reg := rset s.reg f (satAdd f.width (rfld s.reg f) n) } := rfl

theorem rset_wf {r : Tab W32} (h : tabWf regReset r = true) (f : Fld) (v : Nat) : tabWf regReset (rset r f v) = true :=
  tabSet_wf regReset _ _ h

theorem rfld_rset_self {r : Tab W32} (h : tabWf regReset r = true) (f : Fld) (v : Nat) (hf : f.lo + f.width ≤ 32) :
    rfld (rset r f v) f = v % 2 ^ f.width := fld_setFld_self (s := { reg := r }) h f v hf

theorem rfld_rset_apart {r : Tab W32} (h : tabWf regReset r = true) {f g : Fld} (v : Nat) (hg : g.lo + g.width ≤ 32)
    (hfg : Fld.apart f g = true) : rfld (rset r g v) f = rfld r f := fld_setFld_apart (s := { reg := r }) h v hg hfg

theorem rfld_lt (r : Tab W32) (f : Fld) : rfld r f < 2 ^ f.width := bitsAt_lt _ _ _

/-! ## Resets -/

/-- What a reset leaves of a register word fits 32 bits. -/
theorem reset_word_lt (x y : W32) (m rs : Nat) : (x.toNat &&& m) ||| (y.toNat &&& rs) < 2 ^ 32 :=
  Nat.or_lt_two_pow (Nat.lt_of_le_of_lt Nat.and_le_left x.isLt) (Nat.lt_of_le_of_lt Nat.and_le_left y.isLt)

/-- A block or chip reset of registers keeps the register file canonical. -/
theorem regResetWhere_wf (p : Nat → Bool) (keepRs : Bool) {t : Tab W32} (h : tabWf regReset t = true) :
    tabWf regReset (regResetWhere p keepRs t) = true := by
  refine tabFilterMap_wfFrom regReset _ ?_ h
  intro x y hy
  by_cases hp : p x.1 = true
  · rw [if_pos hp] at hy
    simp only at hy
    generalize keptBits keepRs x.1 = rs at hy
    by_cases hw : ((regReset x.1).toNat &&& (maskBits 32 ^^^ rs)) ||| (x.2.toNat &&& rs) = (regReset x.1).toNat
    · rw [if_pos hw] at hy
      exact absurd hy (by simp)
    · rw [if_neg hw] at hy
      obtain rfl := Option.some.inj hy
      refine ⟨rfl, fun _ e => hw ?_⟩
      have := congrArg BitVec.toNat e
      rw [BitVec.toNat_ofNat, Nat.mod_eq_of_lt (reset_word_lt (regReset x.1) x.2 _ rs)] at this
      exact this
  · rw [if_neg hp] at hy
    obtain rfl := Option.some.inj hy
    exact ⟨rfl, fun h => h⟩

end Sys2Proof.Machine
end

