-- ==== Sys2Proof/Laws/State.lean ====
section
/-!
SUPPORT. What each update of the state leaves of every part of it: one lemma for each part and update, so that no later proof unfolds
a record update; and what the operations that store, record an event or answer an access can change.
-/
namespace Sys2Proof.Machine

variable (s : State)

/-! ### wr -/

@[simp] theorem State.wr_reg (a w : Nat) : (s.wr a w).reg = tabSet regReset s.reg a (BitVec.ofNat 32 w) := rfl
@[simp] theorem State.wr_sys (a w : Nat) : (s.wr a w).sys = s.sys := rfl
@[simp] theorem State.wr_period (a w : Nat) : (s.wr a w).period = s.period := rfl
@[simp] theorem State.wr_clk (a w : Nat) : (s.wr a w).clk = s.clk := rfl
@[simp] theorem State.wr_vrc (a w : Nat) : (s.wr a w).vrc = s.vrc := rfl
@[simp] theorem State.wr_lss (a w : Nat) : (s.wr a w).lss = s.lss := rfl
@[simp] theorem State.wr_img (a w : Nat) : (s.wr a w).img = s.img := rfl
@[simp] theorem State.wr_ct (a w : Nat) : (s.wr a w).ct = s.ct := rfl
@[simp] theorem State.wr_lanes (a w : Nat) : (s.wr a w).lanes = s.lanes := rfl
@[simp] theorem State.wr_link (a w : Nat) : (s.wr a w).link = s.link := rfl
@[simp] theorem State.wr_cp (a w : Nat) : (s.wr a w).cp = s.cp := rfl
@[simp] theorem State.wr_cpB (a w : Nat) : (s.wr a w).cpB = s.cpB := rfl
@[simp] theorem State.wr_eng (a w : Nat) : (s.wr a w).eng = s.eng := rfl
@[simp] theorem State.wr_loam (a w : Nat) : (s.wr a w).loam = s.loam := rfl
@[simp] theorem State.wr_acq (a w : Nat) : (s.wr a w).acq = s.acq := rfl
@[simp] theorem State.wr_strata (a w : Nat) : (s.wr a w).strata = s.strata := rfl
@[simp] theorem State.wr_thm (a w : Nat) : (s.wr a w).thm = s.thm := rfl
@[simp] theorem State.wr_evr (a w : Nat) : (s.wr a w).evr = s.evr := rfl
@[simp] theorem State.wr_pwm (a w : Nat) : (s.wr a w).pwm = s.pwm := rfl
@[simp] theorem State.wr_cell (a w : Nat) : (s.wr a w).cell = s.cell := rfl
@[simp] theorem State.wr_kao (a w : Nat) : (s.wr a w).kao = s.kao := rfl
@[simp] theorem State.wr_marl (a w : Nat) : (s.wr a w).marl = s.marl := rfl
@[simp] theorem State.wr_station (a w : Nat) : (s.wr a w).station = s.station := rfl
@[simp] theorem State.wr_ep (a w : Nat) : (s.wr a w).ep = s.ep := rfl
@[simp] theorem State.wr_out (a w : Nat) : (s.wr a w).out = s.out := rfl
@[simp] theorem State.wr_freeCtr (a w : Nat) : (s.wr a w).freeCtr = s.freeCtr := rfl
@[simp] theorem State.wr_pending (a w : Nat) : (s.wr a w).pending = s.pending := rfl

/-! ### setFld -/

@[simp] theorem State.setFld_sys (f : Fld) (v : Nat) : (s.setFld f v).sys = s.sys := rfl
@[simp] theorem State.setFld_period (f : Fld) (v : Nat) : (s.setFld f v).period = s.period := rfl
@[simp] theorem State.setFld_clk (f : Fld) (v : Nat) : (s.setFld f v).clk = s.clk := rfl
@[simp] theorem State.setFld_vrc (f : Fld) (v : Nat) : (s.setFld f v).vrc = s.vrc := rfl
@[simp] theorem State.setFld_lss (f : Fld) (v : Nat) : (s.setFld f v).lss = s.lss := rfl
@[simp] theorem State.setFld_img (f : Fld) (v : Nat) : (s.setFld f v).img = s.img := rfl
@[simp] theorem State.setFld_ct (f : Fld) (v : Nat) : (s.setFld f v).ct = s.ct := rfl
@[simp] theorem State.setFld_lanes (f : Fld) (v : Nat) : (s.setFld f v).lanes = s.lanes := rfl
@[simp] theorem State.setFld_link (f : Fld) (v : Nat) : (s.setFld f v).link = s.link := rfl
@[simp] theorem State.setFld_cp (f : Fld) (v : Nat) : (s.setFld f v).cp = s.cp := rfl
@[simp] theorem State.setFld_cpB (f : Fld) (v : Nat) : (s.setFld f v).cpB = s.cpB := rfl
@[simp] theorem State.setFld_eng (f : Fld) (v : Nat) : (s.setFld f v).eng = s.eng := rfl
@[simp] theorem State.setFld_loam (f : Fld) (v : Nat) : (s.setFld f v).loam = s.loam := rfl
@[simp] theorem State.setFld_acq (f : Fld) (v : Nat) : (s.setFld f v).acq = s.acq := rfl
@[simp] theorem State.setFld_strata (f : Fld) (v : Nat) : (s.setFld f v).strata = s.strata := rfl
@[simp] theorem State.setFld_thm (f : Fld) (v : Nat) : (s.setFld f v).thm = s.thm := rfl
@[simp] theorem State.setFld_evr (f : Fld) (v : Nat) : (s.setFld f v).evr = s.evr := rfl
@[simp] theorem State.setFld_pwm (f : Fld) (v : Nat) : (s.setFld f v).pwm = s.pwm := rfl
@[simp] theorem State.setFld_cell (f : Fld) (v : Nat) : (s.setFld f v).cell = s.cell := rfl
@[simp] theorem State.setFld_kao (f : Fld) (v : Nat) : (s.setFld f v).kao = s.kao := rfl
@[simp] theorem State.setFld_marl (f : Fld) (v : Nat) : (s.setFld f v).marl = s.marl := rfl
@[simp] theorem State.setFld_station (f : Fld) (v : Nat) : (s.setFld f v).station = s.station := rfl
@[simp] theorem State.setFld_ep (f : Fld) (v : Nat) : (s.setFld f v).ep = s.ep := rfl
@[simp] theorem State.setFld_out (f : Fld) (v : Nat) : (s.setFld f v).out = s.out := rfl
@[simp] theorem State.setFld_freeCtr (f : Fld) (v : Nat) : (s.setFld f v).freeCtr = s.freeCtr := rfl
@[simp] theorem State.setFld_pending (f : Fld) (v : Nat) : (s.setFld f v).pending = s.pending := rfl

/-! ### setFlag -/

@[simp] theorem State.setFlag_sys (f : Fld) (b : Bool) : (s.setFlag f b).sys = s.sys := rfl
@[simp] theorem State.setFlag_period (f : Fld) (b : Bool) : (s.setFlag f b).period = s.period := rfl
@[simp] theorem State.setFlag_clk (f : Fld) (b : Bool) : (s.setFlag f b).clk = s.clk := rfl
@[simp] theorem State.setFlag_vrc (f : Fld) (b : Bool) : (s.setFlag f b).vrc = s.vrc := rfl
@[simp] theorem State.setFlag_lss (f : Fld) (b : Bool) : (s.setFlag f b).lss = s.lss := rfl
@[simp] theorem State.setFlag_img (f : Fld) (b : Bool) : (s.setFlag f b).img = s.img := rfl
@[simp] theorem State.setFlag_ct (f : Fld) (b : Bool) : (s.setFlag f b).ct = s.ct := rfl
@[simp] theorem State.setFlag_lanes (f : Fld) (b : Bool) : (s.setFlag f b).lanes = s.lanes := rfl
@[simp] theorem State.setFlag_link (f : Fld) (b : Bool) : (s.setFlag f b).link = s.link := rfl
@[simp] theorem State.setFlag_cp (f : Fld) (b : Bool) : (s.setFlag f b).cp = s.cp := rfl
@[simp] theorem State.setFlag_cpB (f : Fld) (b : Bool) : (s.setFlag f b).cpB = s.cpB := rfl
@[simp] theorem State.setFlag_eng (f : Fld) (b : Bool) : (s.setFlag f b).eng = s.eng := rfl
@[simp] theorem State.setFlag_loam (f : Fld) (b : Bool) : (s.setFlag f b).loam = s.loam := rfl
@[simp] theorem State.setFlag_acq (f : Fld) (b : Bool) : (s.setFlag f b).acq = s.acq := rfl
@[simp] theorem State.setFlag_strata (f : Fld) (b : Bool) : (s.setFlag f b).strata = s.strata := rfl
@[simp] theorem State.setFlag_thm (f : Fld) (b : Bool) : (s.setFlag f b).thm = s.thm := rfl
@[simp] theorem State.setFlag_evr (f : Fld) (b : Bool) : (s.setFlag f b).evr = s.evr := rfl
@[simp] theorem State.setFlag_pwm (f : Fld) (b : Bool) : (s.setFlag f b).pwm = s.pwm := rfl
@[simp] theorem State.setFlag_cell (f : Fld) (b : Bool) : (s.setFlag f b).cell = s.cell := rfl
@[simp] theorem State.setFlag_kao (f : Fld) (b : Bool) : (s.setFlag f b).kao = s.kao := rfl
@[simp] theorem State.setFlag_marl (f : Fld) (b : Bool) : (s.setFlag f b).marl = s.marl := rfl
@[simp] theorem State.setFlag_station (f : Fld) (b : Bool) : (s.setFlag f b).station = s.station := rfl
@[simp] theorem State.setFlag_ep (f : Fld) (b : Bool) : (s.setFlag f b).ep = s.ep := rfl
@[simp] theorem State.setFlag_out (f : Fld) (b : Bool) : (s.setFlag f b).out = s.out := rfl
@[simp] theorem State.setFlag_freeCtr (f : Fld) (b : Bool) : (s.setFlag f b).freeCtr = s.freeCtr := rfl
@[simp] theorem State.setFlag_pending (f : Fld) (b : Bool) : (s.setFlag f b).pending = s.pending := rfl

/-! ### raise -/

@[simp] theorem State.raise_sys (f : Fld) : (s.raise f).sys = s.sys := rfl
@[simp] theorem State.raise_period (f : Fld) : (s.raise f).period = s.period := rfl
@[simp] theorem State.raise_clk (f : Fld) : (s.raise f).clk = s.clk := rfl
@[simp] theorem State.raise_vrc (f : Fld) : (s.raise f).vrc = s.vrc := rfl
@[simp] theorem State.raise_lss (f : Fld) : (s.raise f).lss = s.lss := rfl
@[simp] theorem State.raise_img (f : Fld) : (s.raise f).img = s.img := rfl
@[simp] theorem State.raise_ct (f : Fld) : (s.raise f).ct = s.ct := rfl
@[simp] theorem State.raise_lanes (f : Fld) : (s.raise f).lanes = s.lanes := rfl
@[simp] theorem State.raise_link (f : Fld) : (s.raise f).link = s.link := rfl
@[simp] theorem State.raise_cp (f : Fld) : (s.raise f).cp = s.cp := rfl
@[simp] theorem State.raise_cpB (f : Fld) : (s.raise f).cpB = s.cpB := rfl
@[simp] theorem State.raise_eng (f : Fld) : (s.raise f).eng = s.eng := rfl
@[simp] theorem State.raise_loam (f : Fld) : (s.raise f).loam = s.loam := rfl
@[simp] theorem State.raise_acq (f : Fld) : (s.raise f).acq = s.acq := rfl
@[simp] theorem State.raise_strata (f : Fld) : (s.raise f).strata = s.strata := rfl
@[simp] theorem State.raise_thm (f : Fld) : (s.raise f).thm = s.thm := rfl
@[simp] theorem State.raise_evr (f : Fld) : (s.raise f).evr = s.evr := rfl
@[simp] theorem State.raise_pwm (f : Fld) : (s.raise f).pwm = s.pwm := rfl
@[simp] theorem State.raise_cell (f : Fld) : (s.raise f).cell = s.cell := rfl
@[simp] theorem State.raise_kao (f : Fld) : (s.raise f).kao = s.kao := rfl
@[simp] theorem State.raise_marl (f : Fld) : (s.raise f).marl = s.marl := rfl
@[simp] theorem State.raise_station (f : Fld) : (s.raise f).station = s.station := rfl
@[simp] theorem State.raise_ep (f : Fld) : (s.raise f).ep = s.ep := rfl
@[simp] theorem State.raise_out (f : Fld) : (s.raise f).out = s.out := rfl
@[simp] theorem State.raise_freeCtr (f : Fld) : (s.raise f).freeCtr = s.freeCtr := rfl
@[simp] theorem State.raise_pending (f : Fld) : (s.raise f).pending = s.pending := rfl

/-! ### raiseBit -/

@[simp] theorem State.raiseBit_sys (f : Fld) (k : Nat) : (s.raiseBit f k).sys = s.sys := rfl
@[simp] theorem State.raiseBit_period (f : Fld) (k : Nat) : (s.raiseBit f k).period = s.period := rfl
@[simp] theorem State.raiseBit_clk (f : Fld) (k : Nat) : (s.raiseBit f k).clk = s.clk := rfl
@[simp] theorem State.raiseBit_vrc (f : Fld) (k : Nat) : (s.raiseBit f k).vrc = s.vrc := rfl
@[simp] theorem State.raiseBit_lss (f : Fld) (k : Nat) : (s.raiseBit f k).lss = s.lss := rfl
@[simp] theorem State.raiseBit_img (f : Fld) (k : Nat) : (s.raiseBit f k).img = s.img := rfl
@[simp] theorem State.raiseBit_ct (f : Fld) (k : Nat) : (s.raiseBit f k).ct = s.ct := rfl
@[simp] theorem State.raiseBit_lanes (f : Fld) (k : Nat) : (s.raiseBit f k).lanes = s.lanes := rfl
@[simp] theorem State.raiseBit_link (f : Fld) (k : Nat) : (s.raiseBit f k).link = s.link := rfl
@[simp] theorem State.raiseBit_cp (f : Fld) (k : Nat) : (s.raiseBit f k).cp = s.cp := rfl
@[simp] theorem State.raiseBit_cpB (f : Fld) (k : Nat) : (s.raiseBit f k).cpB = s.cpB := rfl
@[simp] theorem State.raiseBit_eng (f : Fld) (k : Nat) : (s.raiseBit f k).eng = s.eng := rfl
@[simp] theorem State.raiseBit_loam (f : Fld) (k : Nat) : (s.raiseBit f k).loam = s.loam := rfl
@[simp] theorem State.raiseBit_acq (f : Fld) (k : Nat) : (s.raiseBit f k).acq = s.acq := rfl
@[simp] theorem State.raiseBit_strata (f : Fld) (k : Nat) : (s.raiseBit f k).strata = s.strata := rfl
@[simp] theorem State.raiseBit_thm (f : Fld) (k : Nat) : (s.raiseBit f k).thm = s.thm := rfl
@[simp] theorem State.raiseBit_evr (f : Fld) (k : Nat) : (s.raiseBit f k).evr = s.evr := rfl
@[simp] theorem State.raiseBit_pwm (f : Fld) (k : Nat) : (s.raiseBit f k).pwm = s.pwm := rfl
@[simp] theorem State.raiseBit_cell (f : Fld) (k : Nat) : (s.raiseBit f k).cell = s.cell := rfl
@[simp] theorem State.raiseBit_kao (f : Fld) (k : Nat) : (s.raiseBit f k).kao = s.kao := rfl
@[simp] theorem State.raiseBit_marl (f : Fld) (k : Nat) : (s.raiseBit f k).marl = s.marl := rfl
@[simp] theorem State.raiseBit_station (f : Fld) (k : Nat) : (s.raiseBit f k).station = s.station := rfl
@[simp] theorem State.raiseBit_ep (f : Fld) (k : Nat) : (s.raiseBit f k).ep = s.ep := rfl
@[simp] theorem State.raiseBit_out (f : Fld) (k : Nat) : (s.raiseBit f k).out = s.out := rfl
@[simp] theorem State.raiseBit_freeCtr (f : Fld) (k : Nat) : (s.raiseBit f k).freeCtr = s.freeCtr := rfl
@[simp] theorem State.raiseBit_pending (f : Fld) (k : Nat) : (s.raiseBit f k).pending = s.pending := rfl

/-! ### count -/

@[simp] theorem State.count_sys (f : Fld) (n : Nat) : (s.count f n).sys = s.sys := rfl
@[simp] theorem State.count_period (f : Fld) (n : Nat) : (s.count f n).period = s.period := rfl
@[simp] theorem State.count_clk (f : Fld) (n : Nat) : (s.count f n).clk = s.clk := rfl
@[simp] theorem State.count_vrc (f : Fld) (n : Nat) : (s.count f n).vrc = s.vrc := rfl
@[simp] theorem State.count_lss (f : Fld) (n : Nat) : (s.count f n).lss = s.lss := rfl
@[simp] theorem State.count_img (f : Fld) (n : Nat) : (s.count f n).img = s.img := rfl
@[simp] theorem State.count_ct (f : Fld) (n : Nat) : (s.count f n).ct = s.ct := rfl
@[simp] theorem State.count_lanes (f : Fld) (n : Nat) : (s.count f n).lanes = s.lanes := rfl
@[simp] theorem State.count_link (f : Fld) (n : Nat) : (s.count f n).link = s.link := rfl
@[simp] theorem State.count_cp (f : Fld) (n : Nat) : (s.count f n).cp = s.cp := rfl
@[simp] theorem State.count_cpB (f : Fld) (n : Nat) : (s.count f n).cpB = s.cpB := rfl
@[simp] theorem State.count_eng (f : Fld) (n : Nat) : (s.count f n).eng = s.eng := rfl
@[simp] theorem State.count_loam (f : Fld) (n : Nat) : (s.count f n).loam = s.loam := rfl
@[simp] theorem State.count_acq (f : Fld) (n : Nat) : (s.count f n).acq = s.acq := rfl
@[simp] theorem State.count_strata (f : Fld) (n : Nat) : (s.count f n).strata = s.strata := rfl
@[simp] theorem State.count_thm (f : Fld) (n : Nat) : (s.count f n).thm = s.thm := rfl
@[simp] theorem State.count_evr (f : Fld) (n : Nat) : (s.count f n).evr = s.evr := rfl
@[simp] theorem State.count_pwm (f : Fld) (n : Nat) : (s.count f n).pwm = s.pwm := rfl
@[simp] theorem State.count_cell (f : Fld) (n : Nat) : (s.count f n).cell = s.cell := rfl
@[simp] theorem State.count_kao (f : Fld) (n : Nat) : (s.count f n).kao = s.kao := rfl
@[simp] theorem State.count_marl (f : Fld) (n : Nat) : (s.count f n).marl = s.marl := rfl
@[simp] theorem State.count_station (f : Fld) (n : Nat) : (s.count f n).station = s.station := rfl
@[simp] theorem State.count_ep (f : Fld) (n : Nat) : (s.count f n).ep = s.ep := rfl
@[simp] theorem State.count_out (f : Fld) (n : Nat) : (s.count f n).out = s.out := rfl
@[simp] theorem State.count_freeCtr (f : Fld) (n : Nat) : (s.count f n).freeCtr = s.freeCtr := rfl
@[simp] theorem State.count_pending (f : Fld) (n : Nat) : (s.count f n).pending = s.pending := rfl

/-! ### fresh -/

@[simp] theorem State.fresh_reg : (s.fresh).reg = s.reg := rfl
@[simp] theorem State.fresh_sys : (s.fresh).sys = s.sys := rfl
@[simp] theorem State.fresh_period : (s.fresh).period = s.period := rfl
@[simp] theorem State.fresh_clk : (s.fresh).clk = s.clk := rfl
@[simp] theorem State.fresh_vrc : (s.fresh).vrc = s.vrc := rfl
@[simp] theorem State.fresh_lss : (s.fresh).lss = s.lss := rfl
@[simp] theorem State.fresh_img : (s.fresh).img = s.img := rfl
@[simp] theorem State.fresh_ct : (s.fresh).ct = s.ct := rfl
@[simp] theorem State.fresh_lanes : (s.fresh).lanes = s.lanes := rfl
@[simp] theorem State.fresh_link : (s.fresh).link = s.link := rfl
@[simp] theorem State.fresh_cp : (s.fresh).cp = s.cp := rfl
@[simp] theorem State.fresh_cpB : (s.fresh).cpB = s.cpB := rfl
@[simp] theorem State.fresh_eng : (s.fresh).eng = s.eng := rfl
@[simp] theorem State.fresh_loam : (s.fresh).loam = s.loam := rfl
@[simp] theorem State.fresh_acq : (s.fresh).acq = s.acq := rfl
@[simp] theorem State.fresh_strata : (s.fresh).strata = s.strata := rfl
@[simp] theorem State.fresh_thm : (s.fresh).thm = s.thm := rfl
@[simp] theorem State.fresh_evr : (s.fresh).evr = s.evr := rfl
@[simp] theorem State.fresh_pwm : (s.fresh).pwm = s.pwm := rfl
@[simp] theorem State.fresh_cell : (s.fresh).cell = s.cell := rfl
@[simp] theorem State.fresh_kao : (s.fresh).kao = s.kao := rfl
@[simp] theorem State.fresh_marl : (s.fresh).marl = s.marl := rfl
@[simp] theorem State.fresh_station : (s.fresh).station = s.station := rfl
@[simp] theorem State.fresh_ep : (s.fresh).ep = s.ep := rfl
@[simp] theorem State.fresh_out : (s.fresh).out = [] := rfl
@[simp] theorem State.fresh_freeCtr : (s.fresh).freeCtr = s.freeCtr := rfl
@[simp] theorem State.fresh_pending : (s.fresh).pending = s.pending := rfl

/-! ### emit -/

@[simp] theorem State.emit_reg (o : Out) : (s.emit o).reg = s.reg := rfl
@[simp] theorem State.emit_sys (o : Out) : (s.emit o).sys = s.sys := rfl
@[simp] theorem State.emit_period (o : Out) : (s.emit o).period = s.period := rfl
@[simp] theorem State.emit_clk (o : Out) : (s.emit o).clk = s.clk := rfl
@[simp] theorem State.emit_vrc (o : Out) : (s.emit o).vrc = s.vrc := rfl
@[simp] theorem State.emit_lss (o : Out) : (s.emit o).lss = s.lss := rfl
@[simp] theorem State.emit_img (o : Out) : (s.emit o).img = s.img := rfl
@[simp] theorem State.emit_ct (o : Out) : (s.emit o).ct = s.ct := rfl
@[simp] theorem State.emit_lanes (o : Out) : (s.emit o).lanes = s.lanes := rfl
@[simp] theorem State.emit_link (o : Out) : (s.emit o).link = s.link := rfl
@[simp] theorem State.emit_cp (o : Out) : (s.emit o).cp = s.cp := rfl
@[simp] theorem State.emit_cpB (o : Out) : (s.emit o).cpB = s.cpB := rfl
@[simp] theorem State.emit_eng (o : Out) : (s.emit o).eng = s.eng := rfl
@[simp] theorem State.emit_loam (o : Out) : (s.emit o).loam = s.loam := rfl
@[simp] theorem State.emit_acq (o : Out) : (s.emit o).acq = s.acq := rfl
@[simp] theorem State.emit_strata (o : Out) : (s.emit o).strata = s.strata := rfl
@[simp] theorem State.emit_thm (o : Out) : (s.emit o).thm = s.thm := rfl
@[simp] theorem State.emit_evr (o : Out) : (s.emit o).evr = s.evr := rfl
@[simp] theorem State.emit_pwm (o : Out) : (s.emit o).pwm = s.pwm := rfl
@[simp] theorem State.emit_cell (o : Out) : (s.emit o).cell = s.cell := rfl
@[simp] theorem State.emit_kao (o : Out) : (s.emit o).kao = s.kao := rfl
@[simp] theorem State.emit_marl (o : Out) : (s.emit o).marl = s.marl := rfl
@[simp] theorem State.emit_station (o : Out) : (s.emit o).station = s.station := rfl
@[simp] theorem State.emit_ep (o : Out) : (s.emit o).ep = s.ep := rfl
@[simp] theorem State.emit_out (o : Out) : (s.emit o).out = s.out ++ [o] := rfl
@[simp] theorem State.emit_freeCtr (o : Out) : (s.emit o).freeCtr = s.freeCtr := rfl
@[simp] theorem State.emit_pending (o : Out) : (s.emit o).pending = s.pending := rfl

/-! ### drawn -/

@[simp] theorem State.drawn_reg : (s.drawn).reg = s.reg := rfl
@[simp] theorem State.drawn_sys : (s.drawn).sys = s.sys := rfl
@[simp] theorem State.drawn_period : (s.drawn).period = s.period := rfl
@[simp] theorem State.drawn_clk : (s.drawn).clk = s.clk := rfl
@[simp] theorem State.drawn_vrc : (s.drawn).vrc = s.vrc := rfl
@[simp] theorem State.drawn_lss : (s.drawn).lss = s.lss := rfl
@[simp] theorem State.drawn_img : (s.drawn).img = s.img := rfl
@[simp] theorem State.drawn_ct : (s.drawn).ct = s.ct := rfl
@[simp] theorem State.drawn_lanes : (s.drawn).lanes = s.lanes := rfl
@[simp] theorem State.drawn_link : (s.drawn).link = s.link := rfl
@[simp] theorem State.drawn_cp : (s.drawn).cp = s.cp := rfl
@[simp] theorem State.drawn_cpB : (s.drawn).cpB = s.cpB := rfl
@[simp] theorem State.drawn_eng : (s.drawn).eng = s.eng := rfl
@[simp] theorem State.drawn_loam : (s.drawn).loam = s.loam := rfl
@[simp] theorem State.drawn_acq : (s.drawn).acq = s.acq := rfl
@[simp] theorem State.drawn_strata : (s.drawn).strata = s.strata := rfl
@[simp] theorem State.drawn_thm : (s.drawn).thm = s.thm := rfl
@[simp] theorem State.drawn_evr : (s.drawn).evr = s.evr := rfl
@[simp] theorem State.drawn_pwm : (s.drawn).pwm = s.pwm := rfl
@[simp] theorem State.drawn_cell : (s.drawn).cell = s.cell := rfl
@[simp] theorem State.drawn_kao : (s.drawn).kao = s.kao := rfl
@[simp] theorem State.drawn_marl : (s.drawn).marl = s.marl := rfl
@[simp] theorem State.drawn_station : (s.drawn).station = s.station := rfl
@[simp] theorem State.drawn_ep : (s.drawn).ep = s.ep := rfl
@[simp] theorem State.drawn_out : (s.drawn).out = s.out := rfl
@[simp] theorem State.drawn_freeCtr : (s.drawn).freeCtr = s.freeCtr + 1 := rfl
@[simp] theorem State.drawn_pending : (s.drawn).pending = s.pending := rfl

/-! ### setEntry -/

@[simp] theorem State.setEntry_reg (i : Nat) (e : CtEntry) : (s.setEntry i e).reg = s.reg := rfl
@[simp] theorem State.setEntry_sys (i : Nat) (e : CtEntry) : (s.setEntry i e).sys = s.sys := rfl
@[simp] theorem State.setEntry_period (i : Nat) (e : CtEntry) : (s.setEntry i e).period = s.period := rfl
@[simp] theorem State.setEntry_clk (i : Nat) (e : CtEntry) : (s.setEntry i e).clk = s.clk := rfl
@[simp] theorem State.setEntry_vrc (i : Nat) (e : CtEntry) : (s.setEntry i e).vrc = s.vrc := rfl
@[simp] theorem State.setEntry_lss (i : Nat) (e : CtEntry) : (s.setEntry i e).lss = s.lss := rfl
@[simp] theorem State.setEntry_img (i : Nat) (e : CtEntry) : (s.setEntry i e).img = s.img := rfl
@[simp] theorem State.setEntry_lanes (i : Nat) (e : CtEntry) : (s.setEntry i e).lanes = s.lanes := rfl
@[simp] theorem State.setEntry_link (i : Nat) (e : CtEntry) : (s.setEntry i e).link = s.link := rfl
@[simp] theorem State.setEntry_cp (i : Nat) (e : CtEntry) : (s.setEntry i e).cp = s.cp := rfl
@[simp] theorem State.setEntry_cpB (i : Nat) (e : CtEntry) : (s.setEntry i e).cpB = s.cpB := rfl
@[simp] theorem State.setEntry_eng (i : Nat) (e : CtEntry) : (s.setEntry i e).eng = s.eng := rfl
@[simp] theorem State.setEntry_loam (i : Nat) (e : CtEntry) : (s.setEntry i e).loam = s.loam := rfl
@[simp] theorem State.setEntry_acq (i : Nat) (e : CtEntry) : (s.setEntry i e).acq = s.acq := rfl
@[simp] theorem State.setEntry_strata (i : Nat) (e : CtEntry) : (s.setEntry i e).strata = s.strata := rfl
@[simp] theorem State.setEntry_thm (i : Nat) (e : CtEntry) : (s.setEntry i e).thm = s.thm := rfl
@[simp] theorem State.setEntry_evr (i : Nat) (e : CtEntry) : (s.setEntry i e).evr = s.evr := rfl
@[simp] theorem State.setEntry_pwm (i : Nat) (e : CtEntry) : (s.setEntry i e).pwm = s.pwm := rfl
@[simp] theorem State.setEntry_cell (i : Nat) (e : CtEntry) : (s.setEntry i e).cell = s.cell := rfl
@[simp] theorem State.setEntry_kao (i : Nat) (e : CtEntry) : (s.setEntry i e).kao = s.kao := rfl
@[simp] theorem State.setEntry_marl (i : Nat) (e : CtEntry) : (s.setEntry i e).marl = s.marl := rfl
@[simp] theorem State.setEntry_station (i : Nat) (e : CtEntry) : (s.setEntry i e).station = s.station := rfl
@[simp] theorem State.setEntry_ep (i : Nat) (e : CtEntry) : (s.setEntry i e).ep = s.ep := rfl
@[simp] theorem State.setEntry_out (i : Nat) (e : CtEntry) : (s.setEntry i e).out = s.out := rfl
@[simp] theorem State.setEntry_freeCtr (i : Nat) (e : CtEntry) : (s.setEntry i e).freeCtr = s.freeCtr := rfl
@[simp] theorem State.setEntry_pending (i : Nat) (e : CtEntry) : (s.setEntry i e).pending = s.pending := rfl

/-! ### setHub -/

@[simp] theorem State.setHub_reg (i : Nat) (f : CtHub → CtHub) : (s.setHub i f).reg = s.reg := rfl
@[simp] theorem State.setHub_sys (i : Nat) (f : CtHub → CtHub) : (s.setHub i f).sys = s.sys := rfl
@[simp] theorem State.setHub_period (i : Nat) (f : CtHub → CtHub) : (s.setHub i f).period = s.period := rfl
@[simp] theorem State.setHub_clk (i : Nat) (f : CtHub → CtHub) : (s.setHub i f).clk = s.clk := rfl
@[simp] theorem State.setHub_vrc (i : Nat) (f : CtHub → CtHub) : (s.setHub i f).vrc = s.vrc := rfl
@[simp] theorem State.setHub_lss (i : Nat) (f : CtHub → CtHub) : (s.setHub i f).lss = s.lss := rfl
@[simp] theorem State.setHub_img (i : Nat) (f : CtHub → CtHub) : (s.setHub i f).img = s.img := rfl
@[simp] theorem State.setHub_lanes (i : Nat) (f : CtHub → CtHub) : (s.setHub i f).lanes = s.lanes := rfl
@[simp] theorem State.setHub_link (i : Nat) (f : CtHub → CtHub) : (s.setHub i f).link = s.link := rfl
@[simp] theorem State.setHub_cp (i : Nat) (f : CtHub → CtHub) : (s.setHub i f).cp = s.cp := rfl
@[simp] theorem State.setHub_cpB (i : Nat) (f : CtHub → CtHub) : (s.setHub i f).cpB = s.cpB := rfl
@[simp] theorem State.setHub_eng (i : Nat) (f : CtHub → CtHub) : (s.setHub i f).eng = s.eng := rfl
@[simp] theorem State.setHub_loam (i : Nat) (f : CtHub → CtHub) : (s.setHub i f).loam = s.loam := rfl
@[simp] theorem State.setHub_acq (i : Nat) (f : CtHub → CtHub) : (s.setHub i f).acq = s.acq := rfl
@[simp] theorem State.setHub_strata (i : Nat) (f : CtHub → CtHub) : (s.setHub i f).strata = s.strata := rfl
@[simp] theorem State.setHub_thm (i : Nat) (f : CtHub → CtHub) : (s.setHub i f).thm = s.thm := rfl
@[simp] theorem State.setHub_evr (i : Nat) (f : CtHub → CtHub) : (s.setHub i f).evr = s.evr := rfl
@[simp] theorem State.setHub_pwm (i : Nat) (f : CtHub → CtHub) : (s.setHub i f).pwm = s.pwm := rfl
@[simp] theorem State.setHub_cell (i : Nat) (f : CtHub → CtHub) : (s.setHub i f).cell = s.cell := rfl
@[simp] theorem State.setHub_kao (i : Nat) (f : CtHub → CtHub) : (s.setHub i f).kao = s.kao := rfl
@[simp] theorem State.setHub_marl (i : Nat) (f : CtHub → CtHub) : (s.setHub i f).marl = s.marl := rfl
@[simp] theorem State.setHub_station (i : Nat) (f : CtHub → CtHub) : (s.setHub i f).station = s.station := rfl
@[simp] theorem State.setHub_ep (i : Nat) (f : CtHub → CtHub) : (s.setHub i f).ep = s.ep := rfl
@[simp] theorem State.setHub_out (i : Nat) (f : CtHub → CtHub) : (s.setHub i f).out = s.out := rfl
@[simp] theorem State.setHub_freeCtr (i : Nat) (f : CtHub → CtHub) : (s.setHub i f).freeCtr = s.freeCtr := rfl
@[simp] theorem State.setHub_pending (i : Nat) (f : CtHub → CtHub) : (s.setHub i f).pending = s.pending := rfl

/-! ### setLane -/

@[simp] theorem State.setLane_reg (l : Nat) (x : Lane) : (s.setLane l x).reg = s.reg := rfl
@[simp] theorem State.setLane_sys (l : Nat) (x : Lane) : (s.setLane l x).sys = s.sys := rfl
@[simp] theorem State.setLane_period (l : Nat) (x : Lane) : (s.setLane l x).period = s.period := rfl
@[simp] theorem State.setLane_clk (l : Nat) (x : Lane) : (s.setLane l x).clk = s.clk := rfl
@[simp] theorem State.setLane_vrc (l : Nat) (x : Lane) : (s.setLane l x).vrc = s.vrc := rfl
@[simp] theorem State.setLane_lss (l : Nat) (x : Lane) : (s.setLane l x).lss = s.lss := rfl
@[simp] theorem State.setLane_img (l : Nat) (x : Lane) : (s.setLane l x).img = s.img := rfl
@[simp] theorem State.setLane_ct (l : Nat) (x : Lane) : (s.setLane l x).ct = s.ct := rfl
@[simp] theorem State.setLane_link (l : Nat) (x : Lane) : (s.setLane l x).link = s.link := rfl
@[simp] theorem State.setLane_cp (l : Nat) (x : Lane) : (s.setLane l x).cp = s.cp := rfl
@[simp] theorem State.setLane_cpB (l : Nat) (x : Lane) : (s.setLane l x).cpB = s.cpB := rfl
@[simp] theorem State.setLane_eng (l : Nat) (x : Lane) : (s.setLane l x).eng = s.eng := rfl
@[simp] theorem State.setLane_loam (l : Nat) (x : Lane) : (s.setLane l x).loam = s.loam := rfl
@[simp] theorem State.setLane_acq (l : Nat) (x : Lane) : (s.setLane l x).acq = s.acq := rfl
@[simp] theorem State.setLane_strata (l : Nat) (x : Lane) : (s.setLane l x).strata = s.strata := rfl
@[simp] theorem State.setLane_thm (l : Nat) (x : Lane) : (s.setLane l x).thm = s.thm := rfl
@[simp] theorem State.setLane_evr (l : Nat) (x : Lane) : (s.setLane l x).evr = s.evr := rfl
@[simp] theorem State.setLane_pwm (l : Nat) (x : Lane) : (s.setLane l x).pwm = s.pwm := rfl
@[simp] theorem State.setLane_cell (l : Nat) (x : Lane) : (s.setLane l x).cell = s.cell := rfl
@[simp] theorem State.setLane_kao (l : Nat) (x : Lane) : (s.setLane l x).kao = s.kao := rfl
@[simp] theorem State.setLane_marl (l : Nat) (x : Lane) : (s.setLane l x).marl = s.marl := rfl
@[simp] theorem State.setLane_station (l : Nat) (x : Lane) : (s.setLane l x).station = s.station := rfl
@[simp] theorem State.setLane_ep (l : Nat) (x : Lane) : (s.setLane l x).ep = s.ep := rfl
@[simp] theorem State.setLane_out (l : Nat) (x : Lane) : (s.setLane l x).out = s.out := rfl
@[simp] theorem State.setLane_freeCtr (l : Nat) (x : Lane) : (s.setLane l x).freeCtr = s.freeCtr := rfl
@[simp] theorem State.setLane_pending (l : Nat) (x : Lane) : (s.setLane l x).pending = s.pending := rfl

/-! ### onCopies -/

@[simp] theorem State.onCopies_reg (f : Copy → Copy) : (s.onCopies f).reg = s.reg := rfl
@[simp] theorem State.onCopies_sys (f : Copy → Copy) : (s.onCopies f).sys = s.sys := rfl
@[simp] theorem State.onCopies_period (f : Copy → Copy) : (s.onCopies f).period = s.period := rfl
@[simp] theorem State.onCopies_clk (f : Copy → Copy) : (s.onCopies f).clk = s.clk := rfl
@[simp] theorem State.onCopies_vrc (f : Copy → Copy) : (s.onCopies f).vrc = s.vrc := rfl
@[simp] theorem State.onCopies_lss (f : Copy → Copy) : (s.onCopies f).lss = s.lss := rfl
@[simp] theorem State.onCopies_img (f : Copy → Copy) : (s.onCopies f).img = s.img := rfl
@[simp] theorem State.onCopies_ct (f : Copy → Copy) : (s.onCopies f).ct = s.ct := rfl
@[simp] theorem State.onCopies_lanes (f : Copy → Copy) : (s.onCopies f).lanes = s.lanes := rfl
@[simp] theorem State.onCopies_link (f : Copy → Copy) : (s.onCopies f).link = s.link := rfl
@[simp] theorem State.onCopies_cp (f : Copy → Copy) : (s.onCopies f).cp = f s.cp := rfl
@[simp] theorem State.onCopies_cpB (f : Copy → Copy) : (s.onCopies f).cpB = s.cpB.map f := rfl
@[simp] theorem State.onCopies_eng (f : Copy → Copy) : (s.onCopies f).eng = s.eng := rfl
@[simp] theorem State.onCopies_loam (f : Copy → Copy) : (s.onCopies f).loam = s.loam := rfl
@[simp] theorem State.onCopies_acq (f : Copy → Copy) : (s.onCopies f).acq = s.acq := rfl
@[simp] theorem State.onCopies_strata (f : Copy → Copy) : (s.onCopies f).strata = s.strata := rfl
@[simp] theorem State.onCopies_thm (f : Copy → Copy) : (s.onCopies f).thm = s.thm := rfl
@[simp] theorem State.onCopies_evr (f : Copy → Copy) : (s.onCopies f).evr = s.evr := rfl
@[simp] theorem State.onCopies_pwm (f : Copy → Copy) : (s.onCopies f).pwm = s.pwm := rfl
@[simp] theorem State.onCopies_cell (f : Copy → Copy) : (s.onCopies f).cell = s.cell := rfl
@[simp] theorem State.onCopies_kao (f : Copy → Copy) : (s.onCopies f).kao = s.kao := rfl
@[simp] theorem State.onCopies_marl (f : Copy → Copy) : (s.onCopies f).marl = s.marl := rfl
@[simp] theorem State.onCopies_station (f : Copy → Copy) : (s.onCopies f).station = s.station := rfl
@[simp] theorem State.onCopies_ep (f : Copy → Copy) : (s.onCopies f).ep = s.ep := rfl
@[simp] theorem State.onCopies_out (f : Copy → Copy) : (s.onCopies f).out = s.out := rfl
@[simp] theorem State.onCopies_freeCtr (f : Copy → Copy) : (s.onCopies f).freeCtr = s.freeCtr := rfl
@[simp] theorem State.onCopies_pending (f : Copy → Copy) : (s.onCopies f).pending = s.pending := rfl

/-! ### onArm -/

@[simp] theorem State.onArm_reg (a : Nat) (f : Arm → Arm) : (s.onArm a f).reg = s.reg := rfl
@[simp] theorem State.onArm_sys (a : Nat) (f : Arm → Arm) : (s.onArm a f).sys = s.sys := rfl
@[simp] theorem State.onArm_period (a : Nat) (f : Arm → Arm) : (s.onArm a f).period = s.period := rfl
@[simp] theorem State.onArm_clk (a : Nat) (f : Arm → Arm) : (s.onArm a f).clk = s.clk := rfl
@[simp] theorem State.onArm_vrc (a : Nat) (f : Arm → Arm) : (s.onArm a f).vrc = s.vrc := rfl
@[simp] theorem State.onArm_lss (a : Nat) (f : Arm → Arm) : (s.onArm a f).lss = s.lss := rfl
@[simp] theorem State.onArm_img (a : Nat) (f : Arm → Arm) : (s.onArm a f).img = s.img := rfl
@[simp] theorem State.onArm_ct (a : Nat) (f : Arm → Arm) : (s.onArm a f).ct = s.ct := rfl
@[simp] theorem State.onArm_lanes (a : Nat) (f : Arm → Arm) : (s.onArm a f).lanes = s.lanes := rfl
@[simp] theorem State.onArm_link (a : Nat) (f : Arm → Arm) : (s.onArm a f).link = s.link := rfl
@[simp] theorem State.onArm_cpB (a : Nat) (f : Arm → Arm) : (s.onArm a f).cpB = s.cpB := rfl
@[simp] theorem State.onArm_eng (a : Nat) (f : Arm → Arm) : (s.onArm a f).eng = s.eng := rfl
@[simp] theorem State.onArm_loam (a : Nat) (f : Arm → Arm) : (s.onArm a f).loam = s.loam := rfl
@[simp] theorem State.onArm_acq (a : Nat) (f : Arm → Arm) : (s.onArm a f).acq = s.acq := rfl
@[simp] theorem State.onArm_strata (a : Nat) (f : Arm → Arm) : (s.onArm a f).strata = s.strata := rfl
@[simp] theorem State.onArm_thm (a : Nat) (f : Arm → Arm) : (s.onArm a f).thm = s.thm := rfl
@[simp] theorem State.onArm_evr (a : Nat) (f : Arm → Arm) : (s.onArm a f).evr = s.evr := rfl
@[simp] theorem State.onArm_pwm (a : Nat) (f : Arm → Arm) : (s.onArm a f).pwm = s.pwm := rfl
@[simp] theorem State.onArm_cell (a : Nat) (f : Arm → Arm) : (s.onArm a f).cell = s.cell := rfl
@[simp] theorem State.onArm_kao (a : Nat) (f : Arm → Arm) : (s.onArm a f).kao = s.kao := rfl
@[simp] theorem State.onArm_marl (a : Nat) (f : Arm → Arm) : (s.onArm a f).marl = s.marl := rfl
@[simp] theorem State.onArm_station (a : Nat) (f : Arm → Arm) : (s.onArm a f).station = s.station := rfl
@[simp] theorem State.onArm_ep (a : Nat) (f : Arm → Arm) : (s.onArm a f).ep = s.ep := rfl
@[simp] theorem State.onArm_out (a : Nat) (f : Arm → Arm) : (s.onArm a f).out = s.out := rfl
@[simp] theorem State.onArm_freeCtr (a : Nat) (f : Arm → Arm) : (s.onArm a f).freeCtr = s.freeCtr := rfl
@[simp] theorem State.onArm_pending (a : Nat) (f : Arm → Arm) : (s.onArm a f).pending = s.pending := rfl

/-! ### onGrade -/

@[simp] theorem State.onGrade_reg (i : Nat) (f : Grade → Grade) : (s.onGrade i f).reg = s.reg := rfl
@[simp] theorem State.onGrade_sys (i : Nat) (f : Grade → Grade) : (s.onGrade i f).sys = s.sys := rfl
@[simp] theorem State.onGrade_period (i : Nat) (f : Grade → Grade) : (s.onGrade i f).period = s.period := rfl
@[simp] theorem State.onGrade_clk (i : Nat) (f : Grade → Grade) : (s.onGrade i f).clk = s.clk := rfl
@[simp] theorem State.onGrade_vrc (i : Nat) (f : Grade → Grade) : (s.onGrade i f).vrc = s.vrc := rfl
@[simp] theorem State.onGrade_lss (i : Nat) (f : Grade → Grade) : (s.onGrade i f).lss = s.lss := rfl
@[simp] theorem State.onGrade_img (i : Nat) (f : Grade → Grade) : (s.onGrade i f).img = s.img := rfl
@[simp] theorem State.onGrade_ct (i : Nat) (f : Grade → Grade) : (s.onGrade i f).ct = s.ct := rfl
@[simp] theorem State.onGrade_lanes (i : Nat) (f : Grade → Grade) : (s.onGrade i f).lanes = s.lanes := rfl
@[simp] theorem State.onGrade_link (i : Nat) (f : Grade → Grade) : (s.onGrade i f).link = s.link := rfl
@[simp] theorem State.onGrade_cpB (i : Nat) (f : Grade → Grade) : (s.onGrade i f).cpB = s.cpB := rfl
@[simp] theorem State.onGrade_eng (i : Nat) (f : Grade → Grade) : (s.onGrade i f).eng = s.eng := rfl
@[simp] theorem State.onGrade_loam (i : Nat) (f : Grade → Grade) : (s.onGrade i f).loam = s.loam := rfl
@[simp] theorem State.onGrade_acq (i : Nat) (f : Grade → Grade) : (s.onGrade i f).acq = s.acq := rfl
@[simp] theorem State.onGrade_strata (i : Nat) (f : Grade → Grade) : (s.onGrade i f).strata = s.strata := rfl
@[simp] theorem State.onGrade_thm (i : Nat) (f : Grade → Grade) : (s.onGrade i f).thm = s.thm := rfl
@[simp] theorem State.onGrade_evr (i : Nat) (f : Grade → Grade) : (s.onGrade i f).evr = s.evr := rfl
@[simp] theorem State.onGrade_pwm (i : Nat) (f : Grade → Grade) : (s.onGrade i f).pwm = s.pwm := rfl
@[simp] theorem State.onGrade_cell (i : Nat) (f : Grade → Grade) : (s.onGrade i f).cell = s.cell := rfl
@[simp] theorem State.onGrade_kao (i : Nat) (f : Grade → Grade) : (s.onGrade i f).kao = s.kao := rfl
@[simp] theorem State.onGrade_marl (i : Nat) (f : Grade → Grade) : (s.onGrade i f).marl = s.marl := rfl
@[simp] theorem State.onGrade_station (i : Nat) (f : Grade → Grade) : (s.onGrade i f).station = s.station := rfl
@[simp] theorem State.onGrade_ep (i : Nat) (f : Grade → Grade) : (s.onGrade i f).ep = s.ep := rfl
@[simp] theorem State.onGrade_out (i : Nat) (f : Grade → Grade) : (s.onGrade i f).out = s.out := rfl
@[simp] theorem State.onGrade_freeCtr (i : Nat) (f : Grade → Grade) : (s.onGrade i f).freeCtr = s.freeCtr := rfl
@[simp] theorem State.onGrade_pending (i : Nat) (f : Grade → Grade) : (s.onGrade i f).pending = s.pending := rfl

/-! ### setCore -/

@[simp] theorem State.setCore_reg (c : Nat) (x : Core) : (s.setCore c x).reg = s.reg := rfl
@[simp] theorem State.setCore_sys (c : Nat) (x : Core) : (s.setCore c x).sys = s.sys := rfl
@[simp] theorem State.setCore_period (c : Nat) (x : Core) : (s.setCore c x).period = s.period := rfl
@[simp] theorem State.setCore_clk (c : Nat) (x : Core) : (s.setCore c x).clk = s.clk := rfl
@[simp] theorem State.setCore_vrc (c : Nat) (x : Core) : (s.setCore c x).vrc = s.vrc := rfl
@[simp] theorem State.setCore_lss (c : Nat) (x : Core) : (s.setCore c x).lss = s.lss := rfl
@[simp] theorem State.setCore_img (c : Nat) (x : Core) : (s.setCore c x).img = s.img := rfl
@[simp] theorem State.setCore_ct (c : Nat) (x : Core) : (s.setCore c x).ct = s.ct := rfl
@[simp] theorem State.setCore_lanes (c : Nat) (x : Core) : (s.setCore c x).lanes = s.lanes := rfl
@[simp] theorem State.setCore_link (c : Nat) (x : Core) : (s.setCore c x).link = s.link := rfl
@[simp] theorem State.setCore_cp (c : Nat) (x : Core) : (s.setCore c x).cp = s.cp := rfl
@[simp] theorem State.setCore_cpB (c : Nat) (x : Core) : (s.setCore c x).cpB = s.cpB := rfl
@[simp] theorem State.setCore_eng (c : Nat) (x : Core) : (s.setCore c x).eng = s.eng := rfl
@[simp] theorem State.setCore_loam (c : Nat) (x : Core) : (s.setCore c x).loam = s.loam := rfl
@[simp] theorem State.setCore_strata (c : Nat) (x : Core) : (s.setCore c x).strata = s.strata := rfl
@[simp] theorem State.setCore_thm (c : Nat) (x : Core) : (s.setCore c x).thm = s.thm := rfl
@[simp] theorem State.setCore_evr (c : Nat) (x : Core) : (s.setCore c x).evr = s.evr := rfl
@[simp] theorem State.setCore_pwm (c : Nat) (x : Core) : (s.setCore c x).pwm = s.pwm := rfl
@[simp] theorem State.setCore_cell (c : Nat) (x : Core) : (s.setCore c x).cell = s.cell := rfl
@[simp] theorem State.setCore_kao (c : Nat) (x : Core) : (s.setCore c x).kao = s.kao := rfl
@[simp] theorem State.setCore_marl (c : Nat) (x : Core) : (s.setCore c x).marl = s.marl := rfl
@[simp] theorem State.setCore_station (c : Nat) (x : Core) : (s.setCore c x).station = s.station := rfl
@[simp] theorem State.setCore_ep (c : Nat) (x : Core) : (s.setCore c x).ep = s.ep := rfl
@[simp] theorem State.setCore_out (c : Nat) (x : Core) : (s.setCore c x).out = s.out := rfl
@[simp] theorem State.setCore_freeCtr (c : Nat) (x : Core) : (s.setCore c x).freeCtr = s.freeCtr := rfl
@[simp] theorem State.setCore_pending (c : Nat) (x : Core) : (s.setCore c x).pending = s.pending := rfl

/-! ### setPair -/

@[simp] theorem State.setPair_reg (p : Nat) (x : PwmPair) : (s.setPair p x).reg = s.reg := rfl
@[simp] theorem State.setPair_sys (p : Nat) (x : PwmPair) : (s.setPair p x).sys = s.sys := rfl
@[simp] theorem State.setPair_period (p : Nat) (x : PwmPair) : (s.setPair p x).period = s.period := rfl
@[simp] theorem State.setPair_clk (p : Nat) (x : PwmPair) : (s.setPair p x).clk = s.clk := rfl
@[simp] theorem State.setPair_vrc (p : Nat) (x : PwmPair) : (s.setPair p x).vrc = s.vrc := rfl
@[simp] theorem State.setPair_lss (p : Nat) (x : PwmPair) : (s.setPair p x).lss = s.lss := rfl
@[simp] theorem State.setPair_img (p : Nat) (x : PwmPair) : (s.setPair p x).img = s.img := rfl
@[simp] theorem State.setPair_ct (p : Nat) (x : PwmPair) : (s.setPair p x).ct = s.ct := rfl
@[simp] theorem State.setPair_lanes (p : Nat) (x : PwmPair) : (s.setPair p x).lanes = s.lanes := rfl
@[simp] theorem State.setPair_link (p : Nat) (x : PwmPair) : (s.setPair p x).link = s.link := rfl
@[simp] theorem State.setPair_cp (p : Nat) (x : PwmPair) : (s.setPair p x).cp = s.cp := rfl
@[simp] theorem State.setPair_cpB (p : Nat) (x : PwmPair) : (s.setPair p x).cpB = s.cpB := rfl
@[simp] theorem State.setPair_eng (p : Nat) (x : PwmPair) : (s.setPair p x).eng = s.eng := rfl
@[simp] theorem State.setPair_loam (p : Nat) (x : PwmPair) : (s.setPair p x).loam = s.loam := rfl
@[simp] theorem State.setPair_acq (p : Nat) (x : PwmPair) : (s.setPair p x).acq = s.acq := rfl
@[simp] theorem State.setPair_strata (p : Nat) (x : PwmPair) : (s.setPair p x).strata = s.strata := rfl
@[simp] theorem State.setPair_thm (p : Nat) (x : PwmPair) : (s.setPair p x).thm = s.thm := rfl
@[simp] theorem State.setPair_evr (p : Nat) (x : PwmPair) : (s.setPair p x).evr = s.evr := rfl
@[simp] theorem State.setPair_cell (p : Nat) (x : PwmPair) : (s.setPair p x).cell = s.cell := rfl
@[simp] theorem State.setPair_kao (p : Nat) (x : PwmPair) : (s.setPair p x).kao = s.kao := rfl
@[simp] theorem State.setPair_marl (p : Nat) (x : PwmPair) : (s.setPair p x).marl = s.marl := rfl
@[simp] theorem State.setPair_station (p : Nat) (x : PwmPair) : (s.setPair p x).station = s.station := rfl
@[simp] theorem State.setPair_ep (p : Nat) (x : PwmPair) : (s.setPair p x).ep = s.ep := rfl
@[simp] theorem State.setPair_out (p : Nat) (x : PwmPair) : (s.setPair p x).out = s.out := rfl
@[simp] theorem State.setPair_freeCtr (p : Nat) (x : PwmPair) : (s.setPair p x).freeCtr = s.freeCtr := rfl
@[simp] theorem State.setPair_pending (p : Nat) (x : PwmPair) : (s.setPair p x).pending = s.pending := rfl

/-! ### setGrp -/

@[simp] theorem State.setGrp_reg (g : Nat) (x : PwmGrp) : (s.setGrp g x).reg = s.reg := rfl
@[simp] theorem State.setGrp_sys (g : Nat) (x : PwmGrp) : (s.setGrp g x).sys = s.sys := rfl
@[simp] theorem State.setGrp_period (g : Nat) (x : PwmGrp) : (s.setGrp g x).period = s.period := rfl
@[simp] theorem State.setGrp_clk (g : Nat) (x : PwmGrp) : (s.setGrp g x).clk = s.clk := rfl
@[simp] theorem State.setGrp_vrc (g : Nat) (x : PwmGrp) : (s.setGrp g x).vrc = s.vrc := rfl
@[simp] theorem State.setGrp_lss (g : Nat) (x : PwmGrp) : (s.setGrp g x).lss = s.lss := rfl
@[simp] theorem State.setGrp_img (g : Nat) (x : PwmGrp) : (s.setGrp g x).img = s.img := rfl
@[simp] theorem State.setGrp_ct (g : Nat) (x : PwmGrp) : (s.setGrp g x).ct = s.ct := rfl
@[simp] theorem State.setGrp_lanes (g : Nat) (x : PwmGrp) : (s.setGrp g x).lanes = s.lanes := rfl
@[simp] theorem State.setGrp_link (g : Nat) (x : PwmGrp) : (s.setGrp g x).link = s.link := rfl
@[simp] theorem State.setGrp_cp (g : Nat) (x : PwmGrp) : (s.setGrp g x).cp = s.cp := rfl
@[simp] theorem State.setGrp_cpB (g : Nat) (x : PwmGrp) : (s.setGrp g x).cpB = s.cpB := rfl
@[simp] theorem State.setGrp_eng (g : Nat) (x : PwmGrp) : (s.setGrp g x).eng = s.eng := rfl
@[simp] theorem State.setGrp_loam (g : Nat) (x : PwmGrp) : (s.setGrp g x).loam = s.loam := rfl
@[simp] theorem State.setGrp_acq (g : Nat) (x : PwmGrp) : (s.setGrp g x).acq = s.acq := rfl
@[simp] theorem State.setGrp_strata (g : Nat) (x : PwmGrp) : (s.setGrp g x).strata = s.strata := rfl
@[simp] theorem State.setGrp_thm (g : Nat) (x : PwmGrp) : (s.setGrp g x).thm = s.thm := rfl
@[simp] theorem State.setGrp_evr (g : Nat) (x : PwmGrp) : (s.setGrp g x).evr = s.evr := rfl
@[simp] theorem State.setGrp_cell (g : Nat) (x : PwmGrp) : (s.setGrp g x).cell = s.cell := rfl
@[simp] theorem State.setGrp_kao (g : Nat) (x : PwmGrp) : (s.setGrp g x).kao = s.kao := rfl
@[simp] theorem State.setGrp_marl (g : Nat) (x : PwmGrp) : (s.setGrp g x).marl = s.marl := rfl
@[simp] theorem State.setGrp_station (g : Nat) (x : PwmGrp) : (s.setGrp g x).station = s.station := rfl
@[simp] theorem State.setGrp_ep (g : Nat) (x : PwmGrp) : (s.setGrp g x).ep = s.ep := rfl
@[simp] theorem State.setGrp_out (g : Nat) (x : PwmGrp) : (s.setGrp g x).out = s.out := rfl
@[simp] theorem State.setGrp_freeCtr (g : Nat) (x : PwmGrp) : (s.setGrp g x).freeCtr = s.freeCtr := rfl
@[simp] theorem State.setGrp_pending (g : Nat) (x : PwmGrp) : (s.setGrp g x).pending = s.pending := rfl

/-! ### kl -/

@[simp] theorem State.kl_reg (f : KaoLive → KaoLive) : (s.kl f).reg = s.reg := rfl
@[simp] theorem State.kl_sys (f : KaoLive → KaoLive) : (s.kl f).sys = s.sys := rfl
@[simp] theorem State.kl_period (f : KaoLive → KaoLive) : (s.kl f).period = s.period := rfl
@[simp] theorem State.kl_clk (f : KaoLive → KaoLive) : (s.kl f).clk = s.clk := rfl
@[simp] theorem State.kl_vrc (f : KaoLive → KaoLive) : (s.kl f).vrc = s.vrc := rfl
@[simp] theorem State.kl_lss (f : KaoLive → KaoLive) : (s.kl f).lss = s.lss := rfl
@[simp] theorem State.kl_img (f : KaoLive → KaoLive) : (s.kl f).img = s.img := rfl
@[simp] theorem State.kl_ct (f : KaoLive → KaoLive) : (s.kl f).ct = s.ct := rfl
@[simp] theorem State.kl_lanes (f : KaoLive → KaoLive) : (s.kl f).lanes = s.lanes := rfl
@[simp] theorem State.kl_link (f : KaoLive → KaoLive) : (s.kl f).link = s.link := rfl
@[simp] theorem State.kl_cp (f : KaoLive → KaoLive) : (s.kl f).cp = s.cp := rfl
@[simp] theorem State.kl_cpB (f : KaoLive → KaoLive) : (s.kl f).cpB = s.cpB := rfl
@[simp] theorem State.kl_eng (f : KaoLive → KaoLive) : (s.kl f).eng = s.eng := rfl
@[simp] theorem State.kl_loam (f : KaoLive → KaoLive) : (s.kl f).loam = s.loam := rfl
@[simp] theorem State.kl_acq (f : KaoLive → KaoLive) : (s.kl f).acq = s.acq := rfl
@[simp] theorem State.kl_strata (f : KaoLive → KaoLive) : (s.kl f).strata = s.strata := rfl
@[simp] theorem State.kl_thm (f : KaoLive → KaoLive) : (s.kl f).thm = s.thm := rfl
@[simp] theorem State.kl_evr (f : KaoLive → KaoLive) : (s.kl f).evr = s.evr := rfl
@[simp] theorem State.kl_pwm (f : KaoLive → KaoLive) : (s.kl f).pwm = s.pwm := rfl
@[simp] theorem State.kl_cell (f : KaoLive → KaoLive) : (s.kl f).cell = s.cell := rfl
@[simp] theorem State.kl_marl (f : KaoLive → KaoLive) : (s.kl f).marl = s.marl := rfl
@[simp] theorem State.kl_station (f : KaoLive → KaoLive) : (s.kl f).station = s.station := rfl
@[simp] theorem State.kl_ep (f : KaoLive → KaoLive) : (s.kl f).ep = s.ep := rfl
@[simp] theorem State.kl_out (f : KaoLive → KaoLive) : (s.kl f).out = s.out := rfl
@[simp] theorem State.kl_freeCtr (f : KaoLive → KaoLive) : (s.kl f).freeCtr = s.freeCtr := rfl
@[simp] theorem State.kl_pending (f : KaoLive → KaoLive) : (s.kl f).pending = s.pending := rfl

/-! ### marlMod -/

@[simp] theorem State.marlMod_reg (f : Marl → Marl) : (s.marlMod f).reg = s.reg := rfl
@[simp] theorem State.marlMod_sys (f : Marl → Marl) : (s.marlMod f).sys = s.sys := rfl
@[simp] theorem State.marlMod_period (f : Marl → Marl) : (s.marlMod f).period = s.period := rfl
@[simp] theorem State.marlMod_clk (f : Marl → Marl) : (s.marlMod f).clk = s.clk := rfl
@[simp] theorem State.marlMod_vrc (f : Marl → Marl) : (s.marlMod f).vrc = s.vrc := rfl
@[simp] theorem State.marlMod_lss (f : Marl → Marl) : (s.marlMod f).lss = s.lss := rfl
@[simp] theorem State.marlMod_img (f : Marl → Marl) : (s.marlMod f).img = s.img := rfl
@[simp] theorem State.marlMod_ct (f : Marl → Marl) : (s.marlMod f).ct = s.ct := rfl
@[simp] theorem State.marlMod_lanes (f : Marl → Marl) : (s.marlMod f).lanes = s.lanes := rfl
@[simp] theorem State.marlMod_link (f : Marl → Marl) : (s.marlMod f).link = s.link := rfl
@[simp] theorem State.marlMod_cp (f : Marl → Marl) : (s.marlMod f).cp = s.cp := rfl
@[simp] theorem State.marlMod_cpB (f : Marl → Marl) : (s.marlMod f).cpB = s.cpB := rfl
@[simp] theorem State.marlMod_eng (f : Marl → Marl) : (s.marlMod f).eng = s.eng := rfl
@[simp] theorem State.marlMod_loam (f : Marl → Marl) : (s.marlMod f).loam = s.loam := rfl
@[simp] theorem State.marlMod_acq (f : Marl → Marl) : (s.marlMod f).acq = s.acq := rfl
@[simp] theorem State.marlMod_strata (f : Marl → Marl) : (s.marlMod f).strata = s.strata := rfl
@[simp] theorem State.marlMod_thm (f : Marl → Marl) : (s.marlMod f).thm = s.thm := rfl
@[simp] theorem State.marlMod_evr (f : Marl → Marl) : (s.marlMod f).evr = s.evr := rfl
@[simp] theorem State.marlMod_pwm (f : Marl → Marl) : (s.marlMod f).pwm = s.pwm := rfl
@[simp] theorem State.marlMod_cell (f : Marl → Marl) : (s.marlMod f).cell = s.cell := rfl
@[simp] theorem State.marlMod_kao (f : Marl → Marl) : (s.marlMod f).kao = s.kao := rfl
@[simp] theorem State.marlMod_marl (f : Marl → Marl) : (s.marlMod f).marl = f s.marl := rfl
@[simp] theorem State.marlMod_station (f : Marl → Marl) : (s.marlMod f).station = s.station := rfl
@[simp] theorem State.marlMod_ep (f : Marl → Marl) : (s.marlMod f).ep = s.ep := rfl
@[simp] theorem State.marlMod_out (f : Marl → Marl) : (s.marlMod f).out = s.out := rfl
@[simp] theorem State.marlMod_freeCtr (f : Marl → Marl) : (s.marlMod f).freeCtr = s.freeCtr := rfl
@[simp] theorem State.marlMod_pending (f : Marl → Marl) : (s.marlMod f).pending = s.pending := rfl

/-! ### chMod -/

@[simp] theorem State.chMod_reg (b : Bool) (f : MarlCh → MarlCh) : (s.chMod b f).reg = s.reg := rfl
@[simp] theorem State.chMod_sys (b : Bool) (f : MarlCh → MarlCh) : (s.chMod b f).sys = s.sys := rfl
@[simp] theorem State.chMod_period (b : Bool) (f : MarlCh → MarlCh) : (s.chMod b f).period = s.period := rfl
@[simp] theorem State.chMod_clk (b : Bool) (f : MarlCh → MarlCh) : (s.chMod b f).clk = s.clk := rfl
@[simp] theorem State.chMod_vrc (b : Bool) (f : MarlCh → MarlCh) : (s.chMod b f).vrc = s.vrc := rfl
@[simp] theorem State.chMod_lss (b : Bool) (f : MarlCh → MarlCh) : (s.chMod b f).lss = s.lss := rfl
@[simp] theorem State.chMod_img (b : Bool) (f : MarlCh → MarlCh) : (s.chMod b f).img = s.img := rfl
@[simp] theorem State.chMod_ct (b : Bool) (f : MarlCh → MarlCh) : (s.chMod b f).ct = s.ct := rfl
@[simp] theorem State.chMod_lanes (b : Bool) (f : MarlCh → MarlCh) : (s.chMod b f).lanes = s.lanes := rfl
@[simp] theorem State.chMod_link (b : Bool) (f : MarlCh → MarlCh) : (s.chMod b f).link = s.link := rfl
@[simp] theorem State.chMod_cp (b : Bool) (f : MarlCh → MarlCh) : (s.chMod b f).cp = s.cp := rfl
@[simp] theorem State.chMod_cpB (b : Bool) (f : MarlCh → MarlCh) : (s.chMod b f).cpB = s.cpB := rfl
@[simp] theorem State.chMod_eng (b : Bool) (f : MarlCh → MarlCh) : (s.chMod b f).eng = s.eng := rfl
@[simp] theorem State.chMod_loam (b : Bool) (f : MarlCh → MarlCh) : (s.chMod b f).loam = s.loam := rfl
@[simp] theorem State.chMod_acq (b : Bool) (f : MarlCh → MarlCh) : (s.chMod b f).acq = s.acq := rfl
@[simp] theorem State.chMod_strata (b : Bool) (f : MarlCh → MarlCh) : (s.chMod b f).strata = s.strata := rfl
@[simp] theorem State.chMod_thm (b : Bool) (f : MarlCh → MarlCh) : (s.chMod b f).thm = s.thm := rfl
@[simp] theorem State.chMod_evr (b : Bool) (f : MarlCh → MarlCh) : (s.chMod b f).evr = s.evr := rfl
@[simp] theorem State.chMod_pwm (b : Bool) (f : MarlCh → MarlCh) : (s.chMod b f).pwm = s.pwm := rfl
@[simp] theorem State.chMod_cell (b : Bool) (f : MarlCh → MarlCh) : (s.chMod b f).cell = s.cell := rfl
@[simp] theorem State.chMod_kao (b : Bool) (f : MarlCh → MarlCh) : (s.chMod b f).kao = s.kao := rfl
@[simp] theorem State.chMod_station (b : Bool) (f : MarlCh → MarlCh) : (s.chMod b f).station = s.station := rfl
@[simp] theorem State.chMod_ep (b : Bool) (f : MarlCh → MarlCh) : (s.chMod b f).ep = s.ep := rfl
@[simp] theorem State.chMod_out (b : Bool) (f : MarlCh → MarlCh) : (s.chMod b f).out = s.out := rfl
@[simp] theorem State.chMod_freeCtr (b : Bool) (f : MarlCh → MarlCh) : (s.chMod b f).freeCtr = s.freeCtr := rfl
@[simp] theorem State.chMod_pending (b : Bool) (f : MarlCh → MarlCh) : (s.chMod b f).pending = s.pending := rfl

/-! ### stMod -/

@[simp] theorem State.stMod_reg (f : Station → Station) : (s.stMod f).reg = s.reg := rfl
@[simp] theorem State.stMod_sys (f : Station → Station) : (s.stMod f).sys = s.sys := rfl
@[simp] theorem State.stMod_period (f : Station → Station) : (s.stMod f).period = s.period := rfl
@[simp] theorem State.stMod_clk (f : Station → Station) : (s.stMod f).clk = s.clk := rfl
@[simp] theorem State.stMod_vrc (f : Station → Station) : (s.stMod f).vrc = s.vrc := rfl
@[simp] theorem State.stMod_lss (f : Station → Station) : (s.stMod f).lss = s.lss := rfl
@[simp] theorem State.stMod_img (f : Station → Station) : (s.stMod f).img = s.img := rfl
@[simp] theorem State.stMod_ct (f : Station → Station) : (s.stMod f).ct = s.ct := rfl
@[simp] theorem State.stMod_lanes (f : Station → Station) : (s.stMod f).lanes = s.lanes := rfl
@[simp] theorem State.stMod_link (f : Station → Station) : (s.stMod f).link = s.link := rfl
@[simp] theorem State.stMod_cp (f : Station → Station) : (s.stMod f).cp = s.cp := rfl
@[simp] theorem State.stMod_cpB (f : Station → Station) : (s.stMod f).cpB = s.cpB := rfl
@[simp] theorem State.stMod_eng (f : Station → Station) : (s.stMod f).eng = s.eng := rfl
@[simp] theorem State.stMod_loam (f : Station → Station) : (s.stMod f).loam = s.loam := rfl
@[simp] theorem State.stMod_acq (f : Station → Station) : (s.stMod f).acq = s.acq := rfl
@[simp] theorem State.stMod_strata (f : Station → Station) : (s.stMod f).strata = s.strata := rfl
@[simp] theorem State.stMod_thm (f : Station → Station) : (s.stMod f).thm = s.thm := rfl
@[simp] theorem State.stMod_evr (f : Station → Station) : (s.stMod f).evr = s.evr := rfl
@[simp] theorem State.stMod_pwm (f : Station → Station) : (s.stMod f).pwm = s.pwm := rfl
@[simp] theorem State.stMod_cell (f : Station → Station) : (s.stMod f).cell = s.cell := rfl
@[simp] theorem State.stMod_kao (f : Station → Station) : (s.stMod f).kao = s.kao := rfl
@[simp] theorem State.stMod_marl (f : Station → Station) : (s.stMod f).marl = s.marl := rfl
@[simp] theorem State.stMod_station (f : Station → Station) : (s.stMod f).station = f s.station := rfl
@[simp] theorem State.stMod_ep (f : Station → Station) : (s.stMod f).ep = s.ep := rfl
@[simp] theorem State.stMod_out (f : Station → Station) : (s.stMod f).out = s.out := rfl
@[simp] theorem State.stMod_freeCtr (f : Station → Station) : (s.stMod f).freeCtr = s.freeCtr := rfl
@[simp] theorem State.stMod_pending (f : Station → Station) : (s.stMod f).pending = s.pending := rfl

/-! ### canMod -/

@[simp] theorem State.canMod_reg (n : Nat) (f : Can → Can) : (s.canMod n f).reg = s.reg := rfl
@[simp] theorem State.canMod_sys (n : Nat) (f : Can → Can) : (s.canMod n f).sys = s.sys := rfl
@[simp] theorem State.canMod_period (n : Nat) (f : Can → Can) : (s.canMod n f).period = s.period := rfl
@[simp] theorem State.canMod_clk (n : Nat) (f : Can → Can) : (s.canMod n f).clk = s.clk := rfl
@[simp] theorem State.canMod_vrc (n : Nat) (f : Can → Can) : (s.canMod n f).vrc = s.vrc := rfl
@[simp] theorem State.canMod_lss (n : Nat) (f : Can → Can) : (s.canMod n f).lss = s.lss := rfl
@[simp] theorem State.canMod_img (n : Nat) (f : Can → Can) : (s.canMod n f).img = s.img := rfl
@[simp] theorem State.canMod_ct (n : Nat) (f : Can → Can) : (s.canMod n f).ct = s.ct := rfl
@[simp] theorem State.canMod_lanes (n : Nat) (f : Can → Can) : (s.canMod n f).lanes = s.lanes := rfl
@[simp] theorem State.canMod_link (n : Nat) (f : Can → Can) : (s.canMod n f).link = s.link := rfl
@[simp] theorem State.canMod_cp (n : Nat) (f : Can → Can) : (s.canMod n f).cp = s.cp := rfl
@[simp] theorem State.canMod_cpB (n : Nat) (f : Can → Can) : (s.canMod n f).cpB = s.cpB := rfl
@[simp] theorem State.canMod_eng (n : Nat) (f : Can → Can) : (s.canMod n f).eng = s.eng := rfl
@[simp] theorem State.canMod_loam (n : Nat) (f : Can → Can) : (s.canMod n f).loam = s.loam := rfl
@[simp] theorem State.canMod_acq (n : Nat) (f : Can → Can) : (s.canMod n f).acq = s.acq := rfl
@[simp] theorem State.canMod_strata (n : Nat) (f : Can → Can) : (s.canMod n f).strata = s.strata := rfl
@[simp] theorem State.canMod_thm (n : Nat) (f : Can → Can) : (s.canMod n f).thm = s.thm := rfl
@[simp] theorem State.canMod_evr (n : Nat) (f : Can → Can) : (s.canMod n f).evr = s.evr := rfl
@[simp] theorem State.canMod_pwm (n : Nat) (f : Can → Can) : (s.canMod n f).pwm = s.pwm := rfl
@[simp] theorem State.canMod_cell (n : Nat) (f : Can → Can) : (s.canMod n f).cell = s.cell := rfl
@[simp] theorem State.canMod_kao (n : Nat) (f : Can → Can) : (s.canMod n f).kao = s.kao := rfl
@[simp] theorem State.canMod_marl (n : Nat) (f : Can → Can) : (s.canMod n f).marl = s.marl := rfl
@[simp] theorem State.canMod_ep (n : Nat) (f : Can → Can) : (s.canMod n f).ep = s.ep := rfl
@[simp] theorem State.canMod_out (n : Nat) (f : Can → Can) : (s.canMod n f).out = s.out := rfl
@[simp] theorem State.canMod_freeCtr (n : Nat) (f : Can → Can) : (s.canMod n f).freeCtr = s.freeCtr := rfl
@[simp] theorem State.canMod_pending (n : Nat) (f : Can → Can) : (s.canMod n f).pending = s.pending := rfl

/-! ## Operations: the parts that one may change -/

/-- An accepted write stores one register word or nothing (R3). -/
theorem State.store_cases (a w : Nat) : (∃ w', s.store a w = s.wr a w') ∨ s.store a w = s := by
  unfold State.store
  split
  · exact .inl ⟨_, rfl⟩
  · exact .inr rfl

/-- An accepted write touches the register file alone. -/
theorem State.store_frame (a w : Nat) : s.store a w = { s with reg := (s.store a w).reg } := by
  obtain ⟨w', h⟩ | h := s.store_cases a w <;> rw [h] <;> rfl

/-- A stamped event joins the intake, or is counted as dropped when 256 wait (R517). -/
theorem State.enter_cases (e : Ev) :
    (s.strata.intake.length < 256 ∧
      s.enter e = { s with strata := { s.strata with intake := s.strata.intake ++ [e] } }) ∨
    (256 ≤ s.strata.intake.length ∧
      s.enter e = { s.count STR.LOST.DROPPED 1 with strata := { s.strata with dropped := s.strata.dropped + 1 } }) := by
  unfold State.enter
  split
  · exact .inl ⟨‹_›, rfl⟩
  · exact .inr ⟨by omega, rfl⟩

/-- An event touches the recorder and the register file alone. -/
theorem State.event_frame (code data : Nat) :
    s.event code data = { s with reg := (s.event code data).reg, strata := (s.event code data).strata } := by
  obtain ⟨-, h⟩ | ⟨-, h⟩ := (passTicks s).enter_cases (stampEv code data (passTicks s)) <;>
    rw [State.event, h] <;> rfl

/-- An access error is the cell's refused reply, the first error's record, or one more in the count (R471). -/
theorem accessError_cases (p : Path) (cause a : Nat) :
    (p = .mgmt ∧ accessError p cause a s = { s with cell := { s.cell with replyErr := true } }) ∨
    (p ≠ .mgmt ∧ s.flag HST.AERR.VALID = true ∧ accessError p cause a s = s.count HST.AERR.COUNT 1) ∨
    (p ≠ .mgmt ∧ s.flag HST.AERR.VALID = false ∧
      accessError p cause a s = (s.wr HST.AERR.addr (2 ^ 31 + (if p = .spi then 16 else 0) + cause)).wr HST.AERR_ADDR.addr a) := by
  unfold accessError
  split
  · exact .inl ⟨rfl, rfl⟩
  · split
    · exact .inr (.inl ⟨‹_›, ‹_›, rfl⟩)
    · exact .inr (.inr ⟨‹_›, Bool.eq_false_iff.mpr ‹_›, rfl⟩)

/-- An access error touches the register file and, in a cell, the reply. -/
theorem accessError_frame (p : Path) (cause a : Nat) :
    accessError p cause a s = { s with reg := (accessError p cause a s).reg, cell := (accessError p cause a s).cell } := by
  obtain ⟨-, h⟩ | ⟨-, -, h⟩ | ⟨-, -, h⟩ := accessError_cases s p cause a <;> rw [h] <;> rfl

/-- A buffer that changes hands changes register words alone: its META word and, where the books fail, EVT.BOOKS (R460). -/
theorem give_frame (b o n : Nat) : give b o n s = { s with reg := (give b o n s).reg } := by
  have h (t : State) : siltBooks t = t ∨ siltBooks t = t.raise SLT.EVT.BOOKS := by
    unfold siltBooks
    dsimp only
    generalize ownCount t _ + _ + _ = n
    by_cases hn : n = 512
    · exact .inl (if_pos hn)
    · exact .inr (if_neg hn)
  obtain h | h := h ((s.setFld (SLT.META.OWNER.at (4 * b)) o).setFld (SLT.META.CTRL.at (4 * b)) n) <;>
    (rw [give, h]; rfl)

/-- A reserve is claimed from the free buffers, the lowest first, or nothing changes (R467). -/
theorem claimReserve_cases (n : Nat) :
    (∃ b, lowestFree s = some b ∧ canFlag s n CAN.CTRL.EN = true ∧ (s.can n).reserve = none ∧ belowQuota s n = true ∧
      claimReserve n s = (give b ownReserve n s).canMod n (fun c => { c with reserve := some b })) ∨ claimReserve n s = s := by
  unfold claimReserve
  split
  · rename_i h
    split
    · refine .inl ⟨_, ‹_›, ?_, ?_, ?_, rfl⟩ <;> simp_all
    · exact .inr rfl
  · exact .inr rfl

end Sys2Proof.Machine
end

