-- ==== Sys2Proof/Tests/Slice0.lean ====
section
/-!
SUPPORT. Tests: for each statement a concrete state and operands that meet its hypotheses, clause by clause; an ill-formed term for
each well-formedness check; the spec's worked examples.
-/
namespace Sys2Proof.Tests
open Sys2Proof Sys2Proof.Machine

set_option maxRecDepth 100000

abbrev test_hub : State := (State.reset.setFld IMG.STAT.STATE 5).setFlag IMG.STAT.VALID true
abbrev test_cell : State := ((State.reset.setFld IMG.STAT.STATE 5).setFlag IMG.STAT.VALID true) |> fun s => { s with sys := { s.sys with role := .cell } }

abbrev test_kaoSet : List Byte :=
  leBytes 2 1 ++ [3#8, 15#8] ++ leBytes 4 488000 ++ leBytes 4 488000 ++ leBytes 4 500 ++ leBytes 4 500 ++ List.replicate 12 0#8
    ++ (List.replicate 48 (leBytes 4 0x01000000 ++ leBytes 4 5)).flatten
    ++ [0#8, 0#8] ++ leBytes 2 30 ++ leBytes 4 1000 ++ [3#8, 0#8] ++ leBytes 2 1000 ++ leBytes 4 1
    ++ (List.replicate 4 (leBytes 2 10 ++ leBytes 2 1)).flatten ++ List.replicate 64 0#8

abbrev test_marlSet : List Byte :=
  leBytes 2 1 ++ [0#8, 0#8] ++ leBytes 8 2 ++ leBytes 4 0
    ++ (List.replicate 2 ([1#8, 0#8] ++ leBytes 2 150 ++ leBytes 4 0)).flatten ++ (List.replicate 14 ([0#8, 0#8] ++ leBytes 2 10 ++ leBytes 4 0)).flatten
    ++ (leBytes 8 2 ++ [1#8, 10#8] ++ leBytes 2 10 ++ leBytes 2 100 ++ leBytes 2 0)
    ++ (List.replicate 7 (leBytes 8 0 ++ [0#8, 10#8] ++ leBytes 2 10 ++ leBytes 2 100 ++ leBytes 2 0)).flatten
    ++ (List.replicate 2 ([0#8, 0#8] ++ leBytes 2 2000 ++ leBytes 2 100 ++ leBytes 2 100 ++ leBytes 2 4000 ++ leBytes 2 8 ++ leBytes 2 10 ++ leBytes 2 0)).flatten
    ++ ([5#8, 4#8] ++ leBytes 2 5 ++ leBytes 2 20 ++ [0#8, 0#8] ++ leBytes 4 0x11 ++ leBytes 4 0x22)
    ++ (List.replicate 3 ([0#8, 4#8] ++ leBytes 2 5 ++ leBytes 2 20 ++ [0#8, 0#8] ++ leBytes 4 0x11 ++ leBytes 4 0x33)).flatten
    ++ leBytes 16 (2 ^ 127) ++ List.replicate 128 0#8

abbrev test_telegram : List Byte :=
  (leBytes 4 0x22 ++ leBytes 4 8 ++ [1#8, 1#8] ++ leBytes 2 3 ++ leBytes 16 5) |> fun b => b ++ leBytes 4 (telegramCrc 0x22 b)

abbrev test_frame : List Byte := List.replicate 6 0xFF#8 ++ List.replicate 6 7#8 ++ [0x88#8, 0xF7#8] ++ List.replicate 46 3#8
abbrev test_wire : List Byte := test_frame ++ leBytes 4 (crc32 test_frame)
abbrev test_mrlFrame : List Byte := List.replicate 6 0xFF#8 ++ List.replicate 6 7#8 ++ [0x88#8, 0xB5#8] ++ List.replicate 46 3#8
abbrev test_mrlWire : List Byte := test_mrlFrame ++ leBytes 4 (crc32 test_mrlFrame)

theorem test_mgmtUid (a b : BitVec 64) : mgmtDecode [a, BitVec.ofNat 64 cellUid, b] = { mgmtDecode [a, 0#64, b] with uid := cellUid } := by
  have h : (BitVec.ofNat 64 cellUid).toNat = cellUid := by simp [cellUid, BitVec.toNat_ofNat]
  simp [mgmtDecode, h]

theorem test_cellMsg {s : State} {code : Nat} {ws : List (BitVec 64)} {m : MgmtMsg} (h1 : s.isCell = true) (h2 : s.cell.mgmt = some ws)
    (h3 : mgmtDecode ws = m) (h4 : m.msg = code) (h5 : addressed s m = true) : cellMsg code s = some m := by
  simp [cellMsg, h1, h2, h3, h4, h5]

/-! ## Witnesses -/

theorem test_meets_SupplyTargetFollowsVselAndVset :
    (∃ (s : State) (v : Fin 16) (_dt : Nat), (s.regsWf) ∧ (v.val ≠ s.vrc.vsel) ∧ (s.fld VRC.CFG.TSRC = 0 ∨ s.fld VRC.CFG.TSRC = 3)) ∧
    (∃ (s : State) (v : Fin 16) (_dt : Nat), (v.val = s.vrc.vsel ∨ s.fld VRC.CFG.TSRC = 1 ∨ s.fld VRC.CFG.TSRC = 2)) ∧
    (∃ (s : State) (p : Path) (n : Fin 19) (_w : W32) (_dt : Nat), (s.regsWf) ∧ (Reaches p (VRC.VSET.addr + 4 * n.val) s) ∧ (n.val = s.vrc.vsel) ∧ (n.val < 16) ∧ (s.fld VRC.CFG.TSRC = 0 ∨ s.fld VRC.CFG.TSRC = 3)) ∧
    (∃ (s : State) (p : Path) (n : Fin 19) (_w : W32) (_dt : Nat), (s.regsWf) ∧ (Reaches p (VRC.VSET.addr + 4 * n.val) s) ∧ (n.val ≠ s.vrc.vsel) ∧ (n.val < 16)) ∧
    (∃ (s : State) (p : Path) (_w : W32) (_dt : Nat), (s.regsWf) ∧ (Reaches p VRC.VSW.addr s) ∧ (s.fld VRC.CFG.TSRC = 1)) ∧
    (∃ (s : State) (p : Path) (w : W32) (_dt : Nat), (s.regsWf) ∧ (Reaches p VRC.CFG.addr s) ∧ (bitsAt w.toNat 22 2 ≠ s.fld VRC.CFG.TSRC)) :=
  ⟨⟨test_hub, 3, 5, by decide⟩,
   ⟨test_hub, 0, 5, by decide⟩,
   ⟨test_hub, .pcie, 0, 0x50#32, 3, by decide⟩,
   ⟨test_hub, .pcie, 5, 0x50#32, 3, by decide⟩,
   ⟨(test_hub.setFld VRC.CFG.TSRC 1), .pcie, 0x50#32, 3, by decide⟩,
   ⟨test_hub, .pcie, 0x1401F40#32, 3, by decide⟩⟩

theorem test_meets_SupplyStartsFromMeasuredOutput :
    (∃ (s : State) (_cfgd _active : Fin 64) (_mv _vin : Nat), (s.regsWf) ∧ (s.flag VRC.STAT.RUN = false) ∧ (s.flag VRC.STAT.HIC_OFF = false) ∧ (bitAt s.sys.railsLow 3 = false) ∧ (s.vrc.counted = false)) ∧
    (∃ (s : State) (_mv ms : Nat), (s.regsWf) ∧ (s.flag VRC.STAT.HIC_OFF = true) ∧ (s.flag VRC.STAT.VIN_OK = true) ∧ (s.fld VRC.HICCUP.HIC_OFF + 1 ≤ ms)) ∧
    (∃ (s : State) (_mv ms : Nat), (s.regsWf) ∧ (s.flag VRC.STAT.HIC_OFF = true) ∧ (s.flag VRC.STAT.VIN_OK = false) ∧ (s.fld VRC.HICCUP.HIC_OFF + 1 ≤ ms)) ∧
    (∃ (s : State) (_mv ms : Nat), (s.regsWf) ∧ (s.flag VRC.STAT.HIC_OFF = true) ∧ (ms ≤ s.fld VRC.HICCUP.HIC_OFF)) ∧
    (∃ (s : State) (vin : Nat), (s.regsWf) ∧ (vin < s.fld VRC.PFW.UVLO_MV)) ∧
    (∃ (s : State) (vin : Nat), (s.regsWf) ∧ (s.fld VRC.PFW.UVLO_MV ≤ vin) ∧ (s.vrc.uvloStop = true)) :=
  ⟨⟨test_hub, 7, 3, 500, 4000, by decide⟩,
   ⟨((test_hub.setFld VRC.STAT.HIC_OFF 1).setFld VRC.STAT.VIN_OK 1), 333, 16, by decide⟩,
   ⟨((test_hub.setFld VRC.STAT.HIC_OFF 1).setFld VRC.STAT.VIN_OK 0), 333, 16, by decide⟩,
   ⟨(test_hub.setFld VRC.STAT.HIC_OFF 1), 333, 15, by decide⟩,
   ⟨((test_hub.setFld VRC.PFW.UVLO_MV 900).setFld VRC.STAT.RUN 1), 333, by decide⟩,
   ⟨{ test_hub with vrc := { uvloStop := true } }, 3333, by decide⟩⟩

theorem test_meets_SupplyFaultsAreRaised :
    (∃ (s : State) (mv dt : Nat), (s.regsWf) ∧ (s.vrc.masked = true) ∧ (s.flag VRC.STAT.RUN = true) ∧ (vrcSlew s dt = s.vrc.target) ∧ (10 * mv ≤ s.vrc.target + 10 * s.fld VRC.PG.PG_WIN) ∧ (s.vrc.target ≤ 10 * mv + 10 * s.fld VRC.PG.PG_WIN)) ∧
    (∃ (s : State) (mv dt : Nat), (s.regsWf) ∧ (vrcSlew s dt + 10 * s.fld VRC.PG.OV_MV < 10 * mv)) ∧
    (∃ (s : State) (mv : Nat), (s.regsWf) ∧ (s.vrc.masked = false) ∧ (10 * mv + 10 * s.fld VRC.PG.PG_WIN < s.vrc.target)) ∧
    (∃ (s : State) (_mv : Nat), (s.regsWf) ∧ (s.vrc.masked = true)) ∧
    (∃ (s : State) (n : Nat), (s.regsWf) ∧ (s.flag VRC.STAT.RUN = true) ∧ (8 ≤ n) ∧ (s.fld VRC.HICCUP.HIC_N ≤ n)) :=
  ⟨⟨{ (test_hub.setFld VRC.STAT.RUN 1) with vrc := { masked := true, target := 9000, slewed := 9000 } }, 900, 4, by decide⟩,
   ⟨test_hub, 2000, 4, by decide⟩,
   ⟨{ (test_hub.setFld VRC.STAT.RUN 1) with vrc := { target := 9000, slewed := 9000 } }, 500, by decide⟩,
   ⟨{ test_hub with vrc := { masked := true } }, 500, by decide⟩,
   ⟨(test_hub.setFld VRC.STAT.RUN 1), 32, by decide⟩⟩

theorem test_meets_SupplyPhasesFollowLoad :
    (∃ (s : State) (i : Nat) (k : Fin 6), (s.regsWf) ∧ (s.flag VRC.STAT.RUN = true) ∧ (s.fld VRC.SHED.I_SHED < s.fld VRC.SHED.I_ADD) ∧ (vrcActive s * s.fld VRC.SHED.I_ADD < i) ∧ (bitAt s.vrc.phMask k.val = true) ∧ (bitAt (s.fld VRC.STAT.PH_EN) k.val = false)) ∧
    (∃ (s : State) (i : Nat) (k : Fin 6) (us : Nat), (s.regsWf) ∧ (s.flag VRC.STAT.RUN = true) ∧ (10 * s.fld VRC.SHED.SHED_T ≤ us) ∧ (s.fld VRC.SHED.I_SHED < s.fld VRC.SHED.I_ADD) ∧ (i < (vrcActive s - 1) * s.fld VRC.SHED.I_SHED) ∧ (vrcMinPh s < vrcActive s) ∧ (bitAt (s.fld VRC.STAT.PH_EN) k.val = true)) ∧
    (∃ (s : State) (_i : Nat) (_k : Fin 6), (s.regsWf) ∧ (s.fld VRC.SHED.I_ADD ≤ s.fld VRC.SHED.I_SHED)) ∧
    (∃ (s : State), (s.regsWf) ∧ (s.fld VRC.SYNC.SRC = 1)) ∧
    (∃ (s : State), (s.regsWf) ∧ (s.fld VRC.SYNC.SRC = 1)) :=
  ⟨⟨{ ((((test_hub.setFld VRC.STAT.RUN 1).setFld VRC.STAT.PH_EN 3).setFld VRC.SHED.I_ADD 20).setFld VRC.SHED.I_SHED 16).setFld VRC.STAT.NPH 3 with vrc := { phMask := 7, counted := true } }, 50, 2, by decide⟩,
   ⟨{ ((((test_hub.setFld VRC.STAT.RUN 1).setFld VRC.STAT.PH_EN 3).setFld VRC.SHED.I_ADD 20).setFld VRC.SHED.I_SHED 16).setFld VRC.STAT.NPH 3 with vrc := { phMask := 7, counted := true } }, 15, 1, 100, by decide⟩,
   ⟨{ (test_hub.setFld VRC.SHED.I_ADD 0) with vrc := { phMask := 7, counted := true } }, 50, 2, by decide⟩,
   ⟨(test_hub.setFld VRC.SYNC.SRC 1), by decide⟩,
   ⟨(test_hub.setFld VRC.SYNC.SRC 1), by decide⟩⟩

theorem test_meets_ClockSettingsAreChecked :
    (∃ (s : State) (p : Path) (w : W32), (s.regsWf) ∧ (Reaches p CLK.REF_CFG.addr s) ∧ (s.isCell = false) ∧ (anyBusy s = false) ∧ (bitsAt w.toNat 4 2 ≠ 1 ∨ bitAt w.toNat 0 = false)) ∧
    (∃ (s : State) (w : W32), (s.regsWf) ∧ (Reaches .mgmt CLK.REF_CFG.addr s) ∧ (s.isCell = true) ∧ (cellAdm s ≠ admAdmitted) ∧ (bitsAt w.toNat 4 2 ≠ 1 ∨ bitAt w.toNat 0 = false)) ∧
    (∃ (s : State) (w : W32), (s.regsWf) ∧ (Reaches .pcie CLK.REF_CFG.addr s) ∧ (s.isCell = false) ∧ (anyBusy s = true ∨ (bitsAt w.toNat 4 2 = 1 ∧ bitAt w.toNat 0 = true)) ∧ (s.flag HST.AERR.VALID = false)) ∧
    (∃ (s : State) (w : W32), (s.regsWf) ∧ (Reaches .mgmt CLK.REF_CFG.addr s) ∧ (s.isCell = true) ∧ (cellAdm s = admAdmitted ∨ (bitsAt w.toNat 4 2 = 1 ∧ bitAt w.toNat 0 = true))) ∧
    (∃ (s : State), (s.regsWf) ∧ (s.clk.relocking = true)) ∧
    (∃ (s : State) (p : Path) (k : Fin 4) (w : W32), (s.regsWf) ∧ (Reaches p (CLK.OUT_CFG.addr + 4 * k.val) s) ∧ (clkOutOk s w.toNat = true)) ∧
    (∃ (s : State) (k : Fin 4) (w : W32), (s.regsWf) ∧ (Reaches .pcie (CLK.OUT_CFG.addr + 4 * k.val) s) ∧ (s.isCell = false) ∧ (clkOutOk s w.toNat = false) ∧ (s.flag HST.AERR.VALID = false)) :=
  ⟨⟨test_hub, .spi, 0xA0#32, by decide⟩,
   ⟨test_cell, 0xA2#32, by decide⟩,
   ⟨test_hub, 0x11#32, by decide⟩,
   ⟨test_cell, 0x11#32, by decide⟩,
   ⟨{ test_hub with clk := { relocking := true } }, by decide⟩,
   ⟨test_hub, .pcie, 3, 0x90000040#32, by decide⟩,
   ⟨test_hub, 3, 0x88000001#32, by decide⟩⟩

theorem test_meets_ClockLossIsRecordedAndRestarts :
    (∃ (s : State) (_dt : Nat), (s.regsWf) ∧ (s.clodsUp = true) ∧ (s.isCell = false)) ∧
    (∃ (s : State) (_dt : Nat), (s.regsWf) ∧ (s.clodsUp = true) ∧ (s.isCell = false)) ∧
    (∃ (s : State) (_k : Fin 3) (_dt : Nat), (s.clodsUp = false)) ∧
    (∃ (s : State) (_dt : Nat), (s.regsWf) ∧ (s.clodsUp = true) ∧ (s.isCell = false)) ∧
    (∃ (s : State) (k : Fin 3) (_dt : Nat), (s.regsWf) ∧ (s.clodsUp = true) ∧ (s.isCell = true) ∧ (k.val < 2)) ∧
    (∃ (s : State) (_dt : Nat), (s.clodsUp = true) ∧ (s.isCell = true)) ∧
    (∃ (s : State), (s.regsWf) ∧ (s.clk.lost ≠ 0) ∧ (s.isHub = true ∨ s.isCell = true)) ∧
    (∃ (s : State), (s.regsWf) ∧ (s.isCell = true) ∧ (rxState s ≠ rxTrack)) ∧
    (∃ (s : State), (s.regsWf) ∧ (s.isCell = true) ∧ (rxState s = rxTrack) ∧ (s.flag CLK.REF_CFG.CELL_REC = true)) :=
  ⟨⟨test_hub, 0, by decide⟩,
   ⟨test_hub, 0, by decide⟩,
   ⟨{ test_hub with sys := { inReset := true } }, 1, 0, by decide⟩,
   ⟨test_hub, 0, by decide⟩,
   ⟨(test_cell.setFld GDC.STAT.ON 5), 0, 0, by decide⟩,
   ⟨test_cell, 0, by decide⟩,
   ⟨{ test_hub with clk := { lost := 1 }, sys := { test_hub.sys with inReset := true } }, by decide⟩,
   ⟨(test_cell.setFld CLK.STAT.CELL_SRC 1), by decide⟩,
   ⟨((test_cell.setFld CLK.REF_CFG.CELL_REC 1).setFld LNK.STAT.RX_STATE 3), by decide⟩⟩

theorem test_meets_PorstSamplesStrapsAndResets :
    (∃ (s : State) (_role : Fin 4) (_lvl1 : Bool) (_bootsrc : Fin 4), (s.regsWf)) :=
  ⟨test_hub, 1, true, 2, by decide⟩

theorem test_meets_RailsAndReleaseFollowTheMonitors :
    (∃ (s : State) (_rail : Fin 5), (s.regsWf)) ∧
    (∃ (s : State), (s.regsWf) ∧ (s.sys.inReset = true) ∧ (s.sys.porstN = true) ∧ (s.sys.pgoodSeen = true) ∧ (s.flag THM.SD.ACTIVE = false) ∧ (s.sys.role = Role.hub) ∧ (s.strata.intake = [])) ∧
    (∃ (s : State), (s.regsWf) ∧ (s.sys.inReset = true) ∧ (s.sys.porstN = true) ∧ (s.sys.pgoodSeen = true) ∧ (s.flag THM.SD.ACTIVE = false) ∧ (s.sys.role = Role.cell)) ∧
    (∃ (s : State) (railsLow : Fin 32), (s.regsWf) ∧ (railsLow.val ≠ 0) ∧ (s.sys.inReset = true)) ∧
    (∃ (s : State) (vin _vhold : Nat), (s.regsWf) ∧ (s.cellOn = false) ∧ (vin < s.fld VRC.PFW.PFW_MV)) ∧
    (∃ (s : State) (vin _vhold : Nat), (s.regsWf) ∧ (s.cellOn = true) ∧ (vin < s.fld VRC.PFW.PFW_MV)) :=
  ⟨⟨test_hub, 0, by decide⟩,
   ⟨{ test_hub with sys := { test_hub.sys with inReset := true } }, by decide⟩,
   ⟨{ test_cell with sys := { test_cell.sys with inReset := true } }, by decide⟩,
   ⟨{ test_hub with sys := { test_hub.sys with inReset := true } }, 2, by decide⟩,
   ⟨(test_hub.setFld VRC.PFW.PFW_MV 900), 800, 4000, by decide⟩,
   ⟨(test_cell.setFld VRC.PFW.PFW_MV 900), 800, 4000, by decide⟩⟩

theorem test_meets_GatingAndPeriodRegistersTakeTheirWrites :
    (∃ (s : State) (p : Path) (_w : W32), (s.regsWf) ∧ (Reaches p SYS.CLOD_PWR.addr s) ∧ (s.isCell = false) ∧ (s.blocked = true)) ∧
    (∃ (s : State) (p : Path) (_w : W32), (s.regsWf) ∧ (Reaches p SYS.PERIOD_CFG.addr s) ∧ (s.isCell = false) ∧ (s.blocked = true)) ∧
    (∃ (s : State) (p : Path) (be : Fin 16), (s.regsWf) ∧ (Reaches p SYS.PCNT_LO.addr s) ∧ (readEnables p be.val ≠ 0)) :=
  ⟨⟨(test_hub.setFld ACQ.IN_GAIN.GAIN 77), .pcie, 0x0A#32, by decide⟩,
   ⟨test_hub, .pcie, 0x00521203#32, by decide⟩,
   ⟨{ test_hub with period := { pcnt := 0x123400000005 } }, .spi, 0, by decide⟩⟩

theorem test_meets_RegisterWritesFollowTheirFieldMaps :
    (∃ (s : State) (word : Fin 8388608) (_w : W32) (_dt _ticks : Nat) (r : RegRow), (s.regsWf) ∧ (Reaches .pcie (4 * word.val) s) ∧ ((0x40000 ≤ 4 * word.val ∧ 4 * word.val < 0x70000) ∨ (0x80000 ≤ 4 * word.val ∧ 4 * word.val < 0x81000) ∨ (0x90000 ≤ 4 * word.val ∧ 4 * word.val < 0x90100) ∨ (0xD0000 ≤ 4 * word.val ∧ 4 * word.val < 0xE0000) ∨ (0x1C0000 ≤ 4 * word.val ∧ 4 * word.val < 0x1C0100) ∨ (0x1D0000 ≤ 4 * word.val ∧ 4 * word.val < 0x1D1000) ∨ (0x1F0000 ≤ 4 * word.val ∧ 4 * word.val < 0x1F1000)) ∧ (4 * word.val ∉ [LSS.RTC_CTRL.addr, LSS.TAMPER.addr, THM.SD.addr, STR.CTRL.addr, ACQ.SCAL_CTRL.addr, LMP.CTRL.addr, LMP.SH_CTRL.addr, HST.AERR.addr, HST.SPIC_CMD.addr, ETH.PTP_CTRL.addr, ETH.PTP_ADJ.addr, SLT.FREE.addr, SLT.ND_CLR.addr, SLT.QUOTA.addr]) ∧ (regRow? (4 * word.val) = some r)) ∧
    (∃ (s : State) (p : Path) (word : Fin 8388608) (be : Fin 16) (_w : W32) (_dt _ticks : Nat), (s.regsWf) ∧ (Reaches p (4 * word.val) s) ∧ (p ≠ .mgmt) ∧ (be.val ≠ 0) ∧ (be.val ≠ 15) ∧ (4 * word.val < 0x180000) ∧ (s.flag HST.AERR.VALID = false)) :=
  ⟨⟨(test_hub.setFld THM.EVT.LIMIT 1), 81922, 0xFFFFFFFF#32, 0, 0, (regRow? 0x50008).getD ⟨0, 4, 1, 0, 0, 0, 0, 0⟩, by decide⟩,
   ⟨test_hub, .spi, 0x14002, 7, 0xFFFFFFFF#32, 0, 0, by decide⟩⟩

theorem test_meets_HoldUpEnergyIsGrantedOrRefused :
    (∃ (s : State) (kind : CommitKind) (n vhold : Nat), (s.regsWf) ∧ (s.clodsUp = true) ∧ (kind ≠ .thermal) ∧ (vhold < 4096) ∧ (s.lss.marker = true) ∧ (400 + n * 50 ≤ eEst s vhold - eRes s)) ∧
    (∃ (s : State) (kind : CommitKind) (n vhold : Nat), (s.regsWf) ∧ (s.clodsUp = true) ∧ (kind ≠ .thermal) ∧ (vhold < 4096) ∧ (s.lss.marker = false) ∧ (450 ≤ eEst s vhold - eRes s) ∧ (400 + n * 50 ≤ eEst s vhold - (eRes s + 450))) ∧
    (∃ (s : State) (kind : CommitKind) (n vhold : Nat), (s.regsWf) ∧ (s.clodsUp = true) ∧ (kind ≠ .thermal) ∧ (vhold < 4096) ∧ (s.lss.marker = false) ∧ (eEst s vhold - eRes s < 450) ∧ (400 + n * 50 ≤ eEst s vhold - eRes s)) ∧
    (∃ (s : State) (kind : CommitKind) (n vhold : Nat), (s.regsWf) ∧ (s.clodsUp = true) ∧ (s.fld STR.STAT.STATE ≠ strScanning) ∧ (kind ≠ .thermal) ∧ (vhold < 4096) ∧ (s.lss.marker = true) ∧ (eEst s vhold - eRes s < 400 + n * 50)) ∧
    (∃ (s : State) (kind : CommitKind) (n vhold : Nat), (s.regsWf) ∧ (s.clodsUp = true) ∧ (s.fld STR.STAT.STATE = strScanning) ∧ (s.strata.intake.length < 256) ∧ (kind ≠ .thermal) ∧ (vhold < 4096) ∧ (s.lss.marker = true) ∧ (eEst s vhold - eRes s < 400 + n * 50)) ∧
    (∃ (s : State) (kind : CommitKind) (n vhold : Nat), (s.regsWf) ∧ (s.clodsUp = true) ∧ (s.fld STR.STAT.STATE ≠ strScanning) ∧ (kind ≠ .thermal) ∧ (vhold < 4096) ∧ (s.lss.marker = false) ∧ (450 ≤ eEst s vhold - eRes s) ∧ (eEst s vhold - (eRes s + 450) < 400 + n * 50)) ∧
    (∃ (s : State) (kind : CommitKind) (n vhold : Nat), (s.regsWf) ∧ (s.clodsUp = true) ∧ (kind ≠ .thermal) ∧ (vhold < 4096) ∧ (s.lss.marker = false) ∧ (eEst s vhold - eRes s < 450) ∧ (eEst s vhold - eRes s < 400 + n * 50)) ∧
    (∃ (s : State) (n vhold tj sensor : Nat), (s.regsWf) ∧ (s.clodsUp = true) ∧ (vhold < 4096) ∧ (s.lss.marker = true) ∧ (s.thm.sd = some (tj, sensor)) ∧ (400 + n * 50 ≤ eEst s vhold - eRes s)) ∧
    (∃ (s : State) (n vhold tj sensor : Nat), (s.regsWf) ∧ (s.clodsUp = true) ∧ (s.fld STR.STAT.STATE ≠ strScanning) ∧ (vhold < 4096) ∧ (s.lss.marker = true) ∧ (s.thm.sd = some (tj, sensor)) ∧ (eEst s vhold - eRes s < 400 + n * 50)) ∧
    (∃ (s : State) (n vhold : Nat), (s.regsWf) ∧ (s.clodsUp = true) ∧ (vhold < 4096) ∧ (s.lss.marker = true) ∧ (s.thm.sd = none) ∧ (400 + n * 50 ≤ eEst s vhold - eRes s)) ∧
    (∃ (s : State) (kind : CommitKind) (vhold : Nat), (s.regsWf) ∧ (s.lss.granted.any (fun (g : CommitKind × Nat) => g.1 == kind) = true) ∧ (vhold < 4096)) ∧
    (∃ (s : State) (kind : CommitKind) (_vhold : Nat), (s.regsWf) ∧ (s.lss.granted.any (fun (g : CommitKind × Nat) => g.1 == kind) = false)) :=
  ⟨⟨{ (test_hub.setFld LSS.HOLD_CFG.C_UF 47) with lss := { marker := true } }, .strata, 60, 2850, by decide⟩,
   ⟨(test_hub.setFld LSS.HOLD_CFG.C_UF 47), .refresh, 60, 2850, by decide⟩,
   ⟨{ (test_hub.setFld LSS.HOLD_CFG.C_UF 47) with lss := { granted := [(.strata, 11880)] } }, .flush, 0, 2850, by decide⟩,
   ⟨({ (test_hub.setFld LSS.HOLD_CFG.C_UF 47) with lss := { marker := true } }.setFld STR.STAT.STATE 1), .flush, 3000, 2850, by decide⟩,
   ⟨{ (test_hub.setFld LSS.HOLD_CFG.C_UF 47) with lss := { marker := true } }, .flush, 3000, 2850, by decide⟩,
   ⟨((test_hub.setFld LSS.HOLD_CFG.C_UF 47).setFld STR.STAT.STATE 1), .flush, 3000, 2850, by decide⟩,
   ⟨(test_hub.setFld LSS.HOLD_CFG.C_UF 47), .flush, 3000, 1750, by decide⟩,
   ⟨{ (test_hub.setFld LSS.HOLD_CFG.C_UF 47) with lss := { marker := true }, thm := { sd := some (1100, 3) } }, 1, 2850, 1100, 3, by decide⟩,
   ⟨({ (test_hub.setFld LSS.HOLD_CFG.C_UF 47) with lss := { marker := true }, thm := { sd := some (1100, 3) } }.setFld STR.STAT.STATE 1), 1, 1750, 1100, 3, by decide⟩,
   ⟨{ (test_hub.setFld LSS.HOLD_CFG.C_UF 47) with lss := { marker := true } }, 1, 2850, by decide⟩,
   ⟨{ (test_hub.setFld LSS.HOLD_CFG.C_UF 47) with lss := { marker := true, granted := [(.strata, 500), (.wear, 450)] } }, .wear, 3000, by decide⟩,
   ⟨test_hub, .wear, 3000, by decide⟩⟩

theorem test_meets_RecorderIntakeAndRing :
    (∃ (s : State) (_code : Fin 65536) (_data : BitVec 64), (s.regsWf) ∧ (s.clodsUp = true) ∧ (s.strata.intake.length < 256)) ∧
    (∃ (s : State) (_code : Fin 65536) (_data : BitVec 64), (s.regsWf) ∧ (s.clodsUp = true) ∧ (256 ≤ s.strata.intake.length)) ∧
    (∃ (s : State) (vhold : Nat), (s.regsWf) ∧ (s.fld STR.STAT.STATE ≠ strScanning) ∧ (s.fld STR.HEAD.IDX < ringLen) ∧ (s.strata.dropped = 0) ∧ (s.strata.intake ≠ []) ∧ (s.strata.intake.length ≤ 64) ∧ ((lssRequest .strata s.strata.intake.length 0 vhold s).2 = true)) ∧
    (∃ (s : State) (vhold : Nat), (s.regsWf) ∧ (s.fld STR.STAT.STATE ≠ strScanning) ∧ (s.fld STR.HEAD.IDX < ringLen) ∧ (0 < s.strata.dropped) ∧ (s.strata.intake.length ≤ 63) ∧ ((lssRequest .strata (s.strata.intake.length + 1) 0 vhold s).2 = true)) ∧
    (∃ (s : State) (_vhold : Nat), (s.fld STR.STAT.STATE = strScanning)) ∧
    (∃ (s : State), (s.regsWf) ∧ (s.clodsUp = true) ∧ (s.fld STR.STAT.STATE = strScanning)) :=
  ⟨⟨test_hub, 0x1234, 0x55#64, by decide⟩,
   ⟨{ test_hub with strata := { intake := List.replicate 256 {} } }, 0x1234, 0x55#64, by decide⟩,
   ⟨{ (test_hub.setFld STR.STAT.STATE 1).setFld STR.HEAD.IDX 31743 with lss := { marker := true }, strata := { intake := [{ code := 1 }, { code := 2 }] } }, 2850, by decide⟩,
   ⟨{ (test_hub.setFld STR.STAT.STATE 1).setFld STR.HEAD.IDX 31743 with lss := { marker := true }, strata := { intake := [{ code := 1 }, { code := 2 }], dropped := 3 } }, 2850, by decide⟩,
   ⟨{ test_hub with strata := { intake := [{ code := 1 }] } }, 2850, by decide⟩,
   ⟨test_hub, by decide⟩⟩

theorem test_meets_FreezeFlushAndSlots :
    (∃ (s : State) (p : Path) (w : W32) (k : Nat), (s.regsWf) ∧ (Reaches p STR.CTRL.addr s) ∧ (s.eng.cap.st = 0) ∧ (bitsAt w.toNat 4 4 = 0) ∧ (s.fld STR.STAT.STATE = strArmed) ∧ (s.flag STR.STAT.PRE_READY = true) ∧ (s.strata.intake = []) ∧ (s.strata.order.find? (fun (j : Nat) => !bitAt (s.fld STR.STAT.LOCKED) j) = some k)) ∧
    (∃ (s : State) (p : Path) (w : W32), (s.regsWf) ∧ (Reaches p STR.CTRL.addr s) ∧ (s.eng.cap.st = 0) ∧ (bitsAt w.toNat 4 4 = 0) ∧ (s.flag STR.STAT.PRE_READY = false) ∧ (s.strata.intake = [])) ∧
    (∃ (s : State), (s.regsWf) ∧ (s.fld STR.STAT.STATE = strPost) ∧ (s.strata.left = 0)) ∧
    (∃ (s : State) (vhold : Nat), (s.regsWf) ∧ (s.strata.retry = false) ∧ (s.fld STR.STAT.STATE = strFlush) ∧ (s.strata.freezeAt ≠ none) ∧ (s.thm.sd = none) ∧ (s.strata.next + 256 < 4161 + s.strata.post) ∧ (s.strata.post ≤ 4032) ∧ ((lssRequest .flush 256 s.strata.slot vhold s).2 = true)) ∧
    (∃ (s : State) (vhold : Nat), (s.regsWf) ∧ (s.strata.retry = false) ∧ (s.fld STR.STAT.STATE = strFlush) ∧ (s.strata.freezeAt ≠ none) ∧ (s.thm.sd = none) ∧ (s.strata.next < 4161 + s.strata.post) ∧ (4161 + s.strata.post ≤ s.strata.next + 256) ∧ (s.strata.post ≤ 4032) ∧ (s.strata.slot < 4) ∧ ((lssRequest .flush (4161 + s.strata.post - s.strata.next) s.strata.slot vhold s).2 = true)) ∧
    (∃ (s : State) (vhold : Nat), (s.regsWf) ∧ (s.strata.retry = false) ∧ (s.fld STR.STAT.STATE = strFlush) ∧ (s.strata.freezeAt ≠ none) ∧ (s.thm.sd = none) ∧ (s.lss.marker = false) ∧ (450 > eEst s vhold - eRes s) ∧ (vhold < 4096) ∧ (s.strata.next + 256 < 4161 + s.strata.post)) ∧
    (∃ (s : State) (_vhold : Nat), (s.strata.retry = true ∨ s.fld STR.STAT.STATE ≠ strFlush ∨ s.strata.freezeAt = none ∨ s.thm.sd.isSome = true)) ∧
    (∃ (s : State) (p : Path) (w : W32), (s.regsWf) ∧ (Reaches p STR.CTRL.addr s) ∧ (bitAt w.toNat 31 = false) ∧ (s.fld STR.STAT.STATE = strArmed) ∧ (s.fld STR.STAT.LOCKED &&& bitsAt w.toNat 4 4 ≠ 0)) ∧
    (∃ (s : State) (p : Path) (w : W32), (s.regsWf) ∧ (Reaches p STR.CTRL.addr s) ∧ (bitAt w.toNat 31 = false) ∧ (s.fld STR.STAT.STATE ≠ strArmed) ∧ (s.fld STR.STAT.LOCKED &&& bitsAt w.toNat 4 4 ≠ 0)) ∧
    (∃ (s : State) (hours : Fin 65536) (vhold : Nat) (cent : Fin 100), (s.regsWf) ∧ (s.clodsUp = true) ∧ (1712 ≤ 100 * hours.val + cent.val) ∧ (refreshDue (100 * hours.val + cent.val) s = true) ∧ (requestWaits s = false) ∧ ((lssRequest .refresh 128 0 vhold (s.setFld STR.REFRESH.HOURS hours.val)).2 = true)) ∧
    (∃ (s : State) (hours : Fin 65536) (vhold : Nat) (cent : Fin 100), (s.regsWf) ∧ (s.clodsUp = true) ∧ (refreshDue (100 * hours.val + cent.val) s = true) ∧ (requestWaits s = false) ∧ (s.lss.marker = false) ∧ (450 > eEst s vhold - eRes s) ∧ (vhold < 4096)) ∧
    (∃ (s : State) (hours : Fin 65536) (_vhold : Nat) (cent : Fin 100), (s.regsWf) ∧ (s.clodsUp = true) ∧ (refreshDue (100 * hours.val + cent.val) s = false ∨ requestWaits s = true)) :=
  ⟨⟨{ ((test_hub.setFld STR.STAT.STATE 1).setFlag STR.STAT.PRE_READY true).setFld STR.STAT.LOCKED 1 with strata := { order := [0, 2, 3, 1] } }, .pcie, 1#32, 2, by decide⟩,
   ⟨test_hub, .pcie, 1#32, by decide⟩,
   ⟨(test_hub.setFld STR.STAT.STATE 2), by decide⟩,
   ⟨{ ((test_hub.setFld LSS.HOLD_CFG.C_UF 220).setFld STR.STAT.STATE 3) with lss := { marker := true }, strata := { freezeAt := some (3, 4), post := 10, slot := 1, next := 0 } }, 4000, by decide⟩,
   ⟨{ ((test_hub.setFld LSS.HOLD_CFG.C_UF 220).setFld STR.STAT.STATE 3) with lss := { marker := true }, strata := { freezeAt := some (3, 4), post := 10, slot := 1, next := 4096 } }, 4000, by decide⟩,
   ⟨{ ((test_hub.setFld LSS.HOLD_CFG.C_UF 47).setFld STR.STAT.STATE 3) with strata := { freezeAt := some (3, 4), post := 10, slot := 1 } }, 1700, by decide⟩,
   ⟨test_hub, 4000, by decide⟩,
   ⟨{ ((test_hub.setFld STR.STAT.STATE 1).setFlag STR.STAT.PRE_READY true).setFld STR.STAT.LOCKED 1 with strata := { order := [0, 2, 3, 1] } }, .pcie, 0x11#32, by decide⟩,
   ⟨((test_hub.setFld STR.STAT.STATE 3).setFld STR.STAT.LOCKED 1), .pcie, 0x11#32, by decide⟩,
   ⟨{ ((test_hub.setFld LSS.HOLD_CFG.C_UF 220).setFld STR.REFRESH.BLOCK 511) with lss := { marker := true }, strata := { refused := some 1650 } }, 17, 4000, 50, by decide⟩,
   ⟨(test_hub.setFld LSS.HOLD_CFG.C_UF 47), 18, 1700, 0, by decide⟩,
   ⟨(test_hub.setFld LSS.HOLD_CFG.C_UF 47), 17, 4000, 11, by decide⟩⟩

theorem test_meets_LoessDomainKeepsTimeAndTamper :
    (∃ (s : State) (p : Path) (_ticks : Nat), (s.regsWf) ∧ (Reaches p LSS.RTC_CTRL.addr s)) ∧
    (∃ (s : State) (p : Path) (be : Fin 16) (_ticks : Nat), (s.regsWf) ∧ (Reaches p LSS.RTC_SUB.addr s) ∧ (s.lss.rtcCut = false) ∧ (readEnables p be.val ≠ 0)) ∧
    (∃ (s : State) (p : Path) (_w : W32), (s.regsWf) ∧ (Reaches p LSS.TAMPER.addr s)) ∧
    (∃ (s : State) (vbak _vhold : Nat), (s.regsWf) ∧ (s.fld LSS.TAMPER.EN = 0) ∧ (s.strata.retry = false) ∧ (s.lss.rtcCut = false) ∧ (vbak < 4096)) ∧
    (∃ (s : State) (_vbak _vhold : Nat), (s.regsWf) ∧ (s.fld LSS.TAMPER.EN = 1) ∧ (s.fld LSS.TAMPER.LATCH = 0) ∧ (s.lss.low0 = 1) ∧ (s.strata.retry = false) ∧ (s.strata.intake = []) ∧ (s.lss.rtcCut = false) ∧ (0 ≤ s.lss.rtc)) ∧
    (∃ (s : State) (_vbak _vhold : Nat), (s.regsWf) ∧ (s.fld LSS.TAMPER.EN = 2) ∧ (s.fld LSS.TAMPER.LATCH = 0) ∧ (s.lss.low1 = 1) ∧ (s.strata.retry = false) ∧ (s.strata.intake = []) ∧ (s.lss.rtcCut = false) ∧ (0 ≤ s.lss.rtc)) ∧
    (∃ (s : State) (vbak _vhold : Nat) (_low : Fin 4), (s.regsWf) ∧ (s.strata.retry = false) ∧ (1600 ≤ vbak) ∧ (vbak < s.fld LSS.VBAK_TH0.CUT1) ∧ (s.fld LSS.VBAK_TH0.CUT1 ≤ s.fld LSS.VBAK_TH0.WARN) ∧ (s.flag LSS.STAT.TAMPER_OFF = false) ∧ (s.fld LSS.VBAK_TH1.CUT2 + s.fld LSS.VBAK_TH1.HYS ≤ vbak)) ∧
    (∃ (s : State) (vbak _vhold : Nat) (_low : Fin 4), (s.regsWf) ∧ (s.strata.retry = false) ∧ (1600 ≤ vbak) ∧ (vbak < s.fld LSS.VBAK_TH1.CUT2) ∧ (s.fld LSS.VBAK_TH1.CUT2 ≤ s.fld LSS.VBAK_TH0.CUT1) ∧ (s.fld LSS.VBAK_TH0.CUT1 ≤ s.fld LSS.VBAK_TH0.WARN) ∧ (s.lss.rtcCut = false)) ∧
    (∃ (s : State) (vbak _vhold : Nat) (_low : Fin 4) (_cool : Bool), (s.regsWf) ∧ (vbak < 1600)) ∧
    (∃ (s : State) (_vdda : Bool), (s.regsWf)) :=
  ⟨⟨((test_hub.setFld LSS.RTC_SET_LO.SEC 77).setFld LSS.RTC_SET_HI.SEC 1), .pcie, 100, by decide⟩,
   ⟨{ test_hub with lss := { rtc := 1000000 } }, .spi, 0, 40000, by decide⟩,
   ⟨((test_hub.setFld LSS.TAMPER.LATCH 3).setFld LSS.TAMPER.PIN 1), .pcie, 0x33#32, by decide⟩,
   ⟨{ (test_hub.setFld LSS.HOLD_CFG.C_UF 47) with lss := { marker := true } }, 3300, 4000, by decide⟩,
   ⟨{ (test_hub.setFld LSS.TAMPER.EN 1) with lss := { marker := true, low0 := 1 } }, 3300, 4000, by decide⟩,
   ⟨{ (test_hub.setFld LSS.TAMPER.EN 2) with lss := { marker := true, low1 := 1 } }, 3300, 4000, by decide⟩,
   ⟨{ (test_hub.setFld LSS.HOLD_CFG.C_UF 47) with lss := { marker := true } }, 2100, 3000, 1, by decide⟩,
   ⟨{ (test_hub.setFld LSS.HOLD_CFG.C_UF 47) with lss := { marker := true } }, 1700, 3000, 1, by decide⟩,
   ⟨(test_hub.setFld LSS.RTC_SET_LO.SEC 77), 1500, 3000, 1, true, by decide⟩,
   ⟨(test_hub.setFld LSS.RTC_SET_LO.SEC 77), true, by decide⟩⟩

theorem test_meets_ThermalShutdownRequestsAndRestarts :
    (∃ (s : State) (die : List Int) (_dt _t0 : Nat), (s.regsWf) ∧ (s.clodsUp = true) ∧ (s.isHub = true) ∧ (die.length = 12) ∧ (tabWf zeroNat s.thm.good = true) ∧ (tabWf noHist s.thm.hist = true)) ∧
    (∃ (s : State) (die : List Int) (_dt _t0 : Nat) (tj : Int) (k : Fin 12), (s.regsWf) ∧ (s.clodsUp = true) ∧ (s.isHub = true) ∧ (die.length = 12) ∧ (tabWf zeroNat s.thm.good = true) ∧ (tabWf noHist s.thm.hist = true) ∧ (s.fld THM.BROKEN_MAP.MAP = 0) ∧ ((upto 16).all (fun (j : Nat) => !extOn s j) = true) ∧ ((upto 12).all (fun (k : Nat) => !dieBad s die k) = true) ∧ ((upto 12).all (fun (k : Nat) => decide (die.getD k 0 ≤ tj)) = true) ∧ (tj = die.getD k.val 0) ∧ ((upto k.val).all (fun (j : Nat) => decide (die.getD j 0 < tj)) = true) ∧ (tj < 1080)) ∧
    (∃ (s : State) (die : List Int) (_dt _t0 : Nat) (tj : Int) (k : Fin 12) (j : Fin 12), (s.regsWf) ∧ (s.clodsUp = true) ∧ (s.isHub = true) ∧ (die.length = 12) ∧ (tabWf zeroNat s.thm.good = true) ∧ (tabWf noHist s.thm.hist = true) ∧ (s.fld THM.BROKEN_MAP.MAP = 0) ∧ ((upto 16).all (fun (j : Nat) => !extOn s j) = true) ∧ ((upto 12).all (fun (k : Nat) => !dieBad s die k) = true) ∧ ((upto 12).all (fun (k : Nat) => decide (die.getD k 0 ≤ tj)) = true) ∧ (tj = die.getD k.val 0) ∧ ((upto k.val).all (fun (j : Nat) => decide (die.getD j 0 < tj)) = true) ∧ (max 1 (s.fld THM.CFG.RATE_WIN) ≤ (tabGet noHist s.thm.hist j.val).length) ∧ ((s.fld THM.DIE_LIM.RATE : Int) < die.getD j.val 0 - (tabGet noHist s.thm.hist j.val).getD (max 1 (s.fld THM.CFG.RATE_WIN) - 1) 0)) ∧
    (∃ (s : State) (die : List Int) (_dt _t0 : Nat) (tj : Int) (k : Fin 12), (s.regsWf) ∧ (s.clodsUp = true) ∧ (s.isHub = true) ∧ (die.length = 12) ∧ (tabWf zeroNat s.thm.good = true) ∧ (tabWf noHist s.thm.hist = true) ∧ (s.fld THM.BROKEN_MAP.MAP = 0) ∧ ((upto 16).all (fun (j : Nat) => !extOn s j) = true) ∧ ((upto 12).all (fun (k : Nat) => !dieBad s die k) = true) ∧ ((upto 12).all (fun (k : Nat) => decide (die.getD k 0 ≤ tj)) = true) ∧ (tj = die.getD k.val 0) ∧ ((upto k.val).all (fun (j : Nat) => decide (die.getD j 0 < tj)) = true) ∧ (s.thm.sd = none) ∧ (1080 ≤ tj)) ∧
    (∃ (s : State) (die : List Int) (_dt _t0 : Nat), (s.regsWf) ∧ (s.clodsUp = true) ∧ (s.isHub = true) ∧ (die.length = 12) ∧ (tabWf zeroNat s.thm.good = true) ∧ (tabWf noHist s.thm.hist = true) ∧ (s.thm.sd = none) ∧ ((upto 12).all (fun (k : Nat) => dieBad s die k) = true)) ∧
    (∃ (s : State) (r : Nat × Nat), (s.regsWf) ∧ (s.thm.sd = some r) ∧ (s.lss.granted = []) ∧ (s.thm.recAsked = true)) ∧
    (∃ (s : State), (s.thm.sd = none ∨ s.lss.granted ≠ [] ∨ s.thm.recAsked = false)) ∧
    (∃ (s : State) (p : Path), (s.regsWf) ∧ (Reaches p THM.SD.addr s) ∧ (s.isHub = true) ∧ (s.flag THM.SD.COOL = true)) ∧
    (∃ (s : State) (_vbak _vhold : Nat) (_low : Fin 4), (s.regsWf) ∧ (s.isHub = true) ∧ (s.flag THM.SD.ACTIVE = true) ∧ (s.strata.retry = false)) :=
  ⟨⟨test_hub, (List.replicate 12 400), 5, 0, by decide⟩,
   ⟨test_hub, ([600, 601, 610, 605, 604, 600, 599, 600, 600, 601, 602, 600]), 5, 0, 610, 2, by decide⟩,
   ⟨{ ((test_hub.setFld THM.CFG.RATE_WIN 2).setFld THM.DIE_LIM.RATE 10) with thm := { hist := [(4, [602, 500, 400])] } }, ([600, 601, 610, 605, 604, 600, 599, 600, 600, 601, 602, 600]), 5, 0, 610, 2, 4, by decide⟩,
   ⟨test_hub, (List.replicate 12 1080), 5, 0, 1080, 0, by decide⟩,
   ⟨test_hub, (List.replicate 12 1400), 5, 0, by decide⟩,
   ⟨{ test_hub with thm := { sd := some (1100, 3), recAsked := true } }, (1100, 3), by decide⟩,
   ⟨test_hub, by decide⟩,
   ⟨{ ((test_hub.setFlag THM.SD.ACTIVE true).setFlag THM.SD.COOL true) with thm := { sd := some (1100, 3) }, sys := { test_hub.sys with inReset := true } }, .pcie, by decide⟩,
   ⟨({ (test_hub.setFld LSS.HOLD_CFG.C_UF 47) with lss := { marker := true } }.setFlag THM.SD.ACTIVE true), 3000, 3000, 0, by decide⟩⟩

theorem test_meets_LoadsStartOnlyWhileBlocked :
    (∃ (s : State) (p : Path), (s.regsWf) ∧ (Reaches p IMG.CTRL.addr s) ∧ (s.isCell = false) ∧ (s.blocked = true) ∧ (s.sys.bootsrc = 0)) ∧
    (∃ (s : State) (p : Path), (s.regsWf) ∧ (Reaches p IMG.CTRL.addr s) ∧ (s.isCell = false) ∧ (s.blocked = false)) ∧
    (∃ (s : State) (p : Path), (s.regsWf) ∧ (Reaches p IMG.CTRL.addr s) ∧ (s.isCell = false) ∧ (s.blocked = true) ∧ (s.sys.bootsrc = 0)) ∧
    (∃ (s : State) (p : Path), (s.regsWf) ∧ (Reaches p IMG.CTRL.addr s) ∧ (s.isCell = false) ∧ (s.blocked = false)) ∧
    (∃ (s : State), (s.regsWf) ∧ (s.sys.role = .hub) ∧ (s.sys.inReset = false) ∧ (ldState s = ldIdle) ∧ (s.sys.bootsrc = 0)) ∧
    (∃ (s : State), (s.regsWf) ∧ (s.sys.role = .hub) ∧ (s.sys.inReset = false) ∧ (ldState s = ldIdle) ∧ (s.sys.bootsrc = 3)) :=
  ⟨⟨test_hub, .pcie, by decide⟩,
   ⟨(test_hub.setFlag EVR.CONV_STAT.BLOCKED false), .spi, by decide⟩,
   ⟨test_hub, .pcie, by decide⟩,
   ⟨(test_hub.setFlag EVR.CONV_STAT.BLOCKED false), .spi, by decide⟩,
   ⟨State.reset, by decide⟩,
   ⟨{ State.reset with sys := { bootsrc := 3 } }, by decide⟩⟩

theorem test_meets_ImageBytesAreTakenAndJudged :
    (∃ (s : State) (p : Path) (_w : W32), (s.regsWf) ∧ (Reaches p IMG.DATA.addr s) ∧ (ldState s = ldHost) ∧ (s.img.fifo.length < 1024)) ∧
    (∃ (s : State) (p : Path) (_w : W32), (s.regsWf) ∧ (Reaches p IMG.DATA.addr s) ∧ (s.isCell = false) ∧ (ldState s = ldHost) ∧ (1024 ≤ s.img.fifo.length)) ∧
    (∃ (s : State) (p : Path) (_w : W32), (s.regsWf) ∧ (Reaches p IMG.DATA.addr s) ∧ (ldState s ≠ ldHost)) ∧
    (∃ (s : State) (n : Nat) (b : List Byte), (s.regsWf) ∧ (ldState s = ldHost) ∧ (s.img.fifo.take n ≠ []) ∧ (b = s.img.buf ++ (s.img.fifo.take n).flatMap (fun (w : W32) => leBytes 4 w.toNat)) ∧ (arrivalFail (imgRole s) s.img.buf.length b = none)) ∧
    (∃ (s : State) (n : Nat) (e : LoadErr) (b : List Byte), (s.regsWf) ∧ (ldState s = ldHost) ∧ (s.img.fifo.take n ≠ []) ∧ (b = s.img.buf ++ (s.img.fifo.take n).flatMap (fun (w : W32) => leBytes 4 w.toNat)) ∧ (arrivalFail (imgRole s) s.img.buf.length b = some e) ∧ (s.isCell = false)) ∧
    (∃ (s : State) (bs b : List Byte), (s.regsWf) ∧ (ldState s = ldFetch) ∧ (s.img.src = .flash) ∧ (bs ≠ []) ∧ (b = s.img.buf ++ bs) ∧ (arrivalFail (imgRole s) s.img.buf.length b = none)) ∧
    (∃ (s : State) (e : LoadErr) (bs b : List Byte), (s.regsWf) ∧ (ldState s = ldFetch) ∧ (s.img.src = .flash) ∧ (bs ≠ []) ∧ (b = s.img.buf ++ bs) ∧ (arrivalFail (imgRole s) s.img.buf.length b = some e) ∧ (s.isCell = false)) ∧
    (∃ (s : State) (bs b : List Byte) (e : LoadErr), (s.regsWf) ∧ (s.isCell = true) ∧ (ldState s = ldFetch) ∧ (s.img.src = .flash) ∧ (bs ≠ []) ∧ (b = s.img.buf ++ bs) ∧ (arrivalFail (imgRole s) s.img.buf.length b = some e)) ∧
    (∃ (s : State), (s.regsWf) ∧ (s.isCell = false) ∧ (ldState s = ldHost)) ∧
    (∃ (s : State), (s.regsWf) ∧ (s.isCell = true) ∧ (ldState s = ldFetch) ∧ (s.img.src = .lane0) ∧ (s.cell.imgHave ≠ [])) ∧
    (∃ (s : State), (s.regsWf) ∧ (ldState s ≠ ldHost) ∧ (ldState s ≠ ldFetch ∨ s.img.src ≠ .lane0 ∨ s.cell.imgHave = [])) ∧
    (∃ (s : State), (s.regsWf) ∧ (s.isCell = false) ∧ (ldState s = ldVerify)) ∧
    (∃ (s : State), (s.regsWf) ∧ (s.isCell = true) ∧ (ldState s = ldVerify)) ∧
    (∃ (s : State), (s.regsWf) ∧ (ldState s ≠ ldVerify)) :=
  ⟨⟨(test_hub.setFld IMG.STAT.STATE 1), .pcie, 0x01020304#32, by decide⟩,
   ⟨{ (test_hub.setFld IMG.STAT.STATE 1) with img := { fifo := List.replicate 1024 0#32 } }, .pcie, 0x01020304#32, by decide⟩,
   ⟨test_hub, .pcie, 0x01020304#32, by decide⟩,
   ⟨{ (test_hub.setFld IMG.STAT.STATE 1) with img := { fifo := [0x49585642#32, 0#32] } }, 1, leBytes 4 0x49585642, by decide⟩,
   ⟨{ (test_hub.setFld IMG.STAT.STATE 1) with img := { fifo := [0#32, 1#32] } }, 2, (0x02, 0), leBytes 8 (2 ^ 32), by decide⟩,
   ⟨{ (test_hub.setFld IMG.STAT.STATE 2) with img := { src := .flash } }, [0x42#8], [0x42#8], by decide⟩,
   ⟨{ (test_hub.setFld IMG.STAT.STATE 2) with img := { src := .flash } }, (0x02, 0), [0#8, 0#8, 0#8, 0#8], [0#8, 0#8, 0#8, 0#8], by decide⟩,
   ⟨{ (test_cell.setFld IMG.STAT.STATE 2) with img := { src := .flash } }, [0#8, 0#8, 0#8, 0#8], [0#8, 0#8, 0#8, 0#8], (0x02, 0), by decide⟩,
   ⟨(test_hub.setFld IMG.STAT.STATE 1), by decide⟩,
   ⟨{ (test_cell.setFld IMG.STAT.STATE 2) with img := { src := .lane0 }, cell := { imgHave := [0] } }, by decide⟩,
   ⟨test_hub, by decide⟩,
   ⟨(test_hub.setFld IMG.STAT.STATE 3), by decide⟩,
   ⟨(test_cell.setFld IMG.STAT.STATE 3), by decide⟩,
   ⟨test_hub, by decide⟩⟩

theorem test_meets_ImageApplicationEndsInDone :
    (∃ (s : State) (_dt _t0 _vhold : Nat), (s.regsWf) ∧ (s.isCell = false) ∧ (ldState s = ldApply) ∧ (le (bodyOf s.img.buf 3) 0 2 + le (bodyOf s.img.buf 3) 2 2 ≤ 4096)) ∧
    (∃ (s : State) (_dt _t0 _vhold : Nat), (s.regsWf) ∧ (s.isCell = true) ∧ (ldState s = ldApply)) :=
  ⟨⟨(test_hub.setFld IMG.STAT.STATE 4), 3, 4, 0, by decide⟩,
   ⟨(test_cell.setFld IMG.STAT.STATE 4), 3, 4, 2000, by decide⟩⟩

theorem test_meets_KeySlotsProgramAndRevokeOnce :
    (∃ (s : State) (p : Path) (slot : Fin 4), (s.regsWf) ∧ (Reaches p IMG.OTP_CMD.addr s) ∧ (s.fld IMG.OTP_STAT.PROG = 0) ∧ (s.img.otpBusy.any (fun (x : Nat × Nat) => x.1 == slot.val) = false)) ∧
    (∃ (s : State) (p : Path) (slot : Fin 4), (s.regsWf) ∧ (Reaches p IMG.OTP_CMD.addr s) ∧ (s.fld IMG.OTP_STAT.PROG = 0) ∧ (s.img.otpBusy.any (fun (x : Nat × Nat) => x.1 == slot.val) = true)) ∧
    (∃ (s : State) (_slot : Fin 4), (s.regsWf) ∧ (Reaches .pcie IMG.OTP_CMD.addr s) ∧ (s.isCell = false) ∧ (s.fld IMG.OTP_STAT.PROG ≠ 0) ∧ (s.flag HST.AERR.VALID = false)) ∧
    (∃ (s : State) (k h : Nat) (rest : List (Nat × Nat)), (s.regsWf) ∧ (s.img.otpBusy = (k, h) :: rest) ∧ (k < 4)) ∧
    (∃ (s : State) (p : Path) (slot : Fin 4), (s.regsWf) ∧ (Reaches p IMG.OTP_CMD.addr s) ∧ (s.fld IMG.OTP_STAT.PROG = 0) ∧ (bitAt (s.fld IMG.OTP_STAT.REVOKED) slot.val = false)) ∧
    (∃ (s : State) (p : Path) (slot : Fin 4), (s.regsWf) ∧ (Reaches p IMG.OTP_CMD.addr s) ∧ (s.fld IMG.OTP_STAT.PROG = 0) ∧ (bitAt (s.fld IMG.OTP_STAT.REVOKED) slot.val = true)) :=
  ⟨⟨{ test_hub with img := { hashRegs := [(0, 7#32), (7, 9#32)] } }, .pcie, 2, by decide⟩,
   ⟨{ test_hub with img := { otpBusy := [(2, 7)] } }, .pcie, 2, by decide⟩,
   ⟨(test_hub.setFld IMG.OTP_STAT.PROG 4), 1, by decide⟩,
   ⟨{ test_hub with img := { otpBusy := [(2, 99)] } }, 2, 99, [], by decide⟩,
   ⟨test_hub, .pcie, 2, by decide⟩,
   ⟨(test_hub.setFld IMG.OTP_STAT.REVOKED 4), .pcie, 2, by decide⟩⟩

theorem test_meets_CellTableWindowFollowsItsBanks :
    (∃ (s : State) (p : Path) (i : Fin 4096) (k : Fin 16) (w : W32) (cfg : CtCfg), (s.regsWf) ∧ (Reaches p (0x180000 + 64 * i.val + 4 * k.val) s) ∧ (ctBank s = 1) ∧ (ctClosed s = false) ∧ (cfgWrite ((s.shadowOf i.val).getD (s.entry i.val).cfg) k.val w.toNat = some cfg)) ∧
    (∃ (s : State) (i : Fin 4096) (k : Fin 16) (_w : W32), (s.regsWf) ∧ (Reaches .pcie (0x180000 + 64 * i.val + 4 * k.val) s) ∧ (ctBank s = 0) ∧ (s.flag HST.AERR.VALID = false)) ∧
    (∃ (s : State) (p : Path) (_bank : Bool), (s.regsWf) ∧ (Reaches p IMG.CT_CTRL.addr s) ∧ (ctClosed s = false)) ∧
    (∃ (s : State) (p : Path) (_bank : Bool), (s.regsWf) ∧ (Reaches p IMG.CT_CTRL.addr s)) ∧
    (∃ (s : State), (s.regsWf) ∧ (s.flag IMG.CT_STAT.COMMIT_PEND = true) ∧ (s.ct.checked = false) ∧ (ctCheck s.img.arms s.img.laneCells (identityFail s) (committed s) = none)) ∧
    (∃ (s : State) (f : CtFail), (s.regsWf) ∧ (s.flag IMG.CT_STAT.COMMIT_PEND = true) ∧ (s.ct.checked = false) ∧ (ctCheck s.img.arms s.img.laneCells (identityFail s) (committed s) = some f)) ∧
    (∃ (s : State) (_pcnt : Nat), (s.regsWf) ∧ (s.ct.checked = true) ∧ (s.flag IMG.CT_STAT.COMMIT_PEND = true) ∧ ((s.ct.shadow.map (·.1)).Nodup) ∧ (tabWf noEntry s.ct.live = true)) ∧
    (∃ (s : State) (p : Path) (i : Fin 4096), (s.regsWf) ∧ (p ≠ .mgmt) ∧ (Reaches p (0x180000 + 64 * i.val + 24) s)) ∧
    (∃ (s : State) (p : Path) (i : Fin 4096) (v : Nat), (s.regsWf) ∧ (p ≠ .mgmt) ∧ (Reaches p (0x180000 + 64 * i.val + 28) s) ∧ (eqLatch s p = some (i.val, ctBank s, v))) :=
  ⟨⟨(test_hub.setFld IMG.CT_CTRL.BANK 1), .pcie, 4095, 0, 0x77#32, { uid := 0x77 }, by decide⟩,
   ⟨test_hub, 4095, 0, 0x77#32, by decide⟩,
   ⟨test_hub, .pcie, true, by decide⟩,
   ⟨{ test_hub with ct := { shadow := [(3, [])] } }, .pcie, true, by decide⟩,
   ⟨(test_hub.setFld IMG.CT_STAT.COMMIT_PEND 1), by decide⟩,
   ⟨{ (test_hub.setFld IMG.CT_STAT.COMMIT_PEND 1) with ct := { shadow := [(1, [(0, 5)]), (2, [(0, 5)])] } }, { code := 1, entry := some 2 }, by decide⟩,
   ⟨{ (test_hub.setFld IMG.CT_STAT.COMMIT_PEND 1) with ct := { checked := true, shadow := [(1, [(0, 5)]), (2, [(0, 6)])] } }, 77, by decide⟩,
   ⟨{ test_hub with ct := { live := [(5, { cfg := { eqPreset := 0x1122334455667788 } })] } }, .spi, 5, by decide⟩,
   ⟨{ test_hub with ct := { eqLatch1 := some (5, 0, 77) } }, .spi, 5, 77, by decide⟩⟩

theorem test_meets_LaneTransmitterFollowsItsControl :
    (∃ (s : State) (q : Fin 32) (_dt : Nat), (s.regsWf) ∧ (s.hubUp = true) ∧ (bitAt (s.fld SYS.QUAD_PWR.QUAD_EN) q.val = true) ∧ (bitAt (s.fld SYS.QUAD_STAT.QUAD_RDY) q.val = false) ∧ (∀ j : Fin 4, dsState s (4 * q.val + j.val) = dsOff) ∧ (∀ j : Fin 4, s.flag (LNK.CTRL.DS_EN.at (lnkOff (4 * q.val + j.val))) = true)) ∧
    (∃ (s : State) (p : Path) (lane : Fin 128) (w : W32) (_dt : Nat), (s.regsWf) ∧ (Reaches p (LNK.CTRL.addr + lnkOff lane.val) s) ∧ (s.isCell = false) ∧ (bitsAt w.toNat 7 3 = s.fld (LNK.CTRL.LOOPBACK.at (lnkOff lane.val))) ∧ (bitAt w.toNat 5 = false) ∧ (dsState s lane.val = dsOff) ∧ (bitAt (s.fld SYS.QUAD_STAT.QUAD_RDY) (lane.val / 4) = true)) ∧
    (∃ (s : State) (p : Path) (lane : Fin 128) (w : W32) (_dt : Nat), (s.regsWf) ∧ (Reaches p (LNK.CTRL.addr + lnkOff lane.val) s) ∧ (s.isCell = false) ∧ (bitsAt w.toNat 7 3 = s.fld (LNK.CTRL.LOOPBACK.at (lnkOff lane.val)))) ∧
    (∃ (s : State) (p : Path) (lane : Fin 128) (w : W32) (_dt : Nat), (s.regsWf) ∧ (Reaches p (LNK.CTRL.addr + lnkOff lane.val) s) ∧ (s.isCell = false) ∧ (bitsAt w.toNat 7 3 = s.fld (LNK.CTRL.LOOPBACK.at (lnkOff lane.val))) ∧ (bitAt w.toNat 0 = true) ∧ (dsState s lane.val = dsRun) ∧ (laneAdmitted s lane.val = false) ∧ (admOpen s lane.val = false)) ∧
    (∃ (s : State) (lane : Fin 128) (w : W32) (_dt : Nat), (s.regsWf) ∧ (Reaches .pcie (LNK.CTRL.addr + lnkOff lane.val) s) ∧ (s.isCell = false) ∧ (bitsAt w.toNat 7 3 = s.fld (LNK.CTRL.LOOPBACK.at (lnkOff lane.val))) ∧ (bitAt w.toNat 0 = true) ∧ (dsState s lane.val = dsRun) ∧ (laneAdmitted s lane.val = true ∨ admOpen s lane.val = true) ∧ (s.flag HST.AERR.VALID = false)) ∧
    (∃ (s : State) (p : Path) (lane : Fin 128) (w : W32) (_dt : Nat), (s.regsWf) ∧ (Reaches p (LNK.CTRL.addr + lnkOff lane.val) s) ∧ (s.isCell = false) ∧ (bitsAt w.toNat 7 3 = s.fld (LNK.CTRL.LOOPBACK.at (lnkOff lane.val))) ∧ (bitAt w.toNat 0 = true) ∧ (dsState s lane.val = dsSleep)) ∧
    (∃ (s : State) (lane : Fin 128) (dt : Nat), (s.regsWf) ∧ (dsState s lane.val = dsWake) ∧ ((s.lane lane.val).wire.start + 64 ≤ blockNow dt s)) ∧
    (∃ (s : State) (lane : Fin 128) (dt : Nat), (s.regsWf) ∧ (blockNow dt s < (s.lane lane.val).wire.start + 64)) ∧
    (∃ (s : State) (p : Path) (lane : Fin 128) (w : W32) (_dt : Nat), (s.regsWf) ∧ (Reaches p (LNK.CTRL.addr + lnkOff lane.val) s) ∧ (s.isCell = false) ∧ (loopbackOk s lane.val (bitsAt w.toNat 7 3) = true) ∧ (bitAt w.toNat 0 = true) ∧ (bitAt w.toNat 5 = false) ∧ (dsState s lane.val = dsRun)) :=
  ⟨⟨(((((test_hub.setFld SYS.QUAD_PWR.QUAD_EN 0xFFFFFFFF).setFld (LNK.CTRL.DS_EN.at (lnkOff 124)) 1).setFld (LNK.CTRL.DS_EN.at (lnkOff 125)) 1).setFld (LNK.CTRL.DS_EN.at (lnkOff 126)) 1).setFld (LNK.CTRL.DS_EN.at (lnkOff 127)) 1), 31, 700, by decide⟩,
   ⟨((test_hub.setFld SYS.QUAD_PWR.QUAD_EN 0xFFFFFFFF).setFld SYS.QUAD_STAT.QUAD_RDY 0xFFFFFFFF), .pcie, 127, 0#32, 700, by decide⟩,
   ⟨((((test_hub.setFld SYS.QUAD_PWR.QUAD_EN 0xFFFFFFFF).setFld SYS.QUAD_STAT.QUAD_RDY 0xFFFFFFFF).setLane 5 { slots := [(3, { own := .admitted, cell := 9 })] }).setFld (LNK.STAT.DS_STATE.at (lnkOff 5)) 1), .spi, 5, 1#32, 20, by decide⟩,
   ⟨(((test_hub.setFld SYS.QUAD_PWR.QUAD_EN 0xFFFFFFFF).setFld SYS.QUAD_STAT.QUAD_RDY 0xFFFFFFFF).setFld (LNK.STAT.DS_STATE.at (lnkOff 5)) 1), .pcie, 5, 1#32, 20, by decide⟩,
   ⟨((((test_hub.setFld SYS.QUAD_PWR.QUAD_EN 0xFFFFFFFF).setFld SYS.QUAD_STAT.QUAD_RDY 0xFFFFFFFF).setLane 5 { slots := [(3, { own := .admitted, cell := 9 })] }).setFld (LNK.STAT.DS_STATE.at (lnkOff 5)) 1), 5, 1#32, 20, by decide⟩,
   ⟨(((test_hub.setFld SYS.QUAD_PWR.QUAD_EN 0xFFFFFFFF).setFld SYS.QUAD_STAT.QUAD_RDY 0xFFFFFFFF).setFld (LNK.STAT.DS_STATE.at (lnkOff 5)) 2), .pcie, 5, 1#32, 20, by decide⟩,
   ⟨(((test_hub.setFld SYS.QUAD_PWR.QUAD_EN 0xFFFFFFFF).setFld SYS.QUAD_STAT.QUAD_RDY 0xFFFFFFFF).setFld (LNK.STAT.DS_STATE.at (lnkOff 5)) 3), 5, 500, by decide⟩,
   ⟨((test_hub.setFld SYS.QUAD_PWR.QUAD_EN 0xFFFFFFFF).setFld SYS.QUAD_STAT.QUAD_RDY 0xFFFFFFFF), 5, 0, by decide⟩,
   ⟨(((test_hub.setFld SYS.QUAD_PWR.QUAD_EN 0xFFFFFFFF).setFld SYS.QUAD_STAT.QUAD_RDY 0xFFFFFFFF).setFld (LNK.STAT.DS_STATE.at (lnkOff 5)) 1), .pcie, 5, 0x81#32, 20, by decide⟩⟩

theorem test_meets_PrbsTestsCountAndInject :
    (∃ (s : State) (p : Path) (lane : Fin 128) (w : W32) (_dt : Nat), (s.regsWf) ∧ (Reaches p (LNK.PRBS_CTRL.addr + lnkOff lane.val) s) ∧ (s.isCell = false) ∧ (s.blocked = true) ∧ (laneAdmitted s lane.val = false) ∧ (bitsAt w.toNat 4 2 = 1) ∧ (bitAt w.toNat 11 = false) ∧ (s.fld (LNK.PRBS_CTRL.MODE.at (lnkOff lane.val)) ≠ 1)) ∧
    (∃ (s : State) (p : Path) (lane : Fin 128) (w : W32) (_dt : Nat), (s.regsWf) ∧ (Reaches p (LNK.PRBS_CTRL.addr + lnkOff lane.val) s) ∧ (s.isCell = false) ∧ (bitsAt w.toNat 17 2 = 0 ∨ bitsAt w.toNat 17 2 = 3) ∧ (bitsAt w.toNat 4 2 = 2) ∧ (bitAt w.toNat 11 = false) ∧ (s.fld (LNK.PRBS_CTRL.MODE.at (lnkOff lane.val)) ≠ 2)) ∧
    (∃ (s : State) (lane : Fin 128) (w : W32) (_dt : Nat), (s.regsWf) ∧ (Reaches .pcie (LNK.PRBS_CTRL.addr + lnkOff lane.val) s) ∧ (s.isCell = false) ∧ (s.blocked = false) ∧ (bitsAt w.toNat 4 2 = 1) ∧ (s.fld (LNK.PRBS_CTRL.MODE.at (lnkOff lane.val)) ≠ 1) ∧ (s.flag HST.AERR.VALID = false)) ∧
    (∃ (s : State) (p : Path) (lane : Fin 128) (w : W32), (s.regsWf) ∧ (Reaches p (LNK.PRBS_CTRL.addr + lnkOff lane.val) s) ∧ (s.isCell = false) ∧ (s.blocked = true) ∧ (bitsAt w.toNat 4 2 = s.fld (LNK.PRBS_CTRL.MODE.at (lnkOff lane.val))) ∧ (bitsAt w.toNat 0 4 = s.fld (LNK.PRBS_CTRL.PATTERN.at (lnkOff lane.val)))) ∧
    (∃ (s : State) (p : Path) (lane : Fin 128), (s.regsWf) ∧ (Reaches p (LNK.PRBS_INJ.addr + lnkOff lane.val) s) ∧ (s.isCell = false) ∧ (s.fld (LNK.PRBS_CTRL.INJ_TGT.at (lnkOff lane.val)) = 0)) ∧
    (∃ (s : State) (p : Path) (lane : Fin 128), (s.regsWf) ∧ (Reaches p (LNK.PRBS_INJ.addr + lnkOff lane.val) s) ∧ (s.isCell = false) ∧ (s.blocked = true) ∧ (s.fld (LNK.PRBS_CTRL.INJ_TGT.at (lnkOff lane.val)) = 1 ∨ s.fld (LNK.PRBS_CTRL.INJ_TGT.at (lnkOff lane.val)) = 2)) ∧
    (∃ (s : State) (lane : Fin 128) (_dt : Nat), (s.regsWf) ∧ (s.isCell = false) ∧ (injGap s lane.val ≠ 0) ∧ (genOn s lane.val = true)) ∧
    (∃ (gap n : Nat) (w : Wire), (w.flips = 0) ∧ (w.sinceInj < gap) ∧ (n ≤ gap) ∧ (n ≤ 64)) ∧
    (∃ (s : State) (p : Path) (be : Fin 16) (lane : Fin 128), (s.regsWf) ∧ (Reaches p (LNK.PRBS_BITS_LO.addr + lnkOff lane.val) s) ∧ (s.isCell = false) ∧ (readEnables p be.val ≠ 0)) ∧
    (∃ (s : State) (lane : Fin 128), (s.regsWf) ∧ (s.flag (LNK.PRBS_CTRL.CHK_EN.at (lnkOff lane.val)) = true) ∧ (s.fld (LNK.PRBS_CTRL.MODE.at (lnkOff lane.val)) = 1 ∨ s.fld (LNK.PRBS_CTRL.MODE.at (lnkOff lane.val)) = 2) ∧ ((s.lane lane.val).chk.clean = 256)) ∧
    (∃ (s : State) (lane : Fin 128), (s.regsWf) ∧ ((s.lane lane.val).chk.clean ≠ 256)) ∧
    (∃ (s : State) (lane : Fin 128) (n w : Nat), (s.regsWf) ∧ (s.flag (LNK.STAT.PRBS_LOCK.at (lnkOff lane.val)) = true) ∧ (64 ≤ popcount 256 ((prbsReceive lane.val n w s).lane lane.val).chk.win)) :=
  ⟨⟨(test_hub.setFld SYS.QUAD_PWR.QUAD_EN 0xFFFFFFFF), .pcie, 7, 0x10#32, 300, by decide⟩,
   ⟨(test_hub.setFld SYS.QUAD_PWR.QUAD_EN 0xFFFFFFFF), .pcie, 7, 0x20#32, 300, by decide⟩,
   ⟨((test_hub.setFld SYS.QUAD_PWR.QUAD_EN 0xFFFFFFFF).setFlag EVR.CONV_STAT.BLOCKED false), 7, 0x10#32, 300, by decide⟩,
   ⟨(((test_hub.setFld SYS.QUAD_PWR.QUAD_EN 0xFFFFFFFF).setLane 7 { prbsBits := 9 }).setFld (LNK.PRBS_ERR.ERR.at (lnkOff 7)) 55), .pcie, 7, 4#32, by decide⟩,
   ⟨(test_hub.setFld SYS.QUAD_PWR.QUAD_EN 0xFFFFFFFF), .pcie, 7, by decide⟩,
   ⟨((test_hub.setFld SYS.QUAD_PWR.QUAD_EN 0xFFFFFFFF).setFld (LNK.PRBS_CTRL.INJ_TGT.at (lnkOff 7)) 2), .pcie, 7, by decide⟩,
   ⟨(((((test_hub.setFld SYS.QUAD_PWR.QUAD_EN 0xFFFFFFFF).setLane 7 { wire := { sinceInj := 1020 } }).setFld (LNK.PRBS_CTRL.INJ_EXP.at (lnkOff 7)) 3).setFld (LNK.PRBS_CTRL.GEN_EN.at (lnkOff 7)) 1).setFld (LNK.PRBS_CTRL.MODE.at (lnkOff 7)) 2), 7, 300, by decide⟩,
   ⟨1024, 56, { gen := 77, sinceInj := 1000 }, by decide⟩,
   ⟨((test_hub.setFld SYS.QUAD_PWR.QUAD_EN 0xFFFFFFFF).setLane 7 { prbsBits := 0x300000004 }), .spi, 0, 7, by decide⟩,
   ⟨((((test_hub.setFld SYS.QUAD_PWR.QUAD_EN 0xFFFFFFFF).setLane 7 { chk := { clean := 256, seen := 31 } }).setFld (LNK.PRBS_CTRL.CHK_EN.at (lnkOff 7)) 1).setFld (LNK.PRBS_CTRL.MODE.at (lnkOff 7)) 2), 7, by decide⟩,
   ⟨(test_hub.setFld SYS.QUAD_PWR.QUAD_EN 0xFFFFFFFF), 7, by decide⟩,
   ⟨(((((test_hub.setFld SYS.QUAD_PWR.QUAD_EN 0xFFFFFFFF).setLane 7 { chk := { win := 2 ^ 63 - 1, clean := 256, seen := 31 } }).setFld (LNK.STAT.PRBS_LOCK.at (lnkOff 7)) 1).setFld (LNK.PRBS_CTRL.CHK_EN.at (lnkOff 7)) 1).setFld (LNK.PRBS_CTRL.MODE.at (lnkOff 7)) 2), 7, 2, 1, by decide⟩⟩

theorem test_meets_BurstsAndCyclesMoveTheSlots :
    (∃ (s : State) (lane : Fin 128) (slot : Fin 36), (s.regsWf) ∧ (s.isHub = true) ∧ (s.clodsUp = true) ∧ (rxContinuous s lane.val = false) ∧ (s.flag (LNK.CTRL.US_SLEEP_EN.at (lnkOff lane.val)) = false ∨ slotsAhead s lane.val slot.val = 0 ∨ slotsAhead s lane.val slot.val + slotsBehind s lane.val slot.val < 6)) ∧
    (∃ (s : State) (lane : Fin 128) (_slot : Fin 36), (s.regsWf) ∧ (s.isHub = true) ∧ (s.clodsUp = true) ∧ (rxContinuous s lane.val = true)) ∧
    (∃ (s : State) (lane : Fin 128) (slot : Fin 36), (s.regsWf) ∧ (s.isHub = true) ∧ (s.clodsUp = true) ∧ (rxContinuous s lane.val = false) ∧ (s.flag (LNK.CTRL.US_SLEEP_EN.at (lnkOff lane.val)) = true) ∧ (4 ≤ slotsAhead s lane.val slot.val) ∧ (6 ≤ slotsAhead s lane.val slot.val + slotsBehind s lane.val slot.val)) ∧
    (∃ (s : State) (lane : Fin 128) (slot : Fin 36), (s.regsWf) ∧ (s.isHub = true) ∧ (s.clodsUp = true) ∧ (rxContinuous s lane.val = false) ∧ (s.flag (LNK.CTRL.US_SLEEP_EN.at (lnkOff lane.val)) = true) ∧ (1 ≤ slotsAhead s lane.val slot.val) ∧ (slotsAhead s lane.val slot.val ≤ 3) ∧ (6 ≤ slotsAhead s lane.val slot.val + slotsBehind s lane.val slot.val)) ∧
    (∃ (s : State) (_lane : Fin 128), (s.regsWf) ∧ (s.isHub = true) ∧ (s.clodsUp = true)) ∧
    (∃ (s : State) (lane : Fin 128) (slot : Fin 36) (b : BurstObs), (s.regsWf) ∧ (s.isHub = true) ∧ (s.clodsUp = true) ∧ (s.fld (LNK.PRBS_CTRL.MODE.at (lnkOff lane.val)) ≠ 1) ∧ (s.fld (LNK.CTRL.LOOPBACK.at (lnkOff lane.val)) ≠ 1) ∧ (s.fld (LNK.CTRL.LOOPBACK.at (lnkOff lane.val)) ≠ 2) ∧ (slot.val < 32) ∧ (burstExpected s lane.val slot.val = true) ∧ (windowed 58 134 b = [])) ∧
    (∃ (s : State) (lane : Fin 128) (slot : Fin 36) (b : BurstObs), (s.regsWf) ∧ (s.isHub = true) ∧ (s.clodsUp = true) ∧ (s.fld (LNK.PRBS_CTRL.MODE.at (lnkOff lane.val)) ≠ 1) ∧ (s.fld (LNK.CTRL.LOOPBACK.at (lnkOff lane.val)) ≠ 1) ∧ (s.fld (LNK.CTRL.LOOPBACK.at (lnkOff lane.val)) ≠ 2) ∧ (slot.val < 32) ∧ (slotHeard s lane.val slot.val = false ∨ (burstExpected s lane.val slot.val = false ∧ windowed 58 134 b = []))) ∧
    (∃ (s : State) (lane : Fin 128) (slot : Fin 36) (b : BurstObs) (x : BurstRx) (more : List BurstRx), (s.regsWf) ∧ (s.isHub = true) ∧ (s.clodsUp = true) ∧ (s.fld (LNK.PRBS_CTRL.MODE.at (lnkOff lane.val)) ≠ 1) ∧ (s.fld (LNK.CTRL.LOOPBACK.at (lnkOff lane.val)) ≠ 1) ∧ (s.fld (LNK.CTRL.LOOPBACK.at (lnkOff lane.val)) ≠ 2) ∧ (slot.val < 32) ∧ (slotHeard s lane.val slot.val = true) ∧ (((s.lane lane.val).slot slot.val).own = .admitted) ∧ (windowed 58 134 b = x :: more) ∧ (rxData x = true) ∧ (burstCrcOk (rxPayload x) = true) ∧ (bitsAt (rxPayload x) 0 4 = 1) ∧ (bitsAt (rxPayload x) 4 5 = slot.val) ∧ (bitsAt (rxPayload x) 9 12 = ((s.lane lane.val).slot slot.val).cell) ∧ (bitsAt (rxPayload x) 102 2 ≠ 3)) ∧
    (∃ (s : State) (lane : Fin 128) (b : BurstObs) (x : BurstRx), (s.regsWf) ∧ (s.isHub = true) ∧ (s.clodsUp = true) ∧ (s.fld (LNK.PRBS_CTRL.MODE.at (lnkOff lane.val)) ≠ 1) ∧ (s.fld (LNK.CTRL.LOOPBACK.at (lnkOff lane.val)) ≠ 1) ∧ (s.fld (LNK.CTRL.LOOPBACK.at (lnkOff lane.val)) ≠ 2) ∧ (windowed (announceWindow (s.fld CLT.DREF.D_REF)).1 (announceWindow (s.fld CLT.DREF.D_REF)).2 b = [x]) ∧ (rxData x = true) ∧ (burstCrcOk (rxPayload x) = true) ∧ (bitsAt (rxPayload x) 0 4 = 2) ∧ (cycleRange s lane.val = true) ∧ (s.link.cut = false)) ∧
    (∃ (s : State) (lane : Fin 128) (b : BurstObs) (x y : BurstRx) (more : List BurstRx), (s.regsWf) ∧ (s.isHub = true) ∧ (s.clodsUp = true) ∧ (s.fld (LNK.PRBS_CTRL.MODE.at (lnkOff lane.val)) ≠ 1) ∧ (s.fld (LNK.CTRL.LOOPBACK.at (lnkOff lane.val)) ≠ 1) ∧ (s.fld (LNK.CTRL.LOOPBACK.at (lnkOff lane.val)) ≠ 2) ∧ (windowed (announceWindow (s.fld CLT.DREF.D_REF)).1 (announceWindow (s.fld CLT.DREF.D_REF)).2 b = x :: y :: more) ∧ (rxData x = true) ∧ (cycleRange s lane.val = true) ∧ (s.link.cut = false)) ∧
    (∃ (s : State) (a : Nat), (s.regsWf) ∧ (s.link.nextAt = some a)) ∧
    (∃ (s : State), (s.regsWf) ∧ (s.link.nextAt = none)) :=
  ⟨⟨(test_hub.setFld (LNK.CTRL.US_SLEEP_EN.at (lnkOff 9)) 0), 9, 35, by decide⟩,
   ⟨(test_hub.setFld (LNK.PRBS_CTRL.MODE.at (lnkOff 9)) 1), 9, 35, by decide⟩,
   ⟨(test_hub.setFld (LNK.CTRL.US_SLEEP_EN.at (lnkOff 9)) 1), 9, 3, by decide⟩,
   ⟨((test_hub.setLane 9 { slots := [(10, { own := .admitted, cell := 4 })] }).setFld (LNK.CTRL.US_SLEEP_EN.at (lnkOff 9)) 1), 9, 8, by decide⟩,
   ⟨test_hub, 9, by decide⟩,
   ⟨(test_hub.setLane 9 { slots := [(31, { own := .admitted, cell := 4 })] }), 9, 31, {}, by decide⟩,
   ⟨test_hub, 9, 31, {}, by decide⟩,
   ⟨(test_hub.setLane 9 { slots := [(31, { own := .admitted, cell := 4 })] }), 9, 31, { rx := [{ at_ := 96, delim := 0xB3C50E9D#32, blks := (scrambleAll burstSeed [(1, (1 + 2 ^ 4 * 31 + 2 ^ 9 * 4 + 2 ^ 160 * crc32 (leBytes 20 (1 + 2 ^ 4 * 31 + 2 ^ 9 * 4))) % 2 ^ 64), (1, (1 + 2 ^ 4 * 31 + 2 ^ 9 * 4 + 2 ^ 160 * crc32 (leBytes 20 (1 + 2 ^ 4 * 31 + 2 ^ 9 * 4))) / 2 ^ 64 % 2 ^ 64), (1, (1 + 2 ^ 4 * 31 + 2 ^ 9 * 4 + 2 ^ 160 * crc32 (leBytes 20 (1 + 2 ^ 4 * 31 + 2 ^ 9 * 4))) / 2 ^ 128)]).map (BitVec.ofNat 66) }] }, { at_ := 96, delim := 0xB3C50E9D#32, blks := (scrambleAll burstSeed [(1, (1 + 2 ^ 4 * 31 + 2 ^ 9 * 4 + 2 ^ 160 * crc32 (leBytes 20 (1 + 2 ^ 4 * 31 + 2 ^ 9 * 4))) % 2 ^ 64), (1, (1 + 2 ^ 4 * 31 + 2 ^ 9 * 4 + 2 ^ 160 * crc32 (leBytes 20 (1 + 2 ^ 4 * 31 + 2 ^ 9 * 4))) / 2 ^ 64 % 2 ^ 64), (1, (1 + 2 ^ 4 * 31 + 2 ^ 9 * 4 + 2 ^ 160 * crc32 (leBytes 20 (1 + 2 ^ 4 * 31 + 2 ^ 9 * 4))) / 2 ^ 128)]).map (BitVec.ofNat 66) }, [], by decide⟩,
   ⟨{ (test_hub.setLane 9 { quiet := [4], runStart := some 4 }) with link := { nextAt := some 10000, nextN := 5 } }, 9, { rx := [{ at_ := 63, delim := 0xB3C50E9D#32, blks := (scrambleAll burstSeed [(1, (2 + 2 ^ 32 * 77 + 2 ^ 160 * crc32 (leBytes 20 (2 + 2 ^ 32 * 77))) % 2 ^ 64), (1, (2 + 2 ^ 32 * 77 + 2 ^ 160 * crc32 (leBytes 20 (2 + 2 ^ 32 * 77))) / 2 ^ 64 % 2 ^ 64), (1, (2 + 2 ^ 32 * 77 + 2 ^ 160 * crc32 (leBytes 20 (2 + 2 ^ 32 * 77))) / 2 ^ 128)]).map (BitVec.ofNat 66) }] }, { at_ := 63, delim := 0xB3C50E9D#32, blks := (scrambleAll burstSeed [(1, (2 + 2 ^ 32 * 77 + 2 ^ 160 * crc32 (leBytes 20 (2 + 2 ^ 32 * 77))) % 2 ^ 64), (1, (2 + 2 ^ 32 * 77 + 2 ^ 160 * crc32 (leBytes 20 (2 + 2 ^ 32 * 77))) / 2 ^ 64 % 2 ^ 64), (1, (2 + 2 ^ 32 * 77 + 2 ^ 160 * crc32 (leBytes 20 (2 + 2 ^ 32 * 77))) / 2 ^ 128)]).map (BitVec.ofNat 66) }, by decide⟩,
   ⟨{ (test_hub.setLane 9 { quiet := [4], runStart := some 4 }) with link := { nextAt := some 10000, nextN := 5 } }, 9, { rx := [{ at_ := 63, delim := 0xB3C50E9D#32, blks := (scrambleAll burstSeed [(1, (2) % 2 ^ 64), (1, (2) / 2 ^ 64 % 2 ^ 64), (1, (2) / 2 ^ 128)]).map (BitVec.ofNat 66) }, { at_ := 90, delim := 0xB3C50E9D#32, blks := (scrambleAll burstSeed [(1, (2) % 2 ^ 64), (1, (2) / 2 ^ 64 % 2 ^ 64), (1, (2) / 2 ^ 128)]).map (BitVec.ofNat 66) }] }, { at_ := 63, delim := 0xB3C50E9D#32, blks := (scrambleAll burstSeed [(1, (2) % 2 ^ 64), (1, (2) / 2 ^ 64 % 2 ^ 64), (1, (2) / 2 ^ 128)]).map (BitVec.ofNat 66) }, { at_ := 90, delim := 0xB3C50E9D#32, blks := (scrambleAll burstSeed [(1, (2) % 2 ^ 64), (1, (2) / 2 ^ 64 % 2 ^ 64), (1, (2) / 2 ^ 128)]).map (BitVec.ofNat 66) }, [], by decide⟩,
   ⟨{ test_hub with link := { nextAt := some 10000, nextN := 5 } }, 10000, by decide⟩,
   ⟨test_hub, by decide⟩⟩

theorem test_meets_AdmissionAndReleaseRunTheSlots :
    (∃ (s : State) (lane : Fin 128) (a : Announce), (s.regsWf) ∧ ((s.lane lane.val).ann = some a) ∧ ((usedEntries s).find? (fun (u : Nat × CtEntry) => u.2.cfg.uid == a.uid) = none)) ∧
    (∃ (s : State) (lane : Fin 128) (a : Announce) (i : Nat) (e : CtEntry) (k : Nat), (s.regsWf) ∧ ((s.lane lane.val).ann = some a) ∧ ((usedEntries s).find? (fun (u : Nat × CtEntry) => u.2.cfg.uid == a.uid) = some (i, e)) ∧ ((admissionCheck (s.setLane lane.val { s.lane lane.val with ann := none }) lane.val e (entryBusy (s.setLane lane.val { s.lane lane.val with ann := none }) i) a (roundHA (8 * a.delta) 165)).toOption = some none) ∧ (chooseSlot (s.setLane lane.val { s.lane lane.val with ann := none }) lane.val e = some k)) ∧
    (∃ (s : State) (lane : Fin 128) (slot : Fin 32), (s.regsWf) ∧ (((s.lane lane.val).slot slot.val).own = .joining) ∧ (((s.lane lane.val).slot slot.val).releasing = false) ∧ (((s.lane lane.val).slot slot.val).joinCyc ≤ ((s.lane lane.val).slot slot.val).joined)) ∧
    (∃ (s : State) (lane : Fin 128) (slot : Fin 32), (s.regsWf) ∧ (((s.lane lane.val).slot slot.val).own = .admitted) ∧ (max 8 (s.fld (CLT.LCTRL.RELEASE_MISS.at (cltOff lane.val))) ≤ ((s.lane lane.val).slot slot.val).missed)) ∧
    (∃ (s : State) (p : Path) (lane : Fin 128) (w : W32), (s.regsWf) ∧ (Reaches p (CLT.LCTRL.addr + cltOff lane.val) s) ∧ (s.isCell = false) ∧ (dsState s lane.val = dsRun) ∧ (s.flag (LNK.CTRL.DS_EN.at (lnkOff lane.val)) = true) ∧ (s.flag (LNK.CTRL.DS_SLEEP.at (lnkOff lane.val)) = false) ∧ (bitAt w.toNat 0 = s.flag (CLT.LCTRL.LEVEL.at (cltOff lane.val))) ∧ (((s.lane lane.val).slot (s.fld (CLT.LREL.RELEASE_SLOT.at (cltOff lane.val)))).own = .admitted)) ∧
    (∃ (s : State) (lane : Fin 128) (slot : Fin 32), (s.regsWf) ∧ (((s.lane lane.val).slot slot.val).quar = some 0)) ∧
    (∃ (s : State) (lane : Fin 128) (slot : Fin 32), (s.regsWf) ∧ (((s.lane lane.val).slot slot.val).own = .admitted) ∧ (((s.lane lane.val).slot slot.val).releasing = false) ∧ (((s.lane lane.val).slot slot.val).offCnt = 256) ∧ (2048 < ((s.lane lane.val).slot slot.val).offSum ∨ ((s.lane lane.val).slot slot.val).offSum < -2048)) ∧
    (∃ (s : State) (p : Path) (lane : Fin 128) (w : W32) (_dt : Nat), (s.regsWf) ∧ (Reaches p (CLT.LCTRL.addr + cltOff lane.val) s) ∧ (s.isCell = false) ∧ (dsState s lane.val = dsRun) ∧ (s.flag (LNK.CTRL.DS_EN.at (lnkOff lane.val)) = true) ∧ (s.flag (LNK.CTRL.DS_SLEEP.at (lnkOff lane.val)) = false) ∧ (bitAt w.toNat 0 = s.flag (CLT.LCTRL.LEVEL.at (cltOff lane.val))) ∧ (bitAt w.toNat 4 = false)) ∧
    (∃ (s : State) (p : Path) (lane : Fin 128) (w : W32), (s.regsWf) ∧ (Reaches p (CLT.LCTRL.addr + cltOff lane.val) s) ∧ (s.isCell = false) ∧ (laneBusy s lane.val = false) ∧ (dsState s lane.val = dsOff) ∧ (s.flag (LNK.CTRL.DS_EN.at (lnkOff lane.val)) = false) ∧ (bitAt w.toNat 4 = false)) ∧
    (∃ (s : State) (p : Path) (_w : W32), (s.regsWf) ∧ (Reaches p CLT.DREF.addr s) ∧ (s.isCell = false) ∧ (anyBusy s = false)) ∧
    (∃ (s : State) (p : Path), (s.regsWf) ∧ (Reaches p CLT.REFLOG_POP.addr s) ∧ (s.isCell = false)) ∧
    (∃ (s : State) (p : Path) (lane : Fin 128) (_w : W32), (s.regsWf) ∧ (Reaches p (CLT.MCTRL.addr + cltOff lane.val) s) ∧ (s.isCell = false) ∧ (s.fld (CLT.MSTAT.STATE.at (cltOff lane.val)) = 0 ∨ s.fld (CLT.MSTAT.STATE.at (cltOff lane.val)) = 3) ∧ (s.flag (CLT.LCTRL.MGMT_EN.at (cltOff lane.val)) = true)) ∧
    (∃ (s : State) (lane : Fin 128), (s.regsWf) ∧ (s.fld (CLT.MSTAT.STATE.at (cltOff lane.val)) = 2) ∧ (max 2 (s.fld CLT.GCFG.MGMT_TO) ≤ (s.lane lane.val).mbWait) ∧ (s.fld CLT.GCFG.MGMT_RETRY < s.fld (CLT.MSTAT.TRIES.at (cltOff lane.val)))) :=
  ⟨⟨(test_hub.setLane 9 { ann := some { uid := 7 } }), 9, { uid := 7 }, by decide⟩,
   ⟨{ (((test_hub.setFld IMG.INFO_LVL.BEH_LEVEL 1).setFld IMG.INFO_LVL.COMPAT_MAX 9).setLane 9 { ann := some { uid := 7, type := 1, beh := 1, offer := 1, compatMax := 9, delta := 2 } }) with ct := { live := [(3, { cfg := { uid := 7, lane := 9, type := 1 } })] } }, 9, { uid := 7, type := 1, beh := 1, offer := 1, compatMax := 9, delta := 2 }, 3, { cfg := { uid := 7, lane := 9, type := 1 } }, 0, by decide⟩,
   ⟨(test_hub.setLane 9 { slots := [(31, { own := .joining, cell := 4, joinCyc := 8, joined := 8 })] }), 9, 31, by decide⟩,
   ⟨((test_hub.setLane 9 { slots := [(31, { own := .admitted, cell := 4, missed := 16 })] }).setFld (CLT.LCTRL.RELEASE_MISS.at (cltOff 9)) 16), 9, 31, by decide⟩,
   ⟨((((test_hub.setLane 9 { slots := [(31, { own := .admitted, cell := 4, missed := 16 })] }).setFld (CLT.LREL.RELEASE_SLOT.at (cltOff 9)) 31).setFld (LNK.STAT.DS_STATE.at (lnkOff 9)) 1).setFld (LNK.CTRL.DS_EN.at (lnkOff 9)) 1), .pcie, 9, 0#32, by decide⟩,
   ⟨(test_hub.setLane 9 { slots := [(31, { quar := some 0 })] }), 9, 31, by decide⟩,
   ⟨(test_hub.setLane 9 { slots := [(31, { own := .admitted, offCnt := 256, offSum := -2049 })] }), 9, 31, by decide⟩,
   ⟨((test_hub.setFld (LNK.STAT.DS_STATE.at (lnkOff 9)) 1).setFld (LNK.CTRL.DS_EN.at (lnkOff 9)) 1), .pcie, 9, 4#32, 30, by decide⟩,
   ⟨test_hub, .pcie, 9, 1#32, by decide⟩,
   ⟨test_hub, .pcie, 900#32, by decide⟩,
   ⟨{ test_hub with link := { reflog := [{ uid := 3 }, { uid := 4 }] } }, .spi, by decide⟩,
   ⟨(test_hub.setFld (CLT.LCTRL.MGMT_EN.at (cltOff 9)) 1), .pcie, 9, 0#32, by decide⟩,
   ⟨((((test_hub.setLane 9 { mbWait := 9999 }).setFld (CLT.MSTAT.STATE.at (cltOff 9)) 2).setFld (CLT.MSTAT.TRIES.at (cltOff 9)) 5).setFld CLT.GCFG.MGMT_RETRY 2), 9, by decide⟩⟩

theorem test_meets_EveryBoundaryAdvancesTheTimeline :
    (∃ (s : State) (_ref : Nat) (_conv : List (List Int)) (_ops : List (Fin 6)), (s.regsWf) ∧ (s.hubUp = true) ∧ (s.period.corrNext.natAbs ≤ 1)) ∧
    (∃ (s : State) (_ptp : Nat), (s.regsWf) ∧ (s.hubUp = true) ∧ (disciplined s = true) ∧ (1024 ≤ s.period.lockRun) ∧ (s.flag SYS.ALIGN_STAT.LOCKED = false) ∧ (syncMode s = 2)) ∧
    (∃ (s : State) (_ptp : Nat), (s.regsWf) ∧ (s.hubUp = true) ∧ (disciplined s = true) ∧ (1024 ≤ s.period.lockRun) ∧ (s.flag SYS.ALIGN_STAT.LOCKED = false) ∧ (syncMode s = 1) ∧ (s.period.ptpLoaded = false)) ∧
    (∃ (s : State), (s.regsWf) ∧ (s.hubUp = true) ∧ (syncMode s = 1) ∧ (s.flag ETH.PTP_STAT.LOCKED = false) ∧ (s.flag SYS.ALIGN_STAT.HOLDOVER = false)) :=
  ⟨⟨test_hub, 0, [], [], by decide⟩,
   ⟨{ test_hub with period := { cfg := 0x00321300#32, ppsSeen := true, lockRun := 1024 } }, 7, by decide⟩,
   ⟨{ test_hub with period := { cfg := 0x00311300#32, lockRun := 1024 } }, 777777, by decide⟩,
   ⟨{ test_hub with period := { cfg := 0x00311300#32, lockRun := 1024 } }, by decide⟩⟩

theorem test_meets_GradingQueuesCountdownsAndClears :
    (∃ (s : State) (a : Fin 6) (op : RankOp) (q : List RankOp), (s.regsWf) ∧ ((s.cp.arm a.val).queue = op :: q)) ∧
    (∃ (s : State) (cell : Fin 4096) (n : Nat), (s.regsWf) ∧ ((s.cp.grade cell.val).refresh = .pending n) ∧ (n ≤ 1) ∧ ((s.cp.grade cell.val).refreshDue = true)) ∧
    (∃ (s : State) (cell : Fin 4096), (s.regsWf) ∧ (refreshLeft (s.cp.grade cell.val) = none)) ∧
    (∃ (s : State) (cell : Fin 4096) (n : Nat), (s.regsWf) ∧ ((s.cp.grade cell.val).recharge = some n) ∧ (s.fld (GRD.ARM_RECH.MAX_PER.at (armOff (s.entry cell.val).cfg.arm)) * 1024 ≤ n + 1)) ∧
    (∃ (s : State) (p : Path), (s.regsWf) ∧ (Reaches p MOD.CTRL.addr s) ∧ (s.isCell = false)) ∧
    (∃ (s : State) (p : Path) (a : Fin 6), (s.regsWf) ∧ (Reaches p (GRD.ARM_RECH_CLR.addr + 0x80 * a.val) s) ∧ (s.isCell = false)) ∧
    (∃ (s : State) (p : Path) (_arm : Fin 8), (s.regsWf) ∧ (Reaches p GRD.RSNAP.addr s) ∧ (s.isCell = false)) ∧
    (∃ (s : State), (s.eng.boundWrites = [(MOD.CTRL.addr, 1)]) ∧ (s.loam.heldWrites = []) ∧ (tabWf noArm s.cp.arms = true)) ∧
    (∃ (s : State) (a : Fin 6), (s.regsWf) ∧ (s.eng.boundWrites = [(GRD.ARM_RECH_CLR.addr + 0x80 * a.val, 1)]) ∧ (s.loam.heldWrites = []) ∧ (s.cpB = none)) ∧
    (∃ (s : State) (a : Fin 6), (s.regsWf) ∧ (s.eng.boundWrites = [(GRD.RSNAP.addr, 8 + a.val)]) ∧ (s.loam.heldWrites = []) ∧ (s.cpB = none) ∧ (s.flag GRD.RSNAP_STAT.BUSY = false) ∧ ((s.cp.arm a.val).rank.length ≤ 1024)) ∧
    (∃ (s : State), (s.regsWf) ∧ (s.hubUp = true) ∧ (2 ^ statExp s ≤ s.eng.statCnt) ∧ (s.cpB = none) ∧ (tabWf noArm s.cp.arms = true)) :=
  ⟨⟨{ test_hub with cp := { arms := [(5, { rank := [(4, 9)], queue := [.insert 7 3 12, .remove 9] })] } }, 5, .insert 7 3 12, [.remove 9], by decide⟩,
   ⟨{ test_hub with cp := { grades := [(7, { present := true, refresh := .pending 0, refreshDue := true })] }, ct := { live := [(7, { cfg := { uid := 3, arm := 5 } })] } }, 7, 0, by decide⟩,
   ⟨test_hub, 7, by decide⟩,
   ⟨{ (test_hub.setFld (GRD.ARM_RECH.MAX_PER.at 0x280) 1) with cp := { grades := [(7, { present := true, recharge := some 1023 })] }, ct := { live := [(7, { cfg := { uid := 3, arm := 5 } })] } }, 7, 1023, by decide⟩,
   ⟨test_hub, .pcie, by decide⟩,
   ⟨test_hub, .spi, 5, by decide⟩,
   ⟨test_hub, .spi, 5, by decide⟩,
   ⟨{ test_hub with eng := { boundWrites := [(MOD.CTRL.addr, 1)] }, cp := { arms := [(2, { carry := 55, rank := [(4, 9)] })] } }, by decide⟩,
   ⟨{ test_hub with eng := { boundWrites := [(GRD.ARM_RECH_CLR.addr + 0x280, 1)] }, cp := { grades := [(7, { present := true, abandoned := true })] }, ct := { live := [(7, { cfg := { uid := 3, arm := 5 } })] } }, 5, by decide⟩,
   ⟨{ test_hub with eng := { boundWrites := [(GRD.RSNAP.addr, 13)] }, cp := { arms := [(5, { rank := [(4, 9), (5, 1)] })] } }, 5, by decide⟩,
   ⟨{ test_hub with img := { test_hub.img with arms := [{ configured := 2 }, { configured := 3 }] }, cp := { arms := [(1, { switches := 55 })] }, eng := { statCnt := 2 ^ 24 } }, by decide⟩⟩

theorem test_meets_BankWritesWaitForTheirCommit :
    (∃ (s : State) (p : Path) (word : Fin 262144) (_w : W32), (s.regsWf) ∧ (Reaches p (0x200000 + 4 * word.val) s) ∧ (s.isCell = false) ∧ (0x400 ≤ word.val) ∧ (word.val < 0x500) ∧ (s.flag CEN.PCOMMIT_STAT.PEND = false) ∧ (s.loam.handover = none) ∧ (s.loam.heldWrites = []) ∧ (lmpState s ≠ lmpRestoring) ∧ (s.cpB = none)) ∧
    (∃ (s : State) (p : Path) (word : Fin 262144) (_w : W32) (b : Copy), (s.regsWf) ∧ (Reaches p (0x200000 + 4 * word.val) s) ∧ (s.isCell = false) ∧ (0x400 ≤ word.val) ∧ (word.val < 0x500) ∧ (s.flag CEN.PCOMMIT_STAT.PEND = false) ∧ (s.loam.handover = none) ∧ (s.loam.heldWrites = []) ∧ (lmpState s ≠ lmpRestoring) ∧ (s.cpB = some b)) ∧
    (∃ (s : State) (p : Path) (word : Fin 262144) (_w : W32), (s.regsWf) ∧ (Reaches p (0x200000 + 4 * word.val) s) ∧ (s.isCell = false) ∧ (0x400 ≤ word.val) ∧ (word.val < 0x500) ∧ (s.flag CEN.PCOMMIT_STAT.PEND = false) ∧ (s.loam.handover = none) ∧ (lmpState s = lmpRestoring ∨ s.loam.heldWrites ≠ [])) ∧
    (∃ (s : State) (p : Path) (word : Fin 262144) (w : W32) (r : TileRec), (s.regsWf) ∧ (Reaches p (0x200000 + 4 * word.val) s) ∧ (s.isCell = false) ∧ (0x4000 ≤ word.val) ∧ (word.val < 0x10000) ∧ (s.img.graph.tile? (tileOf (0x200000 + 4 * word.val)) = some r) ∧ (bankedWord r (((0x200000 + 4 * word.val) - 0x210000) % 0x800) = true) ∧ (((0x200000 + 4 * word.val) - 0x210000) % 0x800 ≠ 0) ∧ (s.img.graph.macroOf (tileOf (0x200000 + 4 * word.val)) = none) ∧ ((((0x200000 + 4 * word.val) - 0x210000) % 0x800 < 0x40 ∨ paramOk r.type ((((0x200000 + 4 * word.val) - 0x210000) % 0x800 - 0x40) / 4) w.toNat = true)) ∧ (s.flag CEN.PCOMMIT_STAT.PEND = false) ∧ (s.loam.handover = none) ∧ (s.loam.heldWrites = []) ∧ (lmpState s ≠ lmpRestoring) ∧ (s.cpB = none)) ∧
    (∃ (s : State) (p : Path) (tile : Fin 96) (off : Fin 512) (w : W32) (r : TileRec) (x : Nat × MacroRec), (s.regsWf) ∧ (Reaches p (0x308000 + 0x800 * tile.val + 4 * off.val) s) ∧ (s.isCell = false) ∧ (s.img.graph.tile? tile.val = some r) ∧ (bankedWord r (4 * off.val) = true) ∧ (16 ≤ off.val) ∧ (s.img.graph.macroOf tile.val = some x) ∧ (refusedParam s.img.graph r tile.val (off.val - 16) w.toNat = false) ∧ ((off.val = 17 → trackerTwin s.img.graph tile.val = none ∧ trackerFollower s.img.graph tile.val = false)) ∧ (s.flag CEN.PCOMMIT_STAT.PEND = false) ∧ (s.loam.handover = none) ∧ (s.loam.heldWrites = []) ∧ (lmpState s ≠ lmpRestoring) ∧ (s.cpB = none)) ∧
    (∃ (s : State) (p : Path) (tile : Fin 96) (off : Fin 512) (w : W32) (r : TileRec) (x : Nat × MacroRec) (u : Nat), (s.regsWf) ∧ (Reaches p (0x308000 + 0x800 * tile.val + 4 * off.val) s) ∧ (s.isCell = false) ∧ (s.img.graph.tile? tile.val = some r) ∧ (bankedWord r (4 * off.val) = true) ∧ (16 ≤ off.val) ∧ (s.img.graph.macroOf tile.val = some x) ∧ (off.val = 17) ∧ (refusedParam s.img.graph r tile.val 1 w.toNat = false) ∧ (trackerFollower s.img.graph tile.val = false) ∧ (trackerTwin s.img.graph tile.val = some u) ∧ (s.flag CEN.PCOMMIT_STAT.PEND = false) ∧ (s.loam.handover = none) ∧ (s.loam.heldWrites = []) ∧ (lmpState s ≠ lmpRestoring) ∧ (s.cpB = none)) ∧
    (∃ (s : State) (p : Path) (tile : Fin 96) (off : Fin 512) (w : W32) (r : TileRec) (x : Nat × MacroRec), (s.regsWf) ∧ (Reaches p (0x308000 + 0x800 * tile.val + 4 * off.val) s) ∧ (s.isCell = false) ∧ (s.img.graph.tile? tile.val = some r) ∧ (bankedWord r (4 * off.val) = true) ∧ (16 ≤ off.val) ∧ (s.img.graph.macroOf tile.val = some x) ∧ (off.val = 17) ∧ (refusedParam s.img.graph r tile.val 1 w.toNat = false) ∧ (trackerFollower s.img.graph tile.val = true) ∧ (s.flag CEN.PCOMMIT_STAT.PEND = false) ∧ (s.loam.handover = none) ∧ (s.loam.heldWrites = []) ∧ (lmpState s ≠ lmpRestoring) ∧ (s.cpB = none) ∧ ((bankCopy s).banks.pend (tileAddr tile.val + 0x44) = w.toNat)) ∧
    (∃ (s : State) (tile : Fin 96) (off : Fin 512) (w : W32) (r : TileRec) (x : Nat × MacroRec), (s.regsWf) ∧ (Reaches .pcie (0x308000 + 0x800 * tile.val + 4 * off.val) s) ∧ (s.isCell = false) ∧ (s.img.graph.tile? tile.val = some r) ∧ (bankedWord r (4 * off.val) = true) ∧ (16 ≤ off.val) ∧ (s.img.graph.macroOf tile.val = some x) ∧ (off.val = 17) ∧ (refusedParam s.img.graph r tile.val 1 w.toNat = false) ∧ (trackerFollower s.img.graph tile.val = true) ∧ (s.flag CEN.PCOMMIT_STAT.PEND = false) ∧ (s.loam.handover = none) ∧ (s.loam.heldWrites = []) ∧ (lmpState s ≠ lmpRestoring) ∧ (s.cpB = none) ∧ ((bankCopy s).banks.pend (tileAddr tile.val + 0x44) ≠ w.toNat) ∧ (s.flag HST.AERR.VALID = false)) ∧
    (∃ (s : State) (tile : Fin 96) (off : Fin 512) (w : W32) (r : TileRec) (x : Nat × MacroRec), (s.regsWf) ∧ (Reaches .pcie (0x308000 + 0x800 * tile.val + 4 * off.val) s) ∧ (s.isCell = false) ∧ (s.img.graph.tile? tile.val = some r) ∧ (bankedWord r (4 * off.val) = true) ∧ (16 ≤ off.val) ∧ (s.img.graph.macroOf tile.val = some x) ∧ (refusedParam s.img.graph r tile.val (off.val - 16) w.toNat = true) ∧ (s.flag HST.AERR.VALID = false)) ∧
    (∃ (s : State) (p : Path) (_align : Bool), (s.regsWf) ∧ (Reaches p CEN.PCOMMIT.addr s) ∧ (s.isCell = false) ∧ (s.flag CEN.PCOMMIT_STAT.PEND = false) ∧ (gainsOk s.img.graph (committedPar (bankCopy s)) = true)) ∧
    (∃ (s : State) (p : Path) (_align : Bool), (s.regsWf) ∧ (Reaches p CEN.PCOMMIT.addr s) ∧ (s.isCell = false) ∧ (s.flag CEN.PCOMMIT_STAT.PEND = false) ∧ (gainsOk s.img.graph (committedPar (bankCopy s)) = false)) ∧
    (∃ (s : State) (p : Path) (align : Bool), (s.regsWf) ∧ (Reaches p CEN.PCOMMIT.addr s) ∧ (s.isCell = false) ∧ (s.flag CEN.PCOMMIT_STAT.PEND = false) ∧ (gainsOk s.img.graph (committedPar (bankCopy s)) = true) ∧ (0 < ((s.fld CEN.PCOMMIT_PCNT.PCNT + 2 ^ 32 - s.period.pcnt % 2 ^ 32) % 2 ^ 32)) ∧ (((s.fld CEN.PCOMMIT_PCNT.PCNT + 2 ^ 32 - s.period.pcnt % 2 ^ 32) % 2 ^ 32) < 2 ^ 31) ∧ (((align || dirtyTiles s.img.graph (bankCopy s).banks true != []) && !outerDue s ((s.period.pcnt + ((s.fld CEN.PCOMMIT_PCNT.PCNT + 2 ^ 32 - s.period.pcnt % 2 ^ 32) % 2 ^ 32)) % 2 ^ 48)) = false)) ∧
    (∃ (s : State) (_pcnt : Nat) (_outer : Bool), (s.regsWf) ∧ (s.cpB = none) ∧ (s.eng.commit = some { at_ := none, alignOuter := false }) ∧ (gainsOk s.img.graph (committedPar s.cp) = true) ∧ (dirtyTiles s.img.graph s.cp.banks true = [])) ∧
    (∃ (s : State) (_pcnt : Nat) (_outer : Bool), (s.regsWf) ∧ (s.cpB = none) ∧ (s.eng.commit = some { at_ := none, alignOuter := false }) ∧ (gainsOk s.img.graph (committedPar s.cp) = false)) ∧
    (∃ (s : State) (pcnt n : Nat) (_outer align : Bool), (s.eng.commit = some { at_ := some n, alignOuter := align }) ∧ (n ≠ pcnt % 2 ^ 32)) :=
  ⟨⟨test_hub, .pcie, 0x4FF, 0x12345678#32, by decide⟩,
   ⟨{ (test_hub.setFld LMP.STAT.STATE 2) with cpB := some {} }, .pcie, 0x4FF, 0x12345678#32, {}, by decide⟩,
   ⟨(test_hub.setFld LMP.STAT.STATE 1), .pcie, 0x4FF, 0x12345678#32, by decide⟩,
   ⟨{ test_hub with img := { test_hub.img with graph := { tiles := [{ tile := 5, type := 4 }, { tile := 6, type := 4 }, { tile := 7, type := 3, outer := true }], macros := [{ type := 0x01, firstTile := 6, tileCnt := 1 }, { type := 0x08, firstTile := 20, tileCnt := 1 }, { type := 0x09 }, { type := 0x0A }] } } }, .pcie, 18961, 0x12345678#32, { tile := 5, type := 4 }, by decide⟩,
   ⟨{ test_hub with img := { test_hub.img with graph := { tiles := [{ tile := 5, type := 4 }, { tile := 6, type := 4 }, { tile := 7, type := 3, outer := true }], macros := [{ type := 0x01, firstTile := 6, tileCnt := 1 }, { type := 0x08, firstTile := 20, tileCnt := 1 }, { type := 0x09 }, { type := 0x0A }] } } }, .pcie, 6, 19, 0x12345678#32, { tile := 6, type := 4 }, (0, { type := 0x01, firstTile := 6, tileCnt := 1 }), by decide⟩,
   ⟨{ test_hub with img := { test_hub.img with graph := { tiles := [{ tile := 41, type := 0x0F }, { tile := 44, type := 0x0F }], macros := [{ type := 0x0A, firstTile := 40, tileCnt := 12 }] } } }, .spi, 41, 17, 64#32, { tile := 41, type := 0x0F }, (0, { type := 0x0A, firstTile := 40, tileCnt := 12 }), 44, by decide⟩,
   ⟨{ { test_hub with img := { test_hub.img with graph := { tiles := [{ tile := 41, type := 0x0F }, { tile := 44, type := 0x0F }], macros := [{ type := 0x0A, firstTile := 40, tileCnt := 12 }] } } } with cp := { banks := { pending := [(tileAddr 44 + 0x44, 1)] } } }, .spi, 44, 17, 1#32, { tile := 44, type := 0x0F }, (0, { type := 0x0A, firstTile := 40, tileCnt := 12 }), by decide⟩,
   ⟨{ test_hub with img := { test_hub.img with graph := { tiles := [{ tile := 41, type := 0x0F }, { tile := 44, type := 0x0F }], macros := [{ type := 0x0A, firstTile := 40, tileCnt := 12 }] } } }, 44, 17, 2#32, { tile := 44, type := 0x0F }, (0, { type := 0x0A, firstTile := 40, tileCnt := 12 }), by decide⟩,
   ⟨{ test_hub with img := { test_hub.img with graph := { tiles := [{ tile := 41, type := 0x0F }, { tile := 44, type := 0x0F }], macros := [{ type := 0x0A, firstTile := 40, tileCnt := 12 }] } } }, 44, 17, 65#32, { tile := 44, type := 0x0F }, (0, { type := 0x0A, firstTile := 40, tileCnt := 12 }), by decide⟩,
   ⟨{ test_hub with img := { test_hub.img with graph := { tiles := [{ tile := 5, type := 4 }, { tile := 6, type := 4 }, { tile := 7, type := 3, outer := true }], macros := [{ type := 0x01, firstTile := 6, tileCnt := 1 }, { type := 0x08, firstTile := 20, tileCnt := 1 }, { type := 0x09 }, { type := 0x0A }] } } }, .pcie, true, by decide⟩,
   ⟨{ test_hub with img := { test_hub.img with graph := { macros := [{ type := 0x02, firstTile := 20, tileCnt := 12 }] } }, cp := { banks := { active := [(0x210000 + 0x800 * 28 + 0x44, 5)] } } }, .pcie, true, by decide⟩,
   ⟨({ test_hub with img := { test_hub.img with graph := { tiles := [{ tile := 5, type := 4 }, { tile := 6, type := 4 }, { tile := 7, type := 3, outer := true }], macros := [{ type := 0x01, firstTile := 6, tileCnt := 1 }, { type := 0x08, firstTile := 20, tileCnt := 1 }, { type := 0x09 }, { type := 0x0A }] } } }.setFld CEN.PCOMMIT_PCNT.PCNT 40), .pcie, true, by decide⟩,
   ⟨{ { test_hub with img := { test_hub.img with graph := { tiles := [{ tile := 5, type := 4 }, { tile := 6, type := 4 }, { tile := 7, type := 3, outer := true }], macros := [{ type := 0x01, firstTile := 6, tileCnt := 1 }, { type := 0x08, firstTile := 20, tileCnt := 1 }, { type := 0x09 }, { type := 0x0A }] } } } with eng := { commit := some { at_ := none, alignOuter := false } }, cp := { banks := { pending := [(0x201004, 7), (paramAddr 5 1, 9)], dirty := 32 } } }, 77, false, by decide⟩,
   ⟨{ test_hub with eng := { commit := some { at_ := none, alignOuter := false } }, img := { test_hub.img with graph := { macros := [{ type := 0x02, firstTile := 20, tileCnt := 12 }] } }, cp := { banks := { active := [(0x210000 + 0x800 * 28 + 0x44, 5)] } } }, 77, true, by decide⟩,
   ⟨{ { test_hub with img := { test_hub.img with graph := { tiles := [{ tile := 5, type := 4 }, { tile := 6, type := 4 }, { tile := 7, type := 3, outer := true }], macros := [{ type := 0x01, firstTile := 6, tileCnt := 1 }, { type := 0x08, firstTile := 20, tileCnt := 1 }, { type := 0x09 }, { type := 0x0A }] } } } with eng := { commit := some { at_ := some 78, alignOuter := true } }, cp := { banks := { pending := [(0x201004, 7), (paramAddr 5 1, 9)], dirty := 32 } } }, 77, 78, true, true, by decide⟩⟩

theorem test_meets_InjectionCaptureAndCorrelationCommands :
    (∃ (s : State) (p : Path) (k : Fin 4) (w : W32), (s.regsWf) ∧ (Reaches p (CEN.INJ_CTRL.addr + 0x40 * k.val) s) ∧ (s.isCell = false) ∧ ((s.cp.eng.inj_ k.val).run = false) ∧ (bitAt w.toNat 30 = false)) ∧
    (∃ (s : State) (p : Path) (k : Fin 4) (w : W32), (s.regsWf) ∧ (Reaches p (CEN.INJ_CTRL.addr + 0x40 * k.val) s) ∧ (s.isCell = false) ∧ (s.rd (CEN.INJ_CTRL.addr + 0x40 * k.val) &&& 0x067F3000 = w.toNat &&& 0x067F3000) ∧ (bitAt w.toNat 29 = false)) ∧
    (∃ (s : State) (k : Fin 4), (s.regsWf) ∧ ((s.cp.eng.inj_ k.val).run = true) ∧ (s.fld (CEN.INJ_DUR.DUR.at (injOff k.val)) ≠ 0) ∧ (s.fld (CEN.INJ_DUR.DUR.at (injOff k.val)) ≤ (s.cp.eng.inj_ k.val).elapsed)) ∧
    (∃ (s : State) (p : Path) (w : W32), (s.regsWf) ∧ (Reaches p CEN.CAP_CTRL.addr s) ∧ (s.isCell = false) ∧ (bitsAt w.toNat 29 2 = 0)) ∧
    (∃ (s : State) (p : Path) (w : W32), (s.regsWf) ∧ (Reaches p CEN.CAP_CTRL.addr s) ∧ (s.isCell = false) ∧ (bitAt w.toNat 31 = false) ∧ (bitAt w.toNat 29 = false)) ∧
    (∃ (s : State) (p : Path) (w : W32), (s.regsWf) ∧ (Reaches p CEN.CAP_CTRL.addr s) ∧ (s.isCell = false) ∧ (bitsAt w.toNat 30 2 = 0) ∧ (s.eng.cap.st = 1)) ∧
    (∃ (s : State), (s.regsWf) ∧ (s.eng.cap.st = 2) ∧ (s.eng.cap.left = 0)) ∧
    (∃ (s : State) (p : Path) (c : Fin 4) (w : W32), (s.regsWf) ∧ (Reaches p (CEN.CORR_CTRL.addr + 0x40 * c.val) s) ∧ (s.isCell = false) ∧ ((s.cp.eng.inj_ (bitsAt w.toNat 24 2)).run = true) ∧ (s.fld (CEN.INJ_CTRL.WAVE.at (injOff (bitsAt w.toNat 24 2))) < 2)) ∧
    (∃ (s : State) (c : Fin 4), (s.regsWf) ∧ ((s.eng.corr_ c.val).st = 3) ∧ ((s.eng.corr_ c.val).n ≠ 0) ∧ ((s.eng.corr_ c.val).n < 2 ^ 32)) ∧
    (∃ (s : State) (p : Path) (j : Fin 32) (r : MacroRec), (s.regsWf) ∧ (s.img.graph.macros[j.val]? = some r) ∧ (r.type = 0x01) ∧ (Reaches p (FUN.MCTL.addr + 0x100 * j.val) s) ∧ (s.isCell = false)) ∧
    (∃ (s : State) (p : Path) (j : Fin 32) (r : MacroRec), (s.regsWf) ∧ (s.img.graph.macros[j.val]? = some r) ∧ (r.type = 0x08) ∧ (Reaches p (FUN.MCTL.addr + 0x100 * j.val) s) ∧ (s.isCell = false)) ∧
    (∃ (s : State) (p : Path) (j : Fin 32) (r : MacroRec), (s.regsWf) ∧ (s.img.graph.macros[j.val]? = some r) ∧ (r.type = 0x09) ∧ (Reaches p (FUN.MCTL.addr + 0x100 * j.val) s) ∧ (s.isCell = false)) ∧
    (∃ (s : State) (p : Path) (j : Fin 32) (r : MacroRec), (s.regsWf) ∧ (s.img.graph.macros[j.val]? = some r) ∧ (r.type = 0x0A) ∧ (Reaches p (FUN.MCTL.addr + 0x100 * j.val) s) ∧ (s.isCell = false)) ∧
    (∃ (s : State) (j : Fin 32) (r : MacroRec), (s.regsWf) ∧ (s.img.graph.macros[j.val]? = some r) ∧ (r.type = 1) ∧ (1024 ≤ (s.cp.eng.macro_ j.val).lockCnt)) ∧
    (∃ (s : State) (k : Nat) (_x : Inj), (bitAt s.eng.injStart k = true)) ∧
    (∃ (s : State) (k : Nat) (x : Inj), (bitAt s.eng.injStart k = false) ∧ (x.run = false)) ∧
    (∃ (s : State) (k : Nat) (x : Inj), (bitAt s.eng.injStart k = false) ∧ (x.run = true) ∧ (s.fld (CEN.INJ_CTRL.WAVE.at (injOff k)) = 0) ∧ (bitAt s.eng.injFreq k = false)) ∧
    (∃ (_e : EvalEnv) (_arg _j : Nat) (r : MacroRec) (_g : Engine), (r.type = 0x08)) ∧
    (∃ (p : Nat → Nat) (conn : List Bool) (_x : List Int) (_q : TileSt), (conn.getD 1 false = false) ∧ (conn.getD 2 false = false) ∧ (s32 (p 5) ≤ s32 (p 4))) ∧
    (∃ (p : Nat → Nat) (x : List Int) (q : TileSt), (inp x 2 = 0) ∧ (0 ≤ s32 (p 1)) ∧ (0 ≤ s32 (p 2)) ∧ (-(2 ^ 31) ≤ q.prev) ∧ (q.prev < 2 ^ 31)) ∧
    (∃ (_p : Nat → Nat) (_conn : List Bool) (x : List Int) (q : TileSt), (q.latch = true) ∧ (inp x 2 = 0)) :=
  ⟨⟨test_hub, .pcie, 3, 0x06000000#32, by decide⟩,
   ⟨{ test_hub with cp := { eng := { inj := [(3, { run := true })] } } }, .pcie, 3, 0#32, by decide⟩,
   ⟨{ (test_hub.setFld (CEN.INJ_DUR.DUR.at (injOff 3)) 9) with cp := { eng := { inj := [(3, { run := true, elapsed := 9 })] } } }, 3, by decide⟩,
   ⟨test_hub, .pcie, 0x00100FFF#32, by decide⟩,
   ⟨{ (test_hub.setFld CEN.CAP_STAT.STATE 2) with eng := { cap := { st := 2, left := 4 } } }, .pcie, 0#32, by decide⟩,
   ⟨{ (test_hub.setFld CEN.CAP_STAT.STATE 1) with eng := { cap := { st := 1 } } }, .pcie, 0#32, by decide⟩,
   ⟨{ (test_hub.setFld CEN.CAP_STAT.STATE 2) with eng := { cap := { st := 2 } } }, by decide⟩,
   ⟨{ test_hub with cp := { eng := { inj := [(3, { run := true })] } } }, .pcie, 2, 0x03050000#32, by decide⟩,
   ⟨{ test_hub with eng := { corr := [(2, { st := 3, s := -11, c := 7, n := 4 })] } }, 2, by decide⟩,
   ⟨{ test_hub with img := { test_hub.img with graph := { tiles := [{ tile := 5, type := 4 }, { tile := 6, type := 4 }, { tile := 7, type := 3, outer := true }], macros := [{ type := 0x01, firstTile := 6, tileCnt := 1 }, { type := 0x08, firstTile := 20, tileCnt := 1 }, { type := 0x09 }, { type := 0x0A }] } } }, .pcie, 0, { type := 0x01, firstTile := 6, tileCnt := 1 }, by decide⟩,
   ⟨{ test_hub with img := { test_hub.img with graph := { tiles := [{ tile := 5, type := 4 }, { tile := 6, type := 4 }, { tile := 7, type := 3, outer := true }], macros := [{ type := 0x01, firstTile := 6, tileCnt := 1 }, { type := 0x08, firstTile := 20, tileCnt := 1 }, { type := 0x09 }, { type := 0x0A }] } } }, .pcie, 1, { type := 0x08, firstTile := 20, tileCnt := 1 }, by decide⟩,
   ⟨{ test_hub with img := { test_hub.img with graph := { tiles := [{ tile := 5, type := 4 }, { tile := 6, type := 4 }, { tile := 7, type := 3, outer := true }], macros := [{ type := 0x01, firstTile := 6, tileCnt := 1 }, { type := 0x08, firstTile := 20, tileCnt := 1 }, { type := 0x09 }, { type := 0x0A }] } } }, .pcie, 2, { type := 0x09 }, by decide⟩,
   ⟨{ test_hub with img := { test_hub.img with graph := { tiles := [{ tile := 5, type := 4 }, { tile := 6, type := 4 }, { tile := 7, type := 3, outer := true }], macros := [{ type := 0x01, firstTile := 6, tileCnt := 1 }, { type := 0x08, firstTile := 20, tileCnt := 1 }, { type := 0x09 }, { type := 0x0A }] } } }, .pcie, 3, { type := 0x0A }, by decide⟩,
   ⟨{ { test_hub with img := { test_hub.img with graph := { tiles := [{ tile := 5, type := 4 }, { tile := 6, type := 4 }, { tile := 7, type := 3, outer := true }], macros := [{ type := 0x01, firstTile := 6, tileCnt := 1 }, { type := 0x08, firstTile := 20, tileCnt := 1 }, { type := 0x09 }, { type := 0x0A }] } } } with cp := { eng := { macros := [(0, { lockCnt := 1024 })] } } }, 0, { type := 0x01, firstTile := 6, tileCnt := 1 }, by decide⟩,
   ⟨{ test_hub with eng := { injStart := 8 } }, 3, {}, by decide⟩,
   ⟨{ test_hub with eng := { injStart := 8 } }, 2, {}, by decide⟩,
   ⟨{ test_hub with eng := { injStart := 8 } }, 2, { run := true, stopping := true, theta := 5, freq := 2 ^ 32 - 5 }, by decide⟩,
   ⟨{ graph := {}, banks := {}, samples := [], quant := fun _ _ => 0, targets := [] }, 0, 3, { type := 8, firstTile := 20 }, { tiles := [(21, { latch := true, cnt := 4 })] }, by decide⟩,
   ⟨fun _ => 0, [], [5, 6], {}, by decide⟩,
   ⟨fun _ => 3, [5, 6], {}, by decide⟩,
   ⟨fun _ => 3, [], [5, 6], { latch := true }, by decide⟩⟩

theorem test_meets_LoamPairRestoresFromItsCheckpoint :
    (∃ (s : State) (_point _index : Fin 256) (offs : Nat), (s.regsWf) ∧ (s.hubUp = true) ∧ (lmpState s < 2) ∧ ((recentAt s (s.period.timeNs + offs)).length < 2)) ∧
    (∃ (s : State) (_point _index : Fin 256) (offs : Nat), (s.regsWf) ∧ (s.hubUp = true) ∧ (lmpState s < 2) ∧ (2 ≤ (recentAt s (s.period.timeNs + offs)).length)) ∧
    (∃ (s : State) (ecc : Fin 3), (s.regsWf) ∧ (s.hubUp = true) ∧ (lmpState s = lmpRestoring) ∧ (ecc.val ≠ 2) ∧ (s.cpB = none)) ∧
    (∃ (s : State), (s.regsWf) ∧ (s.hubUp = true) ∧ (lmpState s = lmpRestoring) ∧ (s.cpB = none)) ∧
    (∃ (s : State) (k : Checkpoint), (s.regsWf) ∧ (s.hubUp = true) ∧ (lmpState s ≠ lmpRelocking) ∧ (s.loam.next = some k) ∧ (s.loam.spoiled = false)) ∧
    (∃ (s : State) (p : Path), (s.regsWf) ∧ (Reaches p LMP.CTRL.addr s) ∧ (s.isCell = false) ∧ (s.blocked = true)) ∧
    (∃ (s : State) (p : Path), (s.regsWf) ∧ (Reaches p LMP.CTRL.addr s) ∧ (s.isCell = false) ∧ (s.blocked = true) ∧ (lmpState s = lmpLocked)) ∧
    (∃ (s : State) (p : Path), (s.regsWf) ∧ (Reaches p LMP.CTRL.addr s) ∧ (s.isCell = false)) ∧
    (∃ (s : State) (_point offs l : Nat) (f : Nat) (fr : List Nat), (dsState s l = dsRun) ∧ (prbsMode s l ≠ 1) ∧ (offs ≤ 340) ∧ ((s.lane l).wire.due = [(f, fr)]) ∧ (fr.length = 51)) ∧
    (∃ (s : State) (_point offs l : Nat), (dsState s l = dsRun) ∧ (prbsMode s l ≠ 1) ∧ (offs ≤ 340) ∧ ((s.lane l).frame ≠ []) ∧ ((s.lane l).wire.due.all (fun d => d.2.length != 51) = true)) ∧
    (∃ (s : State) (point offs l : Nat), (dsState s l = dsRun) ∧ (prbsMode s l ≠ 1) ∧ (340 < offs) ∧ (point = 1) ∧ ((s.lane l).frame ≠ []) ∧ ((s.lane l).wire.due.all (fun d => d.2.length != 51) = true) ∧ ((s.lane l).wire.trail = true ∨ (s.lane l).wire.due ≠ [])) ∧
    (∃ (s : State) (_point _offs l : Nat), (dsState s l ≠ dsRun ∨ prbsMode s l = 1)) ∧
    (∃ (_c : WireSrc) (w : Wire) (f x a : Nat) (xs more : List Nat) (rest : List (Nat × List Nat)), (w.due = (f, x :: xs) :: rest) ∧ (f ≤ w.next) ∧ (xs.length ≠ 50) ∧ (w.aborts = a :: more) ∧ (a ≤ w.next)) ∧
    (∃ (s : State) (_t : Nat) (l : Fin 128), (dsState s l.val = dsRun) ∧ (prbsMode s l.val ≠ 1)) :=
  ⟨⟨test_hub, 0x12, 0x34, 100, by decide⟩,
   ⟨{ test_hub with loam := { recent := [5, 3] } }, 0x12, 0x34, 100, by decide⟩,
   ⟨(test_hub.setFld LMP.STAT.STATE 1), 1, by decide⟩,
   ⟨(test_hub.setFld LMP.STAT.STATE 1), by decide⟩,
   ⟨{ test_hub with loam := { next := some { pcnt := 99 } } }, { pcnt := 99 }, by decide⟩,
   ⟨test_hub, .pcie, by decide⟩,
   ⟨(test_hub.setFld LMP.STAT.ESCALATED 1), .pcie, by decide⟩,
   ⟨(test_hub.setFld LMP.MM_CNT.COUNT 4), .spi, by decide⟩,
   ⟨{ (test_hub.setFld (LNK.STAT.DS_STATE.at (lnkOff 3)) 1) with lanes := [(3, { frame := List.replicate 51 7, wire := { due := [(90, List.replicate 51 7)] } })] }, 1, 100, 3, 90, List.replicate 51 7, by decide⟩,
   ⟨{ (test_hub.setFld (LNK.STAT.DS_STATE.at (lnkOff 3)) 1) with lanes := [(3, { frame := [1], wire := { start := 4, due := [(4, [7, 8])] } })] }, 1, 100, 3, by decide⟩,
   ⟨{ (test_hub.setFld (LNK.STAT.DS_STATE.at (lnkOff 3)) 1) with lanes := [(3, { frame := [1], wire := { start := 4, trail := true } })] }, 1, 350, 3, by decide⟩,
   ⟨test_hub, 1, 100, 3, by decide⟩,
   ⟨{}, { next := 9, due := [(4, [7, 8])], aborts := [9] }, 4, 7, 9, [8], [], [], by decide⟩,
   ⟨(test_hub.setFld (LNK.STAT.DS_STATE.at (lnkOff 3)) 1), 100, 3, by decide⟩⟩

theorem test_meets_ShadowModeSplitsAndRelocks :
    (∃ (s : State) (p : Path) (w : W32), (s.regsWf) ∧ (Reaches p LMP.SH_CTRL.addr s) ∧ (s.isCell = false) ∧ (s.beh ≠ 1) ∧ (lmpState s = lmpLocked) ∧ (s.flag LMP.STAT.ESCALATED = false) ∧ (s.flag CEN.PCOMMIT_STAT.PEND = false) ∧ (bitsAt w.toNat 1 2 = 0)) ∧
    (∃ (s : State) (_w : W32), (s.regsWf) ∧ (Reaches .pcie LMP.SH_CTRL.addr s) ∧ (s.isCell = false) ∧ (s.beh = 1) ∧ (s.flag HST.AERR.VALID = false)) ∧
    (∃ (s : State) (p : Path) (w : W32), (s.regsWf) ∧ (Reaches p LMP.SH_CTRL.addr s) ∧ (s.isCell = false) ∧ (bitAt w.toNat 0 = false) ∧ (bitAt w.toNat 2 = false) ∧ (2 ≤ ((s.fld LMP.SH_PCNT.PCNT + 2 ^ 32 - s.period.pcnt % 2 ^ 32) % 2 ^ 32)) ∧ (((s.fld LMP.SH_PCNT.PCNT + 2 ^ 32 - s.period.pcnt % 2 ^ 32) % 2 ^ 32) < 2 ^ 31) ∧ (handoverBusy s = false) ∧ (lmpState s = lmpSplit)) ∧
    (∃ (s : State) (p : Path) (w : W32), (s.regsWf) ∧ (Reaches p LMP.SH_CTRL.addr s) ∧ (s.isCell = false) ∧ (bitsAt w.toNat 0 2 = 0) ∧ (lmpState s = lmpSplit) ∧ (s.loam.handover = none) ∧ (s.loam.abandon = none)) ∧
    (∃ (s : State) (h : Nat) (b : Copy), (s.regsWf) ∧ (s.loam.handover = some h) ∧ (s.cpB = some b) ∧ (s.hubUp = true) ∧ (lmpState s = lmpSplit) ∧ (h = (s.period.pcnt + 1) % 2 ^ 48)) ∧
    (∃ (s : State), (s.regsWf) ∧ (s.hubUp = true) ∧ (lmpState s = lmpSplit) ∧ (s.fld LMP.SH_CFG.MAX_U ≠ 0) ∧ (s.fld LMP.SH_CFG.MAX_U * 2 ^ 20 ≤ (s.period.pcnt + 2 ^ 48 - s.loam.splitAt) % 2 ^ 48) ∧ (s.loam.abandon = none) ∧ (s.loam.handover = none)) :=
  ⟨⟨(test_hub.setFld IMG.INFO_LVL.BEH_LEVEL 2), .pcie, 8#32, by decide⟩,
   ⟨(test_hub.setFld IMG.INFO_LVL.BEH_LEVEL 1), 8#32, by decide⟩,
   ⟨({ (test_hub.setFld LMP.STAT.STATE 2) with cpB := some {}, period := { pcnt := 100 } }.setFld LMP.SH_PCNT.PCNT 102), .pcie, 0#32, by decide⟩,
   ⟨{ (test_hub.setFld LMP.STAT.STATE 2) with cpB := some {}, period := { pcnt := 100 } }, .pcie, 0#32, by decide⟩,
   ⟨{ { (test_hub.setFld LMP.STAT.STATE 2) with cpB := some {}, period := { pcnt := 100 } } with loam := { handover := some 101 } }, 101, {}, by decide⟩,
   ⟨{ (({ (test_hub.setFld LMP.STAT.STATE 2) with cpB := some {}, period := { pcnt := 100 } }).setFld LMP.SH_CFG.MAX_U 1) with period := { pcnt := 2 ^ 20 + 5 }, loam := { splitAt := 5 } }, by decide⟩⟩

theorem test_meets_AcquisitionSettingsAndCalibration :
    (∃ (s : State) (p : Path) (c : Fin 4) (_w : W32) (_dt : Nat), (s.regsWf) ∧ (Reaches p (ACQ.CORE_CFG.addr + 0x400 * c.val) s) ∧ (s.isCell = false) ∧ (s.blocked = true)) ∧
    (∃ (s : State) (p : Path) (i : Fin 32) (_w : W32), (s.regsWf) ∧ (Reaches p (ACQ.IN_GAIN.addr + 0x20 * i.val) s) ∧ (s.isCell = false)) ∧
    (∃ (s : State) (p : Path) (i : Fin 32) (_w : W32) (_dt g : Nat), (s.regsWf) ∧ (Reaches p (ACQ.IN_OFFS.addr + 0x20 * i.val) s) ∧ (s.isCell = false) ∧ (tabGet zeroNat s.acq.gainHeld i.val = g + 1)) ∧
    (∃ (s : State) (c : Fin 4), (s.regsWf) ∧ (∀ k : Fin 8, 2 ^ (s.calExp + 2) ≤ ((s.core c.val).slice k.val).cal)) ∧
    (∃ (s : State) (p : Path) (i : Fin 32), (s.regsWf) ∧ (Reaches p ACQ.SCAL_CTRL.addr s) ∧ (s.isCell = false) ∧ (s.blocked = true) ∧ (s.flag (ACQ.IN_STAT.VALID.at (inputOff i.val)) = true)) ∧
    (∃ (s : State) (p : Path) (i : Fin 32), (s.regsWf) ∧ (Reaches p ACQ.SCAL_CTRL.addr s) ∧ (s.isCell = false) ∧ (s.blocked = true) ∧ (s.flag (ACQ.IN_STAT.VALID.at (inputOff i.val)) = true)) ∧
    (∃ (s : State) (p : Path) (i : Fin 32), (s.regsWf) ∧ (Reaches p ACQ.SCAL_CTRL.addr s) ∧ (s.isCell = false) ∧ (s.blocked = true) ∧ (s.flag ACQ.SCAL_STAT.ZERO_OK = true) ∧ (s.flag ACQ.SCAL_STAT.REF_OK = true) ∧ (s.acq.scalInput = i.val)) ∧
    (∃ (s : State) (_dt : Nat), (s.regsWf) ∧ (s.acq.scalOp = 1) ∧ (s.acq.scalErr = 0) ∧ ((2 ^ max 4 (min 16 (s.fld ACQ.SCAL_CFG.AVG_EXP))) ≤ s.acq.scalN) ∧ ((roundHA s.acq.scalSum (2 ^ max 4 (min 16 (s.fld ACQ.SCAL_CFG.AVG_EXP)))).natAbs ≤ 2 ^ 19)) ∧
    (∃ (s : State) (_dt : Nat), (s.regsWf) ∧ (s.acq.scalOp ≠ 0) ∧ (s.acq.scalErr ≠ 0)) ∧
    (∃ (s : State) (_dt : Nat), (s.regsWf) ∧ (s.acq.scalOp = 2) ∧ (s.acq.scalErr = 0) ∧ ((2 ^ max 4 (min 16 (s.fld ACQ.SCAL_CFG.AVG_EXP))) ≤ s.acq.scalN)) ∧
    (∃ (s : State) (_dt : Nat) (g : Int), (s.regsWf) ∧ (s.acq.scalOp = 3) ∧ (s.acq.scalErr = 0) ∧ (2 ^ 20 ≤ (s.sfld ACQ.SCAL_RF.RF - s.sfld ACQ.SCAL_RZ.RZ).natAbs) ∧ (g = (if (s.sfld ACQ.SCAL_RF.RF - s.sfld ACQ.SCAL_RZ.RZ) < 0 then roundHA (-(s.sfld ACQ.SCAL_REF.X * 2 ^ 23)) (s.sfld ACQ.SCAL_RF.RF - s.sfld ACQ.SCAL_RZ.RZ).natAbs else roundHA (s.sfld ACQ.SCAL_REF.X * 2 ^ 23) (s.sfld ACQ.SCAL_RF.RF - s.sfld ACQ.SCAL_RZ.RZ).natAbs)) ∧ (-(2 ^ 31) ≤ g) ∧ (g < 2 ^ 31)) ∧
    (∃ (s : State) (_dt : Nat), (s.regsWf) ∧ (s.acq.scalOp = 3) ∧ (s.acq.scalErr = 0) ∧ ((s.sfld ACQ.SCAL_RF.RF - s.sfld ACQ.SCAL_RZ.RZ).natAbs < 2 ^ 20)) :=
  ⟨⟨test_hub, .pcie, 2, 0x571#32, 0, by decide⟩,
   ⟨test_hub, .pcie, 31, 0#32, by decide⟩,
   ⟨{ test_hub with acq := { gainHeld := [(31, 78)] } }, .pcie, 31, 9#32, 40, 77, by decide⟩,
   ⟨{ test_hub with acq := { cores := [(2, { slices := (List.range 8).map (fun k => (k, { cal := 1000000 })) })] } }, 2, by decide⟩,
   ⟨(test_hub.setFld (ACQ.IN_STAT.VALID.at (inputOff 17)) 1), .spi, 17, by decide⟩,
   ⟨(test_hub.setFld (ACQ.IN_STAT.VALID.at (inputOff 17)) 1), .spi, 17, by decide⟩,
   ⟨{ (test_hub.setFld ACQ.SCAL_STAT.ZERO_OK 1).setFld ACQ.SCAL_STAT.REF_OK 1 with acq := { scalInput := 17 } }, .spi, 17, by decide⟩,
   ⟨{ (test_hub.setFld ACQ.SCAL_CFG.AVG_EXP 4) with acq := { scalOp := 1, scalSum := -1000, scalN := 16 } }, 50, by decide⟩,
   ⟨{ test_hub with acq := { scalOp := 2, scalErr := 3 } }, 50, by decide⟩,
   ⟨{ (test_hub.setFld ACQ.SCAL_CFG.AVG_EXP 4) with acq := { scalOp := 2, scalSum := -1000, scalN := 16 } }, 50, by decide⟩,
   ⟨{ (((test_hub.setFld ACQ.SCAL_RZ.RZ 12583).setFld ACQ.SCAL_RF.RF 3356282).setFld ACQ.SCAL_REF.X 8210040) with acq := { scalOp := 3, scalInput := 7 } }, 50, 20597191, by decide⟩,
   ⟨{ (((test_hub.setFld ACQ.SCAL_RZ.RZ 12583).setFld ACQ.SCAL_RF.RF 12590).setFld ACQ.SCAL_REF.X 8210040) with acq := { scalOp := 3, scalInput := 7 } }, 50, by decide⟩⟩

theorem test_meets_ComparatorsLatchAndCount :
    (∃ (s : State) (c : Fin 32) (v : Int) (_t0 : Nat), (s.regsWf) ∧ (s.isHub = true) ∧ (s.clodsUp = true) ∧ (s.flag (CMP.CCFG.EN.at (cmpOff c.val)) = true) ∧ (s.flag (CMP.CSTAT.FILT.at (cmpOff c.val)) = false) ∧ (cmpMajority s c.val ((2 * tabGet allOn s.acq.window c.val + (cmpRaw s c.val (cmpInput s c.val v)).toNat) % 8192) = true)) ∧
    (∃ (s : State) (c : Fin 32) (v : Int) (_t0 : Nat), (s.regsWf) ∧ (s.isHub = true) ∧ (s.clodsUp = true) ∧ (s.flag (CMP.CCFG.EN.at (cmpOff c.val)) = true) ∧ (cmpMajority s c.val ((2 * tabGet allOn s.acq.window c.val + (cmpRaw s c.val (cmpInput s c.val v)).toNat) % 8192) = false)) ∧
    (∃ (s : State) (c : Fin 32) (_v : Int) (_t0 : Nat), (s.regsWf) ∧ (s.isHub = true) ∧ (s.clodsUp = true) ∧ (s.flag (CMP.CCFG.EN.at (cmpOff c.val)) = true) ∧ (s.flag (CMP.CCFG.TEST.at (cmpOff c.val)) = false) ∧ (s.fld (CMP.CCFG.MODE.at (cmpOff c.val)) = 0) ∧ (s.flag (CMP.CSTAT.RAW.at (cmpOff c.val)) = false)) ∧
    (∃ (s : State) (p : Path) (c : Fin 32) (_w : W32), (s.regsWf) ∧ (Reaches p (CMP.CSTAT.addr + 0x20 * c.val) s) ∧ (s.isCell = false) ∧ (s.flag (CMP.CSTAT.FILT.at (cmpOff c.val)) = false)) ∧
    (∃ (s : State) (p : Path) (c : Fin 32) (_w : W32), (s.regsWf) ∧ (Reaches p (CMP.CSTAT.addr + 0x20 * c.val) s) ∧ (s.isCell = false) ∧ (s.flag (CMP.CSTAT.FILT.at (cmpOff c.val)) = true)) ∧
    (∃ (s : State) (p : Path) (c : Fin 32) (w : W32), (s.regsWf) ∧ (Reaches p (CMP.CCFG.addr + 0x20 * c.val) s) ∧ (s.isCell = false) ∧ (s.blocked = true) ∧ (s.flag (CMP.CCFG.EN.at (cmpOff c.val)) = false) ∧ (bitAt w.toNat 31 = true) ∧ (bitAt w.toNat 30 = false)) ∧
    (∃ (s : State) (p : Path) (c : Fin 32) (w : W32), (s.regsWf) ∧ (Reaches p (CMP.CCFG.addr + 0x20 * c.val) s) ∧ (s.isCell = false) ∧ (s.blocked = true) ∧ (s.flag (CMP.CCFG.EN.at (cmpOff c.val)) = true) ∧ (bitAt w.toNat 31 = true) ∧ (s.flag (CMP.CCFG.TEST.at (cmpOff c.val)) = false) ∧ (s.fld (CMP.CTH.CODE.at (cmpOff c.val)) ≠ 0) ∧ (bitsAt w.toNat 28 2 = s.fld (CMP.CCFG.MODE.at (cmpOff c.val))) ∧ (bitsAt w.toNat 26 2 = s.fld (CMP.CCFG.FILT.at (cmpOff c.val))) ∧ (bitsAt w.toNat 20 3 = s.fld (CMP.CCFG.SRC.at (cmpOff c.val)))) ∧
    (∃ (s : State) (dt : Nat), (s.regsWf) ∧ (s.acq.chatFrom + chatNs s ≤ s.baseNs + dt)) ∧
    (∃ (s : State) (p : Path) (c : Fin 32), (s.regsWf) ∧ (Reaches p (CMP.CCTL.addr + 0x20 * c.val) s) ∧ (s.isCell = false)) :=
  ⟨⟨{ (test_hub.setFld (CMP.CCFG.EN.at (cmpOff 31)) 1).setFld (CMP.CSTAT.FILT.at (cmpOff 31)) 0 with acq := { window := [(31, 15)] } }, 31, 250000, 5, by decide⟩,
   ⟨{ (test_hub.setFld (CMP.CCFG.EN.at (cmpOff 31)) 1).setFld (CMP.CSTAT.FILT.at (cmpOff 31)) 1 with acq := { window := [(31, 0)] } }, 31, -250000, 5, by decide⟩,
   ⟨({ (test_hub.setFld (CMP.CCFG.EN.at (cmpOff 31)) 1).setFld (CMP.CSTAT.FILT.at (cmpOff 31)) 1 with acq := { window := [(31, 0)] } }.setFld (CMP.CSTAT.RAW.at (cmpOff 31)) 0), 31, -250000, 5, by decide⟩,
   ⟨((test_hub.setFld (CMP.CSTAT.LATCH.at (cmpOff 31)) 1).setFld (CMP.CSTAT.FILT.at (cmpOff 31)) 0), .pcie, 31, 0#32, by decide⟩,
   ⟨((test_hub.setFld (CMP.CSTAT.LATCH.at (cmpOff 31)) 1).setFld (CMP.CSTAT.FILT.at (cmpOff 31)) 1), .pcie, 31, 0#32, by decide⟩,
   ⟨((test_hub.setFld (CMP.CCFG.EN.at (cmpOff 31)) 0).setFld (CMP.CSTAT.LATCH.at (cmpOff 31)) 0), .pcie, 31, 0x80300010#32, by decide⟩,
   ⟨((test_hub.setFld (CMP.CCFG.EN.at (cmpOff 31)) 1).setFld (CMP.CTH.CODE.at (cmpOff 31)) 4095), .pcie, 31, 0x84700010#32, by decide⟩,
   ⟨{ test_hub with acq := { chat := [(31, 70000), (2, 3)] } }, 2000000000, by decide⟩,
   ⟨(test_hub.setFld (CMP.CTRANS.TOTAL.at (cmpOff 31)) 9), .pcie, 31, by decide⟩⟩

theorem test_meets_EventsFireOnceAndAct :
    (∃ (s : State) (k : Fin 128) (_dt : Nat), (s.regsWf) ∧ (s.isHub = true) ∧ (s.clodsUp = true) ∧ (sourceAsserted s k.val = true) ∧ (sourceFired s k.val = false) ∧ (mapWord s k.val = 0) ∧ (k.val ≠ 120) ∧ (k.val ≠ 122) ∧ (k.val ≠ 124) ∧ (s.flag EVR.FIRST.VALID = false) ∧ (s.strata.intake = [])) ∧
    (∃ (s : State) (k : Fin 128) (_dt : Nat), (s.regsWf) ∧ (s.isHub = true) ∧ (s.clodsUp = true) ∧ (sourceAsserted s k.val = true) ∧ (sourceFired s k.val = false) ∧ (bitAt (mapWord s k.val) 1 = true)) ∧
    (∃ (s : State) (k : Fin 128) (_dt : Nat), (s.regsWf) ∧ (s.isHub = true) ∧ (s.clodsUp = true) ∧ (sourceAsserted s k.val = true) ∧ (sourceFired s k.val = false) ∧ (k.val ≠ 120) ∧ (k.val ≠ 122) ∧ (k.val ≠ 124) ∧ ((mapWord s k.val) % 1024 = 1) ∧ (s.flag HST.PCIE_STAT.MSIX_EN = true) ∧ (s.flag HST.PCIE_STAT.LINK_UP = true) ∧ (s.evr.msixFunc = false) ∧ (bitAt s.evr.msixMask (bitsAt (mapWord s k.val) 16 8 % 64) = false)) ∧
    (∃ (s : State) (k : Fin 128) (_dt : Nat), (s.regsWf) ∧ (s.isHub = true) ∧ (s.clodsUp = true) ∧ (sourceAsserted s k.val = true) ∧ (sourceFired s k.val = false) ∧ (k.val ≠ 120) ∧ (k.val ≠ 122) ∧ (k.val ≠ 124) ∧ ((mapWord s k.val) % 1024 = 512)) ∧
    (∃ (s : State) (k : Fin 128) (_dt : Nat) (l : Fin 128), (s.regsWf) ∧ (s.isHub = true) ∧ (s.clodsUp = true) ∧ (sourceAsserted s k.val = true) ∧ (sourceFired s k.val = false) ∧ (bitAt (mapWord s k.val) 2 = true) ∧ (dsState s l.val = dsRun) ∧ (s.fld (LNK.PRBS_CTRL.MODE.at (lnkOff l.val)) ≠ 1)) ∧
    (∃ (s : State) (k : Fin 128) (_dt : Nat) (j : Fin 4), (s.regsWf) ∧ (s.isHub = true) ∧ (s.clodsUp = true) ∧ (sourceAsserted s k.val = true) ∧ (sourceFired s k.val = false) ∧ (bitAt (mapWord s k.val) (3 + j.val) = true)) ∧
    (∃ (s : State) (k : Fin 128) (_dt : Nat), (s.regsWf) ∧ (s.isHub = true) ∧ (s.clodsUp = true) ∧ (sourceAsserted s k.val = true) ∧ (sourceFired s k.val = false) ∧ (k.val ≠ 120) ∧ (k.val ≠ 122) ∧ (k.val ≠ 124) ∧ ((mapWord s k.val) % 1024 = 128) ∧ (s.fld STR.STAT.STATE = strArmed) ∧ (s.flag STR.STAT.PRE_READY = true) ∧ (s.strata.order.head? = some 2) ∧ (bitAt (s.fld STR.STAT.LOCKED) 2 = false) ∧ (s.strata.intake = [])) ∧
    (∃ (s : State) (k : Fin 128) (_dt : Nat), (s.regsWf) ∧ (s.isHub = true) ∧ (s.clodsUp = true) ∧ (sourceAsserted s k.val = true) ∧ (sourceFired s k.val = false) ∧ (k.val ≠ 120) ∧ (k.val ≠ 122) ∧ (k.val ≠ 124) ∧ ((mapWord s k.val) % 1024 = 256)) ∧
    (∃ (s : State) (k : Fin 128) (_dt : Nat), (s.regsWf) ∧ (sourceAsserted s k.val = false ∨ sourceFired s k.val = true)) ∧
    (∃ (s : State) (p : Path) (i : Fin 4) (_w : W32), (s.regsWf) ∧ (Reaches p (EVR.FIRED.addr + 4 * i.val) s)) ∧
    (∃ (s : State) (p : Path) (k : Fin 128) (_w : W32), (s.regsWf) ∧ (Reaches p (EVR.MAP.addr + 4 * k.val) s) ∧ (s.isCell = false) ∧ (s.blocked = true)) ∧
    (∃ (s : State) (p : Path) (_m : Fin 16), (s.regsWf) ∧ (Reaches p EVR.TRIP_CLR.addr s) ∧ (s.isCell = false) ∧ (s.evr.minDone = 15) ∧ (∀ k : Fin 4, firedWith s (fun (x : Nat) => bitAt x (3 + k.val)) = false)) ∧
    (∃ (s : State) (p : Path) (_m : Fin 16), (s.regsWf) ∧ (Reaches p EVR.TRIP_CLR.addr s) ∧ (s.isCell = false) ∧ (s.evr.minDone = 0) ∧ (∀ k : Fin 4, firedWith s (fun (x : Nat) => bitAt x (3 + k.val)) = false)) ∧
    (∃ (s : State) (p : Path) (m : Fin 16) (k : Fin 4), (s.regsWf) ∧ (Reaches p EVR.TRIP_CLR.addr s) ∧ (s.isCell = false) ∧ (bitAt m.val k.val = true) ∧ (firedWith s (fun (x : Nat) => bitAt x (3 + k.val)) = true)) ∧
    (∃ (s : State) (k : Fin 4) (dt : Nat), (s.regsWf) ∧ (bitAt (s.fld EVR.TRIP_STAT.ACTIVE) k.val = true) ∧ (tabGet zeroNat s.evr.tripAt k.val + 1000000 * max 1 (s.fld EVR.TRIP_CFG.MIN_MS) ≤ s.period.timeNs + dt) ∧ (bitAt (s.fld EVR.TRIP_STAT.CLR_PEND) k.val = true) ∧ (tripHeld s k.val = false)) ∧
    (∃ (s : State) (k : Fin 4) (dt : Nat), (s.regsWf) ∧ (s.period.timeNs + dt < tabGet zeroNat s.evr.tripAt k.val + 1000000 * max 1 (s.fld EVR.TRIP_CFG.MIN_MS))) ∧
    (∃ (s : State) (p : Path), (s.regsWf) ∧ (Reaches p EVR.SOFT.addr s)) ∧
    (∃ (s : State) (p : Path), (s.regsWf) ∧ (Reaches p EVR.SOFT.addr s)) ∧
    (∃ (s : State) (p : Path) (j : Fin 32), (s.regsWf) ∧ (Reaches p (EVR.FCNT.addr + 4 * j.val) s)) ∧
    (∃ (s : State) (_mask : BitVec 64) (_func : Bool), (s.regsWf) ∧ (s.isHub = true) ∧ (s.evr.msixPend = 0)) ∧
    (∃ (s : State) (mask : BitVec 64) (v : Fin 64), (s.regsWf) ∧ (s.isHub = true) ∧ (s.evr.msixPend = 2 ^ v.val) ∧ (s.flag HST.PCIE_STAT.MSIX_EN = true) ∧ (s.flag HST.PCIE_STAT.LINK_UP = true) ∧ (bitAt mask.toNat v.val = false)) :=
  ⟨⟨{ test_hub with evr := { soft := true } }, 127, 9, by decide⟩,
   ⟨(({ test_hub with evr := { soft := true } }).setFld (EVR.MAP.ACTIONS.at 508) 2), 127, 9, by decide⟩,
   ⟨(((((({ test_hub with evr := { soft := true, msixMask := 0 } }).setFld HST.PCIE_STAT.MSIX_EN 1).setFld HST.PCIE_STAT.LINK_UP 1).setFld (EVR.MAP.ACTIONS.at 508) 1).setFld (EVR.MAP.VECTOR.at 508) 63).setFld (EVR.MAP.PWM_GROUPS.at 508) 0), 127, 9, by decide⟩,
   ⟨(((({ test_hub with evr := { soft := true } }).setFld (EVR.MAP.ACTIONS.at 508) 512).setFld (EVR.MAP.VECTOR.at 508) 0).setFld (EVR.MAP.PWM_GROUPS.at 508) 0), 127, 9, by decide⟩,
   ⟨((((({ test_hub with evr := { soft := true } }).setFld (EVR.MAP.ACTIONS.at 508) 4).setFld (EVR.MAP.VECTOR.at 508) 0).setFld (EVR.MAP.PWM_GROUPS.at 508) 0).setFld (LNK.STAT.DS_STATE.at (lnkOff 5)) 1), 127, 9, 5, by decide⟩,
   ⟨(((({ test_hub with evr := { soft := true, minDone := 15 } }).setFld (EVR.MAP.ACTIONS.at 508) 64).setFld (EVR.MAP.VECTOR.at 508) 0).setFld (EVR.MAP.PWM_GROUPS.at 508) 0), 127, 9, 3, by decide⟩,
   ⟨{ (((((({ test_hub with evr := { soft := true } }).setFld (EVR.MAP.ACTIONS.at 508) 128).setFld (EVR.MAP.VECTOR.at 508) 0).setFld (EVR.MAP.PWM_GROUPS.at 508) 0)).setFld STR.STAT.STATE strArmed).setFlag STR.STAT.PRE_READY true with strata := { order := [2, 0, 1, 3] } }, 127, 9, by decide⟩,
   ⟨((((({ test_hub with evr := { soft := true } }).setFld (EVR.MAP.ACTIONS.at 508) 256).setFld (EVR.MAP.VECTOR.at 508) 0).setFld (EVR.MAP.PWM_GROUPS.at 508) 9).setFld (PWM.PAIR_CARRY.C.at 0) 9), 127, 9, by decide⟩,
   ⟨test_hub, 127, 9, by decide⟩,
   ⟨(({ test_hub with evr := { soft := true } }).setFld (EVR.FIRED.BITS.at 12) 0xF0000000), .pcie, 3, 0xFFFFFFFF#32, by decide⟩,
   ⟨test_hub, .pcie, 127, 0xFFFFFFFF#32, by decide⟩,
   ⟨{ (test_hub.setFld EVR.TRIP_STAT.ACTIVE 7) with evr := { minDone := 15 } }, .pcie, 0xA, by decide⟩,
   ⟨(test_hub.setFld EVR.TRIP_STAT.ACTIVE 7), .pcie, 0xA, by decide⟩,
   ⟨((({ test_hub with evr := { soft := true } }.setFld EVR.TRIP_STAT.ACTIVE 7).setFld (EVR.MAP.ACTIONS.at 508) 8).setFld (EVR.FIRED.BITS.at 12) 0x80000000), .pcie, 1, 0, by decide⟩,
   ⟨((test_hub.setFld EVR.TRIP_STAT.ACTIVE 15).setFld EVR.TRIP_STAT.CLR_PEND 12), 3, 255000000, by decide⟩,
   ⟨test_hub, 3, 0, by decide⟩,
   ⟨test_hub, .pcie, by decide⟩,
   ⟨{ test_hub with evr := { soft := true } }, .pcie, by decide⟩,
   ⟨(test_hub.setFld (EVR.FCNT.CNT2.at 124) 9), .pcie, 31, by decide⟩,
   ⟨test_hub, 5#64, true, by decide⟩,
   ⟨{ ((test_hub.setFld HST.PCIE_STAT.MSIX_EN 1).setFld HST.PCIE_STAT.LINK_UP 1) with evr := { msixPend := 2 ^ 63 } }, 5#64, 63, by decide⟩⟩

theorem test_meets_ConverterBlockAndDeblockRequests :
    (∃ (s : State) (p : Path), (s.regsWf) ∧ (Reaches p EVR.CONV_CTRL.addr s) ∧ (s.isHub = true)) ∧
    (∃ (s : State) (p : Path) (dt : Nat), (s.regsWf) ∧ (Reaches p EVR.CONV_CTRL.addr s) ∧ (s.isCell = false) ∧ (s.blocked = true) ∧ (deblockRefusal s (s.baseNs + dt) = none)) ∧
    (∃ (s : State) (p : Path) (dt code : Nat), (s.regsWf) ∧ (Reaches p EVR.CONV_CTRL.addr s) ∧ (s.isCell = false) ∧ (deblockRefusal s (s.baseNs + dt) = some code)) ∧
    (∃ (s : State) (p : Path) (_w : W32), (s.regsWf) ∧ (Reaches p EVR.DBLK_CFG.addr s) ∧ (s.isCell = false) ∧ (s.blocked = true)) ∧
    (∃ (s : State) (_now : Nat), (s.regsWf) ∧ (s.evr.blockReq = true)) ∧
    (∃ (s : State) (now : Nat), (s.regsWf) ∧ (s.evr.blockReq = false) ∧ (mrlSafeBlock s = false) ∧ (s.flag EVR.CONV_STAT.DEBLOCK_PEND = true) ∧ (s.fld LMP.STAT.STATE ≠ 1) ∧ (s.evr.rearmFrom.isSome = true) ∧ (deblockRefusal (s.setFlag EVR.CONV_STAT.DEBLOCK_PEND false) now = none)) ∧
    (∃ (s : State) (now code : Nat), (s.regsWf) ∧ (s.evr.blockReq = false) ∧ (mrlSafeBlock s = false) ∧ (s.flag EVR.CONV_STAT.DEBLOCK_PEND = true) ∧ (s.fld LMP.STAT.STATE ≠ 1) ∧ (s.evr.rearmFrom.isSome = true) ∧ (deblockRefusal (s.setFlag EVR.CONV_STAT.DEBLOCK_PEND false) now = some code)) :=
  ⟨⟨test_hub, .pcie, by decide⟩,
   ⟨{ (test_hub.setFld EVR.DBLK_CFG.REARM_MS 0) with evr := { rearmFrom := some 0 }, marl := { test_hub.marl with a := { test_hub.marl.a with sb := false }, b := { test_hub.marl.b with sb := false } } }, .pcie, 0, by decide⟩,
   ⟨{ (test_hub.setFlag LMP.STAT.ESCALATED true) with evr := { rearmFrom := some 0 } }, .pcie, 0, 3, by decide⟩,
   ⟨test_hub, .pcie, 0x12345603#32, by decide⟩,
   ⟨{ (test_hub.setFlag EVR.CONV_STAT.BLOCKED false).setFlag EVR.CONV_STAT.DEBLOCK_PEND true with evr := { blockReq := true, rearmFrom := some 0 } }, 77, by decide⟩,
   ⟨{ ((test_hub.setFld EVR.DBLK_CFG.REARM_MS 0).setFlag EVR.CONV_STAT.DEBLOCK_PEND true) with evr := { rearmFrom := some 0 }, marl := { test_hub.marl with a := { test_hub.marl.a with sb := false }, b := { test_hub.marl.b with sb := false } } }, 77, by decide⟩,
   ⟨{ ((test_hub.setFlag LMP.STAT.ESCALATED true).setFlag EVR.CONV_STAT.DEBLOCK_PEND true) with evr := { rearmFrom := some 0 }, marl := { test_hub.marl with a := { test_hub.marl.a with sb := false }, b := { test_hub.marl.b with sb := false } } }, 77, 3, by decide⟩⟩

theorem test_meets_PwmGroupsPairsAndFaults :
    (∃ (s : State) (g : Fin 4), (s.regsWf) ∧ (startDue s g.val s.period.pcnt = true) ∧ ((s.grp g.val).ready = false)) ∧
    (∃ (s : State) (p : Fin 12) (_dt d : Nat) (o : PwmOut) (rest : List (Nat × PwmOut)), (s.regsWf) ∧ ((s.pair p.val).forceOn = none) ∧ ((s.pair p.val).edges = (d, o) :: rest) ∧ ((s.pair p.val).forceDue = false)) ∧
    (∃ (s : State) (p : Path) (m : Fin 16), (s.regsWf) ∧ (Reaches p PWM.GCTRL.addr s) ∧ (s.isCell = false) ∧ (m.val &&& s.fld PWM.GSTAT.PEND = 0)) ∧
    (∃ (s : State) (p : Path) (pair : Fin 12) (w : W32), (s.regsWf) ∧ (Reaches p (PWM.PAIR_CFG.addr + 0x40 * pair.val) s) ∧ (s.isCell = false) ∧ (s.blocked = false) ∧ (bitsAt w.toNat 3 2 = 1) ∧ (bitsAt w.toNat 0 2 = pairGrp s pair.val)) ∧
    (∃ (s : State) (p : Path) (g : Fin 4) (w : W32), (s.regsWf) ∧ (Reaches p (PWM.GRP_CFG.addr + 0x20 * g.val) s) ∧ (s.isCell = false) ∧ (s.flag (PWM.GRP_CFG.EN.at (grpOff g.val)) = false) ∧ (bitAt w.toNat 0 = true)) ∧
    (∃ (s : State) (k : Fin 4) (dt : Nat), (s.regsWf) ∧ (s.isCell = false) ∧ (s.flag (PWM.FLT_CFG.EN.at (fltOff k.val)) = true) ∧ (s.flag (PWM.FLT_CFG.POL.at (fltOff k.val)) = false) ∧ (s.flag (PWM.FLT_STAT.FILT.at (fltOff k.val)) = false) ∧ (tabGet zeroNat s.pwm.blankTo k.val ≤ s.baseNs + dt)) ∧
    (∃ (s : State) (k : Fin 4) (dt : Nat), (s.regsWf) ∧ (s.isCell = false) ∧ (s.flag (PWM.FLT_CFG.EN.at (fltOff k.val)) = true) ∧ (s.flag (PWM.FLT_CFG.POL.at (fltOff k.val)) = true) ∧ (s.flag (PWM.FLT_STAT.FILT.at (fltOff k.val)) = false) ∧ (tabGet zeroNat s.pwm.blankTo k.val ≤ s.baseNs + dt)) ∧
    (∃ (s : State) (k : Fin 4) (_dt : Nat), (s.regsWf) ∧ (s.isCell = false) ∧ (s.flag (PWM.FLT_CFG.EN.at (fltOff k.val)) = true) ∧ (s.flag (PWM.FLT_CFG.POL.at (fltOff k.val)) = false)) ∧
    (∃ (s : State) (p : Path) (k : Fin 4), (s.regsWf) ∧ (Reaches p (PWM.FLT_STAT.addr + 0x10 * k.val) s) ∧ (s.isCell = false) ∧ (s.flag (PWM.FLT_STAT.FILT.at (fltOff k.val)) = false)) ∧
    (∃ (s : State) (p : Path) (k : Fin 4), (s.regsWf) ∧ (Reaches p (PWM.FLT_STAT.addr + 0x10 * k.val) s) ∧ (s.isCell = false) ∧ (s.flag (PWM.FLT_STAT.FILT.at (fltOff k.val)) = true)) ∧
    (∃ (s : State) (p : Path) (_m : Fin 16), (s.regsWf) ∧ (Reaches p PWM.GCTRL.addr s) ∧ (s.isCell = false) ∧ (∀ k : Fin 4, s.flag (PWM.FLT_STAT.LATCH.at (fltOff k.val)) = false) ∧ (∀ g : Fin 4, firedWith s (fun (x : Nat) => bitAt (bitsAt x 24 4) g.val) = false)) ∧
    (∃ (s : State) (p : Path) (m : Fin 16) (g k : Fin 4), (s.regsWf) ∧ (Reaches p PWM.GCTRL.addr s) ∧ (s.isCell = false) ∧ (bitAt m.val g.val = true) ∧ (bitAt (s.fld PWM.GSTAT.HIZ) g.val = true) ∧ (s.flag (PWM.FLT_STAT.LATCH.at (fltOff k.val)) = true) ∧ (bitAt (s.fld (PWM.FLT_CFG.HIZ_GRP.at (fltOff k.val))) g.val = true)) ∧
    (∃ (_st : Bool) (mn dt t tt : Int), (0 ≤ t) ∧ (t ≤ tt) ∧ (0 ≤ dt) ∧ (0 < mn) ∧ (2 * (mn + dt) ≤ tt)) ∧
    (∃ (_dt t tt : Int), (0 < t) ∧ (t < tt)) ∧
    (∃ (_centre : Bool) (_dt _t tt : Int), (0 < tt)) ∧
    (∃ (s : State) (_last p : Nat), (s.regsWf) ∧ (p < 12) ∧ (s.fld (PWM.PAIR_CFG.OVR_MODE.at (pairOff p)) = 0) ∧ (s.flag (PWM.PAIR_SHD.SRC.at (pairOff p)) = false) ∧ (inHiz s (pairGrp s p) = false) ∧ (s.blocked = false)) :=
  ⟨⟨{ ((test_hub.setFld (PWM.GRP_CFG.EN.at (grpOff 0)) 1).setFld (PWM.PAIR_SHD.SRC.at (pairOff 0)) 0) with pwm := { pairs := [(0, { act := 0x00800000 })], grps := [(0, { anchor := some 0 })] } }, 0, by decide⟩,
   ⟨{ test_hub with pwm := { pairs := [(11, { edges := [(9, .high), (20, .off)] })] } }, 11, 4, 9, .high, [(20, .off)], by decide⟩,
   ⟨(test_hub.setFld PWM.GSTAT.PEND 5), .pcie, 0xA, by decide⟩,
   ⟨{ (test_hub.setFlag EVR.CONV_STAT.BLOCKED false) with pwm := { pairs := [(11, { gen := .high, edges := [(9, .off)] })] } }, .pcie, 11, 0x8#32, by decide⟩,
   ⟨(test_hub.setFld (PWM.PAIR_CARRY.C.at (pairOff 0)) 9), .pcie, 0, 3#32, by decide⟩,
   ⟨(((test_hub.setFld (PWM.FLT_CFG.EN.at (fltOff 3)) 1).setFld (PWM.FLT_CFG.HIZ_GRP.at (fltOff 3)) 9).setFld (PWM.PAIR_CARRY.C.at (pairOff 0)) 9).setFld (PWM.FLT_CFG.POL.at (fltOff 3)) 0, 3, 7, by decide⟩,
   ⟨(((test_hub.setFld (PWM.FLT_CFG.EN.at (fltOff 3)) 1).setFld (PWM.FLT_CFG.HIZ_GRP.at (fltOff 3)) 9).setFld (PWM.PAIR_CARRY.C.at (pairOff 0)) 9).setFld (PWM.FLT_CFG.POL.at (fltOff 3)) 1, 3, 7, by decide⟩,
   ⟨((test_hub.setFld (PWM.FLT_CFG.EN.at (fltOff 3)) 1).setFld (PWM.FLT_STAT.LATCH.at (fltOff 3)) 1).setFld (PWM.FLT_STAT.FILT.at (fltOff 3)) 1, 3, 7, by decide⟩,
   ⟨((test_hub.setFld (PWM.FLT_STAT.FILT.at (fltOff 3)) 0).setFld (PWM.FLT_STAT.LATCH.at (fltOff 3)) 1), .pcie, 3, by decide⟩,
   ⟨((test_hub.setFld (PWM.FLT_STAT.FILT.at (fltOff 3)) 1).setFld (PWM.FLT_STAT.LATCH.at (fltOff 3)) 1), .pcie, 3, by decide⟩,
   ⟨((((((test_hub.setFld (PWM.FLT_STAT.LATCH.at (fltOff 3)) 0).setFld (PWM.FLT_STAT.LATCH.at (fltOff 2)) 0).setFld (PWM.FLT_STAT.LATCH.at (fltOff 1)) 0).setFld (PWM.FLT_STAT.LATCH.at (fltOff 0)) 0).setFld PWM.GSTAT.HIZ 15).setFld (PWM.PAIR_CARRY.C.at (pairOff 0)) 9), .pcie, 5, by decide⟩,
   ⟨(((test_hub.setFld (PWM.FLT_STAT.LATCH.at (fltOff 3)) 1).setFld (PWM.FLT_CFG.HIZ_GRP.at (fltOff 3)) 4).setFld PWM.GSTAT.HIZ 15), .pcie, 5, 2, 3, by decide⟩,
   ⟨true, 8, 4, 9, 100, by decide⟩,
   ⟨4, 9, 100, by decide⟩,
   ⟨true, 4, 0, 100, by decide⟩,
   ⟨{ (test_hub.setFlag EVR.CONV_STAT.BLOCKED false).setFld (PWM.PAIR_SHD.SRC.at 0x2C0) 0 with pwm := { pairs := [(11, { act := 70 })] } }, 0, 11, by decide⟩⟩

theorem test_meets_CellReceiverFollowsItsStates :
    (∃ (s : State) (amp lsd : Bool), (s.regsWf) ∧ (s.isCell = true) ∧ (s.clodsUp = true) ∧ (rxState s = rxAcquire) ∧ (sdLevel amp lsd s = true)) ∧
    (∃ (s : State) (amp lsd : Bool), (s.regsWf) ∧ (s.isCell = true) ∧ (s.clodsUp = true) ∧ (sdLevel amp lsd s = false)) ∧
    (∃ (s : State) (_eq0 _eq1 : W32), (s.regsWf) ∧ (s.isCell = true) ∧ (rxState s = rxAcquire) ∧ (s.flag LNK.STAT.CDR_LOCK = true)) ∧
    (∃ (s : State) (_now : Nat) (blks : List (BitVec 66)), (s.regsWf) ∧ (s.isCell = true) ∧ (rxState s = rxSearch) ∧ (prbsMode s 0 ≠ 1) ∧ (loopback s 0 = 0) ∧ (64 ≤ blks.length) ∧ (blks.all (fun (b : BitVec 66) => b.toNat % 4 == 1 || b.toNat % 4 == 2) = true)) ∧
    (∃ (s : State) (_now : Nat) (b : BitVec 66), (s.regsWf) ∧ (s.isCell = true) ∧ (rxState s = rxSearch) ∧ (prbsMode s 0 ≠ 1) ∧ (loopback s 0 = 0) ∧ (b.toNat % 4 = 0 ∨ b.toNat % 4 = 3)) ∧
    (∃ (s : State), (s.regsWf) ∧ (s.isCell = true) ∧ (rxState s = rxSearch)) ∧
    (∃ (s : State) (blks : List (BitVec 66)), (s.regsWf) ∧ (s.isCell = true) ∧ (rxState s = rxTrack) ∧ (prbsMode s 0 ≠ 1) ∧ (loopback s 0 = 0) ∧ (16 ≤ blks.length) ∧ (blks.all (fun (b : BitVec 66) => b.toNat % 4 == 0 || b.toNat % 4 == 3) = true)) ∧
    (∃ (s : State) (amp lsd : Bool), (s.regsWf) ∧ (s.isCell = true) ∧ (sdLevel amp lsd s = false) ∧ (rxState s = rxTrack ∨ rxState s = rxSearch) ∧ (s.fld LNK.CTRL.LOOPBACK ≠ 4)) ∧
    (∃ (s : State) (amp lsd : Bool) (a b : Nat), (s.regsWf) ∧ (s.isCell = true) ∧ (rxState s = rxHold) ∧ (sdLevel amp lsd s = true) ∧ (s.cell.frozen = some (a, b)) ∧ (a < 2 ^ 32) ∧ (b < 2 ^ 32)) ∧
    (∃ (s : State), (s.regsWf) ∧ (s.isCell = true) ∧ (rxState s = rxHold)) ∧
    (∃ (s : State), (s.regsWf) ∧ (s.isCell = true) ∧ (s.fld LNK.CTRL.LOOPBACK = 4)) ∧
    (∃ (s : State), (s.regsWf) ∧ (s.isCell = true) ∧ (rxState s ≠ rxTrack)) :=
  ⟨⟨((test_cell.setFld LNK.STAT.RX_STATE 1).setFld LNK.CTRL.SD_PIN_EN 1), false, true, by decide⟩,
   ⟨((test_cell.setFld LNK.STAT.RX_STATE 1).setFld LNK.CTRL.SD_PIN_EN 0), false, true, by decide⟩,
   ⟨((test_cell.setFld LNK.STAT.RX_STATE 1).setFld LNK.STAT.CDR_LOCK 1), 5#32, 6#32, by decide⟩,
   ⟨(test_cell.setFld LNK.STAT.RX_STATE 2), 77, List.replicate 64 1#66, by decide⟩,
   ⟨(test_cell.setFld LNK.STAT.RX_STATE 2), 77, 4#66, by decide⟩,
   ⟨(test_cell.setFld LNK.STAT.RX_STATE 2), by decide⟩,
   ⟨((test_cell.setFld LNK.STAT.RX_STATE 3).setFld CLK.STAT.CELL_SRC 1), List.replicate 16 7#66, by decide⟩,
   ⟨((test_cell.setFld LNK.STAT.RX_STATE 3).setFld LNK.CTRL.SD_PIN_EN 0), false, true, by decide⟩,
   ⟨{ (test_cell.setFld LNK.STAT.RX_STATE 4) with cell := { frozen := some (3, 4) } }, true, false, 3, 4, by decide⟩,
   ⟨{ (test_cell.setFld LNK.STAT.RX_STATE 4) with cell := { frozen := some (3, 4) } }, by decide⟩,
   ⟨(test_cell.setFld LNK.CTRL.LOOPBACK 4), by decide⟩,
   ⟨((test_cell.setFld LNK.STAT.RX_STATE 2).setFld LNK.C_ADM.STATE 4), by decide⟩⟩

theorem test_meets_CellJoinsReportsAndLeaves :
    (∃ (s : State), (s.regsWf) ∧ (s.isCell = true) ∧ (cellAdm s = admAnnounced)) ∧
    (∃ (s : State), (s.regsWf) ∧ (s.isCell = true) ∧ (cellAdm s = admJoining) ∧ (s.cell.joinCyc + 5 ≤ s.cell.joined)) ∧
    (∃ (s : State), (s.regsWf) ∧ (s.isCell = true) ∧ (cellAdm s = admRefused)) ∧
    (∃ (s : State) (m : MgmtMsg), (s.regsWf) ∧ (cellMsg 0x01 s = some m) ∧ (linkRepeat m s = false) ∧ (cellAdm s = admAnnounced)) ∧
    (∃ (s : State) (m : MgmtMsg), (s.regsWf) ∧ (cellMsg 0x02 s = some m) ∧ (linkRepeat m s = false) ∧ (cellAdm s = admAnnounced) ∧ (m.byte 0 ≠ 0x0B) ∧ (m.byte 0 ≠ 0x0C)) ∧
    (∃ (s : State) (m : MgmtMsg), (s.regsWf) ∧ (cellMsg 0x02 s = some m) ∧ (linkRepeat m s = false) ∧ (cellAdm s = admAnnounced ∨ cellAdm s = admJoining) ∧ (m.byte 0 = 0x0B ∨ m.byte 0 = 0x0C)) ∧
    (∃ (s : State) (m : MgmtMsg), (s.regsWf) ∧ (cellMsg 0x03 s = some m) ∧ (linkRepeat m s = false)) ∧
    (∃ (s : State) (_start : Nat) (_blks : List (BitVec 66)) (_lms : List Int), (s.regsWf) ∧ (s.isCell = false)) ∧
    (∃ (s : State) (_start : Nat) (_blks : List (BitVec 66)) (_lms : List Int), (s.regsWf) ∧ (s.isCell = true) ∧ (s.clodsUp = true) ∧ (rxState s ≠ rxTrack) ∧ (prbsMode s 0 ≠ 1) ∧ (loopback s 0 = 0)) ∧
    (∃ (s : State) (start : Nat) (h0 : BitVec 64) (rest : List (BitVec 64)) (_lms : List Int), (s.regsWf) ∧ (s.isCell = true) ∧ (s.clodsUp = true) ∧ (rxState s = rxTrack) ∧ (prbsMode s 0 ≠ 1) ∧ (loopback s 0 = 0) ∧ (s.cell.rx.dscr < 2 ^ 58) ∧ (s.cell.trackAt ≤ start) ∧ (rest.length = 50) ∧ (h0.toNat % 256 = 0x78) ∧ (hdrCrc h0.toNat ((rest.getD 0 0#64).toNat) ≠ bitsAt ((rest.getD 0 0#64).toNat) 48 16)) ∧
    (∃ (s : State) (start : Nat) (h0 : BitVec 64) (rest : List (BitVec 64)) (_lms : List Int), (s.regsWf) ∧ (s.isCell = true) ∧ (s.clodsUp = true) ∧ (rxState s = rxTrack) ∧ (prbsMode s 0 ≠ 1) ∧ (loopback s 0 = 0) ∧ (s.cell.rx.dscr < 2 ^ 58) ∧ (s.cell.trackAt ≤ start) ∧ (rest.length = 50) ∧ (h0.toNat % 256 = 0x78) ∧ (hdrCrc h0.toNat ((rest.getD 0 0#64).toNat) = bitsAt ((rest.getD 0 0#64).toNat) 48 16) ∧ (bitAt h0.toNat 60 = false) ∧ (s.cell.hdrSeen = false ∨ start ≤ s.cell.lastStart.getD start + 8 * tcNs s.cell.tc + 160) ∧ (cellAdm s = admAdmitted) ∧ (wordAccepted s (bitsAt h0.toNat 8 48) (bitsAt h0.toNat 58 2) ((rest.getD (1 + s.fld LNK.C_ADM.SLOT) 0#64).toNat) = true) ∧ (s.cell.stItem = none)) ∧
    (∃ (s : State) (cyc : Fin 256) (slot : Fin 36) (_ahead : Nat) (x : CycAnn) (b : Int), (s.regsWf) ∧ (s.isCell = true) ∧ (rxState s = rxTrack) ∧ (prbsMode s 0 ≠ 1) ∧ (loopback s 0 ≠ 4) ∧ (s.flag LNK.STAT.LB_ACTIVE = false) ∧ (usSleeps s = false) ∧ (gridCycle s cyc.val = some x) ∧ (burstStart s cyc.val slot.val = some b) ∧ (gridFresh s b = true) ∧ (slot.val < 32) ∧ (slot.val = s.fld LNK.C_ADM.SLOT) ∧ (reportsIn (cadTurn x.num s) x = true)) ∧
    (∃ (s : State) (cyc : Fin 256) (slot : Fin 36) (_ahead : Nat) (x : CycAnn) (b : Int), (s.regsWf) ∧ (s.isCell = true) ∧ (rxState s = rxTrack) ∧ (prbsMode s 0 ≠ 1) ∧ (loopback s 0 ≠ 4) ∧ (s.flag LNK.STAT.LB_ACTIVE = false) ∧ (usSleeps s = false) ∧ (gridCycle s cyc.val = some x) ∧ (burstStart s cyc.val slot.val = some b) ∧ (gridFresh s b = true) ∧ (slot.val = 32 ∨ slot.val = 33 ∨ slot.val = 34 ∨ slot.val = 35) ∧ (s.cell.annCyc = none) ∧ (grantMine s x (slot.val - 32) = true) ∧ (s.cell.testBurst = false)) ∧
    (∃ (s : State) (_cyc : Fin 256) (_slot : Fin 36) (_ahead : Nat), (s.regsWf) ∧ (s.isCell = true) ∧ (rxState s ≠ rxTrack) ∧ (prbsMode s 0 ≠ 1)) ∧
    (∃ (s : State), (s.regsWf)) :=
  ⟨⟨(((test_cell.setFld LNK.STAT.RX_STATE 3).setFld LNK.C_ADM.STATE 2).setFld LNK.C_CNT.BACKOFF_EXP 8), by decide⟩,
   ⟨{ ((test_cell.setFld LNK.STAT.RX_STATE 3).setFld LNK.C_ADM.STATE 3) with cell := { joinCyc := 3, joined := 8 } }, by decide⟩,
   ⟨((test_cell.setFld LNK.STAT.RX_STATE 3).setFld LNK.C_ADM.STATE 5), by decide⟩,
   ⟨{ ((test_cell.setFld LNK.STAT.RX_STATE 3).setFld LNK.C_ADM.STATE 2) with cell := { mgmt := some [0x6070102#64, BitVec.ofNat 64 cellUid, 0x19001090234#64] } }, { addr := 2, slot := 0, msg := 0x1, tag := 7, uid := cellUid, payload := [0x34#8, 0x02#8, 0x09#8, 0x01#8, 0x90#8, 0x01#8] }, by decide, test_cellMsg rfl rfl (test_mgmtUid _ _) rfl (by simp [addressed, msgAddrOk]), by decide, by decide⟩,
   ⟨{ ((test_cell.setFld LNK.STAT.RX_STATE 3).setFld LNK.C_ADM.STATE 2) with cell := { mgmt := some [0x5070202#64, BitVec.ofNat 64 cellUid, 0x101010105#64] } }, { addr := 2, slot := 0, msg := 0x2, tag := 7, uid := cellUid, payload := [0x05#8, 0x01#8, 0x01#8, 0x01#8, 0x01#8] }, by decide, test_cellMsg rfl rfl (test_mgmtUid _ _) rfl (by simp [addressed, msgAddrOk]), by decide, by decide, by decide, by decide⟩,
   ⟨{ ((test_cell.setFld LNK.STAT.RX_STATE 3).setFld LNK.C_ADM.STATE 3) with cell := { mgmt := some [0x5070202#64, BitVec.ofNat 64 cellUid, 0x10101010B#64] } }, { addr := 2, slot := 0, msg := 0x2, tag := 7, uid := cellUid, payload := [0x0B#8, 0x01#8, 0x01#8, 0x01#8, 0x01#8] }, by decide, test_cellMsg rfl rfl (test_mgmtUid _ _) rfl (by simp [addressed, msgAddrOk]), by decide, by decide, by decide⟩,
   ⟨{ ((test_cell.setFld LNK.STAT.RX_STATE 3).setFld LNK.C_ADM.STATE 4) with cell := { mgmt := some [0x1070301#64, 0#64, 0xD#64] } }, { addr := 1, slot := 0, msg := 0x3, tag := 7, uid := 0, payload := [0x0D#8] }, by decide⟩,
   ⟨test_hub, 5, [], [], by decide⟩,
   ⟨(test_cell.setFld LNK.STAT.RX_STATE 2), 5, [9#66], [], by decide⟩,
   ⟨((test_cell.setFld LNK.STAT.RX_STATE 3).setFld LNK.C_ADM.STATE 4), 1000, 0x578#64, List.replicate 50 1#64, [], by decide⟩,
   ⟨(((test_cell.setFld LNK.STAT.RX_STATE 3).setFld LNK.C_ADM.STATE 4).setFld LNK.C_ADM.CELL_IDX 0x234), 1000, 0x578#64, [BitVec.ofNat 64 (2 ^ 48 * hdrCrc 0x578 0), BitVec.ofNat 64 (cmdWord 2 0 5 0 0x234)] ++ List.replicate 48 0#64, [], by decide⟩,
   ⟨{ (((test_cell.setFld LNK.STAT.RX_STATE 3).setFld LNK.C_ADM.STATE 4).setFld LNK.C_ADM.SLOT 9) with cell := { cycles := [{ num := 7 }], grid := some (7, 1000) } }, 7, 9, 2000, { num := 7 }, 1000 + 128 * (165 + 5104), by decide⟩,
   ⟨{ (((test_cell.setFld LNK.STAT.RX_STATE 3).setFld LNK.C_ADM.STATE 4).setFld LNK.C_ADM.SLOT 9) with cell := { cycles := [{ num := 7, grants := 64 * (32 + 9) }], grid := some (7, 1000), replies := [[0x92#8, 7#8, 0#8]] } }, 7, 33, 2000, { num := 7, grants := 64 * (32 + 9) }, 1000 + 128 * (165 + 18717), by decide⟩,
   ⟨((test_cell.setFld LNK.STAT.RX_STATE 4).setFld LNK.C_ADM.STATE 4), 7, 9, 2000, by decide⟩,
   ⟨{ test_cell with cell := { usIdle := true } }, by decide⟩⟩

theorem test_meets_CellMessagesAreExecutedOnceAndAnswered :
    (∃ (s : State) (m : MgmtMsg) (_dt _ticks : Nat), (s.regsWf) ∧ (cellMsg 0x10 s = some m) ∧ (s.cell.tagReg ≠ some m.tag) ∧ (5 ≤ m.payload.length) ∧ (m.byte 4 = 1) ∧ (m.val 0 4 % 4 = 0) ∧ (0xC0000 ≤ m.val 0 4) ∧ (m.val 0 4 < 0xD0000) ∧ (Reaches .mgmt (m.val 0 4) s)) ∧
    (∃ (s : State) (m : MgmtMsg) (_dt _ticks : Nat), (s.regsWf) ∧ (cellMsg 0x10 s = some m) ∧ (s.cell.tagReg ≠ some m.tag) ∧ (3 < m.byte 4)) ∧
    (∃ (s : State) (m : MgmtMsg) (_dt : Nat) (r : RegRow), (s.regsWf) ∧ (cellMsg 0x11 s = some m) ∧ (s.cell.tagReg ≠ some m.tag) ∧ (12 ≤ m.payload.length) ∧ (m.byte 4 = 1) ∧ (m.addr = 1) ∧ (m.val 0 4 % 4 = 0) ∧ (0x50000 ≤ m.val 0 4) ∧ (m.val 0 4 < 0x60000) ∧ (m.val 0 4 ≠ THM.SD.addr) ∧ (regRow? (m.val 0 4) = some r) ∧ (Reaches .mgmt (m.val 0 4) s)) ∧
    (∃ (s : State) (m : MgmtMsg), (s.regsWf) ∧ (cellMsg 0x12 s = some m) ∧ (s.cell.tagReg ≠ some m.tag) ∧ (1 ≤ m.payload.length) ∧ (m.byte 0 = 0)) ∧
    (∃ (s : State) (m : MgmtMsg), (s.regsWf) ∧ (cellMsg 0x12 s = some m) ∧ (s.cell.tagReg ≠ some m.tag) ∧ (1 ≤ m.payload.length) ∧ (m.byte 0 = 1)) ∧
    (∃ (s : State) (m : MgmtMsg), (s.regsWf) ∧ (cellMsg 0x12 s = some m) ∧ (s.cell.tagReg ≠ some m.tag) ∧ (1 ≤ m.payload.length) ∧ (m.byte 0 = 2)) ∧
    (∃ (s : State) (m : MgmtMsg), (s.regsWf) ∧ (cellMsg 0x12 s = some m) ∧ (s.cell.tagReg ≠ some m.tag) ∧ (1 ≤ m.payload.length) ∧ (m.byte 0 = 3)) ∧
    (∃ (s : State) (m : MgmtMsg), (s.regsWf) ∧ (cellMsg 0x30 s = some m) ∧ (s.cell.tagReg ≠ some m.tag) ∧ (5 ≤ m.payload.length) ∧ (0 < m.byte 4) ∧ (m.byte 4 ≤ 3) ∧ (m.val 0 4 + 4 * m.byte 4 ≤ 2 ^ 21)) ∧
    (∃ (s : State) (m : MgmtMsg), (s.regsWf) ∧ (cellMsg 0x30 s = some m) ∧ (s.cell.tagReg ≠ some m.tag) ∧ (5 ≤ m.payload.length) ∧ (0 < m.byte 4) ∧ (m.byte 4 ≤ 3) ∧ (2 ^ 21 < m.val 0 4 + 4 * m.byte 4)) ∧
    (∃ (s : State) (m : MgmtMsg), (s.regsWf) ∧ (cellMsg 0x20 s = some m) ∧ (s.cell.tagImg ≠ some m.tag) ∧ (inLoader s = true) ∧ (ldState s ≠ ldFailed)) ∧
    (∃ (s : State) (m : MgmtMsg) (o : Nat), (s.regsWf) ∧ (cellMsg 0x21 s = some m) ∧ (s.cell.tagImg ≠ some m.tag) ∧ (inLoader s = true) ∧ (missingChunk s.cell.imgHave (m.val 0 4) = some o)) ∧
    (∃ (s : State) (m : MgmtMsg), (s.regsWf) ∧ (cellMsg 0x21 s = some m) ∧ (s.cell.tagImg ≠ some m.tag) ∧ (inLoader s = true) ∧ (missingChunk s.cell.imgHave (m.val 0 4) = none) ∧ (crc32 (memRead s.cell.imgBytes 0 (m.val 0 4)) = m.val 4 4) ∧ (arrivalFail (imgRole s) 0 (memRead s.cell.imgBytes 0 (m.val 0 4)) = none) ∧ ((memRead s.cell.imgBytes 0 (m.val 0 4)).length < 256)) ∧
    (∃ (s : State) (m : MgmtMsg), (s.regsWf) ∧ (cellMsg 0x04 s = some m) ∧ (linkRepeat m s = false)) :=
  ⟨⟨{ ((test_cell.setFld LNK.STAT.RX_STATE 3).setFld LNK.C_ADM.STATE 4) with cell := { mgmt := some [0x5071001#64, 0#64, 0x1000C002C#64] } }, { addr := 1, slot := 0, msg := 0x10, tag := 7, uid := 0, payload := [0x2C#8, 0x00#8, 0x0C#8, 0x00#8, 0x01#8] }, 0, 0, by decide⟩,
   ⟨{ ((test_cell.setFld LNK.STAT.RX_STATE 3).setFld LNK.C_ADM.STATE 4) with cell := { mgmt := some [0x5071001#64, 0#64, 0x4000C002C#64] } }, { addr := 1, slot := 0, msg := 0x10, tag := 7, uid := 0, payload := [0x2C#8, 0x00#8, 0x0C#8, 0x00#8, 0x04#8] }, 0, 0, by decide⟩,
   ⟨{ ((test_cell.setFld LNK.STAT.RX_STATE 3).setFld LNK.C_ADM.STATE 4) with cell := { mgmt := some [0xC071101#64, 0#64, 0x100050008#64, 0x4030280#64] } }, { addr := 1, slot := 0, msg := 0x11, tag := 7, uid := 0, payload := [0x08#8, 0x00#8, 0x05#8, 0x00#8, 0x01#8, 0x00#8, 0x00#8, 0x00#8, 0x80#8, 0x02#8, 0x03#8, 0x04#8] }, 0, (regRow? 0x50008).getD ⟨0, 4, 1, 0, 0, 0, 0, 0⟩, by decide⟩,
   ⟨{ (((test_cell.setFld LNK.STAT.RX_STATE 3).setFld LNK.C_ADM.STATE 4).setFld LNK.CTRL.LOOPBACK 4) with cell := { mgmt := some [0x2071201#64, 0#64, 0x500#64] } }, { addr := 1, slot := 0, msg := 0x12, tag := 7, uid := 0, payload := [0x00#8, 0x05#8] }, by decide⟩,
   ⟨{ ((test_cell.setFld LNK.STAT.RX_STATE 3).setFld LNK.C_ADM.STATE 4) with cell := { mgmt := some [0x2071201#64, 0#64, 0x501#64] } }, { addr := 1, slot := 0, msg := 0x12, tag := 7, uid := 0, payload := [0x01#8, 0x05#8] }, by decide⟩,
   ⟨{ ((test_cell.setFld LNK.STAT.RX_STATE 3).setFld LNK.C_ADM.STATE 4) with cell := { mgmt := some [0x2071201#64, 0#64, 0x502#64] } }, { addr := 1, slot := 0, msg := 0x12, tag := 7, uid := 0, payload := [0x02#8, 0x05#8] }, by decide⟩,
   ⟨{ ((test_cell.setFld LNK.STAT.RX_STATE 3).setFld LNK.C_ADM.STATE 4) with cell := { mgmt := some [0x2071201#64, 0#64, 0x503#64] } }, { addr := 1, slot := 0, msg := 0x12, tag := 7, uid := 0, payload := [0x03#8, 0x05#8] }, by decide⟩,
   ⟨{ { ((test_cell.setFld LNK.STAT.RX_STATE 3).setFld LNK.C_ADM.STATE 4) with cell := { mgmt := some [0x5073001#64, 0#64, 0x2001FFFF8#64] } } with strata := { mram := [(2097151, 9#8)] } }, { addr := 1, slot := 0, msg := 0x30, tag := 7, uid := 0, payload := [0xF8#8, 0xFF#8, 0x1F#8, 0x00#8, 0x02#8] }, by decide⟩,
   ⟨{ ((test_cell.setFld LNK.STAT.RX_STATE 3).setFld LNK.C_ADM.STATE 4) with cell := { mgmt := some [0x5073001#64, 0#64, 0x2001FFFFC#64] } }, { addr := 1, slot := 0, msg := 0x30, tag := 7, uid := 0, payload := [0xFC#8, 0xFF#8, 0x1F#8, 0x00#8, 0x02#8] }, by decide⟩,
   ⟨{ ((test_cell.setFld LNK.STAT.RX_STATE 3).setFld LNK.C_ADM.STATE 4) with cell := { mgmt := some [0xB072001#64, 0#64, 0x6A00000068#64, 0xCCBBAA#64],  loader := true } }, { addr := 1, slot := 0, msg := 0x20, tag := 7, uid := 0, payload := [0x68#8, 0x00#8, 0x00#8, 0x00#8, 0x6A#8, 0x00#8, 0x00#8, 0x00#8, 0xAA#8, 0xBB#8, 0xCC#8] }, by decide⟩,
   ⟨{ ((test_cell.setFld LNK.STAT.RX_STATE 3).setFld LNK.C_ADM.STATE 4) with cell := { mgmt := some [0x8072101#64, 0#64, 0x9000000D2#64],  loader := true, imgHave := [0] } }, { addr := 1, slot := 0, msg := 0x21, tag := 7, uid := 0, payload := [0xD2#8, 0x00#8, 0x00#8, 0x00#8, 0x09#8, 0x00#8, 0x00#8, 0x00#8] }, 104, by decide⟩,
   ⟨{ ((test_cell.setFld LNK.STAT.RX_STATE 3).setFld LNK.C_ADM.STATE 4) with cell := { mgmt := some [0x8072101#64, 0#64, 0x50A33C000000004#64],  loader := true, imgHave := [0], imgBytes := [(0, 0x42#8), (1, 0x56#8), (2, 0x58#8), (3, 0x49#8)] } }, { addr := 1, slot := 0, msg := 0x21, tag := 7, uid := 0, payload := [0x04#8, 0x00#8, 0x00#8, 0x00#8, 0xC0#8, 0x33#8, 0x0A#8, 0x05#8] }, by decide⟩,
   ⟨{ ((test_cell.setFld LNK.STAT.RX_STATE 3).setFld LNK.C_ADM.STATE 4) with cell := { mgmt := some [0x4070401#64, 0#64, 0xFFFFFFFB#64] } }, { addr := 1, slot := 0, msg := 0x4, tag := 7, uid := 0, payload := [0xFB#8, 0xFF#8, 0xFF#8, 0xFF#8] }, by decide⟩⟩

theorem test_meets_CellCommandsSetTheGatePattern :
    (∃ (s : State) (f : CellFrame) (rest : List CellFrame), (s.regsWf) ∧ (s.cellLive = true) ∧ (s.cell.frames = f :: rest) ∧ (f.word = true) ∧ (f.code = 1) ∧ (s.flag CEL.STAT.STOP_LATCHED = false) ∧ (routedBlock s = false) ∧ (s.thm.sd = none) ∧ (s.cell.perm = 0) ∧ (s.cell.faults = []) ∧ (s.cell.loader = false) ∧ (s.flag GDC.OVR.EN = false)) ∧
    (∃ (s : State) (f : CellFrame) (rest : List CellFrame), (s.regsWf) ∧ (s.cellLive = true) ∧ (s.cell.frames = f :: rest) ∧ (f.word = true) ∧ (f.code = 2) ∧ (s.flag CEL.STAT.STOP_LATCHED = false) ∧ (routedBlock s = false) ∧ (s.thm.sd = none) ∧ (s.cell.perm = 0) ∧ (s.cell.faults = []) ∧ (s.cell.loader = false) ∧ (s.flag GDC.OVR.EN = false)) ∧
    (∃ (s : State) (f : CellFrame) (rest : List CellFrame), (s.regsWf) ∧ (s.cellLive = true) ∧ (s.cell.frames = f :: rest) ∧ (f.word = true) ∧ (f.code = 3) ∧ (s.flag CEL.STAT.STOP_LATCHED = false) ∧ (routedBlock s = false) ∧ (s.thm.sd = none) ∧ (s.cell.perm = 0) ∧ (s.cell.faults = []) ∧ (s.cell.loader = false) ∧ (s.flag GDC.OVR.EN = false) ∧ (s.flag CEL.STAT.LOW_ENERGY = false) ∧ (s.flag CEL.STAT.BOOT_UV = false) ∧ (f.recharge = false)) ∧
    (∃ (s : State) (f : CellFrame) (rest : List CellFrame), (s.regsWf) ∧ (s.cellLive = true) ∧ (s.cell.frames = f :: rest) ∧ (f.word = true) ∧ (f.code = 4) ∧ (s.flag CEL.STAT.STOP_LATCHED = false) ∧ (routedBlock s = false) ∧ (s.thm.sd = none) ∧ (s.cell.perm = 0) ∧ (s.cell.faults = []) ∧ (s.cell.loader = false) ∧ (s.flag GDC.OVR.EN = false) ∧ (s.flag CEL.STAT.LOW_ENERGY = false) ∧ (s.flag CEL.STAT.BOOT_UV = false) ∧ (f.recharge = false) ∧ (fullBridge s = true)) ∧
    (∃ (s : State) (f : CellFrame) (rest : List CellFrame), (s.regsWf) ∧ (s.cellLive = true) ∧ (s.cell.frames = f :: rest) ∧ (f.word = true) ∧ (f.code = 3) ∧ (s.flag CEL.STAT.STOP_LATCHED = false) ∧ (routedBlock s = false) ∧ (s.thm.sd = none) ∧ (s.cell.perm = 0) ∧ (s.cell.faults = []) ∧ (s.cell.loader = false) ∧ (s.flag GDC.OVR.EN = false) ∧ (f.recharge = true)) ∧
    (∃ (s : State) (f : CellFrame) (rest : List CellFrame), (s.regsWf) ∧ (s.cellLive = true) ∧ (s.cell.frames = f :: rest) ∧ (f.word = true) ∧ (f.code = 0) ∧ (s.flag CEL.STAT.STOP_LATCHED = false) ∧ (routedBlock s = false) ∧ (s.thm.sd = none) ∧ (s.cell.perm = 0) ∧ (s.cell.faults = []) ∧ (s.cell.loader = false) ∧ (s.flag GDC.OVR.EN = false)) ∧
    (∃ (s : State), (s.regsWf) ∧ (s.cellLive = true) ∧ ((min 15 (s.fld CEL.STAT.MISS + 1)) < s.fld CEL.CFG.HOLD_H)) ∧
    (∃ (s : State), (s.regsWf) ∧ (s.cellLive = true) ∧ (s.fld CEL.CFG.HOLD_H ≤ (min 15 (s.fld CEL.STAT.MISS + 1))) ∧ (s.flag CEL.STAT.HOLD_OUT = false) ∧ (s.cell.perm = 0) ∧ (s.cell.faults = [])) ∧
    (∃ (s : State) (_t0 : Nat) (w : BitVec 64), (s.regsWf) ∧ (s.cellLive = true) ∧ (prbsMode s 0 ≠ 1) ∧ (loopback s 0 = 0) ∧ (s.cell.rx.dscr < 2 ^ 58) ∧ (rxState s = rxTrack) ∧ (ctlKind w.toNat = .stop)) ∧
    (∃ (s : State) (_t0 : Nat) (w : BitVec 64), (s.regsWf) ∧ (s.cellLive = true) ∧ (prbsMode s 0 ≠ 1) ∧ (loopback s 0 = 0) ∧ (s.cell.rx.dscr < 2 ^ 58) ∧ (rxState s = rxTrack) ∧ (ctlKind w.toNat = .error)) ∧
    (∃ (s : State) (w : BitVec 64), (s.regsWf) ∧ (s.cellLive = true) ∧ (prbsMode s 0 ≠ 1) ∧ (loopback s 0 = 0) ∧ (s.cell.rx.dscr < 2 ^ 58) ∧ (rxState s = rxTrack) ∧ (ctlKind w.toNat = .abort) ∧ (s.cell.rx.taken = false)) ∧
    (∃ (s : State) (w : BitVec 64), (s.regsWf) ∧ (s.cellLive = true) ∧ (prbsMode s 0 ≠ 1) ∧ (loopback s 0 = 0) ∧ (s.cell.rx.dscr < 2 ^ 58) ∧ (rxState s = rxTrack) ∧ (ctlKind w.toNat ≠ .abort) ∧ (ctlKind w.toNat ≠ .test) ∧ (ctlKind w.toNat ≠ .error)) ∧
    (∃ (s : State) (_fb : Fin 16) (e : GateEdge) (rest : List GateEdge), (s.regsWf) ∧ (s.cell.edges = e :: rest) ∧ (e.pin = .on) ∧ (e.level = true) ∧ (e.sw < 4) ∧ (s.flag GDC.CFG.FB_EN = false)) ∧
    (∃ (s : State) (_fb : Fin 16) (e : GateEdge) (rest : List GateEdge), (s.regsWf) ∧ (s.cell.edges = e :: rest) ∧ (e.pin = .on) ∧ (e.level = false) ∧ (e.sw < 4)) ∧
    (∃ (s : State) (_fb : Fin 16) (e : GateEdge) (rest : List GateEdge), (s.regsWf) ∧ (s.cell.edges = e :: rest) ∧ (e.pin = .mc) ∧ (e.sw < 4)) ∧
    (∃ (s : State) (_fb : Fin 16) (e : GateEdge) (rest : List GateEdge), (s.regsWf) ∧ (s.cell.edges = e :: rest) ∧ (e.pin = .byp) ∧ (s.flag GDC.STAT.BYP_CMD = false)) ∧
    (∃ (s : State) (fb : Fin 16) (e : GateEdge) (rest : List GateEdge), (s.regsWf) ∧ (s.cell.edges = e :: rest) ∧ (e.pin = .on) ∧ (e.level = true) ∧ (e.sw < 4) ∧ (s.flag GDC.CFG.FB_EN = true) ∧ (bitAt fb.val (legMate e.sw) = true)) ∧
    (∃ (s : State) (k : Fin 4) (_t0 : Nat), (s.regsWf) ∧ (s.isCell = true) ∧ (bitAt s.cell.held (legMate k.val) = true)) :=
  ⟨⟨{ (test_cell.setFld GDC.CFG.TYPE 1) with cell := { frames := [{ start := 8000, code := 1, seq := 9 }], want := 10 } }, { start := 8000, code := 1, seq := 9 }, [], by decide⟩,
   ⟨{ (test_cell.setFld GDC.CFG.TYPE 1) with cell := { frames := [{ start := 8000, code := 2, seq := 9 }], want := 10 } }, { start := 8000, code := 2, seq := 9 }, [], by decide⟩,
   ⟨{ (test_cell.setFld GDC.CFG.TYPE 1) with cell := { frames := [{ start := 8000, code := 3, seq := 9 }], want := 10 } }, { start := 8000, code := 3, seq := 9 }, [], by decide⟩,
   ⟨{ (test_cell.setFld GDC.CFG.TYPE 1) with cell := { frames := [{ start := 8000, code := 4 }], want := 10 } }, { start := 8000, code := 4 }, [], by decide⟩,
   ⟨{ (test_cell.setFld GDC.CFG.TYPE 1) with cell := { frames := [{ start := 8000, code := 3, recharge := true }], want := 10 } }, { start := 8000, code := 3, recharge := true }, [], by decide⟩,
   ⟨{ (test_cell.setFld GDC.STAT.STATE 1) with cell := { frames := [{ start := 8000 }], want := 10 } }, { start := 8000 }, [], by decide⟩,
   ⟨(test_cell.setFld CEL.CFG.HOLD_H 4), by decide⟩,
   ⟨{ ((test_cell.setFld CEL.CFG.HOLD_H 4).setFld CEL.STAT.MISS 3) with cell := { want := 9 } }, by decide⟩,
   ⟨{ (test_cell.setFld LNK.STAT.RX_STATE 3) with cell := { want := 9, frames := [{}] } }, 77, 0x963C5AF00FA5C3D3#64, by decide⟩,
   ⟨(test_cell.setFld LNK.STAT.RX_STATE 3), 77, 0x963C5AF00FA5C3FF#64, by decide⟩,
   ⟨{ (test_cell.setFld LNK.STAT.RX_STATE 3) with cell := { frames := [{ start := 8 }], lastStart := some 8, rx := { taken := false, pos := 34 } } }, 0x69C3A50FF05A3C4B#64, by decide⟩,
   ⟨(test_cell.setFld LNK.STAT.RX_STATE 3), 0x1E#64, by decide⟩,
   ⟨{ (test_cell.setFld GDC.CFG.FB_EN 0) with cell := { edges := [{ at_ := 9, sw := 2, pin := .on, level := true }] } }, 5, { at_ := 9, sw := 2, pin := .on, level := true }, [], by decide⟩,
   ⟨{ (test_cell.setFld GDC.STAT.ON 15) with cell := { edges := [{ at_ := 9, sw := 2, pin := .on, level := false }] } }, 5, { at_ := 9, sw := 2, pin := .on, level := false }, [], by decide⟩,
   ⟨{ test_cell with cell := { edges := [{ at_ := 9, sw := 2, pin := .mc, level := true }] } }, 5, { at_ := 9, sw := 2, pin := .mc, level := true }, [], by decide⟩,
   ⟨{ test_cell with cell := { edges := [{ at_ := 9, sw := 0, pin := .byp, level := true }] } }, 5, { at_ := 9, sw := 0, pin := .byp, level := true }, [], by decide⟩,
   ⟨{ (test_cell.setFld GDC.CFG.FB_EN 1) with cell := { edges := [{ at_ := 9, sw := 2, pin := .on, level := true }] } }, 8, { at_ := 9, sw := 2, pin := .on, level := true }, [], by decide⟩,
   ⟨{ test_cell with cell := { held := 4 } }, 3, 90, by decide⟩⟩

theorem test_meets_CellFaultsAreLatchedAndAnswered :
    (∃ (s : State) (k : Fin 4) (t0 : Nat), (s.regsWf) ∧ (s.cellLive = true) ∧ (k.val % 2 = 0) ∧ (bitAt (s.fld GDC.STAT.ON) k.val = true) ∧ (bitAt (s.fld GDC.DSAT_CFG.EN &&& switchMask s) k.val = true) ∧ (bitAt s.cell.soft k.val = false) ∧ (tabGet zeroNat s.cell.onAt k.val + 400 * max 1 (s.fld GDC.DSAT_CFG.BLANK) ≤ t0) ∧ (tabGet zeroNat s.cell.dsatRun k.val = 0)) ∧
    (∃ (s : State) (_k : Fin 4) (_t0 : Nat), (s.regsWf) ∧ (s.cellLive = true)) ∧
    (∃ (s : State) (k : Fin 4) (t0 : Nat), (s.regsWf) ∧ (bitAt s.cell.soft k.val = true) ∧ (tabGet zeroNat s.cell.offAt k.val ≤ t0 + 1)) ∧
    (∃ (s : State) (k : Fin 4) (t0 : Nat), (s.regsWf) ∧ (t0 + 1 < tabGet zeroNat s.cell.offAt k.val)) ∧
    (∃ (s : State) (k : Fin 4) (t0 : Nat), (s.regsWf) ∧ (s.cellLive = true) ∧ (s.flag GDC.CFG.FB_EN = true) ∧ (bitAt (s.fld GDC.STAT.ON) k.val = true) ∧ (k.val % 2 = 0) ∧ (gateEdgeAt s k.val + 80 * max 1 (s.fld GDC.CFG.FB_TMO) ≤ t0)) ∧
    (∃ (s : State) (t0 : Nat), (s.regsWf) ∧ (s.cellLive = true) ∧ (s.flag GDC.STAT.BYP_CMD = true) ∧ (s.flag GDC.STAT.BYP_FB = false) ∧ (s.cell.bypAt + 8000000 * max 1 (s.fld GDC.BYP_CFG.BYP_TMO) ≤ t0)) ∧
    (∃ (s : State) (_t0 : Nat), (s.regsWf) ∧ (s.isCell = true) ∧ (s.cell.perm = 0)) ∧
    (∃ (s : State) (k : Fin 4) (t0 : Nat), (s.regsWf) ∧ (s.cellLive = true) ∧ (k.val % 2 = 1) ∧ (bitAt (s.fld GDC.STAT.ON) k.val = true) ∧ (bitAt (s.fld GDC.DSAT_CFG.EN &&& switchMask s) k.val = true) ∧ (bitAt s.cell.soft k.val = false) ∧ (tabGet zeroNat s.cell.onAt k.val + 400 * max 1 (s.fld GDC.DSAT_CFG.BLANK) ≤ t0) ∧ (tabGet zeroNat s.cell.dsatRun k.val = 0) ∧ (s.cell.perm = 0) ∧ (s.flag CEL.STAT.STOP_LATCHED = false) ∧ (routedBlock s = false) ∧ (s.thm.sd = none)) ∧
    (∃ (s : State) (k : Fin 4) (t0 : Nat), (s.regsWf) ∧ (s.cellLive = true) ∧ (s.flag GDC.CFG.FB_EN = true) ∧ (bitAt (s.fld GDC.STAT.ON) k.val = true) ∧ (k.val % 2 = 1) ∧ (gateEdgeAt s k.val + 80 * max 1 (s.fld GDC.CFG.FB_TMO) ≤ t0) ∧ (s.cell.perm = 0) ∧ (s.flag CEL.STAT.STOP_LATCHED = false) ∧ (routedBlock s = false) ∧ (s.thm.sd = none)) ∧
    (∃ (s : State) (k : Fin 4) (t0 : Nat), (s.regsWf) ∧ (s.cellLive = true) ∧ (s.flag GDC.CFG.FB_EN = true) ∧ (bitAt (s.fld GDC.STAT.ON) k.val = false) ∧ (gateEdgeAt s k.val + 80 * max 1 (s.fld GDC.CFG.FB_TMO) ≤ t0) ∧ (s.cell.perm = 0) ∧ (s.flag CEL.STAT.STOP_LATCHED = false) ∧ (routedBlock s = false) ∧ (s.thm.sd = none)) ∧
    (∃ (s : State) (_t0 : Nat), (s.regsWf) ∧ (s.cellLive = true) ∧ (s.cell.perm = 1) ∧ (s.flag CEL.STAT.STOP_LATCHED = false) ∧ (routedBlock s = false) ∧ (s.thm.sd = none)) ∧
    (∃ (s : State) (p : Path), (s.regsWf) ∧ (Reaches p GDC.FLT_CLR.addr s) ∧ (s.isCell = true) ∧ (s.fld GDC.STAT.STATE < 2) ∧ ((s.cell.faults.filter latchingFault).all (fun (x : Nat) => causeGone s x) = true)) ∧
    (∃ (s : State) (p : Path), (s.regsWf) ∧ (Reaches p GDC.FLT_CLR.addr s) ∧ (s.isCell = true) ∧ (2 ≤ s.fld GDC.STAT.STATE)) ∧
    (∃ (s : State) (p : Path) (w : W32), (s.regsWf) ∧ (Reaches p GDC.OVR.addr s) ∧ (s.isCell = true) ∧ (s.fld GDC.STAT.STATE < 2) ∧ (bitAt w.toNat 31 = true) ∧ (s.cell.hdrBlk = true) ∧ ((bitAt w.toNat 0 && bitAt w.toNat 1) = false) ∧ ((bitAt w.toNat 2 && bitAt w.toNat 3) = false)) ∧
    (∃ (s : State) (p : Path) (w : W32), (s.regsWf) ∧ (Reaches p GDC.OVR.addr s) ∧ (s.cellLive = true) ∧ (s.fld GDC.STAT.STATE < 2) ∧ (bitAt w.toNat 31 = true) ∧ (s.cell.hdrBlk = true) ∧ (bitsAt w.toNat 0 4 = 3) ∧ (forcedState s = none)) :=
  ⟨⟨((test_cell.setFld GDC.STAT.ON 1).setFld GDC.DSAT_CFG.EN 15), 0, 200000, by decide⟩,
   ⟨{ ((test_cell.setFld GDC.STAT.ON 1).setFld GDC.STAT.DSAT 15) with cell := { dsatRun := [(2, 3)] } }, 2, 200000, by decide⟩,
   ⟨{ (test_cell.setFld GDC.STAT.STO 4) with cell := { soft := 4, offAt := [(2, 91)] } }, 2, 90, by decide⟩,
   ⟨{ test_cell with cell := { soft := 4, offAt := [(2, 92)] } }, 2, 90, by decide⟩,
   ⟨((test_cell.setFld GDC.STAT.ON 4).setFld GDC.CFG.FB_EN 1), 2, 900000, by decide⟩,
   ⟨(test_cell.setFld GDC.STAT.BYP_CMD 1), 80000000000, by decide⟩,
   ⟨test_cell, 7, by decide⟩,
   ⟨((test_cell.setFld GDC.STAT.ON 2).setFld GDC.DSAT_CFG.EN 15), 1, 200000, by decide⟩,
   ⟨((test_cell.setFld GDC.STAT.ON 8).setFld GDC.CFG.FB_EN 1), 3, 900000, by decide⟩,
   ⟨(test_cell.setFld GDC.CFG.FB_EN 1), 2, 900000, by decide⟩,
   ⟨{ test_cell with cell := { perm := 1, want := 10 } }, 7, by decide⟩,
   ⟨{ test_cell with cell := { faults := [0x81, 0x85] } }, .mgmt, by decide⟩,
   ⟨{ (test_cell.setFld GDC.STAT.STATE 2) with cell := { faults := [0x81, 0x85] } }, .mgmt, by decide⟩,
   ⟨{ test_cell with cell := { hdrBlk := true } }, .mgmt, 0x80000009#32, by decide⟩,
   ⟨{ test_cell with cell := { hdrBlk := true, want := 2 } }, .mgmt, 0x80000003#32, by decide⟩⟩

theorem test_meets_CellSupervisesItself :
    (∃ (s : State) (p : Path) (w : W32) (i : Nat) (rest : List Nat), (s.regsWf) ∧ (Reaches p GDC.SELFTEST.addr s) ∧ (s.isCell = true) ∧ (s.fld GDC.STAT.STATE < 2) ∧ (s.flag GDC.OVR.EN = false) ∧ (s.fld GDC.STAT.ON = 0) ∧ (s.fld GDC.ST_RES.STATE ≠ 1) ∧ (stItems (bitsAt w.toNat 0 8) (bitsAt w.toNat 8 4) = i :: rest) ∧ (i < 8)) ∧
    (∃ (s : State) (_vs : List Int) (up dn : List Bool) (_t0 : Nat) (i : Nat), (s.regsWf) ∧ (s.cell.stItem = some i) ∧ (8 ≤ i) ∧ (s.cell.stLeft = []) ∧ (dsatAsserts 0 up = true) ∧ ((dn.reverse.take 4).all id = false)) ∧
    (∃ (s : State) (vs : List Int) (_up _dn : List Bool) (_t0 : Nat) (i : Nat), (s.regsWf) ∧ (s.cell.stItem = some i) ∧ (i < 8) ∧ (s.cell.stLeft = []) ∧ (s.flag (CMP.CCFG.EN.at (cmpOff i)) = true) ∧ (s.flag (CMP.CSTAT.LATCH.at (cmpOff i)) = true) ∧ ((stRemove vs s).flag (CMP.CSTAT.FILT.at (cmpOff i)) = false)) ∧
    (∃ (s : State) (_vs : List Int) (up dn : List Bool) (_t0 : Nat) (i : Nat), (s.regsWf) ∧ (s.cellLive = true) ∧ (s.cell.stItem = some i) ∧ (8 ≤ i) ∧ (s.cell.stLeft = []) ∧ (dsatAsserts 0 up = false ∨ (dn.reverse.take 4).all id = true) ∧ (i < 12)) ∧
    (∃ (s : State) (_conv : List Int) (_t0 _vhold : Nat), (s.regsWf) ∧ (s.cellLive = true)) ∧
    (∃ (s : State) (t0 vhold : Nat), (s.regsWf) ∧ (s.cellLive = true) ∧ (8000 * 2 ^ 24 * (s.cell.wearTicks + 1) ≤ t0) ∧ ((lssRequest .wear 1 0 vhold s).2 = true)) ∧
    (∃ (w : Nat) (a b : List Byte), (w < 2 ^ 32) ∧ (max (wearSeq a) (wearSeq b) < 2 ^ 32)) :=
  ⟨⟨test_cell, .mgmt, 0x304#32, 2, [8, 9], by decide⟩,
   ⟨{ test_cell with cell := { stItem := some 9 } }, [], [false, true, true, true, true], [true, false, true, true], 80, 9, by decide⟩,
   ⟨{ (((test_cell.setFld (CMP.CCFG.TEST.at (cmpOff 4)) 1).setFld (CMP.CSTAT.LATCH.at (cmpOff 4)) 1).setFld (CMP.CSTAT.FILT.at (cmpOff 4)) 0) with cell := { stItem := some 4 } }, [], [], [], 80, 4, by decide⟩,
   ⟨{ test_cell with cell := { stItem := some 9 } }, [], [], [], 80, 9, by decide⟩,
   ⟨test_cell, [5], 80000, 3000, by decide⟩,
   ⟨{ ((test_cell.setFld LSS.HOLD_CFG.C_UF 220).setFld CEL.WEAR.WEAR 77) with lss := { marker := true } }, 200000000000, 4000, by decide⟩,
   ⟨77, [], wearBytes 3 9, by decide⟩⟩

theorem test_meets_KaolinMetersSamplesAndBlocks :
    (∃ (s : State) (codes : List Int) (_late : List (Nat × Int × Int)), (s.regsWf) ∧ (s.sys.vddm = true) ∧ (s.kao.live.k < 3200) ∧ (s.kao.live.set ≠ []) ∧ (setAc s.kao.live.set = true) ∧ (∀ c : Fin 6, (codes.getD c.val 0).natAbs < 2 ^ 23 - 1)) ∧
    (∃ (s : State) (codes : List Int), (s.regsWf) ∧ (s.sys.vddm = true) ∧ (s.kao.live.k < 3200) ∧ (s.kao.live.set = []) ∧ (∀ c : Fin 6, (codes.getD c.val 0).natAbs < 2 ^ 23 - 1)) ∧
    (∃ (s : State) (_warn : Bool), (s.regsWf) ∧ (s.sys.vddm = true) ∧ (s.kao.live.k = 3200) ∧ (s.kao.live.set ≠ []) ∧ (s.kao.live.nextSet = none) ∧ (3200 * setNat s.kao.live.set 0xC 4 ≤ s.kao.live.abs1)) ∧
    (∃ (s : State) (_warn : Bool), (s.regsWf) ∧ (s.sys.vddm = true) ∧ (s.kao.live.k = 3200) ∧ (s.kao.live.set ≠ []) ∧ (s.kao.live.nextSet = none) ∧ (s.kao.live.abs1 < 3200 * setNat s.kao.live.set 0xC 4)) ∧
    (∃ (s : State), (s.regsWf) ∧ (s.sys.vddm = true) ∧ (s.kao.live.k = 0) ∧ (s.kao.live.set ≠ []) ∧ (10 * s.kao.live.ivlEnd ≤ s.kao.live.tenths) ∧ (s.kao.live.nextSet = none) ∧ (booksHold s.kao.live.dc = true) ∧ (booksHold s.kao.live.ac = true)) ∧
    (∃ (s : State) (_done _off : Bool), (s.regsWf) ∧ (s.sys.vddm = true)) ∧
    (∃ (s : State) (x : Nat × KaoLive), (s.regsWf) ∧ (s.sys.vddm = false) ∧ (kaoNewest s.kao = some x) ∧ (s.kao.torn = false)) ∧
    (∃ (s : State) (_sealLow : Bool), (s.regsWf) ∧ (s.sys.vddm = false) ∧ (kaoNewest s.kao = none)) :=
  ⟨⟨{ test_hub with kao := { live := { set := test_kaoSet } } }, [100000, -20000, 3000, 4000, 500, 8388606], [(2, 5, 2900), (3, 5, 3900), (4, 5, 400), (5, 5, 8388000)], by decide⟩,
   ⟨{ test_hub with kao := { live := {  } } }, [1, 2], by decide⟩,
   ⟨{ test_hub with kao := { live := { set := test_kaoSet, k := 3200, abs1 := 1600000, dc := { imp := 2 ^ 40, sImp := 2 ^ 45, sExp := 3, sNet := 2 ^ 45 - 3 } } } }, true, by decide⟩,
   ⟨{ test_hub with kao := { live := { set := test_kaoSet, k := 3200, abs1 := 1599999, dc := { imp := 2 ^ 40, sImp := 2 ^ 45, sExp := 3, sNet := 2 ^ 45 - 3 } } } }, false, by decide⟩,
   ⟨{ test_hub with kao := { live := { set := test_kaoSet, tenths := 9000, ivlEnd := 900, noload := 4, dc := { imp := 7, net := 7, rev := 2 } } } }, by decide⟩,
   ⟨{ test_hub with kao := { live := { set := test_kaoSet } } }, true, true, by decide⟩,
   ⟨{ test_hub with sys := { test_hub.sys with vddm := false }, kao := { live := { set := test_kaoSet }, commits := [some (4, { seq := 9 }), some (5, { state := 1, seq := 77 })] } }, (5, { state := 1, seq := 77 }), by decide⟩,
   ⟨{ test_hub with sys := { test_hub.sys with vddm := false }, kao := { live := { set := test_kaoSet } } }, false, by decide⟩⟩

theorem test_meets_KaolinSealsAndTakesSets :
    (∃ (s : State) (p : Path), (s.regsWf) ∧ (Reaches p SYS.KAO_CMD.addr s) ∧ (s.flag SYS.KAO_EVT.CMD_BUSY = false)) ∧
    (∃ (s : State), (s.regsWf) ∧ (Reaches .spi SYS.KAO_CMD.addr s) ∧ (s.flag SYS.KAO_EVT.CMD_BUSY = true) ∧ (s.flag HST.AERR.VALID = false)) ∧
    (∃ (s : State) (a : Option (List Byte × Nat × Nat × Nat)), (s.regsWf) ∧ (s.sys.vddm = true) ∧ (s.kao.arg = some a) ∧ (s.kao.sealLow = false)) ∧
    (∃ (s : State), (s.regsWf) ∧ (s.sys.vddm = true) ∧ (s.kao.arg = some none) ∧ (s.kao.sealLow = true) ∧ (s.kao.live.state = 1)) ∧
    (∃ (s : State), (s.regsWf) ∧ (s.sys.vddm = true) ∧ (s.kao.arg = some none) ∧ (s.kao.sealLow = true) ∧ (s.kao.live.state ≠ 1)) ∧
    (∃ (s : State) (q : List Byte) (len cmin cmax : Nat), (s.regsWf) ∧ (s.sys.vddm = true) ∧ (s.kao.arg = some (some (q, len, cmin, cmax))) ∧ (s.kao.sealLow = true) ∧ (cmin ≤ 1) ∧ (1 ≤ cmax) ∧ (kaoSetOk len q = true)) ∧
    (∃ (s : State) (q : List Byte) (len cmin cmax : Nat), (s.regsWf) ∧ (s.sys.vddm = true) ∧ (s.kao.arg = some (some (q, len, cmin, cmax))) ∧ (s.kao.sealLow = true) ∧ (1 < cmin ∨ cmax = 0)) ∧
    (∃ (s : State) (q : List Byte) (len cmin cmax : Nat), (s.regsWf) ∧ (s.sys.vddm = true) ∧ (s.kao.arg = some (some (q, len, cmin, cmax))) ∧ (s.kao.sealLow = true) ∧ (cmin ≤ 1) ∧ (1 ≤ cmax) ∧ (kaoSetOk len q = false)) ∧
    (∃ (s : State), (s.regsWf)) ∧
    (∃ (s : State), (s.regsWf) ∧ (s.sys.vddm = true) ∧ (s.kao.live.state = 2) ∧ (s.kao.live.nextSet.getD s.kao.live.set ≠ [])) ∧
    (∃ (s : State), (s.regsWf) ∧ (s.sys.vddm = true) ∧ (s.kao.live.state = 2) ∧ (s.kao.live.set = []) ∧ (s.kao.live.nextSet = none)) ∧
    (∃ (s : State), (s.regsWf) ∧ (s.kao.live.state ≠ 2)) ∧
    (∃ (s : State) (x : Nat × KaoLive), (s.regsWf) ∧ (s.sys.vddm = false) ∧ (kaoNewest s.kao = some x) ∧ (s.kao.torn = false) ∧ (x.2.state = 2) ∧ (((sealedSince s.kao (some x.1)).orElse (fun _ => x.2.nextSet)).getD x.2.set ≠ [])) :=
  ⟨⟨{ test_hub with kao := { live := { set := test_kaoSet } } }, .pcie, by decide⟩,
   ⟨(test_hub.setFlag SYS.KAO_EVT.CMD_BUSY true), by decide⟩,
   ⟨{ test_hub with kao := { live := { state := 1, set := test_kaoSet }, arg := some none } }, none, by decide⟩,
   ⟨{ test_hub with kao := { live := { state := 1, unsealCnt := 2 ^ 32 - 1, set := test_kaoSet }, arg := some none, sealLow := true } }, by decide⟩,
   ⟨{ test_hub with kao := { live := { state := 0 }, arg := some none, sealLow := true } }, by decide⟩,
   ⟨{ test_hub with kao := { live := { state := 0, set := test_kaoSet }, arg := some (some (test_kaoSet, 512, 1, 1)), sealLow := true } }, test_kaoSet, 512, 1, 1, by decide⟩,
   ⟨{ test_hub with kao := { live := { state := 0, set := test_kaoSet }, arg := some (some (test_kaoSet, 512, 2, 2)), sealLow := true } }, test_kaoSet, 512, 2, 2, by decide⟩,
   ⟨{ test_hub with kao := { live := { state := 0, set := test_kaoSet }, arg := some (some (test_kaoSet, 511, 0, 9)), sealLow := true } }, test_kaoSet, 511, 0, 9, by decide⟩,
   ⟨test_hub, by decide⟩,
   ⟨{ test_hub with kao := { live := { state := 2, set := test_kaoSet }, sealLow := true } }, by decide⟩,
   ⟨{ test_hub with kao := { live := { state := 2 }, sealLow := true } }, by decide⟩,
   ⟨{ test_hub with kao := { live := { state := 1 }, sealLow := true } }, by decide⟩,
   ⟨{ test_hub with sys := { test_hub.sys with vddm := false }, kao := { live := {  }, commits := [some (4, { state := 2, set := [1#8] }), none] } }, (4, { state := 2, set := [1#8] }), by decide⟩⟩

theorem test_meets_KaolinPulsesAndVerificationPort :
    (∃ (s : State) (k : Fin 2) (since : Nat), (s.regsWf) ∧ (s.sys.vddm = true) ∧ (0 < (s.kao.live.outs.getD k.val {}).backlog) ∧ (2 * (setPulse s.kao.live.set k.val).2.1 ≤ since)) ∧
    (∃ (s : State) (k : Fin 2) (since : Nat), (s.regsWf) ∧ (since < 2 * (setPulse s.kao.live.set k.val).2.1)) ∧
    (∃ (s : State) (k : Fin 4) (since : Nat), (s.regsWf) ∧ (s.sys.vddm = true) ∧ (bitAt s.kao.active k.val = false) ∧ (s.kao.live.set ≠ []) ∧ (setPeriod s.kao.live.set k.val ≤ since)) ∧
    (∃ (s : State) (k : Fin 4) (since : Nat), (s.regsWf) ∧ (s.sys.vddm = true) ∧ (bitAt s.kao.active k.val = false) ∧ (s.kao.live.set ≠ []) ∧ (since < setPeriod s.kao.live.set k.val)) ∧
    (∃ (s : State) (k : Fin 4) (held : Nat), (s.regsWf) ∧ (s.sys.vddm = true) ∧ (bitAt s.kao.active k.val = true) ∧ (bitAt s.kao.pstat k.val = false) ∧ (1000 * setNat s.kao.live.set (0x1B2 + 4 * k.val) 2 < held)) ∧
    (∃ (s : State) (k : Fin 4) (held : Nat), (s.regsWf) ∧ (held ≤ 1000 * setNat s.kao.live.set (0x1B2 + 4 * k.val) 2)) ∧
    (∃ (s : State) (_k : Fin 4), (s.regsWf)) ∧
    (∃ (s : State), (s.regsWf) ∧ (s.sys.vddm = true)) ∧
    (∃ (s : State), (s.regsWf) ∧ (s.sys.vddm = true)) ∧
    (∃ (s : State), (s.regsWf) ∧ (s.sys.vddm = true)) ∧
    (∃ (s : State) (n : Nat) (r : List Byte), (s.regsWf) ∧ (s.sys.vddm = true) ∧ (s.kao.recs.find? (fun r => leNat ((r.drop 4).take 4) == n) = some r)) ∧
    (∃ (s : State) (n : Nat), (s.regsWf) ∧ (s.sys.vddm = true) ∧ (s.kao.recs.find? (fun r => leNat ((r.drop 4).take 4) == n) = none)) ∧
    (∃ (s : State), (s.regsWf) ∧ (s.sys.vddm = true)) ∧
    (∃ (s : State) (u : Nat), (s.regsWf) ∧ (s.sys.vddm = true) ∧ (u < 2 ^ 64) ∧ (s.kao.live.state ≠ 1 ∨ s.kao.live.timeInvalid = true)) ∧
    (∃ (s : State) (u : Nat), (s.regsWf) ∧ (s.sys.vddm = true) ∧ (u < 2 ^ 64) ∧ (s.kao.live.state = 1) ∧ (s.kao.live.timeInvalid = false) ∧ (s.kao.live.lastStep = none) ∧ (u ≤ (s.kao.live.tenths / 10) + 10) ∧ ((s.kao.live.tenths / 10) ≤ u + 10)) ∧
    (∃ (s : State) (u v : Nat), (s.regsWf) ∧ (s.sys.vddm = true) ∧ (u < 2 ^ 64) ∧ (s.kao.live.state = 1) ∧ (s.kao.live.timeInvalid = false) ∧ ((s.kao.live.tenths / 10) + 10 < u ∨ u + 10 < (s.kao.live.tenths / 10) ∨ (s.kao.live.lastStep = some v ∧ (s.kao.live.tenths / 10) < v + 86400))) :=
  ⟨⟨{ test_hub with kao := { live := { set := test_kaoSet, outs := [{}, { backlog := 1, count := 2 ^ 32 - 1 }] } } }, 1, 2000, by decide⟩,
   ⟨{ test_hub with kao := { live := { set := test_kaoSet, outs := [{}, { backlog := 1, count := 2 ^ 32 - 1 }] } } }, 1, 0, by decide⟩,
   ⟨{ test_hub with kao := { live := { set := test_kaoSet } } }, 3, 10, by decide⟩,
   ⟨{ test_hub with kao := { live := { set := test_kaoSet } } }, 3, 9, by decide⟩,
   ⟨{ test_hub with kao := { live := { set := test_kaoSet }, active := 8 } }, 3, 60001, by decide⟩,
   ⟨{ test_hub with kao := { live := { set := test_kaoSet }, active := 8 } }, 3, 1000, by decide⟩,
   ⟨{ test_hub with kao := { live := { set := test_kaoSet }, active := 8, pstat := 8 } }, 3, by decide⟩,
   ⟨{ test_hub with kao := { live := { unsealCnt := 12 } } }, by decide⟩,
   ⟨{ test_hub with kao := { live := { dc := { imp := 2 ^ 33, net := 2 ^ 33 } } } }, by decide⟩,
   ⟨{ test_hub with kao := { live := {  } } }, by decide⟩,
   ⟨{ test_hub with kao := { live := {  }, recs := [[1#8, 2#8, 0#8, 0#8, 9#8, 0#8, 0#8, 0#8]] } }, 9, [1#8, 2#8, 0#8, 0#8, 9#8, 0#8, 0#8, 0#8], by decide⟩,
   ⟨{ test_hub with kao := { live := {  } } }, 9, by decide⟩,
   ⟨{ test_hub with kao := { live := {  } } }, by decide⟩,
   ⟨{ test_hub with kao := { live := { state := 0 } } }, 1700000000, by decide⟩,
   ⟨{ test_hub with kao := { live := { state := 1, tenths := 1000 } } }, 110, by decide⟩,
   ⟨{ test_hub with kao := { live := { state := 1, tenths := 1000 } } }, 111, 0, by decide⟩⟩

theorem test_meets_MarlTicksEvaluateInputsAndOutputs :
    (∃ (s : State) (b : Bool) (_c1 _c2 : Fin 65536) (_rb : Fin 256) (_code0 _code1 : Fin 4096) (k : Fin 16), (s.regsWf) ∧ (s.sys.vddf = true) ∧ (s.marl.found = 0) ∧ ((s.marl.ch b).next = none) ∧ (s.marl.state ≠ 2) ∧ (s.marl.a.ins.length = 16) ∧ (s.marl.b.ins.length = 16) ∧ (mInEn (s.marl.ch b).set k.val = true) ∧ (((s.marl.ch b).ins.getD k.val {}).disc = false) ∧ (((s.marl.ch (!b)).ins.getD k.val {}).disc = false) ∧ (((s.marl.ch b).ins.getD k.val {}).count < mDiscMs (s.marl.ch b).set k.val)) ∧
    (∃ (s : State) (b : Bool) (_c1 _c2 : Fin 65536) (_rb : Fin 256) (_code0 _code1 : Fin 4096), (s.regsWf) ∧ (s.sys.vddf = true) ∧ (s.marl.found = 0) ∧ ((s.marl.ch b).next = none) ∧ (s.marl.state = 1)) ∧
    (∃ (s : State) (b : Bool) (_c1 _c2 : Fin 65536) (_rb : Fin 256) (_code0 _code1 : Fin 4096), (s.regsWf) ∧ (s.sys.vddf = true) ∧ (s.marl.found = 0) ∧ ((s.marl.ch b).next = none) ∧ (s.marl.state = 0)) ∧
    (∃ (s : State) (_b : Bool) (_c1 _c2 : Fin 65536) (_rb : Fin 256) (_code0 _code1 : Fin 4096), (s.regsWf) ∧ (s.marl.state = 2)) ∧
    (∃ (s : State) (b : Bool) (_c1 _c2 : Fin 65536) (_rb : Fin 256) (code0 code1 : Fin 4096) (i : Fin 2), (s.regsWf) ∧ (s.sys.vddf = true) ∧ (s.marl.found = 0) ∧ ((s.marl.ch b).next = none) ∧ (s.marl.state ≠ 2) ∧ ((s.marl.ch b).pairs.length = 2) ∧ ((s.marl.ch (!b)).pairs.length = 2) ∧ (mPairEn (s.marl.ch b).set i.val = true) ∧ (((s.marl.ch b).pairs.getD i.val {}).broken = false) ∧ (((s.marl.ch b).pairs.getD i.val {}).xc = false) ∧ (((s.marl.ch (!b)).pairs.getD i.val {}).broken = false) ∧ (((s.marl.ch (!b)).pairs.getD i.val {}).xc = false) ∧ ((((([code0.val, code1.val].getD i.val 0) : Int) - ((mPair (s.marl.ch b).set i.val 0) : Nat)).natAbs ≤ (mPair (s.marl.ch b).set i.val 1))) ∧ ((((((s.marl.ch (!b)).codes.getD i.val 0) : Int) - ((mPair (s.marl.ch b).set i.val 0) : Nat)).natAbs ≤ (mPair (s.marl.ch b).set i.val 1))) ∧ (¬ (([code0.val, code1.val].getD i.val 0) < (mPair (s.marl.ch b).set i.val 2) ∨ (mPair (s.marl.ch b).set i.val 3) < ([code0.val, code1.val].getD i.val 0))) ∧ (¬ (((s.marl.ch (!b)).codes.getD i.val 0) < (mPair (s.marl.ch b).set i.val 2) ∨ (mPair (s.marl.ch b).set i.val 3) < ((s.marl.ch (!b)).codes.getD i.val 0))) ∧ (¬ (((([code0.val, code1.val].getD i.val 0) : Int) - (((s.marl.ch (!b)).codes.getD i.val 0) : Int)).natAbs > (mPair (s.marl.ch b).set i.val 4)))) ∧
    (∃ (s : State) (b : Bool) (_c1 _c2 : Fin 65536) (_rb : Fin 256) (code0 code1 : Fin 4096) (i : Fin 2), (s.regsWf) ∧ (s.sys.vddf = true) ∧ (s.marl.found = 0) ∧ ((s.marl.ch b).next = none) ∧ (s.marl.state ≠ 2) ∧ ((s.marl.ch b).pairs.length = 2) ∧ ((s.marl.ch (!b)).pairs.length = 2) ∧ (mPairEn (s.marl.ch b).set i.val = true) ∧ (((s.marl.ch b).pairs.getD i.val {}).broken = false) ∧ (((s.marl.ch b).pairs.getD i.val {}).xc = false) ∧ (((s.marl.ch (!b)).pairs.getD i.val {}).broken = false) ∧ (((s.marl.ch (!b)).pairs.getD i.val {}).xc = false) ∧ (¬ (((([code0.val, code1.val].getD i.val 0) : Int) - ((mPair (s.marl.ch b).set i.val 0) : Nat)).natAbs ≤ (mPair (s.marl.ch b).set i.val 1)) ∨ ¬ (((((s.marl.ch (!b)).codes.getD i.val 0) : Int) - ((mPair (s.marl.ch b).set i.val 0) : Nat)).natAbs ≤ (mPair (s.marl.ch b).set i.val 1)))) ∧
    (∃ (s : State) (b : Bool) (_c1 _c2 : Fin 65536) (_rb : Fin 256) (code0 code1 : Fin 4096) (i : Fin 2), (s.regsWf) ∧ (s.sys.vddf = true) ∧ (s.marl.found = 0) ∧ ((s.marl.ch b).next = none) ∧ (s.marl.state ≠ 2) ∧ ((s.marl.ch b).pairs.length = 2) ∧ ((s.marl.ch (!b)).pairs.length = 2) ∧ (mPairEn (s.marl.ch b).set i.val = true) ∧ (((s.marl.ch b).pairs.getD i.val {}).broken = false) ∧ (((s.marl.ch b).pairs.getD i.val {}).xc = false) ∧ (((s.marl.ch (!b)).pairs.getD i.val {}).broken = false) ∧ (((s.marl.ch (!b)).pairs.getD i.val {}).xc = false) ∧ ((([code0.val, code1.val].getD i.val 0) < (mPair (s.marl.ch b).set i.val 2) ∨ (mPair (s.marl.ch b).set i.val 3) < ([code0.val, code1.val].getD i.val 0)) ∨ (((s.marl.ch (!b)).codes.getD i.val 0) < (mPair (s.marl.ch b).set i.val 2) ∨ (mPair (s.marl.ch b).set i.val 3) < ((s.marl.ch (!b)).codes.getD i.val 0)))) ∧
    (∃ (s : State) (b : Bool) (_c1 _c2 : Fin 65536) (_rb : Fin 256) (code0 code1 : Fin 4096) (i : Fin 2), (s.regsWf) ∧ (s.sys.vddf = true) ∧ (s.marl.found = 0) ∧ ((s.marl.ch b).next = none) ∧ (s.marl.state ≠ 2) ∧ ((s.marl.ch b).pairs.length = 2) ∧ ((s.marl.ch (!b)).pairs.length = 2) ∧ (mPairEn (s.marl.ch b).set i.val = true) ∧ (((s.marl.ch b).pairs.getD i.val {}).broken = false) ∧ (((s.marl.ch b).pairs.getD i.val {}).xc = false) ∧ (((s.marl.ch (!b)).pairs.getD i.val {}).broken = false) ∧ (((s.marl.ch (!b)).pairs.getD i.val {}).xc = false) ∧ ((((([code0.val, code1.val].getD i.val 0) : Int) - (((s.marl.ch (!b)).codes.getD i.val 0) : Int)).natAbs > (mPair (s.marl.ch b).set i.val 4)))) ∧
    (∃ (s : State) (b : Bool) (_c1 _c2 : Fin 65536) (rb : Fin 256) (_code0 _code1 : Fin 4096) (k : Fin 8), (s.regsWf) ∧ (s.sys.vddf = true) ∧ (s.marl.found = 0) ∧ ((s.marl.ch b).next = none) ∧ (s.marl.state = 1) ∧ (mOutEn (s.marl.ch b).set k.val = true) ∧ (s.marl.a.outs.length = 8) ∧ (s.marl.b.outs.length = 8) ∧ (((s.marl.ch b).outs.getD k.val {}).cmd = false) ∧ (bitAt rb.val k.val = true) ∧ (mOffChk (s.marl.ch b).set k.val ≤ ((s.marl.ch b).outs.getD k.val {}).offTicks + 1)) ∧
    (∃ (s : State) (b : Bool) (_c1 _c2 : Fin 65536) (rb : Fin 256) (_code0 _code1 : Fin 4096) (k : Fin 8), (s.regsWf) ∧ (s.sys.vddf = true) ∧ (s.marl.found = 0) ∧ ((s.marl.ch b).next = none) ∧ (s.marl.state = 1) ∧ (mOutEn (s.marl.ch b).set k.val = true) ∧ (s.marl.a.outs.length = 8) ∧ (s.marl.b.outs.length = 8) ∧ (((s.marl.ch b).outs.getD k.val {}).cmd = true) ∧ (((s.marl.ch b).outs.getD k.val {}).win = false) ∧ (((s.marl.ch (!b)).outs.getD k.val {}).win = false) ∧ (1 ≤ ((s.marl.ch b).outs.getD k.val {}).winAge) ∧ (bitAt rb.val k.val = false) ∧ (1 ≤ ((s.marl.ch b).outs.getD k.val {}).lowRun)) ∧
    (∃ (s : State) (b : Bool) (_c1 _c2 : Fin 65536) (_rb : Fin 256) (_code0 _code1 : Fin 4096) (k : Fin 8), (s.regsWf) ∧ (s.sys.vddf = true) ∧ (s.marl.found = 0) ∧ ((s.marl.ch b).next = none) ∧ (s.marl.state = 1) ∧ (mOutEn (s.marl.ch b).set k.val = true) ∧ (s.marl.a.outs.length = 8) ∧ (s.marl.b.outs.length = 8) ∧ (((s.marl.ch b).outs.getD k.val {}).cmd = true) ∧ (((s.marl.ch b).outs.getD k.val {}).win = true ∨ ((s.marl.ch (!b)).outs.getD k.val {}).win = true ∨ ((s.marl.ch b).outs.getD k.val {}).winAge = 0) ∧ (((s.marl.ch b).outs.getD k.val {}).faults = 0) ∧ (((s.marl.ch (!b)).outs.getD k.val {}).faults = 0)) ∧
    (∃ (s : State) (b : Bool) (c1 c2 : Fin 65536) (_rb : Fin 256) (_code0 _code1 : Fin 4096), (s.regsWf) ∧ (s.sys.vddf = true) ∧ (s.marl.found = 0) ∧ ((s.marl.ch b).next = none) ∧ (s.marl.state = 1) ∧ ((s.marl.ch b).set ≠ []) ∧ (mInEn (s.marl.ch b).set (mResetIn (s.marl.ch b).set) = true) ∧ (((s.marl.ch b).ins.getD (mResetIn (s.marl.ch b).set) {}).on = true) ∧ (showsOn (s.marl.ch b).set (mResetIn (s.marl.ch b).set) c1.val c2.val = false) ∧ (50 ≤ (s.marl.ch b).onRun) ∧ ((s.marl.ch b).onRun ≤ 2000) ∧ ((s.marl.ch b).supp = false)) ∧
    (∃ (s : State) (b : Bool) (c1 c2 : Fin 65536) (_rb : Fin 256) (_code0 _code1 : Fin 4096) (k : Fin 16), (s.regsWf) ∧ (s.sys.vddf = true) ∧ (s.marl.found = 0) ∧ ((s.marl.ch b).next = none) ∧ (s.marl.state = 1) ∧ ((s.marl.ch b).set ≠ []) ∧ (mInEn (s.marl.ch b).set (mResetIn (s.marl.ch b).set) = true) ∧ (((s.marl.ch b).ins.getD (mResetIn (s.marl.ch b).set) {}).on = true) ∧ (showsOn (s.marl.ch b).set (mResetIn (s.marl.ch b).set) c1.val c2.val = false) ∧ (50 ≤ (s.marl.ch b).onRun) ∧ ((s.marl.ch b).onRun ≤ 2000) ∧ ((s.marl.ch b).supp = false) ∧ (k.val ≠ (mResetIn (s.marl.ch b).set)) ∧ (mInEn (s.marl.ch b).set k.val = true) ∧ ((s.marl.ch b).ins.length = 16) ∧ ((s.marl.ch (!b)).ins.length = 16) ∧ (showsSafe (s.marl.ch b).set k.val c1.val c2.val = true)) ∧
    (∃ (s : State) (b : Bool) (c1 c2 : Fin 65536) (rb : Fin 256) (_code0 _code1 : Fin 4096) (k : Fin 8), (s.regsWf) ∧ (s.sys.vddf = true) ∧ (s.marl.found = 0) ∧ ((s.marl.ch b).next = none) ∧ (s.marl.state = 1) ∧ ((s.marl.ch b).set ≠ []) ∧ (mInEn (s.marl.ch b).set (mResetIn (s.marl.ch b).set) = true) ∧ (((s.marl.ch b).ins.getD (mResetIn (s.marl.ch b).set) {}).on = true) ∧ (showsOn (s.marl.ch b).set (mResetIn (s.marl.ch b).set) c1.val c2.val = false) ∧ (50 ≤ (s.marl.ch b).onRun) ∧ ((s.marl.ch b).onRun ≤ 2000) ∧ ((s.marl.ch b).supp = false) ∧ (s.marl.a.outs.length = 8) ∧ (s.marl.b.outs.length = 8) ∧ (((s.marl.ch b).outs.getD k.val {}).cmd = false) ∧ (bitAt rb.val k.val = false) ∧ (((s.marl.ch b).outs.getD k.val {}).faults ≠ 0)) ∧
    (∃ (s : State) (b : Bool) (c1 c2 : Fin 65536) (rb : Fin 256) (_code0 _code1 : Fin 4096) (k : Fin 8), (s.regsWf) ∧ (s.sys.vddf = true) ∧ (s.marl.found = 0) ∧ ((s.marl.ch b).next = none) ∧ (s.marl.state = 1) ∧ ((s.marl.ch b).set ≠ []) ∧ (mInEn (s.marl.ch b).set (mResetIn (s.marl.ch b).set) = true) ∧ (((s.marl.ch b).ins.getD (mResetIn (s.marl.ch b).set) {}).on = true) ∧ (showsOn (s.marl.ch b).set (mResetIn (s.marl.ch b).set) c1.val c2.val = false) ∧ (50 ≤ (s.marl.ch b).onRun) ∧ ((s.marl.ch b).onRun ≤ 2000) ∧ ((s.marl.ch b).supp = false) ∧ (s.marl.a.outs.length = 8) ∧ (s.marl.b.outs.length = 8) ∧ (mOutEn (s.marl.ch b).set k.val = true) ∧ (((s.marl.ch b).outs.getD k.val {}).cmd = false) ∧ (((s.marl.ch b).outs.getD k.val {}).wait = true) ∧ (bitAt rb.val k.val = false) ∧ (((s.marl.ch b).outs.getD k.val {}).faults = 0) ∧ (((s.marl.ch (!b)).outs.getD k.val {}).faults = 0)) ∧
    (∃ (s : State) (b : Bool) (c1 c2 : Fin 65536) (_rb : Fin 256) (_code0 _code1 : Fin 4096) (n : Fin 4), (s.regsWf) ∧ (s.sys.vddf = true) ∧ (s.marl.found = 0) ∧ ((s.marl.ch b).next = none) ∧ (s.marl.state = 1) ∧ ((s.marl.ch b).set ≠ []) ∧ (mInEn (s.marl.ch b).set (mResetIn (s.marl.ch b).set) = true) ∧ (((s.marl.ch b).ins.getD (mResetIn (s.marl.ch b).set) {}).on = true) ∧ (showsOn (s.marl.ch b).set (mResetIn (s.marl.ch b).set) c1.val c2.val = false) ∧ (50 ≤ (s.marl.ch b).onRun) ∧ ((s.marl.ch b).onRun ≤ 2000) ∧ ((s.marl.ch b).supp = false) ∧ ((s.marl.ch b).rx = []) ∧ (mConnEn (s.marl.ch b).set n.val = true) ∧ ((s.marl.ch b).conns.length = 4) ∧ (((s.marl.ch b).conns.getD n.val {}).st = 1) ∧ (((s.marl.ch b).conns.getD n.val {}).wd + 1 < mWdMs (s.marl.ch b).set n.val)) ∧
    (∃ (s : State) (b : Bool) (c1 c2 : Fin 65536) (_rb : Fin 256) (code0 code1 : Fin 4096) (i : Fin 2), (s.regsWf) ∧ (s.sys.vddf = true) ∧ (s.marl.found = 0) ∧ ((s.marl.ch b).next = none) ∧ (s.marl.state = 1) ∧ ((s.marl.ch b).set ≠ []) ∧ (mInEn (s.marl.ch b).set (mResetIn (s.marl.ch b).set) = true) ∧ (((s.marl.ch b).ins.getD (mResetIn (s.marl.ch b).set) {}).on = true) ∧ (showsOn (s.marl.ch b).set (mResetIn (s.marl.ch b).set) c1.val c2.val = false) ∧ (50 ≤ (s.marl.ch b).onRun) ∧ ((s.marl.ch b).onRun ≤ 2000) ∧ ((s.marl.ch b).supp = false) ∧ ((s.marl.ch b).pairs.length = 2) ∧ ((s.marl.ch (!b)).pairs.length = 2) ∧ (¬ (([code0.val, code1.val].getD i.val 0) < (mPair (s.marl.ch b).set i.val 2) ∨ (mPair (s.marl.ch b).set i.val 3) < ([code0.val, code1.val].getD i.val 0))) ∧ (¬ (((s.marl.ch (!b)).codes.getD i.val 0) < (mPair (s.marl.ch b).set i.val 2) ∨ (mPair (s.marl.ch b).set i.val 3) < ((s.marl.ch (!b)).codes.getD i.val 0))) ∧ (¬ (((([code0.val, code1.val].getD i.val 0) : Int) - (((s.marl.ch (!b)).codes.getD i.val 0) : Int)).natAbs > (mPair (s.marl.ch b).set i.val 4)))) ∧
    (∃ (s : State) (_b : Bool) (_c1 _c2 : Fin 65536) (_rb : Fin 256) (_code0 _code1 : Fin 4096), (s.regsWf) ∧ (s.sys.vddf = true) ∧ (s.marl.found ≠ 0) ∧ (s.marl.state ≠ 2)) ∧
    (∃ (s : State), (s.regsWf) ∧ (s.sys.vddf = true) ∧ (s.marl.found ≠ 0) ∧ (s.marl.state ≠ 2)) ∧
    (∃ (s : State), (s.regsWf) ∧ (s.sys.vddf = true) ∧ (s.marl.found = 0) ∧ (s.marl.state ≠ 2)) ∧
    (∃ (s : State), (s.regsWf)) ∧
    (∃ (s : State) (k : Fin 16), (s.regsWf) ∧ (s.sys.vddf = true) ∧ (s.marl.state ≠ 2) ∧ (s.marl.a.ins.length = 16) ∧ (mInEn s.marl.a.set k.val = true) ∧ ((s.marl.a.ins.getD k.val {}).disc = false) ∧ (mDiscMs s.marl.a.set k.val ≤ (s.marl.a.ins.getD k.val {}).count)) ∧
    (∃ (s : State) (b : Bool) (k : Fin 8) (_rb : Bool), (s.regsWf) ∧ (s.sys.vddf = true) ∧ (s.marl.state = 1) ∧ (s.marl.a.outs.length = 8) ∧ (s.marl.b.outs.length = 8) ∧ (mOutEn (s.marl.ch b).set k.val = true) ∧ (windowDue s.marl b k.val = true) ∧ (((s.marl.ch b).outs.getD k.val {}).win = false)) ∧
    (∃ (s : State) (b : Bool) (k : Fin 8) (_rb : Bool), (s.regsWf) ∧ (s.sys.vddf = true) ∧ (s.marl.state = 1) ∧ (s.marl.a.outs.length = 8) ∧ (s.marl.b.outs.length = 8) ∧ (mOutEn (s.marl.ch b).set k.val = true) ∧ (windowDue s.marl b k.val = false ∨ ((s.marl.ch b).outs.getD k.val {}).win = true)) ∧
    (∃ (s : State) (b : Bool) (k : Fin 8) (rb : Bool), (s.regsWf) ∧ (s.sys.vddf = true) ∧ (s.marl.state = 1) ∧ (s.marl.a.outs.length = 8) ∧ (s.marl.b.outs.length = 8) ∧ (mOutEn (s.marl.ch b).set k.val = true) ∧ (((s.marl.ch b).outs.getD k.val {}).win = true) ∧ ((((s.marl.ch b).outs.getD k.val {}).winOk && ((s.marl.ch b).outs.getD k.val {}).cmd && rb) = false)) ∧
    (∃ (s : State) (b : Bool) (k : Fin 8), (s.regsWf) ∧ (s.sys.vddf = true) ∧ (s.marl.state = 1) ∧ (s.marl.a.outs.length = 8) ∧ (s.marl.b.outs.length = 8) ∧ (mOutEn (s.marl.ch b).set k.val = true) ∧ (((s.marl.ch b).outs.getD k.val {}).win = true) ∧ (((s.marl.ch b).outs.getD k.val {}).winOk = true) ∧ (((s.marl.ch b).outs.getD k.val {}).cmd = true)) ∧
    (∃ (s : State) (k : Fin 128), (s.regsWf) ∧ (s.sys.vddf = true) ∧ (s.marl.state ≠ 2) ∧ (mNotify s.marl.a.set k.val = true) ∧ (mNotify s.marl.b.set k.val = true)) :=
  ⟨⟨{ test_hub with marl := { a := { set := test_marlSet }, b := { set := test_marlSet }, state := 1 } }, true, 2, 2, 0, 2000, 2001, 1, by decide⟩,
   ⟨{ test_hub with marl := { a := { set := test_marlSet }, b := { set := test_marlSet }, state := 1 } }, true, 2, 2, 0, 2000, 2001, by decide⟩,
   ⟨{ test_hub with marl := {  } }, true, 2, 2, 0, 2000, 2001, by decide⟩,
   ⟨{ test_hub with marl := { state := 2 } }, true, 2, 2, 0, 2000, 2001, by decide⟩,
   ⟨{ test_hub with marl := { a := { set := (test_marlSet.set 0x110 1#8), pairs := [{}, {}], codes := [2003, 0] }, b := { set := (test_marlSet.set 0x110 1#8), pairs := [{ hold := 9 }, {}] }, state := 1 } }, true, 2, 2, 0, 2000, 2001, 0, by decide⟩,
   ⟨{ test_hub with marl := { a := { set := (test_marlSet.set 0x110 1#8), pairs := [{}, {}], codes := [2300, 0] }, b := { set := (test_marlSet.set 0x110 1#8), pairs := [{ hold := 9, term := true }, {}] }, state := 1 } }, true, 2, 2, 0, 2000, 2001, 0, by decide⟩,
   ⟨{ test_hub with marl := { a := { set := (test_marlSet.set 0x110 1#8), pairs := [{}, {}], codes := [99, 0] }, b := { set := (test_marlSet.set 0x110 1#8), pairs := [{ brokenRun := 1 }, {}] }, state := 1 } }, true, 2, 2, 0, 2000, 2001, 0, by decide⟩,
   ⟨{ test_hub with marl := { a := { set := (test_marlSet.set 0x110 1#8), pairs := [{}, {}], codes := [2009, 0] }, b := { set := (test_marlSet.set 0x110 1#8), pairs := [{ xcRun := 2 }, {}] }, state := 1 } }, true, 2, 2, 0, 2000, 2001, 0, by decide⟩,
   ⟨{ test_hub with marl := { a := { set := test_marlSet }, b := { set := test_marlSet, outs := { offTicks := 99 } :: List.replicate 7 {} }, state := 1 } }, true, 2, 2, 1, 2000, 2001, 0, by decide⟩,
   ⟨{ test_hub with marl := { a := { set := test_marlSet }, b := { set := test_marlSet, outs := { cmd := true, wait := false, lowRun := 1, winAge := 1 } :: List.replicate 7 {} }, state := 1 } }, true, 2, 2, 0, 2000, 2001, 0, by decide⟩,
   ⟨{ test_hub with marl := { a := { set := test_marlSet }, b := { set := test_marlSet, outs := { cmd := true, wait := false, lowRun := 1, winAge := 0 } :: List.replicate 7 {} }, state := 1 } }, true, 2, 2, 0, 2000, 2001, 0, by decide⟩,
   ⟨{ test_hub with marl := { a := { set := test_marlSet }, b := { set := test_marlSet, ins := { on := true } :: List.replicate 15 {}, onRun := 50, notify := true }, state := 1 } }, true, 2, 2, 0, 2000, 2001, by decide⟩,
   ⟨{ test_hub with marl := { a := { set := test_marlSet }, b := { set := test_marlSet, ins := { on := true } :: { disc := true } :: List.replicate 14 {}, onRun := 50 }, state := 1 } }, true, 0, 0, 0, 2000, 2001, 1, by decide⟩,
   ⟨{ test_hub with marl := { a := { set := test_marlSet }, b := { set := test_marlSet, ins := { on := true } :: List.replicate 15 {}, onRun := 50, outs := { faults := 5 } :: List.replicate 7 {} }, state := 1 } }, true, 2, 2, 0, 2000, 2001, 0, by decide⟩,
   ⟨{ test_hub with marl := { a := { set := test_marlSet }, b := { set := test_marlSet, ins := { on := true } :: { on := true } :: List.replicate 14 {}, onRun := 50 }, state := 1 } }, true, 2, 2, 0, 2000, 2001, 0, by decide⟩,
   ⟨{ test_hub with marl := { a := { set := test_marlSet }, b := { set := test_marlSet, ins := { on := true } :: List.replicate 15 {}, onRun := 50, conns := { st := 1 } :: List.replicate 3 {} }, state := 1 } }, true, 2, 2, 0, 2000, 2001, 0, by decide⟩,
   ⟨{ test_hub with marl := { a := { set := (test_marlSet.set 0x110 1#8), codes := [2003, 0] }, b := { set := (test_marlSet.set 0x110 1#8), ins := { on := true } :: List.replicate 15 {}, onRun := 50, pairs := [{ xc := true, broken := true }, {}] }, state := 1 } }, true, 2, 2, 0, 2000, 2001, 0, by decide⟩,
   ⟨{ test_hub with marl := { a := { set := test_marlSet }, b := { set := test_marlSet }, state := 1, found := 2 } }, true, 2, 2, 0, 2000, 2001, by decide⟩,
   ⟨{ test_hub with marl := { a := { set := test_marlSet }, b := { set := test_marlSet }, state := 1, found := 5 } }, by decide⟩,
   ⟨{ test_hub with marl := { a := { set := test_marlSet }, b := { set := test_marlSet }, state := 1 } }, by decide⟩,
   ⟨{ test_hub with marl := { a := { set := test_marlSet }, b := { set := test_marlSet }, state := 1 } }, by decide⟩,
   ⟨{ test_hub with marl := { a := { set := test_marlSet, ins := {} :: { count := 150, bothSafe := false } :: List.replicate 14 {} }, b := { set := test_marlSet }, state := 1 } }, 1, by decide⟩,
   ⟨{ test_hub with marl := { a := { set := test_marlSet, outs := { winTicks := 90000000 } :: List.replicate 7 {} }, b := { set := test_marlSet }, state := 1 } }, true, 0, false, by decide⟩,
   ⟨{ test_hub with marl := { a := { set := test_marlSet }, b := { set := test_marlSet }, state := 1 } }, true, 0, true, by decide⟩,
   ⟨{ test_hub with marl := { a := { set := test_marlSet }, b := { set := test_marlSet, outs := { cmd := true, win := true, winOk := true } :: List.replicate 7 {} }, state := 1 } }, true, 0, false, by decide⟩,
   ⟨{ test_hub with marl := { a := { set := test_marlSet }, b := { set := test_marlSet, outs := { cmd := true, win := true, winOk := true } :: List.replicate 7 {} }, state := 1 } }, true, 0, by decide⟩,
   ⟨{ test_hub with marl := { a := { set := test_marlSet }, b := { set := test_marlSet }, state := 1 } }, 127, by decide⟩⟩

theorem test_meets_MarlTelegramsDriveTheConnections :
    (∃ (s : State) (n : Fin 4), (s.regsWf) ∧ (s.sys.vddf = true) ∧ (s.marl.state = 1) ∧ (mConnEn s.marl.set n.val = true) ∧ (mTxMs s.marl.set n.val ≤ s.marl.txTicks.getD n.val 0) ∧ (telegram s.marl s.marl.a.set n.val = telegram s.marl s.marl.b.set n.val) ∧ (bitsAt (mConnFlags s.marl.set n.val) 2 2 = 1) ∧ (s.station.ports.length = 2) ∧ (portUp s 0 = true) ∧ ((s.port 0).wire = none) ∧ ((s.port 0).telegrams = [])) ∧
    (∃ (s : State) (n : Fin 4), (s.regsWf) ∧ (s.sys.vddf = true) ∧ (s.marl.state = 1) ∧ (mConnEn s.marl.set n.val = true) ∧ (mTxMs s.marl.set n.val ≤ s.marl.txTicks.getD n.val 0) ∧ (telegram s.marl s.marl.a.set n.val = telegram s.marl s.marl.b.set n.val) ∧ (bitsAt (mConnFlags s.marl.set n.val) 2 2 = 2) ∧ (s.station.ports.length = 2) ∧ (portUp s 1 = true) ∧ ((s.port 1).wire = none) ∧ ((s.port 1).telegrams = [])) ∧
    (∃ (s : State) (n : Fin 4), (s.regsWf) ∧ (s.sys.vddf = true) ∧ (s.marl.state = 1) ∧ (mConnEn s.marl.set n.val = true) ∧ (mTxMs s.marl.set n.val ≤ s.marl.txTicks.getD n.val 0) ∧ (telegram s.marl s.marl.a.set n.val = telegram s.marl s.marl.b.set n.val) ∧ (bitsAt (mConnFlags s.marl.set n.val) 2 2 = 3) ∧ (s.station.ports.length = 2) ∧ (portUp s 0 = true) ∧ ((s.port 0).wire = none) ∧ ((s.port 0).telegrams = []) ∧ (portUp s 1 = true) ∧ ((s.port 1).wire = none) ∧ ((s.port 1).telegrams = [])) ∧
    (∃ (s : State) (n : Fin 4), (s.regsWf) ∧ (s.sys.vddf = true) ∧ (s.marl.state = 1) ∧ (mConnEn s.marl.set n.val = true) ∧ (mTxMs s.marl.set n.val ≤ s.marl.txTicks.getD n.val 0) ∧ (telegram s.marl s.marl.a.set n.val = telegram s.marl s.marl.b.set n.val) ∧ (bitsAt (mConnFlags s.marl.set n.val) 2 2 = 1) ∧ (s.station.ports.length = 2) ∧ (portUp s 0 = true) ∧ ((s.port 0).wire ≠ none)) ∧
    (∃ (s : State) (n : Fin 4), (s.regsWf) ∧ (s.sys.vddf = true) ∧ (s.marl.state = 1) ∧ (mConnEn s.marl.set n.val = true) ∧ (mTxMs s.marl.set n.val ≤ s.marl.txTicks.getD n.val 0) ∧ (telegram s.marl s.marl.a.set n.val ≠ telegram s.marl s.marl.b.set n.val) ∧ (s.marl.found = 0)) ∧
    (∃ (s : State) (w : List Byte) (ws : List (List Byte)), (s.regsWf) ∧ (s.sys.vddf = true) ∧ (s.marl.state ≠ 2) ∧ (s.marl.seam = w :: ws) ∧ (w.length = 32)) ∧
    (∃ (s : State), (s.regsWf) ∧ (s.marl.seam = [])) ∧
    (∃ (s : State) (b : Bool) (_c1 _c2 : Fin 65536) (_rb : Fin 256) (_code0 _code1 : Fin 4096) (n : Fin 4) (w : List Byte), (s.regsWf) ∧ (s.sys.vddf = true) ∧ (s.marl.found = 0) ∧ ((s.marl.ch b).next = none) ∧ (s.marl.state ≠ 2) ∧ ((s.marl.ch b).rx = [w]) ∧ (w.length = 32) ∧ (telegramTo (s.marl.ch b).set w = [n.val]) ∧ (mConnEn (s.marl.ch b).set n.val = true) ∧ ((s.marl.ch b).conns.length = 4) ∧ (((s.marl.ch b).conns.getD n.val {}).expired = false) ∧ (((s.marl.ch b).ins.getD (mResetIn (s.marl.ch b).set) {}).on = false) ∧ (leNat ((w.drop 28).take 4) = telegramCrc (mRxId (s.marl.ch b).set n.val) w) ∧ (leNat (w.take 4) = mRxId (s.marl.ch b).set n.val) ∧ (w.getD 8 0#8 = 1#8) ∧ (1 ≤ mWdMs (s.marl.ch b).set n.val) ∧ (((s.marl.ch b).conns.getD n.val {}).st = 0)) ∧
    (∃ (s : State) (b : Bool) (_c1 _c2 : Fin 65536) (_rb : Fin 256) (_code0 _code1 : Fin 4096) (n : Fin 4) (w : List Byte), (s.regsWf) ∧ (s.sys.vddf = true) ∧ (s.marl.found = 0) ∧ ((s.marl.ch b).next = none) ∧ (s.marl.state ≠ 2) ∧ ((s.marl.ch b).rx = [w]) ∧ (w.length = 32) ∧ (telegramTo (s.marl.ch b).set w = [n.val]) ∧ (mConnEn (s.marl.ch b).set n.val = true) ∧ ((s.marl.ch b).conns.length = 4) ∧ (((s.marl.ch b).conns.getD n.val {}).expired = false) ∧ (((s.marl.ch b).ins.getD (mResetIn (s.marl.ch b).set) {}).on = false) ∧ (leNat ((w.drop 28).take 4) = telegramCrc (mRxId (s.marl.ch b).set n.val) w) ∧ (leNat (w.take 4) = mRxId (s.marl.ch b).set n.val) ∧ (w.getD 8 0#8 = 1#8) ∧ (1 ≤ mWdMs (s.marl.ch b).set n.val) ∧ (((s.marl.ch b).conns.getD n.val {}).st = 2) ∧ (1 ≤ ((leNat ((w.drop 4).take 4) + 2 ^ 32 - ((s.marl.ch b).conns.getD n.val {}).last) % 2 ^ 32)) ∧ (((leNat ((w.drop 4).take 4) + 2 ^ 32 - ((s.marl.ch b).conns.getD n.val {}).last) % 2 ^ 32) ≤ mSeqGap (s.marl.ch b).set n.val)) ∧
    (∃ (s : State) (b : Bool) (_c1 _c2 : Fin 65536) (_rb : Fin 256) (_code0 _code1 : Fin 4096) (n : Fin 4) (w : List Byte), (s.regsWf) ∧ (s.sys.vddf = true) ∧ (s.marl.found = 0) ∧ ((s.marl.ch b).next = none) ∧ (s.marl.state ≠ 2) ∧ ((s.marl.ch b).rx = [w]) ∧ (w.length = 32) ∧ (telegramTo (s.marl.ch b).set w = [n.val]) ∧ (mConnEn (s.marl.ch b).set n.val = true) ∧ ((s.marl.ch b).conns.length = 4) ∧ (((s.marl.ch b).conns.getD n.val {}).expired = false) ∧ (((s.marl.ch b).ins.getD (mResetIn (s.marl.ch b).set) {}).on = false) ∧ (leNat ((w.drop 28).take 4) = telegramCrc (mRxId (s.marl.ch b).set n.val) w) ∧ (leNat (w.take 4) = mRxId (s.marl.ch b).set n.val) ∧ (w.getD 8 0#8 = 1#8) ∧ (1 ≤ mWdMs (s.marl.ch b).set n.val) ∧ (((s.marl.ch b).conns.getD n.val {}).st = 1) ∧ (1 ≤ ((leNat ((w.drop 4).take 4) + 2 ^ 32 - ((s.marl.ch b).conns.getD n.val {}).last) % 2 ^ 32)) ∧ (((leNat ((w.drop 4).take 4) + 2 ^ 32 - ((s.marl.ch b).conns.getD n.val {}).last) % 2 ^ 32) ≤ mSeqGap (s.marl.ch b).set n.val)) ∧
    (∃ (s : State) (b : Bool) (_c1 _c2 : Fin 65536) (_rb : Fin 256) (_code0 _code1 : Fin 4096) (n : Fin 4) (w : List Byte), (s.regsWf) ∧ (s.sys.vddf = true) ∧ (s.marl.found = 0) ∧ ((s.marl.ch b).next = none) ∧ (s.marl.state ≠ 2) ∧ ((s.marl.ch b).rx = [w]) ∧ (w.length = 32) ∧ (telegramTo (s.marl.ch b).set w = [n.val]) ∧ (mConnEn (s.marl.ch b).set n.val = true) ∧ ((s.marl.ch b).conns.length = 4) ∧ (((s.marl.ch b).conns.getD n.val {}).expired = false) ∧ (((s.marl.ch b).ins.getD (mResetIn (s.marl.ch b).set) {}).on = false) ∧ (leNat ((w.drop 28).take 4) = telegramCrc (mRxId (s.marl.ch b).set n.val) w) ∧ (leNat (w.take 4) = mRxId (s.marl.ch b).set n.val) ∧ (w.getD 8 0#8 = 1#8) ∧ (1 ≤ mWdMs (s.marl.ch b).set n.val) ∧ (((s.marl.ch b).conns.getD n.val {}).wd + 1 < mWdMs (s.marl.ch b).set n.val) ∧ (((s.marl.ch b).conns.getD n.val {}).st ≠ 0) ∧ (((leNat ((w.drop 4).take 4) + 2 ^ 32 - ((s.marl.ch b).conns.getD n.val {}).last) % 2 ^ 32) = 0)) ∧
    (∃ (s : State) (b : Bool) (_c1 _c2 : Fin 65536) (_rb : Fin 256) (_code0 _code1 : Fin 4096) (n : Fin 4) (w : List Byte), (s.regsWf) ∧ (s.sys.vddf = true) ∧ (s.marl.found = 0) ∧ ((s.marl.ch b).next = none) ∧ (s.marl.state ≠ 2) ∧ ((s.marl.ch b).rx = [w]) ∧ (w.length = 32) ∧ (telegramTo (s.marl.ch b).set w = [n.val]) ∧ (mConnEn (s.marl.ch b).set n.val = true) ∧ ((s.marl.ch b).conns.length = 4) ∧ (((s.marl.ch b).conns.getD n.val {}).expired = false) ∧ (((s.marl.ch b).ins.getD (mResetIn (s.marl.ch b).set) {}).on = false) ∧ (leNat ((w.drop 28).take 4) = telegramCrc (mRxId (s.marl.ch b).set n.val) w) ∧ (leNat (w.take 4) = mRxId (s.marl.ch b).set n.val) ∧ (w.getD 8 0#8 = 1#8) ∧ (1 ≤ mWdMs (s.marl.ch b).set n.val) ∧ (((s.marl.ch b).conns.getD n.val {}).wd + 1 < mWdMs (s.marl.ch b).set n.val) ∧ (((s.marl.ch b).conns.getD n.val {}).st ≠ 0) ∧ (mSeqGap (s.marl.ch b).set n.val < ((leNat ((w.drop 4).take 4) + 2 ^ 32 - ((s.marl.ch b).conns.getD n.val {}).last) % 2 ^ 32))) ∧
    (∃ (s : State) (b : Bool) (_c1 _c2 : Fin 65536) (_rb : Fin 256) (_code0 _code1 : Fin 4096) (n : Fin 4) (w : List Byte), (s.regsWf) ∧ (s.sys.vddf = true) ∧ (s.marl.found = 0) ∧ ((s.marl.ch b).next = none) ∧ (s.marl.state ≠ 2) ∧ ((s.marl.ch b).rx = [w]) ∧ (w.length = 32) ∧ (telegramTo (s.marl.ch b).set w = [n.val]) ∧ (mConnEn (s.marl.ch b).set n.val = true) ∧ ((s.marl.ch b).conns.length = 4) ∧ (((s.marl.ch b).conns.getD n.val {}).expired = false) ∧ (((s.marl.ch b).ins.getD (mResetIn (s.marl.ch b).set) {}).on = false) ∧ (((s.marl.ch b).conns.getD n.val {}).wd + 1 < mWdMs (s.marl.ch b).set n.val) ∧ (((s.marl.ch b).conns.getD n.val {}).st ≠ 0) ∧ (leNat ((w.drop 28).take 4) ≠ telegramCrc (mRxId (s.marl.ch b).set n.val) w)) ∧
    (∃ (s : State) (b : Bool) (_c1 _c2 : Fin 65536) (_rb : Fin 256) (_code0 _code1 : Fin 4096) (n : Fin 4), (s.regsWf) ∧ (s.sys.vddf = true) ∧ (s.marl.found = 0) ∧ ((s.marl.ch b).next = none) ∧ (s.marl.state ≠ 2) ∧ ((s.marl.ch b).rx = []) ∧ (mConnEn (s.marl.ch b).set n.val = true) ∧ ((s.marl.ch b).conns.length = 4) ∧ (((s.marl.ch b).conns.getD n.val {}).st ≠ 0) ∧ (((s.marl.ch b).conns.getD n.val {}).expired = false) ∧ (mWdMs (s.marl.ch b).set n.val ≤ ((s.marl.ch b).conns.getD n.val {}).wd + 1)) ∧
    (∃ (s : State) (n : Fin 4), (s.regsWf) ∧ (s.sys.vddf = true) ∧ (s.marl.state ≠ 2) ∧ (s.marl.a.conns.length = 4) ∧ ((s.marl.a.conns.getD n.val {}).expired = true)) ∧
    (∃ (s : State) (n : Fin 4), (s.regsWf) ∧ (s.sys.vddf = true) ∧ (s.marl.state ≠ 2) ∧ (s.marl.b.conns.length = 4) ∧ ((s.marl.b.conns.getD n.val {}).expired = true)) :=
  ⟨⟨{ (((test_hub.setFld SYS.CLOD_PWR.STN_EN 1).setFld ETH.PCFG.EN 1).setFld ETH.PSTAT.LINK 1) with marl := { a := { set := (test_marlSet.set 0x130 5#8) }, b := { set := (test_marlSet.set 0x130 5#8) }, state := 1, txTicks := [5, 0, 0, 0] } }, 0, by decide⟩,
   ⟨{ (((test_hub.setFld SYS.CLOD_PWR.STN_EN 1).setFld (ETH.PCFG.EN.at 0x1000) 1).setFld (ETH.PSTAT.LINK.at 0x1000) 1) with marl := { a := { set := (test_marlSet.set 0x130 9#8) }, b := { set := (test_marlSet.set 0x130 9#8) }, state := 1, txTicks := [5, 0, 0, 0] } }, 0, by decide⟩,
   ⟨{ (((((test_hub.setFld SYS.CLOD_PWR.STN_EN 1).setFld ETH.PCFG.EN 1).setFld ETH.PSTAT.LINK 1).setFld (ETH.PCFG.EN.at 0x1000) 1).setFld (ETH.PSTAT.LINK.at 0x1000) 1) with marl := { a := { set := (test_marlSet.set 0x130 13#8) }, b := { set := (test_marlSet.set 0x130 13#8) }, state := 1, txTicks := [5, 0, 0, 0] } }, 0, by decide⟩,
   ⟨{ { (((test_hub.setFld SYS.CLOD_PWR.STN_EN 1).setFld ETH.PCFG.EN 1).setFld ETH.PSTAT.LINK 1) with marl := { a := { set := (test_marlSet.set 0x130 5#8) }, b := { set := (test_marlSet.set 0x130 5#8) }, state := 1, txTicks := [5, 0, 0, 0] } } with station := { test_hub.station with ports := [{ wire := some false }, {}] } }, 0, by decide⟩,
   ⟨{ test_hub with marl := { a := { set := test_marlSet }, b := { set := test_marlSet.set 0x138 0x12#8 }, state := 1, txTicks := [5, 0, 0, 0], mismatch := [2, 0, 0, 0] } }, 0, by decide⟩,
   ⟨{ test_hub with marl := { a := { set := test_marlSet }, b := { set := test_marlSet }, state := 1, seam := [test_telegram] } }, test_telegram, [], by decide⟩,
   ⟨{ test_hub with marl := { a := { set := test_marlSet }, b := { set := test_marlSet }, state := 1 } }, by decide⟩,
   ⟨{ test_hub with marl := { a := { set := test_marlSet }, b := { set := test_marlSet, rx := [test_telegram], conns := { st := 0 } :: List.replicate 3 {} }, state := 1 } }, true, 0, 0, 0, 2000, 2001, 0, test_telegram, by decide⟩,
   ⟨{ test_hub with marl := { a := { set := test_marlSet }, b := { set := test_marlSet, rx := [test_telegram], conns := { st := 2, last := 4 } :: List.replicate 3 {} }, state := 1 } }, true, 0, 0, 0, 2000, 2001, 0, test_telegram, by decide⟩,
   ⟨{ test_hub with marl := { a := { set := (test_marlSet.set 0x130 7#8) }, b := { set := (test_marlSet.set 0x130 7#8), rx := [test_telegram], conns := { st := 1, acc := 1, last := 7 } :: List.replicate 3 {} }, state := 1 } }, true, 0, 0, 0, 2000, 2001, 0, test_telegram, by decide⟩,
   ⟨{ test_hub with marl := { a := { set := test_marlSet }, b := { set := test_marlSet, rx := [test_telegram], conns := { st := 2, last := 8, dup := 65535 } :: List.replicate 3 {} }, state := 1 } }, true, 0, 0, 0, 2000, 2001, 0, test_telegram, by decide⟩,
   ⟨{ test_hub with marl := { a := { set := test_marlSet }, b := { set := test_marlSet, rx := [test_telegram], conns := { st := 1, last := 3 } :: List.replicate 3 {} }, state := 1 } }, true, 0, 0, 0, 2000, 2001, 0, test_telegram, by decide⟩,
   ⟨{ test_hub with marl := { a := { set := test_marlSet }, b := { set := test_marlSet, rx := [test_telegram.set 12 9#8], conns := { st := 2 } :: List.replicate 3 {} }, state := 1 } }, true, 0, 0, 0, 2000, 2001, 0, (test_telegram.set 12 9#8), by decide⟩,
   ⟨{ test_hub with marl := { a := { set := test_marlSet }, b := { set := test_marlSet, conns := { st := 2, wd := 19 } :: List.replicate 3 {} }, state := 1 } }, true, 2, 2, 0, 2000, 2001, 0, by decide⟩,
   ⟨{ test_hub with marl := { a := { set := test_marlSet, conns := { expired := true } :: List.replicate 3 {} }, b := { set := test_marlSet }, state := 1 } }, 0, by decide⟩,
   ⟨{ test_hub with marl := { a := { set := test_marlSet }, b := { set := test_marlSet, conns := { expired := true } :: List.replicate 3 {} }, state := 1 } }, 0, by decide⟩⟩

theorem test_meets_MarlSetsAreProposedConfirmedAndStored :
    (∃ (s : State), (s.regsWf) ∧ (s.sys.vddf = true) ∧ (s.marl.state ≠ 2) ∧ (s.marl.handed = some none)) ∧
    (∃ (s : State) (q : List Byte) (len cmin cmax : Nat), (s.regsWf) ∧ (s.sys.vddf = true) ∧ (s.marl.state ≠ 2) ∧ (s.marl.handed = some (some (q, len, cmin, cmax))) ∧ (1 < cmin ∨ cmax = 0)) ∧
    (∃ (s : State) (q : List Byte) (len cmin cmax : Nat), (s.regsWf) ∧ (s.sys.vddf = true) ∧ (s.marl.state ≠ 2) ∧ (s.marl.handed = some (some (q, len, cmin, cmax))) ∧ (cmin ≤ 1) ∧ (1 ≤ cmax) ∧ (marlSetOk len q = false)) ∧
    (∃ (s : State) (q : List Byte) (len cmin cmax : Nat), (s.regsWf) ∧ (s.sys.vddf = true) ∧ (s.marl.state ≠ 2) ∧ (s.marl.handed = some (some (q, len, cmin, cmax))) ∧ (cmin ≤ 1) ∧ (1 ≤ cmax) ∧ (marlSetOk len q = true) ∧ (s.marl.set ≠ []) ∧ (checkOf q = checkOf s.marl.set)) ∧
    (∃ (s : State) (q : List Byte) (len cmin cmax : Nat), (s.regsWf) ∧ (s.sys.vddf = true) ∧ (s.marl.state ≠ 2) ∧ (s.marl.handed = some (some (q, len, cmin, cmax))) ∧ (cmin ≤ 1) ∧ (1 ≤ cmax) ∧ (marlSetOk len q = true) ∧ (s.marl.set = [] ∨ checkOf q ≠ checkOf s.marl.set)) ∧
    (∃ (s : State) (p : Path) (_w : W32), (s.regsWf) ∧ (Reaches p MRL.CONFIRM.addr s) ∧ (s.sys.vddf = true) ∧ (s.marl.storing = none) ∧ (s.marl.conf = none) ∧ (s.marl.a.next = none) ∧ (s.marl.b.next = none) ∧ (s.marl.state ≠ 2)) ∧
    (∃ (s : State) (c1 c2 : Fin 65536) (_rb : Fin 256) (_code0 _code1 : Fin 4096) (w : Nat) (q : List Byte), (s.regsWf) ∧ (s.sys.vddf = true) ∧ (s.marl.found = 0) ∧ (s.marl.state ≠ 2) ∧ (s.marl.a.next = none) ∧ (s.marl.conf = some w) ∧ (s.marl.confA = none) ∧ (s.marl.confB = none) ∧ (s.marl.held = some q) ∧ (w = checkOf q) ∧ (showsOn q (mResetIn q) c1.val c2.val = true)) ∧
    (∃ (s : State) (c1 c2 : Fin 65536) (_rb : Fin 256) (_code0 _code1 : Fin 4096) (w : Nat) (q : List Byte), (s.regsWf) ∧ (s.sys.vddf = true) ∧ (s.marl.found = 0) ∧ (s.marl.state ≠ 2) ∧ (s.marl.a.next = none) ∧ (s.marl.conf = some w) ∧ (s.marl.confA = none) ∧ (s.marl.confB = some 0) ∧ (s.marl.held = some q) ∧ (w = checkOf q) ∧ (showsOn q (mResetIn q) c1.val c2.val = true)) ∧
    (∃ (s : State) (_c1 _c2 : Fin 65536) (_rb : Fin 256) (_code0 _code1 : Fin 4096) (w : Nat), (s.regsWf) ∧ (s.sys.vddf = true) ∧ (s.marl.found = 0) ∧ (s.marl.state ≠ 2) ∧ (s.marl.a.next = none) ∧ (s.marl.conf = some w) ∧ (s.marl.confA = none) ∧ (s.marl.confB = some 1) ∧ (s.marl.held = none)) ∧
    (∃ (s : State) (_c1 _c2 : Fin 65536) (_rb : Fin 256) (_code0 _code1 : Fin 4096) (w : Nat) (q : List Byte), (s.regsWf) ∧ (s.sys.vddf = true) ∧ (s.marl.found = 0) ∧ (s.marl.state ≠ 2) ∧ (s.marl.a.next = none) ∧ (s.marl.conf = some w) ∧ (s.marl.confA = none) ∧ (s.marl.confB = some 2) ∧ (s.marl.held = some q) ∧ (w ≠ checkOf q)) ∧
    (∃ (s : State) (c1 c2 : Fin 65536) (_rb : Fin 256) (_code0 _code1 : Fin 4096) (w : Nat) (q : List Byte), (s.regsWf) ∧ (s.sys.vddf = true) ∧ (s.marl.found = 0) ∧ (s.marl.state ≠ 2) ∧ (s.marl.a.next = none) ∧ (s.marl.conf = some w) ∧ (s.marl.confA = none) ∧ (s.marl.confB = some 3) ∧ (s.marl.held = some q) ∧ (w = checkOf q) ∧ (showsOn q (mResetIn q) c1.val c2.val = false)) ∧
    (∃ (s : State) (c1 c2 : Fin 65536) (_rb : Fin 256) (_code0 _code1 : Fin 4096) (w : Nat) (q : List Byte), (s.regsWf) ∧ (s.sys.vddf = true) ∧ (s.marl.found = 0) ∧ (s.marl.state ≠ 2) ∧ (s.marl.a.next = none) ∧ (s.marl.conf = some w) ∧ (s.marl.confA = none) ∧ (s.marl.confB = some 0) ∧ (s.marl.held = some q) ∧ (w = checkOf q) ∧ (showsOn q (mResetIn q) c1.val c2.val = false)) ∧
    (∃ (s : State) (_w : W32), (s.regsWf) ∧ (Reaches .pcie MRL.CONFIRM.addr s) ∧ (s.marl.storing ≠ none ∨ s.marl.conf ≠ none ∨ s.marl.a.next ≠ none ∨ s.marl.b.next ≠ none) ∧ (s.flag HST.AERR.VALID = false)) ∧
    (∃ (s : State) (q : List Byte), (s.regsWf) ∧ (s.sys.vddf = true) ∧ (s.marl.state ≠ 2) ∧ (s.marl.storing = some q) ∧ (s.marl.a.recs.length = 2) ∧ (s.marl.b.recs.length = 2)) ∧
    (∃ (s : State) (b : Bool) (_c1 _c2 : Fin 65536) (_rb : Fin 256) (_code0 _code1 : Fin 4096) (q : List Byte), (s.regsWf) ∧ (s.sys.vddf = true) ∧ (s.marl.found = 0) ∧ (s.marl.state ≠ 2) ∧ ((s.marl.ch b).next = some q) ∧ ((s.marl.ch b).rx = []) ∧ ((s.marl.ch b).ins.length = 16) ∧ ((s.marl.ch (!b)).ins.length = 16)) ∧
    (∃ (s : State) (q : List Byte), (s.regsWf) ∧ (s.sys.role = Role.hub) ∧ (s.sys.vddf = false) ∧ (chLoad s.marl.a = some q) ∧ (chLoad s.marl.b = some q) ∧ (q ≠ [])) ∧
    (∃ (s : State) (q : List Byte), (s.regsWf) ∧ (s.sys.role = Role.hub) ∧ (s.sys.vddf = false) ∧ (chLoad s.marl.a = some q) ∧ (chLoad s.marl.b = none)) ∧
    (∃ (s : State), (s.regsWf) ∧ (s.sys.role = Role.hub) ∧ (s.sys.vddf = false) ∧ (chLoad s.marl.a = none) ∧ (chLoad s.marl.b = none)) ∧
    (∃ (s : State) (_doneA _doneB : Bool), (s.regsWf) ∧ (s.sys.vddf = true) ∧ (s.marl.storing = none)) ∧
    (∃ (s : State) (_doneA _doneB : Bool) (q : List Byte), (s.regsWf) ∧ (s.sys.vddf = true) ∧ (s.marl.storing = some q) ∧ (s.marl.a.recs.length = 2) ∧ (s.marl.b.recs.length = 2) ∧ (recCount (s.marl.a.recs.getD 0 none) ≠ recCount (s.marl.a.recs.getD 1 none) ∨ chLoad s.marl.a = none) ∧ (recCount (s.marl.b.recs.getD 0 none) ≠ recCount (s.marl.b.recs.getD 1 none) ∨ chLoad s.marl.b = none)) :=
  ⟨⟨{ test_hub with marl := { handed := some none, held := some [1#8] } }, by decide⟩,
   ⟨{ test_hub with marl := { handed := some (some (test_marlSet, 512, 2, 3)) } }, test_marlSet, 512, 2, 3, by decide⟩,
   ⟨{ test_hub with marl := { handed := some (some (test_marlSet, 511, 1, 1)) } }, test_marlSet, 511, 1, 1, by decide⟩,
   ⟨{ test_hub with marl := { a := { set := test_marlSet }, b := { set := test_marlSet }, state := 1, handed := some (some (test_marlSet, 512, 0, 9)), held := some [1#8] } }, test_marlSet, 512, 0, 9, by decide⟩,
   ⟨{ test_hub with marl := { handed := some (some (test_marlSet, 512, 0, 1)) } }, test_marlSet, 512, 0, 1, by decide⟩,
   ⟨{ test_hub with marl := { held := some test_marlSet } }, .pcie, 7#32, by decide⟩,
   ⟨{ test_hub with marl := { held := some test_marlSet, conf := some (checkOf test_marlSet) } }, 1, 1, 0, 0, 0, checkOf test_marlSet, test_marlSet, by decide⟩,
   ⟨{ test_hub with marl := { held := some test_marlSet, conf := some (checkOf test_marlSet), confB := some 0 } }, 1, 1, 0, 0, 0, checkOf test_marlSet, test_marlSet, by decide⟩,
   ⟨{ test_hub with marl := { held := none, conf := some (checkOf test_marlSet), confB := some 1 } }, 1, 1, 0, 0, 0, checkOf test_marlSet, by decide⟩,
   ⟨{ test_hub with marl := { held := some test_marlSet, conf := some (7), confB := some 2 } }, 1, 1, 0, 0, 0, 7, test_marlSet, by decide⟩,
   ⟨{ test_hub with marl := { held := some test_marlSet, conf := some (checkOf test_marlSet), confB := some 3 } }, 2, 2, 0, 0, 0, checkOf test_marlSet, test_marlSet, by decide⟩,
   ⟨{ test_hub with marl := { held := some test_marlSet, conf := some (checkOf test_marlSet), confB := some 0 } }, 2, 2, 0, 0, 0, checkOf test_marlSet, test_marlSet, by decide⟩,
   ⟨{ test_hub with marl := { b := { next := some [1#8] } } }, 7#32, by decide⟩,
   ⟨{ test_hub with marl := { a := { set := test_marlSet }, b := { set := test_marlSet }, state := 1, storing := some test_marlSet } }, test_marlSet, by decide⟩,
   ⟨{ test_hub with marl := { a := { set := [1#8], next := some test_marlSet, notify := true }, state := 1, held := some test_marlSet } }, false, 3, 3, 0, 2000, 2001, test_marlSet, by decide⟩,
   ⟨{ test_hub with sys := { test_hub.sys with vddf := false }, marl := { a := { recs := [some (4, test_marlSet), none] }, b := { recs := [some (4, test_marlSet), none] }, state := 2 } }, test_marlSet, by decide⟩,
   ⟨{ test_hub with sys := { test_hub.sys with vddf := false }, marl := { a := { recs := [some (4, test_marlSet), none] } } }, test_marlSet, by decide⟩,
   ⟨{ test_hub with sys := { test_hub.sys with vddf := false }, marl := {  } }, by decide⟩,
   ⟨{ test_hub with marl := { a := { set := test_marlSet }, b := { set := test_marlSet }, state := 1 } }, true, false, by decide⟩,
   ⟨{ test_hub with marl := { a := { set := test_marlSet, recs := [some (0, test_marlSet), some (4, [1#8])] }, b := { set := test_marlSet }, state := 1, storing := some [2#8] } }, false, true, [2#8], by decide⟩⟩

theorem test_meets_HostPortsAndImageFlash :
    (∃ (s : State) (k : Fin 4), (s.regsWf) ∧ (s.isHub = true) ∧ (k ≠ 3) ∧ (s.flag HST.PCIE_STAT.LINK_UP = true)) ∧
    (∃ (s : State) (k : Fin 4), (s.regsWf) ∧ (s.isHub = true) ∧ (k = 3 ∨ s.flag HST.PCIE_STAT.LINK_UP = false)) ∧
    (∃ (s : State) (_lanes _speed : Fin 3) (_msixEn : Bool), (s.regsWf) ∧ (s.isHub = true)) ∧
    (∃ (s : State) (_lanes _speed : Fin 3) (_msixEn : Bool), (s.regsWf) ∧ (s.isHub = false)) ∧
    (∃ (s : State) (_k : Fin 4), (s.regsWf) ∧ (s.isHub = false)) ∧
    (∃ (s u : State) (a : W32) (dt ticks v : Nat), (spiOn s = true) ∧ (busRead .spi (a.toNat / 4 * 4) dt ticks s.fresh = (u, some v))) ∧
    (∃ (s : State) (_a : W32) (_n _dt _ticks : Nat), (spiOn s = true)) ∧
    (∃ (s : State) (_a : W32) (_ws : List W32) (_dt _ticks : Nat), (spiOn s = true)) ∧
    (∃ (s : State) (_a : W32) (rest : Fin 4) (_dt _ticks : Nat), (s.regsWf) ∧ (spiOn s = true) ∧ (rest ≠ 0) ∧ (s.flag HST.AERR.VALID = false)) ∧
    (∃ (s : State), (s.regsWf) ∧ (spiOn s = true)) ∧
    (∃ (s : State), (s.regsWf)) ∧
    (∃ (s : State) (p : Path) (_w : W32), (s.regsWf) ∧ (Reaches p HST.SPIC_CMD.addr s) ∧ (s.flag HST.SPIC_STAT.BUSY = false) ∧ (s.fld IMG.STAT.STATE ≠ 2)) ∧
    (∃ (s : State) (_w : W32), (s.regsWf) ∧ (Reaches .pcie HST.SPIC_CMD.addr s) ∧ (s.flag HST.SPIC_STAT.BUSY = true) ∧ (s.flag HST.AERR.VALID = false)) ∧
    (∃ (s : State) (_data : List Byte), (s.regsWf) ∧ (Memory.wf s.station.mem = true) ∧ (s.flag HST.SPIC_STAT.BUSY = true) ∧ (s.flag HST.SPIC_CMD.WRITE = false)) ∧
    (∃ (s : State) (_data : List Byte), (s.regsWf) ∧ (s.flag HST.SPIC_STAT.BUSY = true) ∧ (s.flag HST.SPIC_CMD.WRITE = true)) :=
  ⟨⟨((test_hub.setFld HST.PCIE_STAT.LINK_UP 1).setFld HST.PCIE_STAT.WIDTH 4), 2, by decide⟩,
   ⟨((test_hub.setFld HST.PCIE_STAT.LINK_UP 1).setFld HST.PCIE_STAT.WIDTH 4), 3, by decide⟩,
   ⟨test_hub, 2, 2, true, by decide⟩,
   ⟨test_cell, 2, 2, true, by decide⟩,
   ⟨test_cell, 2, by decide⟩,
   ⟨{ test_hub with marl := {} }, { test_hub with marl := {}, out := [] }, 0x001C0018#32, 0, 0, 0, by decide⟩,
   ⟨test_hub, 0x001C0018#32, 2, 0, 0, by decide⟩,
   ⟨test_hub, 0x001C0018#32, [7#32, 8#32], 0, 0, by decide⟩,
   ⟨test_hub, 0x001C0018#32, 3, 0, 0, by decide⟩,
   ⟨(test_hub.setFld HST.AERR.VALID 1), by decide⟩,
   ⟨test_hub, by decide⟩,
   ⟨test_hub, .pcie, 0x4030009F#32, by decide⟩,
   ⟨(test_hub.setFld HST.SPIC_STAT.BUSY 1), 0x4030009F#32, by decide⟩,
   ⟨((test_hub.setFld HST.SPIC_STAT.BUSY 1).setFld HST.SPIC_CMD.LEN 256), [1#8, 2#8], by decide⟩,
   ⟨((test_hub.setFld HST.SPIC_STAT.BUSY 1).setFld HST.SPIC_CMD.WRITE 1), [1#8, 2#8], by decide⟩⟩

theorem test_meets_EthernetPortsReceiveAndSend :
    (∃ (s : State) (q : Fin 2) (b : List Byte) (_ticks : Nat), (s.regsWf) ∧ (portUp s q.val = true) ∧ (b.length ≤ 1522) ∧ (b.length < 64 ∨ leNat (b.drop (b.length - 4)) ≠ crc32 (b.take (b.length - 4)))) ∧
    (∃ (s : State) (q : Fin 2) (b : List Byte) (_ticks : Nat), (s.regsWf) ∧ (portUp s q.val = true) ∧ (1522 < b.length)) ∧
    (∃ (s : State) (q : Fin 2) (b : List Byte) (_ticks : Nat), (s.regsWf) ∧ (portUp s q.val = true) ∧ (64 ≤ b.length) ∧ (b.length ≤ 1522) ∧ (leNat (b.drop (b.length - 4)) = crc32 (b.take (b.length - 4))) ∧ (isPause (b.take (b.length - 4)) = true)) ∧
    (∃ (s : State) (q : Fin 2) (b : List Byte) (_ticks : Nat), (s.regsWf) ∧ (portUp s q.val = true) ∧ (64 ≤ b.length) ∧ (b.length ≤ 1522) ∧ (leNat (b.drop (b.length - 4)) = crc32 (b.take (b.length - 4))) ∧ (isPause (b.take (b.length - 4)) = false) ∧ (ethAccepts s q.val (b.take (b.length - 4)) = false)) ∧
    (∃ (s : State) (q : Fin 2) (b : List Byte) (_ticks : Nat), (s.regsWf) ∧ (portUp s q.val = true) ∧ (64 ≤ b.length) ∧ (b.length ≤ 1522) ∧ (leNat (b.drop (b.length - 4)) = crc32 (b.take (b.length - 4))) ∧ (isPause (b.take (b.length - 4)) = false) ∧ (ethAccepts s q.val (b.take (b.length - 4)) = true) ∧ (isTelegram (b.take (b.length - 4)) = true) ∧ (s.flag ETH.MRL_CFG.COPY_HOST = false)) ∧
    (∃ (s : State) (q : Fin 2) (b : List Byte) (_ticks : Nat), (s.regsWf) ∧ (portUp s q.val = true) ∧ (64 ≤ b.length) ∧ (b.length ≤ 1522) ∧ (leNat (b.drop (b.length - 4)) = crc32 (b.take (b.length - 4))) ∧ (isPause (b.take (b.length - 4)) = false) ∧ (ethAccepts s q.val (b.take (b.length - 4)) = true) ∧ (isTelegram (b.take (b.length - 4)) = false) ∧ ((s.fld (ETH.RX_WR.WR.at (0x1000 * q.val))) + (16 + ((b.take (b.length - 4)).length + 15) / 16 * 16) ≤ 16384) ∧ (((s.fld (ETH.RX_WR.WR.at (0x1000 * q.val))) + 16384 - (s.fld (ETH.RX_RD.RD.at (0x1000 * q.val)))) % 16384 + (16 + ((b.take (b.length - 4)).length + 15) / 16 * 16) < 16384)) ∧
    (∃ (s : State) (q : Fin 2) (b : List Byte) (_ticks : Nat), (s.regsWf) ∧ (portUp s q.val = true) ∧ (64 ≤ b.length) ∧ (b.length ≤ 1522) ∧ (leNat (b.drop (b.length - 4)) = crc32 (b.take (b.length - 4))) ∧ (isPause (b.take (b.length - 4)) = false) ∧ (ethAccepts s q.val (b.take (b.length - 4)) = true) ∧ (isTelegram (b.take (b.length - 4)) = false) ∧ ((s.fld (ETH.RX_WR.WR.at (0x1000 * q.val))) + (16 + ((b.take (b.length - 4)).length + 15) / 16 * 16) ≤ 16384) ∧ (16384 ≤ ((s.fld (ETH.RX_WR.WR.at (0x1000 * q.val))) + 16384 - (s.fld (ETH.RX_RD.RD.at (0x1000 * q.val)))) % 16384 + (16 + ((b.take (b.length - 4)).length + 15) / 16 * 16))) ∧
    (∃ (s : State) (p : Path) (q : Fin 2) (w : W32), (s.regsWf) ∧ (Reaches p (ETH.RX_RD.addr + 0x1000 * q.val) s) ∧ (w.toNat % 16 = 0)) ∧
    (∃ (s : State) (q : Fin 2) (w : W32), (s.regsWf) ∧ (Reaches .spi (ETH.RX_RD.addr + 0x1000 * q.val) s) ∧ (w.toNat % 16 ≠ 0) ∧ (s.flag HST.AERR.VALID = false)) ∧
    (∃ (s : State) (p : Path) (q : Fin 2) (w : W32) (_ticks : Nat), (s.regsWf) ∧ (Reaches p (ETH.TX_CTRL.addr + 0x1000 * q.val) s) ∧ (s.flag (ETH.TX_CTRL.BUSY.at (0x1000 * q.val)) = false) ∧ (14 ≤ (bitsAt w.toNat 0 11)) ∧ ((bitsAt w.toNat 0 11) ≤ 1518) ∧ (s.station.ports.length = 2) ∧ (portUp s q.val = true) ∧ ((s.port q.val).wire = none) ∧ ((s.port q.val).telegrams = [])) ∧
    (∃ (s : State) (p : Path) (q : Fin 2) (w : W32) (_ticks : Nat), (s.regsWf) ∧ (Reaches p (ETH.TX_CTRL.addr + 0x1000 * q.val) s) ∧ (s.flag (ETH.TX_CTRL.BUSY.at (0x1000 * q.val)) = false) ∧ (14 ≤ (bitsAt w.toNat 0 11)) ∧ ((bitsAt w.toNat 0 11) ≤ 1518) ∧ (s.station.ports.length = 2) ∧ ((s.port q.val).wire ≠ none)) ∧
    (∃ (s : State) (q : Fin 2) (_w : W32) (_ticks : Nat), (s.regsWf) ∧ (Reaches .pcie (ETH.TX_CTRL.addr + 0x1000 * q.val) s) ∧ (s.flag (ETH.TX_CTRL.BUSY.at (0x1000 * q.val)) = true) ∧ (s.flag HST.AERR.VALID = false)) ∧
    (∃ (s : State) (q : Fin 2) (w : W32) (_ticks : Nat), (s.regsWf) ∧ (Reaches .pcie (ETH.TX_CTRL.addr + 0x1000 * q.val) s) ∧ (s.flag (ETH.TX_CTRL.BUSY.at (0x1000 * q.val)) = false) ∧ (bitAt w.toNat 31 = true) ∧ ((bitsAt w.toNat 0 11) < 14 ∨ 1518 < (bitsAt w.toNat 0 11)) ∧ (s.flag HST.AERR.VALID = false)) ∧
    (∃ (s : State) (q : Fin 2) (_ticks : Nat), (s.regsWf) ∧ (s.station.ports.length = 2) ∧ ((s.port q.val).wire = some false) ∧ ((s.port q.val).telegrams = []) ∧ ((s.port q.val).host = none) ∧ (s.flag (ETH.TX_CTRL.TS_REQ.at (0x1000 * q.val)) = false)) ∧
    (∃ (s : State) (q : Fin 2) (_ticks : Nat), (s.regsWf) ∧ (s.station.ports.length = 2) ∧ ((s.port q.val).wire = some false) ∧ ((s.port q.val).telegrams = []) ∧ ((s.port q.val).host = none) ∧ (s.flag (ETH.TX_CTRL.TS_REQ.at (0x1000 * q.val)) = true)) ∧
    (∃ (s : State) (q : Fin 2) (_ticks : Nat) (f : List Byte) (fs : List (List Byte)), (s.regsWf) ∧ (s.station.ports.length = 2) ∧ (portUp s q.val = true) ∧ ((s.port q.val).wire = some true) ∧ ((s.port q.val).telegrams = f :: fs)) ∧
    (∃ (s : State) (q : Fin 2) (_ticks : Nat) (f : List Byte), (s.regsWf) ∧ (s.station.ports.length = 2) ∧ (portUp s q.val = true) ∧ ((s.port q.val).wire = some true) ∧ ((s.port q.val).telegrams = []) ∧ ((s.port q.val).host = some f)) ∧
    (∃ (s : State) (q : Fin 2) (up _an : Bool), (s.regsWf) ∧ (stationOn s = true) ∧ (up = true ∨ s.fld ETH.PTP_CTRL.PTP_PORT ≠ q.val)) :=
  ⟨⟨(((test_hub.setFld SYS.CLOD_PWR.STN_EN 1).setFld (ETH.PCFG.EN.at (0x1000 * 1)) 1).setFld (ETH.PSTAT.LINK.at (0x1000 * 1)) 1), 1, List.replicate 60 0xFF#8, 5, by decide⟩,
   ⟨(((test_hub.setFld SYS.CLOD_PWR.STN_EN 1).setFld (ETH.PCFG.EN.at (0x1000 * 1)) 1).setFld (ETH.PSTAT.LINK.at (0x1000 * 1)) 1), 1, List.replicate 1523 0xFF#8, 5, by decide⟩,
   ⟨(((test_hub.setFld SYS.CLOD_PWR.STN_EN 1).setFld (ETH.PCFG.EN.at (0x1000 * 1)) 1).setFld (ETH.PSTAT.LINK.at (0x1000 * 1)) 1), 1, ((List.replicate 12 0#8 ++ [0x88#8, 0x08#8, 0x00#8, 0x01#8] ++ List.replicate 44 0#8) ++ leBytes 4 (crc32 (List.replicate 12 0#8 ++ [0x88#8, 0x08#8, 0x00#8, 0x01#8] ++ List.replicate 44 0#8))), 5, by decide⟩,
   ⟨(((test_hub.setFld SYS.CLOD_PWR.STN_EN 1).setFld (ETH.PCFG.EN.at (0x1000 * 1)) 1).setFld (ETH.PSTAT.LINK.at (0x1000 * 1)) 1), 1, ((List.replicate 60 2#8) ++ leBytes 4 (crc32 (List.replicate 60 2#8))), 5, by decide⟩,
   ⟨(((test_hub.setFld SYS.CLOD_PWR.STN_EN 1).setFld (ETH.PCFG.EN.at (0x1000 * 0)) 1).setFld (ETH.PSTAT.LINK.at (0x1000 * 0)) 1), 0, test_mrlWire, 5, by decide⟩,
   ⟨(((((test_hub.setFld SYS.CLOD_PWR.STN_EN 1).setFld (ETH.PCFG.EN.at (0x1000 * 1)) 1).setFld (ETH.PSTAT.LINK.at (0x1000 * 1)) 1).setFld (ETH.RX_WR.WR.at (0x1000 * 1)) 16304).setFld (ETH.RX_RD.RD.at (0x1000 * 1)) 16304), 1, test_wire, 5, by decide⟩,
   ⟨(((((test_hub.setFld SYS.CLOD_PWR.STN_EN 1).setFld (ETH.PCFG.EN.at (0x1000 * 1)) 1).setFld (ETH.PSTAT.LINK.at (0x1000 * 1)) 1).setFld (ETH.RX_WR.WR.at (0x1000 * 1)) 16).setFld (ETH.RX_RD.RD.at (0x1000 * 1)) 96), 1, test_wire, 5, by decide⟩,
   ⟨(test_hub.setFld SYS.CLOD_PWR.STN_EN 1), .pcie, 1, 0x3FF0#32, by decide⟩,
   ⟨(test_hub.setFld SYS.CLOD_PWR.STN_EN 1), 1, 0x3FF8#32, by decide⟩,
   ⟨(((test_hub.setFld SYS.CLOD_PWR.STN_EN 1).setFld (ETH.PCFG.EN.at (0x1000 * 1)) 1).setFld (ETH.PSTAT.LINK.at (0x1000 * 1)) 1), .pcie, 1, 0x20000020#32, 0, by decide⟩,
   ⟨{ (((test_hub.setFld SYS.CLOD_PWR.STN_EN 1).setFld (ETH.PCFG.EN.at (0x1000 * 1)) 1).setFld (ETH.PSTAT.LINK.at (0x1000 * 1)) 1) with station := { ports := [{}, { wire := some true }] } }, .pcie, 1, 0x20000020#32, 0, by decide⟩,
   ⟨((((test_hub.setFld SYS.CLOD_PWR.STN_EN 1).setFld (ETH.PCFG.EN.at (0x1000 * 1)) 1).setFld (ETH.PSTAT.LINK.at (0x1000 * 1)) 1).setFld (ETH.TX_CTRL.BUSY.at (0x1000 * 1)) 1), 1, 0x20000020#32, 0, by decide⟩,
   ⟨(((test_hub.setFld SYS.CLOD_PWR.STN_EN 1).setFld (ETH.PCFG.EN.at (0x1000 * 1)) 1).setFld (ETH.PSTAT.LINK.at (0x1000 * 1)) 1), 1, 0x80000000#32, 0, by decide⟩,
   ⟨{ ((((test_hub.setFld SYS.CLOD_PWR.STN_EN 1).setFld (ETH.PCFG.EN.at (0x1000 * 1)) 1).setFld (ETH.PSTAT.LINK.at (0x1000 * 1)) 1).setFld (ETH.TX_CTRL.BUSY.at (0x1000 * 1)) 1) with station := { ports := [{}, { wire := some false }] } }, 1, 9, by decide⟩,
   ⟨{ ((((((test_hub.setFld SYS.CLOD_PWR.STN_EN 1).setFld (ETH.PCFG.EN.at (0x1000 * 1)) 1).setFld (ETH.PSTAT.LINK.at (0x1000 * 1)) 1).setFld (ETH.TX_CTRL.BUSY.at (0x1000 * 1)) 1).setFld (ETH.TX_CTRL.TS_REQ.at (0x1000 * 1)) 1).setFld (ETH.LAT.TX_LAT.at (0x1000 * 1)) 80) with station := { ports := [{}, { wire := some false }] } }, 1, 156250001, by decide⟩,
   ⟨{ (((test_hub.setFld SYS.CLOD_PWR.STN_EN 1).setFld (ETH.PCFG.EN.at (0x1000 * 1)) 1).setFld (ETH.PSTAT.LINK.at (0x1000 * 1)) 1) with station := { ports := [{}, { wire := some true, host := some [1#8], telegrams := [[7#8]] }] } }, 1, 9, [7#8], [], by decide⟩,
   ⟨{ (((test_hub.setFld SYS.CLOD_PWR.STN_EN 1).setFld (ETH.PCFG.EN.at (0x1000 * 1)) 1).setFld (ETH.PSTAT.LINK.at (0x1000 * 1)) 1) with station := { ports := [{}, { wire := some true, host := some [1#8] }] } }, 1, 9, [1#8], by decide⟩,
   ⟨(test_hub.setFld SYS.CLOD_PWR.STN_EN 1), 1, false, true, by decide⟩⟩

theorem test_meets_PtpClockStepsLocksAndStamps :
    (∃ (s : State) (p : Path) (_w : W32) (_ticks : Nat), (s.regsWf) ∧ (Reaches p ETH.PTP_CTRL.addr s)) ∧
    (∃ (s : State) (p : Path) (w : W32) (_ticks : Nat), (s.regsWf) ∧ (Reaches p ETH.PTP_CTRL.addr s) ∧ (bitAt w.toNat 0 = true)) ∧
    (∃ (s : State) (p : Path) (w : W32) (_ticks : Nat), (s.regsWf) ∧ (Reaches p ETH.PTP_CTRL.addr s) ∧ (bitAt w.toNat 0 = false) ∧ (s.flag ETH.PTP_STAT.LOCKED = true)) ∧
    (∃ (s : State) (ticks : Nat), (s.regsWf) ∧ (s.flag ETH.PTP_STAT.LOCKED = true) ∧ (s.station.lockAt + (max 1 (s.fld ETH.PTP_CTRL.LOCK_TO) : Nat) * ptpSecond ≤ ptpAt s ticks)) ∧
    (∃ (s : State) (ticks : Nat), (s.regsWf) ∧ (s.flag ETH.PTP_STAT.LOCKED = true) ∧ (s.station.lockAt + (max 1 (s.fld ETH.PTP_CTRL.LOCK_TO) : Nat) * ptpSecond > ptpAt s ticks)) ∧
    (∃ (s : State) (p : Path) (w : W32) (_ticks : Nat), (s.regsWf) ∧ (Reaches p ETH.PTP_CTRL.addr s) ∧ (bitAt w.toNat 0 = false) ∧ (s.flag ETH.PTP_STAT.LOCKED = false)) ∧
    (∃ (s : State) (ticks : Nat), (s.regsWf) ∧ (s.flag ETH.PTP_STAT.LOCKED = false) ∧ (s.station.lockAt + (max 1 (s.fld ETH.PTP_CTRL.LOCK_TO) : Nat) * ptpSecond ≤ ptpAt s ticks)) ∧
    (∃ (s : State) (ticks : Nat), (s.regsWf) ∧ (s.flag ETH.PTP_STAT.LOCKED = false) ∧ (s.station.lockAt + (max 1 (s.fld ETH.PTP_CTRL.LOCK_TO) : Nat) * ptpSecond > ptpAt s ticks)) ∧
    (∃ (s : State) (p : Path) (be : Fin 16) (_ticks : Nat), (s.regsWf) ∧ (Reaches p ETH.PTP_NS.addr s) ∧ (readEnables p be.val ≠ 0)) ∧
    (∃ (s : State) (p : Path) (be : Fin 16), (s.regsWf) ∧ (Reaches p ETH.PPS_NS.addr s) ∧ (readEnables p be.val ≠ 0)) ∧
    (∃ (s : State) (_ticks : Nat), (s.regsWf) ∧ (stationOn s = true)) ∧
    (∃ (s : State), (s.regsWf) ∧ (stationOn s = true) ∧ (s.flag ETH.PPS_CFG.OUT_EN = true)) ∧
    (∃ (s : State), (s.regsWf) ∧ (s.flag ETH.PPS_CFG.OUT_EN = false)) ∧
    (∃ (s : State) (q : Fin 2) (_an : Bool), (s.regsWf) ∧ (stationOn s = true) ∧ (s.fld ETH.PTP_CTRL.PTP_PORT = q.val) ∧ (s.flag ETH.PTP_STAT.LOCKED = true)) :=
  ⟨⟨{ (((test_hub.setFld SYS.CLOD_PWR.STN_EN 1).setFld (ETH.STEP_NS.NS) (2 ^ 32 - 5)).setFld (ETH.STEP_SEC.SEC) 7) with station := { ptp := 5000 } }, .pcie, 0x80000400#32, 77, by decide⟩,
   ⟨(test_hub.setFld SYS.CLOD_PWR.STN_EN 1), .pcie, 0x403#32, 77, by decide⟩,
   ⟨((test_hub.setFld SYS.CLOD_PWR.STN_EN 1).setFld (ETH.PTP_STAT.LOCKED) 1), .pcie, 0x402#32, 77, by decide⟩,
   ⟨{ ((test_hub.setFld SYS.CLOD_PWR.STN_EN 1).setFld (ETH.PTP_STAT.LOCKED) 1) with station := { lockAt := -1000 * ptpSecond } }, 5, by decide⟩,
   ⟨((test_hub.setFld SYS.CLOD_PWR.STN_EN 1).setFld (ETH.PTP_STAT.LOCKED) 1), 5, by decide⟩,
   ⟨(test_hub.setFld SYS.CLOD_PWR.STN_EN 1), .pcie, 0x402#32, 77, by decide⟩,
   ⟨{ (test_hub.setFld SYS.CLOD_PWR.STN_EN 1) with station := { lockAt := -1000 * ptpSecond } }, 5, by decide⟩,
   ⟨(test_hub.setFld SYS.CLOD_PWR.STN_EN 1), 5, by decide⟩,
   ⟨{ (test_hub.setFld SYS.CLOD_PWR.STN_EN 1) with station := { ptp := 1600000000000000000000 } }, .pcie, 15, 156250003, by decide⟩,
   ⟨{ ((test_hub.setFld SYS.CLOD_PWR.STN_EN 1).setFld (ETH.PPS_NS.NS) 55) with station := { ppsSec := 2 ^ 33 + 1 } }, .spi, 3, by decide⟩,
   ⟨{ (test_hub.setFld SYS.CLOD_PWR.STN_EN 1) with station := { ptp := 1600000000000000000000 } }, 3, by decide⟩,
   ⟨((test_hub.setFld SYS.CLOD_PWR.STN_EN 1).setFld (ETH.PPS_CFG.OUT_EN) 1), by decide⟩,
   ⟨(test_hub.setFld SYS.CLOD_PWR.STN_EN 1), by decide⟩,
   ⟨((test_hub.setFld SYS.CLOD_PWR.STN_EN 1).setFld (ETH.PTP_STAT.LOCKED) 1), 0, true, by decide⟩⟩

theorem test_meets_CanSlotsSubmitAttemptAndComplete :
    (∃ (s : State) (p : Path) (n : Fin 4) (k : Fin 3) (w : W32), (s.regsWf) ∧ (Reaches p (CAN.TXSLOT.addr + 0x1000 * n.val + 4 * k.val) s) ∧ (s.fld (CAN.TXSLOT.STATE.at (0x1000 * n.val + 4 * k.val)) = 0) ∧ (own s (bitsAt w.toNat 0 9) = ownHost) ∧ (belowQuota s n.val = true) ∧ (s.flag (CAN.CTRL.EN.at (0x1000 * n.val)) = true) ∧ ((s.fld (CAN.STAT.STATE.at (0x1000 * n.val))) < 2) ∧ (s.station.cans.length = 4)) ∧
    (∃ (s : State) (n : Fin 4) (k : Fin 3) (_w : W32), (s.regsWf) ∧ (Reaches .pcie (CAN.TXSLOT.addr + 0x1000 * n.val + 4 * k.val) s) ∧ (s.fld (CAN.TXSLOT.STATE.at (0x1000 * n.val + 4 * k.val)) ≠ 0) ∧ (s.flag HST.AERR.VALID = false)) ∧
    (∃ (s : State) (n : Fin 4) (k : Fin 3) (w : W32), (s.regsWf) ∧ (Reaches .pcie (CAN.TXSLOT.addr + 0x1000 * n.val + 4 * k.val) s) ∧ (s.fld (CAN.TXSLOT.STATE.at (0x1000 * n.val + 4 * k.val)) = 0) ∧ (own s (bitsAt w.toNat 0 9) ≠ ownHost ∨ belowQuota s n.val = false ∨ s.flag (CAN.CTRL.EN.at (0x1000 * n.val)) = false) ∧ (s.flag HST.AERR.VALID = false)) ∧
    (∃ (s : State) (n : Fin 4) (_cyc : Nat) (k : Fin 3), (s.regsWf) ∧ (s.flag (CAN.CTRL.EN.at (0x1000 * n.val)) = true) ∧ (busMonitoring s n.val = false) ∧ ((s.fld (CAN.CTRL.MODE.at (0x1000 * n.val))) ≠ 1) ∧ ((s.fld (CAN.STAT.STATE.at (0x1000 * n.val))) < 2) ∧ (∀ j : Fin 3, s.fld (CAN.TXSLOT.STATE.at (0x1000 * n.val + 4 * j.val)) ≠ 2) ∧ (pickSlot s n.val = some k.val) ∧ (s.station.cans.length = 4)) ∧
    (∃ (s : State) (n : Fin 4) (_cyc : Nat), (s.regsWf) ∧ (s.flag (CAN.CTRL.EN.at (0x1000 * n.val)) = false ∨ busMonitoring s n.val = true ∨ (s.fld (CAN.CTRL.MODE.at (0x1000 * n.val))) = 1 ∨ 2 ≤ (s.fld (CAN.STAT.STATE.at (0x1000 * n.val))) ∨ pickSlot s n.val = none)) ∧
    (∃ (s : State) (n : Fin 4) (k : Fin 3), (s.flag (CAN.CTRL.FD_EN.at (0x1000 * n.val)) = false) ∧ (bitAt (leNat (stRead s (siltAt (s.fld (CAN.TXSLOT.BUF.at (0x1000 * n.val + 4 * k.val)))) 4)) 31 = true)) ∧
    (∃ (s : State) (n : Fin 4) (k : Fin 3) (_more _exempt : Nat), (s.regsWf) ∧ (inAttempt s n.val = some k.val) ∧ (s.station.cans.length = 4) ∧ (canLoopback s n.val = false)) ∧
    (∃ (s : State) (n : Fin 4) (k : Fin 3) (_more _exempt b j : Nat), (s.regsWf) ∧ (inAttempt s n.val = some k.val) ∧ (s.station.cans.length = 4) ∧ (canLoopback s n.val = true) ∧ (Memory.wf s.station.mem = true) ∧ ((s.can n.val).reserve = some b) ∧ (b < 512) ∧ (b ≠ (s.fld (CAN.TXSLOT.BUF.at (0x1000 * n.val + 4 * k.val)))) ∧ (filterFor s n.val (leNat (stRead s (siltAt (s.fld (CAN.TXSLOT.BUF.at (0x1000 * n.val + 4 * k.val)))) 4)) = some j) ∧ (s.flag (CAN.FTGT.MB.at (0x1000 * n.val + 0x10 * j)) = false) ∧ ((s.can n.val).fifo.length < 64)) ∧
    (∃ (s : State) (n : Fin 4) (k : Fin 3) (how : CanEnd) (more exempt : Nat), (s.regsWf) ∧ (inAttempt s n.val = some k.val) ∧ (s.station.cans.length = 4) ∧ (how = .lost ∨ (how = .error ∧ (exempt ≠ 0 ∨ (s.fld (CAN.STAT.TEC.at (0x1000 * n.val))) + 8 * (1 + more) ≤ 255))) ∧ ((s.can n.val).cancel.getD k.val false = false) ∧ (s.flag (CAN.CTRL.RETRY_EN.at (0x1000 * n.val)) = false ∨ (s.can n.val).tries.getD k.val 0 < s.fld (CAN.CTRL.RETRY.at (0x1000 * n.val)))) ∧
    (∃ (s : State) (n : Fin 4) (k : Fin 3) (how : CanEnd) (more exempt : Nat), (s.regsWf) ∧ (inAttempt s n.val = some k.val) ∧ (s.station.cans.length = 4) ∧ (how = .lost ∨ (how = .error ∧ (exempt ≠ 0 ∨ (s.fld (CAN.STAT.TEC.at (0x1000 * n.val))) + 8 * (1 + more) ≤ 255))) ∧ ((s.can n.val).cancel.getD k.val false = false) ∧ (s.flag (CAN.CTRL.RETRY_EN.at (0x1000 * n.val)) = true) ∧ (s.fld (CAN.CTRL.RETRY.at (0x1000 * n.val)) ≤ (s.can n.val).tries.getD k.val 0)) ∧
    (∃ (s : State) (n : Fin 4) (k : Fin 3) (how : CanEnd) (more exempt : Nat), (s.regsWf) ∧ (inAttempt s n.val = some k.val) ∧ (s.station.cans.length = 4) ∧ (how = .lost ∨ (how = .error ∧ (exempt ≠ 0 ∨ (s.fld (CAN.STAT.TEC.at (0x1000 * n.val))) + 8 * (1 + more) ≤ 255))) ∧ ((s.can n.val).cancel.getD k.val false = true)) ∧
    (∃ (s : State) (n : Fin 4) (k : Fin 3) (more : Nat), (s.regsWf) ∧ (inAttempt s n.val = some k.val) ∧ (s.station.cans.length = 4) ∧ (255 < (s.fld (CAN.STAT.TEC.at (0x1000 * n.val))) + 8 * (1 + more)) ∧ ((s.can n.val).cancel.getD k.val false = false) ∧ (s.flag (CAN.CTRL.RETRY_EN.at (0x1000 * n.val)) = false ∨ (s.can n.val).tries.getD k.val 0 < s.fld (CAN.CTRL.RETRY.at (0x1000 * n.val)))) ∧
    (∃ (s : State) (p : Path) (n : Fin 4) (k : Fin 3) (m : Fin 8), (s.regsWf) ∧ (Reaches p (CAN.CMD.addr + 0x1000 * n.val) s) ∧ (bitAt m.val k.val = true) ∧ (∀ j : Fin 3, j ≠ k → bitAt m.val j.val = true → s.fld (CAN.TXSLOT.STATE.at (0x1000 * n.val + 4 * j.val)) = 0) ∧ (s.fld (CAN.TXSLOT.STATE.at (0x1000 * n.val + 4 * k.val)) = 1 ∨ s.fld (CAN.TXSLOT.STATE.at (0x1000 * n.val + 4 * k.val)) = 3) ∧ (s.station.cans.length = 4)) ∧
    (∃ (s : State) (p : Path) (n : Fin 4) (k : Fin 3) (m : Fin 8), (s.regsWf) ∧ (Reaches p (CAN.CMD.addr + 0x1000 * n.val) s) ∧ (bitAt m.val k.val = true) ∧ (∀ j : Fin 3, j ≠ k → bitAt m.val j.val = true → s.fld (CAN.TXSLOT.STATE.at (0x1000 * n.val + 4 * j.val)) = 0) ∧ (s.fld (CAN.TXSLOT.STATE.at (0x1000 * n.val + 4 * k.val)) = 2) ∧ (s.station.cans.length = 4)) ∧
    (∃ (s : State) (p : Path) (n : Fin 4) (m : Fin 8), (s.regsWf) ∧ (Reaches p (CAN.CMD.addr + 0x1000 * n.val) s) ∧ (∀ k : Fin 3, bitAt m.val k.val = true → s.fld (CAN.TXSLOT.STATE.at (0x1000 * n.val + 4 * k.val)) = 0)) ∧
    (∃ (s : State) (p : Path) (n : Fin 4) (w : W32), (s.regsWf) ∧ (Reaches p (CAN.CTRL.addr + 0x1000 * n.val) s) ∧ (s.flag (CAN.CTRL.EN.at (0x1000 * n.val)) = true) ∧ ((w.toNat ^^^ s.rd (CAN.CTRL.addr + 0x1000 * n.val)) &&& 0x3E = 0) ∧ (s.station.cans.length = 4)) ∧
    (∃ (s : State) (p : Path) (n : Fin 4), (s.regsWf) ∧ (Reaches p (CAN.TXEVT_POP.addr + 0x1000 * n.val) s) ∧ (s.station.cans.length = 4)) :=
  ⟨⟨{ (((test_hub.setFld SYS.CLOD_PWR.STN_EN 1).setFld (CAN.CTRL.EN.at 4096) (1)).setFld (SLT.META.OWNER.at 148) (1)) with station := { cans := [{}, {  }, {}, {}] } }, .pcie, 1, 2, 37#32, by decide⟩,
   ⟨{ (((((((test_hub.setFld SYS.CLOD_PWR.STN_EN 1).setFld (CAN.CTRL.EN.at 4096) (1)).setFld (CAN.TXSLOT.STATE.at 4104) (1)).setFld (CAN.TXSLOT.BUF.at 4104) (37)).setFld (CAN.TXSLOT.ATTEMPTS.at 4104) (0)).setFld (SLT.META.OWNER.at 148) (3)).setFld (SLT.META.CTRL.at 148) (1)) with station := { cans := [{}, {  }, {}, {}] } }, 1, 2, 38#32, by decide⟩,
   ⟨{ ((test_hub.setFld SYS.CLOD_PWR.STN_EN 1).setFld (CAN.CTRL.EN.at 4096) (1)) with station := { cans := [{}, {  }, {}, {}] } }, 1, 2, 38#32, by decide⟩,
   ⟨{ (((((((((((((test_hub.setFld SYS.CLOD_PWR.STN_EN 1).setFld (CAN.CTRL.EN.at 4096) (1)).setFld (CAN.TXSLOT.STATE.at 4104) (1)).setFld (CAN.TXSLOT.BUF.at 4104) (37)).setFld (CAN.TXSLOT.ATTEMPTS.at 4104) (0)).setFld (SLT.META.OWNER.at 148) (3)).setFld (SLT.META.CTRL.at 148) (1)).setFld (CAN.TXSLOT.STATE.at 4100) (1)).setFld (CAN.TXSLOT.BUF.at 4100) (38)).setFld (CAN.TXSLOT.ATTEMPTS.at 4100) (0)).setFld (SLT.META.OWNER.at 152) (3)).setFld (SLT.META.CTRL.at 152) (1)).setFld (CAN.CTRL.TXORDER.at 4096) (1)) with station := { cans := [{}, {  }, {}, {}] } }, 1, 400, 1, by decide⟩,
   ⟨{ ((((((((test_hub.setFld SYS.CLOD_PWR.STN_EN 1).setFld (CAN.CTRL.EN.at 4096) (1)).setFld (CAN.TXSLOT.STATE.at 4104) (1)).setFld (CAN.TXSLOT.BUF.at 4104) (37)).setFld (CAN.TXSLOT.ATTEMPTS.at 4104) (0)).setFld (SLT.META.OWNER.at 148) (3)).setFld (SLT.META.CTRL.at 148) (1)).setFld (CAN.CTRL.MODE.at 4096) (2)) with station := { cans := [{}, {  }, {}, {}] } }, 1, 400, by decide⟩,
   ⟨{ (((test_hub.setFld SYS.CLOD_PWR.STN_EN 1).setFld (CAN.CTRL.EN.at 0x1000) 1).setFld (CAN.TXSLOT.STATE.at 0x1008) 1).setFld (CAN.TXSLOT.BUF.at 0x1008) 37 with station := { mem := memWrite [] (siltAt 37 + 3) [0x80#8] } }, 1, 2, by decide⟩,
   ⟨{ (((((((test_hub.setFld SYS.CLOD_PWR.STN_EN 1).setFld (CAN.CTRL.EN.at 4096) (1)).setFld (CAN.TXSLOT.STATE.at 4104) (2)).setFld (CAN.TXSLOT.BUF.at 4104) (37)).setFld (CAN.TXSLOT.ATTEMPTS.at 4104) (0)).setFld (SLT.META.OWNER.at 148) (3)).setFld (SLT.META.CTRL.at 148) (1)) with station := { cans := [{}, { sof := [none, none, some 9] }, {}, {}] } }, 1, 2, 3, 4, by decide⟩,
   ⟨{ (((((((((((test_hub.setFld SYS.CLOD_PWR.STN_EN 1).setFld (CAN.CTRL.EN.at 4096) (1)).setFld (CAN.TXSLOT.STATE.at 4104) (2)).setFld (CAN.TXSLOT.BUF.at 4104) (37)).setFld (CAN.TXSLOT.ATTEMPTS.at 4104) (0)).setFld (SLT.META.OWNER.at 148) (3)).setFld (SLT.META.CTRL.at 148) (1)).setFld (CAN.CTRL.MODE.at 4096) (4)).setFld (CAN.FID.EN.at 4096) (1)).setFld (SLT.META.OWNER.at 20) (4)).setFld (SLT.META.CTRL.at 20) (1)) with station := { cans := [{}, { reserve := some 5 }, {}, {}] } }, 1, 2, 3, 4, 5, 0, by decide⟩,
   ⟨{ (((((((test_hub.setFld SYS.CLOD_PWR.STN_EN 1).setFld (CAN.CTRL.EN.at 4096) (1)).setFld (CAN.TXSLOT.STATE.at 4104) (2)).setFld (CAN.TXSLOT.BUF.at 4104) (37)).setFld (CAN.TXSLOT.ATTEMPTS.at 4104) (3)).setFld (SLT.META.OWNER.at 148) (3)).setFld (SLT.META.CTRL.at 148) (1)) with station := { cans := [{}, { sof := [none, none, some 9] }, {}, {}] } }, 1, 2, .lost, 3, 0, by decide⟩,
   ⟨{ (((((((((test_hub.setFld SYS.CLOD_PWR.STN_EN 1).setFld (CAN.CTRL.EN.at 4096) (1)).setFld (CAN.TXSLOT.STATE.at 4104) (2)).setFld (CAN.TXSLOT.BUF.at 4104) (37)).setFld (CAN.TXSLOT.ATTEMPTS.at 4104) (0)).setFld (SLT.META.OWNER.at 148) (3)).setFld (SLT.META.CTRL.at 148) (1)).setFld (CAN.CTRL.RETRY_EN.at 4096) (1)).setFld (CAN.CTRL.RETRY.at 4096) (7)) with station := { cans := [{}, { sof := [none, none, some 9], tries := [0, 0, 7] }, {}, {}] } }, 1, 2, .error, 0, 0, by decide⟩,
   ⟨{ (((((((test_hub.setFld SYS.CLOD_PWR.STN_EN 1).setFld (CAN.CTRL.EN.at 4096) (1)).setFld (CAN.TXSLOT.STATE.at 4104) (2)).setFld (CAN.TXSLOT.BUF.at 4104) (37)).setFld (CAN.TXSLOT.ATTEMPTS.at 4104) (0)).setFld (SLT.META.OWNER.at 148) (3)).setFld (SLT.META.CTRL.at 148) (1)) with station := { cans := [{}, { sof := [none, none, some 9], cancel := [false, false, true] }, {}, {}] } }, 1, 2, .error, 3, 4, by decide⟩,
   ⟨{ (((((((((test_hub.setFld SYS.CLOD_PWR.STN_EN 1).setFld (CAN.CTRL.EN.at 4096) (1)).setFld (CAN.TXSLOT.STATE.at 4104) (2)).setFld (CAN.TXSLOT.BUF.at 4104) (37)).setFld (CAN.TXSLOT.ATTEMPTS.at 4104) (0)).setFld (SLT.META.OWNER.at 148) (3)).setFld (SLT.META.CTRL.at 148) (1)).setFld (CAN.STAT.TEC.at 4096) (248)).setFld (CAN.STAT.STATE.at 4096) (1)) with station := { cans := [{}, {  }, {}, {}] } }, 1, 2, 0, by decide⟩,
   ⟨{ (((((((test_hub.setFld SYS.CLOD_PWR.STN_EN 1).setFld (CAN.CTRL.EN.at 4096) (1)).setFld (CAN.TXSLOT.STATE.at 4104) (1)).setFld (CAN.TXSLOT.BUF.at 4104) (37)).setFld (CAN.TXSLOT.ATTEMPTS.at 4104) (0)).setFld (SLT.META.OWNER.at 148) (3)).setFld (SLT.META.CTRL.at 148) (1)) with station := { cans := [{}, { sof := [none, none, some 9] }, {}, {}] } }, .pcie, 1, 2, 4, by decide⟩,
   ⟨{ (((((((test_hub.setFld SYS.CLOD_PWR.STN_EN 1).setFld (CAN.CTRL.EN.at 4096) (1)).setFld (CAN.TXSLOT.STATE.at 4104) (2)).setFld (CAN.TXSLOT.BUF.at 4104) (37)).setFld (CAN.TXSLOT.ATTEMPTS.at 4104) (0)).setFld (SLT.META.OWNER.at 148) (3)).setFld (SLT.META.CTRL.at 148) (1)) with station := { cans := [{}, { sof := [none, none, some 9] }, {}, {}] } }, .pcie, 1, 2, 4, by decide⟩,
   ⟨{ (((((((test_hub.setFld SYS.CLOD_PWR.STN_EN 1).setFld (CAN.CTRL.EN.at 4096) (1)).setFld (CAN.TXSLOT.STATE.at 4104) (2)).setFld (CAN.TXSLOT.BUF.at 4104) (37)).setFld (CAN.TXSLOT.ATTEMPTS.at 4104) (0)).setFld (SLT.META.OWNER.at 148) (3)).setFld (SLT.META.CTRL.at 148) (1)) with station := { cans := [{}, { sof := [none, none, some 9] }, {}, {}] } }, .pcie, 1, 3, by decide⟩,
   ⟨{ ((((((((((((test_hub.setFld SYS.CLOD_PWR.STN_EN 1).setFld (CAN.CTRL.EN.at 4096) (1)).setFld (CAN.TXSLOT.STATE.at 4104) (1)).setFld (CAN.TXSLOT.BUF.at 4104) (37)).setFld (CAN.TXSLOT.ATTEMPTS.at 4104) (0)).setFld (SLT.META.OWNER.at 148) (3)).setFld (SLT.META.CTRL.at 148) (1)).setFld (CAN.TXSLOT.STATE.at 4096) (2)).setFld (CAN.TXSLOT.BUF.at 4096) (38)).setFld (CAN.TXSLOT.ATTEMPTS.at 4096) (0)).setFld (SLT.META.OWNER.at 152) (3)).setFld (SLT.META.CTRL.at 152) (1)) with station := { cans := [{}, { sof := [none, none, some 9] }, {}, {}] } }, .pcie, 1, 0#32, by decide⟩,
   ⟨{ ((test_hub.setFld SYS.CLOD_PWR.STN_EN 1).setFld (CAN.CTRL.EN.at 4096) (1)) with station := { cans := [{}, { evts := [{}, { buf := 3 }] }, {}, {}] } }, .pcie, 1, by decide⟩⟩

theorem test_meets_CanBusOffAndRecovery :
    (∃ (s : State) (n : Fin 4) (more : Nat), (s.regsWf) ∧ (s.flag (CAN.CTRL.EN.at (0x1000 * n.val)) = true) ∧ (255 < (s.fld (CAN.STAT.TEC.at (0x1000 * n.val))) + 8 * (1 + more)) ∧ ((s.fld (CAN.STAT.STATE.at (0x1000 * n.val))) < 2) ∧ (inAttempt s n.val = none) ∧ (s.station.cans.length = 4)) ∧
    (∃ (s : State) (n : Fin 4) (more : Nat) (k : Fin 3), (s.regsWf) ∧ (s.flag (CAN.CTRL.EN.at (0x1000 * n.val)) = true) ∧ (255 < (s.fld (CAN.STAT.TEC.at (0x1000 * n.val))) + 8 * (1 + more)) ∧ ((s.fld (CAN.STAT.STATE.at (0x1000 * n.val))) < 2) ∧ (inAttempt s n.val = some k.val) ∧ (s.flag (CAN.CTRL.AUTO_REC.at (0x1000 * n.val)) = true) ∧ ((s.can n.val).cancel.getD k.val false = false) ∧ (s.flag (CAN.CTRL.RETRY_EN.at (0x1000 * n.val)) = false ∨ (s.can n.val).tries.getD k.val 0 < s.fld (CAN.CTRL.RETRY.at (0x1000 * n.val))) ∧ (s.station.cans.length = 4)) ∧
    (∃ (s : State) (n : Fin 4) (more : Nat), (s.regsWf) ∧ (s.flag (CAN.CTRL.EN.at (0x1000 * n.val)) = false ∨ 2 ≤ (s.fld (CAN.STAT.STATE.at (0x1000 * n.val))) ∨ (s.fld (CAN.STAT.TEC.at (0x1000 * n.val))) + 8 * (1 + more) ≤ 255)) ∧
    (∃ (s : State) (p : Path) (n : Fin 4), (s.regsWf) ∧ (Reaches p (CAN.CMD.addr + 0x1000 * n.val) s) ∧ ((s.fld (CAN.STAT.STATE.at (0x1000 * n.val))) = 2)) ∧
    (∃ (s : State) (p : Path) (n : Fin 4), (s.regsWf) ∧ (Reaches p (CAN.CMD.addr + 0x1000 * n.val) s) ∧ ((s.fld (CAN.STAT.STATE.at (0x1000 * n.val))) ≠ 2)) ∧
    (∃ (s : State) (n : Fin 4), (s.regsWf) ∧ ((s.fld (CAN.STAT.STATE.at (0x1000 * n.val))) = 3) ∧ (s.station.cans.length = 4)) :=
  ⟨⟨{ (((((((((((((test_hub.setFld SYS.CLOD_PWR.STN_EN 1).setFld (CAN.CTRL.EN.at 4096) (1)).setFld (CAN.TXSLOT.STATE.at 4104) (1)).setFld (CAN.TXSLOT.BUF.at 4104) (37)).setFld (CAN.TXSLOT.ATTEMPTS.at 4104) (0)).setFld (SLT.META.OWNER.at 148) (3)).setFld (SLT.META.CTRL.at 148) (1)).setFld (CAN.TXSLOT.STATE.at 4096) (1)).setFld (CAN.TXSLOT.BUF.at 4096) (38)).setFld (CAN.TXSLOT.ATTEMPTS.at 4096) (0)).setFld (SLT.META.OWNER.at 152) (3)).setFld (SLT.META.CTRL.at 152) (1)).setFld (CAN.STAT.TEC.at 4096) (250)) with station := { cans := [{}, {  }, {}, {}] } }, 1, 0, by decide⟩,
   ⟨{ (((((((((((((test_hub.setFld SYS.CLOD_PWR.STN_EN 1).setFld (CAN.CTRL.EN.at 4096) (1)).setFld (CAN.TXSLOT.STATE.at 4104) (1)).setFld (CAN.TXSLOT.BUF.at 4104) (37)).setFld (CAN.TXSLOT.ATTEMPTS.at 4104) (0)).setFld (SLT.META.OWNER.at 148) (3)).setFld (SLT.META.CTRL.at 148) (1)).setFld (CAN.TXSLOT.STATE.at 4096) (2)).setFld (CAN.TXSLOT.BUF.at 4096) (38)).setFld (CAN.TXSLOT.ATTEMPTS.at 4096) (0)).setFld (SLT.META.OWNER.at 152) (3)).setFld (SLT.META.CTRL.at 152) (1)).setFld (CAN.CTRL.AUTO_REC.at 4096) (1)) with station := { cans := [{}, { sof := [some 9, none, none] }, {}, {}] } }, 1, 31, 0, by decide⟩,
   ⟨{ ((test_hub.setFld SYS.CLOD_PWR.STN_EN 1).setFld (CAN.CTRL.EN.at 4096) (1)) with station := { cans := [{}, {  }, {}, {}] } }, 1, 30, by decide⟩,
   ⟨{ (((test_hub.setFld SYS.CLOD_PWR.STN_EN 1).setFld (CAN.CTRL.EN.at 4096) (1)).setFld (CAN.STAT.STATE.at 4096) (2)) with station := { cans := [{}, {  }, {}, {}] } }, .pcie, 1, by decide⟩,
   ⟨{ (((test_hub.setFld SYS.CLOD_PWR.STN_EN 1).setFld (CAN.CTRL.EN.at 4096) (1)).setFld (CAN.STAT.STATE.at 4096) (1)) with station := { cans := [{}, {  }, {}, {}] } }, .pcie, 1, by decide⟩,
   ⟨{ (((((((((((((test_hub.setFld SYS.CLOD_PWR.STN_EN 1).setFld (CAN.CTRL.EN.at 4096) (1)).setFld (CAN.TXSLOT.STATE.at 4104) (3)).setFld (CAN.TXSLOT.BUF.at 4104) (37)).setFld (CAN.TXSLOT.ATTEMPTS.at 4104) (0)).setFld (SLT.META.OWNER.at 148) (3)).setFld (SLT.META.CTRL.at 148) (1)).setFld (CAN.TXSLOT.STATE.at 4096) (3)).setFld (CAN.TXSLOT.BUF.at 4096) (38)).setFld (CAN.TXSLOT.ATTEMPTS.at 4096) (0)).setFld (SLT.META.OWNER.at 152) (3)).setFld (SLT.META.CTRL.at 152) (1)).setFld (CAN.STAT.STATE.at 4096) (3)) with station := { cans := [{}, { atOff := some 0 }, {}, {}] } }, 1, by decide⟩⟩

theorem test_no_free_buffer :
    (∃ (s : State) (p : Path) (be : Fin 16), (s.regsWf) ∧ (Reaches p SLT.ALLOC.addr s) ∧ (readEnables p be.val ≠ 0) ∧ (∀ j : Fin 512, own s j.val ≠ ownFree)) :=
  ⟨{ (test_hub.setFld SYS.CLOD_PWR.STN_EN 1) with reg := (test_hub.setFld SYS.CLOD_PWR.STN_EN 1).reg ++ (List.range 512).map (fun b => (SLT.META.addr + 4 * b, 0x00400000#32)) }, .pcie, 15, by decide⟩

theorem test_meets_CanFramesReachFifoOrMailbox :
    (∃ (s : State) (n : Fin 4) (o : CanObs) (b j : Nat), (s.regsWf) ∧ (s.flag (CAN.CTRL.EN.at (0x1000 * n.val)) = true) ∧ ((s.fld (CAN.STAT.STATE.at (0x1000 * n.val))) < 2) ∧ (canLoopback s n.val = false) ∧ (s.station.cans.length = 4) ∧ (o.pxe = false) ∧ (o.err = false) ∧ (bitAt o.ident 31 = false ∨ s.flag (CAN.CTRL.FD_EN.at (0x1000 * n.val)) = true) ∧ (Memory.wf s.station.mem = true) ∧ ((s.can n.val).reserve = some b) ∧ (b < 512) ∧ (filterFor s n.val o.ident = some j) ∧ (s.flag (CAN.FTGT.MB.at (0x1000 * n.val + 0x10 * j)) = false) ∧ ((s.can n.val).fifo.length < 64)) ∧
    (∃ (s : State) (n : Fin 4) (o : CanObs), (s.regsWf) ∧ (s.flag (CAN.CTRL.EN.at (0x1000 * n.val)) = true) ∧ ((s.fld (CAN.STAT.STATE.at (0x1000 * n.val))) < 2) ∧ (canLoopback s n.val = false) ∧ (s.station.cans.length = 4) ∧ (o.pxe = false) ∧ (o.err = false) ∧ (bitAt o.ident 31 = false ∨ s.flag (CAN.CTRL.FD_EN.at (0x1000 * n.val)) = true) ∧ ((s.can n.val).reserve = none) ∧ (filterFor s n.val o.ident ≠ none)) ∧
    (∃ (s : State) (n : Fin 4) (o : CanObs) (b j : Nat), (s.regsWf) ∧ (s.flag (CAN.CTRL.EN.at (0x1000 * n.val)) = true) ∧ ((s.fld (CAN.STAT.STATE.at (0x1000 * n.val))) < 2) ∧ (canLoopback s n.val = false) ∧ (s.station.cans.length = 4) ∧ (o.pxe = false) ∧ (o.err = false) ∧ (bitAt o.ident 31 = false ∨ s.flag (CAN.CTRL.FD_EN.at (0x1000 * n.val)) = true) ∧ (Memory.wf s.station.mem = true) ∧ ((s.can n.val).reserve = some b) ∧ (filterFor s n.val o.ident = some j) ∧ (s.flag (CAN.FTGT.MB.at (0x1000 * n.val + 0x10 * j)) = false) ∧ (64 ≤ (s.can n.val).fifo.length)) ∧
    (∃ (s : State) (n : Fin 4) (o : CanObs), (s.regsWf) ∧ (s.flag (CAN.CTRL.EN.at (0x1000 * n.val)) = true) ∧ ((s.fld (CAN.STAT.STATE.at (0x1000 * n.val))) < 2) ∧ (canLoopback s n.val = false) ∧ (s.station.cans.length = 4) ∧ (o.pxe = false) ∧ (bitAt o.ident 31 = false ∨ s.flag (CAN.CTRL.FD_EN.at (0x1000 * n.val)) = true) ∧ (o.err = true)) ∧
    (∃ (s : State) (n : Fin 4) (o : CanObs), (s.regsWf) ∧ (s.flag (CAN.CTRL.EN.at (0x1000 * n.val)) = true) ∧ ((s.fld (CAN.STAT.STATE.at (0x1000 * n.val))) < 2) ∧ (canLoopback s n.val = false) ∧ (s.station.cans.length = 4) ∧ (o.pxe = true ∨ (bitAt o.ident 31 = true ∧ s.flag (CAN.CTRL.FD_EN.at (0x1000 * n.val)) = false)) ∧ (s.flag (CAN.CTRL.PXHD.at (0x1000 * n.val)) = false)) ∧
    (∃ (s : State) (n : Fin 4) (o : CanObs), (s.regsWf) ∧ (s.flag (CAN.CTRL.EN.at (0x1000 * n.val)) = true) ∧ ((s.fld (CAN.STAT.STATE.at (0x1000 * n.val))) < 2) ∧ (canLoopback s n.val = false) ∧ (s.station.cans.length = 4) ∧ (o.pxe = true ∨ (bitAt o.ident 31 = true ∧ s.flag (CAN.CTRL.FD_EN.at (0x1000 * n.val)) = false)) ∧ (s.flag (CAN.CTRL.PXHD.at (0x1000 * n.val)) = true)) ∧
    (∃ (s : State) (n : Fin 4) (_o : CanObs), (s.regsWf) ∧ (s.flag (CAN.CTRL.EN.at (0x1000 * n.val)) = false ∨ 2 ≤ (s.fld (CAN.STAT.STATE.at (0x1000 * n.val))) ∨ canLoopback s n.val = true)) ∧
    (∃ (s : State) (n : Fin 4) (o : CanObs), (s.regsWf) ∧ (s.flag (CAN.CTRL.EN.at (0x1000 * n.val)) = true) ∧ ((s.fld (CAN.STAT.STATE.at (0x1000 * n.val))) < 2) ∧ (canLoopback s n.val = false) ∧ (s.station.cans.length = 4) ∧ (o.pxe = false) ∧ (o.err = false) ∧ (bitAt o.ident 31 = false ∨ s.flag (CAN.CTRL.FD_EN.at (0x1000 * n.val)) = true) ∧ ((s.can n.val).reserve = none) ∧ (filterFor s n.val o.ident = none)) ∧
    (∃ (s : State) (n : Fin 4) (o : CanObs) (b : Nat), (s.regsWf) ∧ (s.flag (CAN.CTRL.EN.at (0x1000 * n.val)) = true) ∧ ((s.fld (CAN.STAT.STATE.at (0x1000 * n.val))) < 2) ∧ (canLoopback s n.val = false) ∧ (s.station.cans.length = 4) ∧ (o.pxe = false) ∧ (o.err = false) ∧ (bitAt o.ident 31 = false ∨ s.flag (CAN.CTRL.FD_EN.at (0x1000 * n.val)) = true) ∧ (Memory.wf s.station.mem = true) ∧ ((s.can n.val).reserve = some b) ∧ (filterFor s n.val o.ident = none)) ∧
    (∃ (s : State) (n : Fin 4) (o : CanObs) (b j : Nat), (s.regsWf) ∧ (s.flag (CAN.CTRL.EN.at (0x1000 * n.val)) = true) ∧ ((s.fld (CAN.STAT.STATE.at (0x1000 * n.val))) < 2) ∧ (canLoopback s n.val = false) ∧ (s.station.cans.length = 4) ∧ (o.pxe = false) ∧ (o.err = false) ∧ (bitAt o.ident 31 = false ∨ s.flag (CAN.CTRL.FD_EN.at (0x1000 * n.val)) = true) ∧ (Memory.wf s.station.mem = true) ∧ ((s.can n.val).reserve = some b) ∧ (filterFor s n.val o.ident = some j) ∧ (s.flag (CAN.FTGT.MB.at (0x1000 * n.val + 0x10 * j)) = true)) ∧
    (∃ (s : State) (p : Path) (n : Fin 4) (j : Fin 32) (part : Fin 3) (w : W32), (s.regsWf) ∧ (Reaches p (CAN.FID.addr + 0x1000 * n.val + 0x10 * j.val + 4 * part.val) s) ∧ (part = 1 ∨ (part = 2 ∧ s.flag (CAN.FID.EN.at (0x1000 * n.val + 0x10 * j.val)) = false) ∨ (part = 0 ∧ (s.flag (CAN.FTGT.MB.at (0x1000 * n.val + 0x10 * j.val)) = false ∨ (s.flag (CAN.FID.EN.at (0x1000 * n.val + 0x10 * j.val)) = true ∧ bitAt w.toNat 31 = true))))) ∧
    (∃ (s : State) (n : Fin 4) (j : Fin 32) (_w : W32), (s.regsWf) ∧ (Reaches .pcie (CAN.FID.addr + 0x1000 * n.val + 0x10 * j.val + 4 * (2 : Fin 3).val) s) ∧ (s.flag (CAN.FID.EN.at (0x1000 * n.val + 0x10 * j.val)) = true) ∧ (s.flag HST.AERR.VALID = false)) ∧
    (∃ (s : State) (p : Path) (n : Fin 4) (j : Fin 32) (w : W32), (s.regsWf) ∧ (Reaches p (CAN.FID.addr + 0x1000 * n.val + 0x10 * j.val + 4 * (0 : Fin 3).val) s) ∧ (s.flag (CAN.FID.EN.at (0x1000 * n.val + 0x10 * j.val)) = false) ∧ (s.flag (CAN.FTGT.MB.at (0x1000 * n.val + 0x10 * j.val)) = true) ∧ (bitAt w.toNat 31 = true) ∧ (own s (s.fld (CAN.FTGT.BUF.at (0x1000 * n.val + 0x10 * j.val))) = ownHost) ∧ (belowQuota s n.val = true)) ∧
    (∃ (s : State) (n : Fin 4) (j : Fin 32) (w : W32), (s.regsWf) ∧ (Reaches .pcie (CAN.FID.addr + 0x1000 * n.val + 0x10 * j.val + 4 * (0 : Fin 3).val) s) ∧ (s.flag (CAN.FID.EN.at (0x1000 * n.val + 0x10 * j.val)) = false) ∧ (s.flag (CAN.FTGT.MB.at (0x1000 * n.val + 0x10 * j.val)) = true) ∧ (bitAt w.toNat 31 = true) ∧ (own s (s.fld (CAN.FTGT.BUF.at (0x1000 * n.val + 0x10 * j.val))) ≠ ownHost ∨ belowQuota s n.val = false) ∧ (s.flag HST.AERR.VALID = false)) ∧
    (∃ (s : State) (p : Path) (n : Fin 4) (j : Fin 32) (w : W32), (s.regsWf) ∧ (Reaches p (CAN.FID.addr + 0x1000 * n.val + 0x10 * j.val + 4 * (0 : Fin 3).val) s) ∧ (s.flag (CAN.FID.EN.at (0x1000 * n.val + 0x10 * j.val)) = true) ∧ (s.flag (CAN.FTGT.MB.at (0x1000 * n.val + 0x10 * j.val)) = true) ∧ (bitAt w.toNat 31 = false) ∧ (own s (s.fld (CAN.FTGT.BUF.at (0x1000 * n.val + 0x10 * j.val))) = ownMailbox) ∧ (s.station.cans.length = 4)) ∧
    (∃ (s : State) (p : Path) (n : Fin 4) (b : Nat) (bs : List Nat), (s.regsWf) ∧ (Reaches p (CAN.RXPOP.addr + 0x1000 * n.val) s) ∧ ((s.can n.val).fifo = b :: bs) ∧ (b < 512) ∧ (s.station.cans.length = 4)) ∧
    (∃ (s : State) (p : Path) (_dt _ticks : Nat), (s.regsWf) ∧ (Reaches p CAN.TS_SNAP.addr s)) ∧
    (∃ (s : State) (p : Path) (be : Fin 16) (b : Fin 512), (s.regsWf) ∧ (Reaches p SLT.ALLOC.addr s) ∧ (readEnables p be.val ≠ 0) ∧ (own s b.val = ownFree) ∧ (∀ j : Fin 512, j.val < b.val → own s j.val ≠ ownFree)) ∧
    (∃ (s : State) (p : Path) (be : Fin 16), (s.regsWf) ∧ (Reaches p SLT.ALLOC.addr s) ∧ (readEnables p be.val ≠ 0) ∧ (∀ j : Fin 512, own s j.val ≠ ownFree)) ∧
    (∃ (s : State) (p : Path) (b : Fin 512), (s.regsWf) ∧ (Reaches p SLT.FREE.addr s) ∧ (own s b.val = ownHost) ∧ (s.station.cans.length = 4)) ∧
    (∃ (s : State) (p : Path) (b : Fin 512), (s.regsWf) ∧ (Reaches p SLT.FREE.addr s) ∧ (own s b.val ≠ ownHost)) ∧
    (∃ (s : State) (p : Path) (_b : Fin 512) (_q : Fin 16), (s.regsWf) ∧ (Reaches p SLT.ND_CLR.addr s)) :=
  ⟨⟨{ ((((((test_hub.setFld SYS.CLOD_PWR.STN_EN 1).setFld (CAN.CTRL.EN.at 4096) (1)).setFld (CAN.FID.EN.at 4096) (1)).setFld (CAN.FMASK.MASK.at 4096) (536805376)).setFld (SLT.META.OWNER.at 20) (4)).setFld (SLT.META.CTRL.at 20) (1)) with station := { cans := [{}, { reserve := some 5 }, {}, {}] } }, 1, { ident := 0x2000, dlc := 15, data := [1#8, 2#8], cyc := 800 }, 5, 0, by decide⟩,
   ⟨{ ((((test_hub.setFld SYS.CLOD_PWR.STN_EN 1).setFld (CAN.CTRL.EN.at 4096) (1)).setFld (CAN.FID.EN.at 4096) (1)).setFld (CAN.FMASK.MASK.at 4096) (536805376)) with station := { cans := [{}, {  }, {}, {}] } }, 1, { ident := 0x2000, dlc := 15, data := [1#8, 2#8], cyc := 800 }, by decide⟩,
   ⟨{ ((((((test_hub.setFld SYS.CLOD_PWR.STN_EN 1).setFld (CAN.CTRL.EN.at 4096) (1)).setFld (CAN.FID.EN.at 4096) (1)).setFld (CAN.FMASK.MASK.at 4096) (536805376)).setFld (SLT.META.OWNER.at 20) (4)).setFld (SLT.META.CTRL.at 20) (1)) with station := { cans := [{}, { reserve := some 5, fifo := List.range 64 }, {}, {}] } }, 1, { ident := 0x2000, dlc := 15, data := [1#8, 2#8], cyc := 800 }, 5, 0, by decide⟩,
   ⟨{ ((test_hub.setFld SYS.CLOD_PWR.STN_EN 1).setFld (CAN.CTRL.EN.at 4096) (1)) with station := { cans := [{}, {  }, {}, {}] } }, 1, { err := true, more := 1 }, by decide⟩,
   ⟨{ ((test_hub.setFld SYS.CLOD_PWR.STN_EN 1).setFld (CAN.CTRL.EN.at 4096) (1)) with station := { cans := [{}, {  }, {}, {}] } }, 1, { ident := 0x80000000 }, by decide⟩,
   ⟨{ (((test_hub.setFld SYS.CLOD_PWR.STN_EN 1).setFld (CAN.CTRL.EN.at 4096) (1)).setFld (CAN.CTRL.PXHD.at 4096) (1)) with station := { cans := [{}, {  }, {}, {}] } }, 1, { pxe := true }, by decide⟩,
   ⟨{ (((test_hub.setFld SYS.CLOD_PWR.STN_EN 1).setFld (CAN.CTRL.EN.at 4096) (1)).setFld (CAN.CTRL.MODE.at 4096) (3)) with station := { cans := [{}, {  }, {}, {}] } }, 1, { ident := 0x2000, dlc := 15, data := [1#8, 2#8], cyc := 800 }, by decide⟩,
   ⟨{ ((test_hub.setFld SYS.CLOD_PWR.STN_EN 1).setFld (CAN.CTRL.EN.at 4096) (1)) with station := { cans := [{}, {  }, {}, {}] } }, 1, { ident := 0x2000, dlc := 15, data := [1#8, 2#8], cyc := 800 }, by decide⟩,
   ⟨{ ((((test_hub.setFld SYS.CLOD_PWR.STN_EN 1).setFld (CAN.CTRL.EN.at 4096) (1)).setFld (SLT.META.OWNER.at 20) (4)).setFld (SLT.META.CTRL.at 20) (1)) with station := { cans := [{}, { reserve := some 5 }, {}, {}] } }, 1, { ident := 0x2000, dlc := 15, data := [1#8, 2#8], cyc := 800 }, 5, by decide⟩,
   ⟨{ ((((((((((test_hub.setFld SYS.CLOD_PWR.STN_EN 1).setFld (CAN.CTRL.EN.at 4096) (1)).setFld (CAN.FID.EN.at 4096) (1)).setFld (CAN.FMASK.MASK.at 4096) (536805376)).setFld (SLT.META.OWNER.at 20) (4)).setFld (SLT.META.CTRL.at 20) (1)).setFld (CAN.FTGT.MB.at 4096) (1)).setFld (CAN.FTGT.BUF.at 4096) (9)).setFld (SLT.META.OWNER.at 36) (6)).setFld (SLT.META.SEQ.at 36) (15)) with station := { cans := [{}, { reserve := some 5 }, {}, {}] } }, 1, { ident := 0x2000, dlc := 15, data := [1#8, 2#8], cyc := 800 }, 5, 0, by decide⟩,
   ⟨{ ((test_hub.setFld SYS.CLOD_PWR.STN_EN 1).setFld (CAN.CTRL.EN.at 4096) (1)) with station := { cans := [{}, {  }, {}, {}] } }, .pcie, 1, 31, 0, 0xFFFFFFFF#32, by decide⟩,
   ⟨{ (((test_hub.setFld SYS.CLOD_PWR.STN_EN 1).setFld (CAN.CTRL.EN.at 4096) (1)).setFld (CAN.FID.EN.at 4592) (1)) with station := { cans := [{}, {  }, {}, {}] } }, 1, 31, 0#32, by decide⟩,
   ⟨{ (((((test_hub.setFld SYS.CLOD_PWR.STN_EN 1).setFld (CAN.CTRL.EN.at 4096) (1)).setFld (CAN.FTGT.MB.at 4592) (1)).setFld (CAN.FTGT.BUF.at 4592) (9)).setFld (SLT.META.OWNER.at 36) (1)) with station := { cans := [{}, {  }, {}, {}] } }, .pcie, 1, 31, 0x80000000#32, by decide⟩,
   ⟨{ ((((test_hub.setFld SYS.CLOD_PWR.STN_EN 1).setFld (CAN.CTRL.EN.at 4096) (1)).setFld (CAN.FTGT.MB.at 4592) (1)).setFld (CAN.FTGT.BUF.at 4592) (9)) with station := { cans := [{}, {  }, {}, {}] } }, 1, 31, 0x80000000#32, by decide⟩,
   ⟨{ ((((((test_hub.setFld SYS.CLOD_PWR.STN_EN 1).setFld (CAN.CTRL.EN.at 4096) (1)).setFld (CAN.FTGT.MB.at 4592) (1)).setFld (CAN.FID.EN.at 4592) (1)).setFld (CAN.FTGT.BUF.at 4592) (9)).setFld (SLT.META.OWNER.at 36) (6)) with station := { cans := [{}, {  }, {}, {}] } }, .pcie, 1, 31, 0#32, by decide⟩,
   ⟨{ ((((test_hub.setFld SYS.CLOD_PWR.STN_EN 1).setFld (CAN.CTRL.EN.at 4096) (1)).setFld (SLT.META.OWNER.at 20) (5)).setFld (SLT.META.CTRL.at 20) (1)) with station := { cans := [{}, { fifo := [5, 6] }, {}, {}] } }, .pcie, 1, 5, [6], by decide⟩,
   ⟨{ (test_hub.setFld SYS.CLOD_PWR.STN_EN 1) with station := { ptp := 1600000000000000000000, canTs := 7 } }, .spi, 800, 3, by decide⟩,
   ⟨(((test_hub.setFld SYS.CLOD_PWR.STN_EN 1).setFld SLT.META.OWNER 1).setFld (SLT.META.OWNER.at 4) 3), .pcie, 8, 2, by decide⟩,
   test_no_free_buffer,
   ⟨((test_hub.setFld SYS.CLOD_PWR.STN_EN 1).setFld (SLT.META.OWNER.at 2044) 1), .pcie, 511, by decide⟩,
   ⟨((test_hub.setFld SYS.CLOD_PWR.STN_EN 1).setFld (SLT.META.OWNER.at 2044) 5), .pcie, 511, by decide⟩,
   ⟨(((test_hub.setFld SYS.CLOD_PWR.STN_EN 1).setFld (SLT.META.ND.at 2044) 1).setFld (SLT.META.SEQ.at 2044) 15), .pcie, 511, 15, by decide⟩⟩

theorem test_meets_AccessErrorsLeaveTheBlockUntouched :
    (∃ (s : State) (p : Path) (word : Fin 8388608) (be : Fin 16) (_w : W32) (_dt _ticks : Nat), (s.regsWf) ∧ (p ≠ .mgmt) ∧ (s.isCell = false) ∧ (answerAt (4 * word.val) s = .gated) ∧ (be ≠ 0) ∧ (s.flag HST.AERR.VALID = false)) ∧
    (∃ (s : State) (p : Path) (word : Fin 8388608) (be : Fin 16) (_w : W32) (_dt _ticks : Nat), (s.regsWf) ∧ (p ≠ .mgmt) ∧ (s.isCell = false) ∧ (answerAt (4 * word.val) s = .gated) ∧ (be ≠ 0) ∧ (s.flag HST.AERR.VALID = true)) ∧
    (∃ (s : State) (w : W32) (i : Fin 32), (s.regsWf) ∧ (Reaches .pcie SYS.CLOD_PWR.addr s) ∧ (s.isCell = false) ∧ (s.blocked = false) ∧ (s.flag HST.AERR.VALID = false) ∧ (i.val ∈ graphInputs s.img.graph) ∧ (bitAt (s.fld SYS.CLOD_PWR.ACQ_EN) (i.val / 8) = true) ∧ (bitAt w.toNat (i.val / 8) = false)) ∧
    (∃ (s : State) (w : W32), (s.regsWf) ∧ (Reaches .pcie SYS.CLOD_PWR.addr s) ∧ (s.isCell = false) ∧ (s.blocked = false) ∧ (s.flag HST.AERR.VALID = false) ∧ (s.flag SYS.CLOD_PWR.STN_EN = true) ∧ (bitAt w.toNat 4 = false) ∧ (syncMode s = 1)) ∧
    (∃ (s : State) (w : W32) (l : Fin 128), (s.regsWf) ∧ (Reaches .pcie SYS.QUAD_PWR.addr s) ∧ (s.isCell = false) ∧ (s.blocked = false) ∧ (s.flag HST.AERR.VALID = false) ∧ (laneAdmitted s l.val = true) ∧ (bitAt (s.fld SYS.QUAD_PWR.QUAD_EN) (l.val / 4) = true) ∧ (bitAt w.toNat (l.val / 4) = false)) ∧
    (∃ (s : State) (p : Path) (w : W32), (s.regsWf) ∧ (Reaches p SYS.QUAD_PWR.addr s) ∧ (s.isCell = false) ∧ ((s.fld SYS.QUAD_PWR.QUAD_EN &&& w.toNat) = s.fld SYS.QUAD_PWR.QUAD_EN)) ∧
    (∃ (s : State) (w : W32), (s.regsWf) ∧ (Reaches .pcie SYS.PERIOD_CFG.addr s) ∧ (s.isCell = false) ∧ (s.blocked = false) ∧ (s.flag HST.AERR.VALID = false) ∧ ((s.rd SYS.PERIOD_CFG.addr &&& 0x33F03) ≠ (w.toNat &&& 0x33F03))) ∧
    (∃ (s : State) (p : Path) (w : W32), (s.regsWf) ∧ (Reaches p SYS.PERIOD_CFG.addr s) ∧ (s.isCell = false) ∧ (s.blocked = false) ∧ ((s.rd SYS.PERIOD_CFG.addr &&& 0x33F03) = (w.toNat &&& 0x33F03))) :=
  ⟨⟨(test_hub.setFld SYS.CLOD_PWR.STN_EN 0), .spi, 0x74000, 15, 7#32, 0, 0, by decide⟩,
   ⟨(((test_hub.setFld HST.AERR.VALID 1).setFld HST.AERR.COUNT 255).setFld SYS.CLOD_PWR.STN_EN 0), .pcie, 0x74000, 3, 7#32, 0, 0, by decide⟩,
   ⟨{ ((test_hub.setFld SYS.CLOD_PWR.ACQ_EN 15).setFld EVR.CONV_STAT.BLOCKED 0) with img := { test_hub.img with graph := { tiles := [{ tile := 5, type := 4, srcs := [{ kind := 2, index := 9 }] }] } } }, 0x1D#32, 9, by decide⟩,
   ⟨{ ((test_hub.setFld SYS.CLOD_PWR.STN_EN 1).setFld EVR.CONV_STAT.BLOCKED 0) with period := { cfg := 0x10000#32 } }, 0x0F#32, by decide⟩,
   ⟨{ ((test_hub.setFld SYS.QUAD_PWR.QUAD_EN 0xFFFFFFFF).setFld EVR.CONV_STAT.BLOCKED 0) with lanes := [(127, { slots := [(3, { own := .admitted })] })] }, 0x7FFFFFFF#32, 127, by decide⟩,
   ⟨(test_hub.setFld SYS.QUAD_PWR.QUAD_EN 6), .pcie, 7#32, by decide⟩,
   ⟨(test_hub.setFld EVR.CONV_STAT.BLOCKED 0), 0x00F00003#32, by decide⟩,
   ⟨(((test_hub.setFld EVR.CONV_STAT.BLOCKED 0).setFld SYS.PERIOD_CFG.TC 1).setFld SYS.PERIOD_CFG.OUTER_KM1 3), .pcie, 0x00500301#32, by decide⟩⟩

theorem test_meets_StepRunsTheFrontCommandOrIdles :
    (∃ (s : State) (i : Instr) (rest : List Instr), (s.pending = i :: rest)) ∧
    (∃ (s : State), (s.pending = [])) :=
  ⟨⟨{ test_hub with pending := [.tripMinMsExpire 0 0] }, .tripMinMsExpire 0 0, [], by decide⟩,
   ⟨test_hub, by decide⟩⟩

theorem test_meets_EveryStepKeepsTheStateCanonical :
    (∃ (s t : State), (s.Canonical) ∧ (step s = .next t)) :=
  ⟨test_hub, test_hub, by decide, rfl⟩

theorem test_meets_KaolinBooksHoldAtEveryStep :
    (∃ (s t : State), (s.Booked) ∧ (step s = .next t)) ∧
    (∃ (s : State) (_warn : Bool), (s.regsWf) ∧ (s.sys.vddm = true) ∧ (s.kao.live.k = 3200) ∧ (s.kao.live.set ≠ []) ∧ (3200 * setNat s.kao.live.set 0xC 4 ≤ s.kao.live.abs1)) ∧
    (∃ (s : State) (_warn : Bool), (s.regsWf) ∧ (s.sys.vddm = true) ∧ (s.kao.live.k = 3200) ∧ (s.kao.live.set ≠ []) ∧ (3200 * setNat s.kao.live.set 0x10 4 ^ 2 ≤ max s.kao.live.sq3 s.kao.live.sq5)) ∧
    (∃ (f : KaoFam), (f.Booked)) :=
  ⟨⟨test_hub, test_hub, by decide, rfl⟩,
   ⟨{ test_hub with kao := { live := { set := test_kaoSet, k := 3200, abs1 := 1600000, dc := { imp := 2 ^ 40, net := 2 ^ 40, sImp := 5, sExp := 7, sNet := -2 } } } }, false, by decide⟩,
   ⟨{ test_hub with kao := { live := { set := test_kaoSet, k := 3200, sq5 := 800000000, ac := { imp := 2 ^ 40, net := 2 ^ 40, sImp := 5, sExp := 7, sNet := -2 } } } }, false, by decide⟩,
   ⟨{ imp := 2 ^ 33, exp_ := 2 ^ 32 + 1, net := 2 ^ 32 - 1 }, by decide⟩⟩

theorem test_meets_GradingOrdersAndSelects :
    (∃ (r : List (Nat × Nat)) (_op : RankOp), (r.Pairwise (fun (x y : Nat × Nat) => rankBefore x y = true))) ∧
    (∃ (e : CtEntry) (i n : Nat) (_report : Bool) (k : Copy), (exclusion e (k.grade i) = some n) ∧ ((k.grade i).ranked = true)) ∧
    (∃ (k : Copy) (a : Nat) (x : Cand), (x ∈ eligible k a)) ∧
    (∃ (x : SelectIn) (_n : Nat) (_elig : List Cand) (_ins : Nat → Bool), (0 < x.unit) ∧ (0 < x.t) ∧ (2 * x.unit ≤ x.tc)) ∧
    (∃ (s : State) (a : Fin 6) (v : Int), (s.regsWf) ∧ ((s.img.arms.getD a.val {}).fullBridge = true) ∧ (s.flag (MOD.ARM_CFG.NORM.at (modOff a.val)) = false) ∧ (-(2 ^ 30) ≤ roundHA (v * (s.img.arms.getD a.val {}).needed * 2 ^ 20) (2 ^ 24)) ∧ (roundHA (v * (s.img.arms.getD a.val {}).needed * 2 ^ 20) (2 ^ 24) ≤ 2 ^ 30)) ∧
    (∃ (s : State) (a : Fin 6) (v : Int), (s.regsWf) ∧ ((s.img.arms.getD a.val {}).fullBridge = false) ∧ (roundHA (v * (s.img.arms.getD a.val {}).needed * 2 ^ 20) (2 ^ 24) < 0) ∧ (s.flag (MOD.ARM_CFG.NORM.at (modOff a.val)) = false)) ∧
    (∃ (s : State) (a : Fin 6) (v : Int), (s.regsWf) ∧ ((armLevel s s.cp a.val v).polNeg = false) ∧ (((s.fld (MOD.ARM_IDB.IDB.at (modOff a.val)) : Nat) : Int) < (armCurrent s a.val (fun (k : Nat) => s.eng.samples.getD k 0)).natAbs)) :=
  ⟨⟨[(4, 9), (4, 11), (7, 2)], .insert 10 4 3, by decide⟩,
   ⟨{}, 7, 0x43, false, { grades := [(7, { ranked := true })] }, by decide⟩,
   ⟨{ arms := [(2, { rank := [(5, 9)] })] }, 2, { key := 5, cell := 9, pend := false }, by decide⟩,
   ⟨{ frac := true, charging := true, polNeg := false, level := 2 ^ 20 + 5, carry := 0, xPrev := none, t := 400, unit := 2, tc := 400, band := 0, swapMax := 2 }, 2, [{ key := 5, cell := 9, pend := false }, { key := 6, cell := 3, pend := true }], fun _ => false, by decide⟩,
   ⟨({ test_hub with img := { test_hub.img with arms := [{}, { needed := 9, fullBridge := true }] } }.setFld (MOD.ARM_CFG.NORM.at (modOff 1)) 0), 1, -500000, by decide⟩,
   ⟨({ test_hub with img := { test_hub.img with arms := [{}, { needed := 9, fullBridge := false }] } }.setFld (MOD.ARM_CFG.NORM.at (modOff 1)) 0), 1, -500000, by decide⟩,
   ⟨{ { test_hub with img := { test_hub.img with arms := [{}, { needed := 9, fullBridge := false }] } } with eng := { samples := [-(2 ^ 30)] } }, 1, 500000, by decide⟩⟩

/-! ## Well-formedness: an ill-formed term for each check -/

theorem test_wf_accepts : ((Instr.kaoSample [1, 2, 3, 4, 5, 6]).wellFormed && (Instr.phaseAdd 65535 5).wellFormed
    && (Instr.burstReceived 0 0 {}).wellFormed && (Instr.canFrameRx 0 { data := List.replicate 64 0#8 }).wellFormed) = true := by decide
theorem test_wf_burst_sums : (Instr.burstReceived 0 0 { sumDfe := [1, 2, 3] }).wellFormed = false := by decide
theorem test_wf_burst_phase : (Instr.burstReceived 0 0 { phEnd := 64 }).wellFormed = false := by decide
theorem test_wf_burst_blocks : (Instr.burstReceived 0 0 { rx := [⟨0, 0xB3C50E9D#32, [1#66, 1#66]⟩] }).wellFormed = false := by decide
theorem test_wf_burst_raw_length : (Instr.burstReceived 0 0 { rawLen := 569 }).wellFormed = false := by decide
theorem test_wf_burst_raw_bits : (Instr.burstReceived 0 0 { rawLen := 3, rawBits := 8 }).wellFormed = false := by decide
theorem test_wf_can_ident : (Instr.canFrameRx 0 { ident := 2 ^ 32 }).wellFormed = false := by decide
theorem test_wf_can_dlc : (Instr.canFrameRx 0 { dlc := 16 }).wellFormed = false := by decide
theorem test_wf_can_data : (Instr.canFrameRx 0 { data := List.replicate 65 0#8 }).wellFormed = false := by decide
theorem test_wf_kaolin_channels : (Instr.kaoSample [1, 2, 3, 4, 5]).wellFormed = false := by decide
theorem test_wf_flash_length : (Instr.spicDone (List.replicate 257 0#8)).wellFormed = false := by decide
theorem test_wf_frame_steps : (Instr.cellFrameReceived 0 [] [1, 0, -1]).wellFormed = false := by decide
theorem test_wf_boundary_cores : (Instr.periodBoundary 0 [[], [], []] []).wellFormed = false := by decide
theorem test_wf_boundary_codes : (Instr.periodBoundary 0 [[32768], [], [], []] []).wellFormed = false := by decide
theorem test_wf_boundary_ranks : (Instr.periodBoundary 0 [[], [], [], []] [1, 1]).wellFormed = false := by decide
theorem test_wf_window_codes : (Instr.cellWindowEnd [-32769] 0 0).wellFormed = false := by decide
theorem test_wf_die_channels : (Instr.housekeepingRound [1, 2] 0 0).wellFormed = false := by decide
theorem test_wf_comparator_voltage : (Instr.comparatorCrossing 0 [576001] 0).wellFormed = false := by decide
theorem test_wf_phase_add : (Instr.phaseAdd 65536 0).wellFormed = false := by decide
theorem test_wf_phase_shed : (Instr.phaseShed 65536 0 0).wellFormed = false := by decide

theorem test_wf_prbs_lost : (Instr.prbsCheckerLockLost 0 1 2).wellFormed = false := by decide

/-! ## The spec's worked examples -/

/-- R81, R82: from a state of all ones a payload of zeros goes out as zeros, but for bits 39 to 57, whose 39-bit tap has left the seed
and whose 58-bit tap has not; a payload bit comes back 39 and 58 bits later. -/
theorem test_scramble : ((scramble burstSeed 0).1, (scramble burstSeed 1).1, (descramble burstSeed (scramble burstSeed 0xABCDEF).1).1)
    = ((2 ^ 19 - 1) * 2 ^ 39, ((2 ^ 19 - 1) * 2 ^ 39) ^^^ (1 + 2 ^ 39 + 2 ^ 58), 0xABCDEF) := by decide

/-- R111: the stop symbol is taken with one wrong type bit and eight wrong pattern bits, not with two or nine. -/
theorem test_stop_tolerance : (ctlKind (stopPayload ^^^ 1), ctlKind (stopPayload ^^^ 0xFF00), ctlKind (stopPayload ^^^ 3), ctlKind (stopPayload ^^^ 0x1FF00))
    = (.stop, .stop, .error, .error) := by decide

/-- R104: x^7 + x^6 + 1 repeats after 127 bits. -/
theorem test_prbs7_period : (prbsTake 0 127 127).2 % 128 = 127 := by decide

/-- "The Buvex image and the cell table", cell 517: V_cal of V_rep 16,525,558. -/
theorem test_cell_517_vcal : vCal { vcGain := 0x0100CB29, vcOffs := 0xFFFFB15B } 16525558 = 16556654 := by decide

/-- "Grading and modulation of the arms": keys of cells 47 and 388 without and with their wear term. -/
theorem test_grading_keys : (roundHA 17129538 16, roundHA (240000 * 256 : Nat) (2 ^ 16), roundHA 16760439 16, roundHA (400 * 256 : Nat) (2 ^ 16))
    = (1070596, 938, 1047527, 2) := by decide

/-- The same example, R162: 977.467 ns of 998.4 ns after a falling edge gives a rising edge at u = 21, leaving 977.4 ns. -/
theorem test_grading_edge : remainder true 292 292 5004631 5111808 5120 5120000 = (292, .rising, 21, 5004288) := by decide

/-- "The control engine": one sample of the outer-rate PI at its upper limit. -/
theorem test_pi_sample :
    (fun (t : TileSt) => (t.y, t.acc, t.now)) (tilePi (fun k => [3, 5872026, 16777, 33554, 0, 0].getD k 0) [true, true, true, false] [402653, 10989076, 0, 0]
      { acc := 182958728151040 }) = ([10989076, 11046119, 10905076, 5], 182956814130218, 0) := by decide

/-- "Protection": the chopper's first period drops a pulse of 34,000 units and carries it, the second delivers 70,000. -/
theorem test_chopper_carry : (minPulseRule false 24000 16000 34000 4000000, minPulseRule false 24000 16000 70000 4000000)
    = ((0, 34000, true), (70000, 0, false)) := by decide

/-- "Acquisition", system calibration of AIN7: GAIN and OFFS. -/
theorem test_scal_compute : (roundHA (8210040 * 2 ^ 23) 3343699, -(rnd 23 (20597191 * 12583))) = (20597191, -30896) := by decide

/-- R380: the energy of one sample at rated power. -/
theorem test_kaolin_sample : sampleEnergy false (16800000 * 487680) = 74574725120000 := by decide

/-- R380: residues and carries of a block during a power reversal; the direction turns to export. -/
theorem test_kaolin_block :
    (fun (f : KaoFam) => (f.imp, f.exp_, f.net, f.export_, f.rev)) (famRegister
      { imp := 3865470566, net := 2147483648, sImp := 694440 * 2 ^ 32 + 3000000000, sExp := 694444 * 2 ^ 32 + 1908874354, sNet := -4 * 2 ^ 32 + 1091125646 })
    = (694441 * 2 ^ 32 + 2570503270, 694444 * 2 ^ 32 + 1908874354, -4 * 2 ^ 32 + 3238609294, true, 1) := by decide

/-- R413, cases 1 and 2: at tick 160 an input with count 149 is ON when both contacts are closed, and a fault is due when not. -/
theorem test_marl_discrepancy :
    inTick test_marlSet 1 2 2 { bothSafe := true, count := 149 } = { on := true } ∧
    discDue test_marlSet 1 (inTick test_marlSet 1 2 0 { bothSafe := false, count := 149 }) = true := by decide

/-- R500, the Skarra reservations: E_est at 2.85 V and 47 µF, in 0.01 µJ. -/
theorem test_hold_energy : eEst (test_hub.setFld LSS.HOLD_CFG.C_UF 47) 2850 = 12296 := by decide

/-- "Electrical", R484: code 120 is the highest target, 1,200 mV, in 0.1 mV. -/
theorem test_vrc_code : (vrcCodeUv 0, vrcCodeUv 120, vrcCodeUv 127) = (6000, 12000, 12000) := by decide

/-- R466, controller 1 at bus-off: slot 0 keeps its attempt, and is first after the recovery. -/
theorem test_can_first_candidate :
    ((({ test_hub with station := { cans := [{}, { atOff := some 0 }, {}, {}] } } : State).setFld (CAN.STAT.STATE.at 0x1000) 3) |> fun s =>
      match execCanRecoveryDone 1 s with
      | .next t => (t.can 1).first
      | _ => none) = some 0 := by decide

end Sys2Proof.Tests
end

section
/-!
PROOFS. Grading (chapter 05). Both statements of the family fail as they are written; each is refuted at a clause whose hypotheses leave out a
condition: O26 says nothing of copy B of a split pair (R259), O60 does not ask that a list of eligible cells names each cell once.
-/
namespace Sys2Proof.Machine

/-! ## What a copy reads after a write of a record -/

/-- A value that an unlisted key does not read as is read back from where it was stored, in any table. -/
theorem tabGet_tabSet_of_ne_default {α : Type} [DecidableEq α] (d : Nat → α) (t : Tab α) {k : Nat} {v : α} (h : v ≠ d k) :
    tabGet d (tabSet d t k v) k = v := by
  induction t with
  | nil => simp [tabSet, h, tabGet]
  | cons x t ih =>
    obtain ⟨j, w⟩ := x
    simp only [tabSet, if_neg h]
    split
    · simp [tabGet]
    · split
      · simp [tabGet]
      · rename_i hk
        simp [tabGet, Ne.symm hk, ih]

/-- A must-bypass record is not the one of an unlisted cell, so a cell that takes one is must-bypass. -/
theorem Copy.setGrade_mustBypass (c : Copy) (i : Nat) {g : Grade} (h : g.refresh = .mustBypass) :
    ((c.setGrade i g).grade i).refresh = .mustBypass := by
  have hg : g ≠ noGrade i := by
    rintro rfl
    cases h
  exact (congrArg Grade.refresh (tabGet_tabSet_of_ne_default noGrade c.grades hg)).trans h

/-! ## The end of a refresh countdown (R154) -/

/-- Settling a must-bypass cell leaves it must-bypass, wherever it goes in the ranking. -/
theorem settleCopy_mustBypass (e : CtEntry) (i : Nat) (report : Bool) {c : Copy} (h : (c.grade i).refresh = .mustBypass) :
    ((settleCopy e i report c).grade i).refresh = .mustBypass := by
  have hr (c' : Copy) (b : Bool) : ((c'.setGrade i { c.grade i with ranked := b }).grade i).refresh = .mustBypass :=
    c'.setGrade_mustBypass i (g := { c.grade i with ranked := b }) h
  unfold settleCopy
  dsimp only
  split
  · split
    · exact hr _ false
    · exact h
  · split
    · exact h
    · exact hr _ true

/-- A countdown that ends leaves its cell must-bypass. -/
theorem refreshEnd_mustBypass (i : Nat) (s : State) : ((refreshEnd i s).cp.grade i).refresh = .mustBypass := by
  have hs : ((s.onGrade i (fun g => { g with refresh := .mustBypass })).cp.grade i).refresh = .mustBypass :=
    s.cp.setGrade_mustBypass i (g := { s.cp.grade i with refresh := .mustBypass }) rfl
  exact settleCopy_mustBypass _ i false hs

theorem refreshLeft_of_mustBypass {g : Grade} (h : g.refresh = .mustBypass) : refreshLeft g = none := by
  simp [refreshLeft, h]

/-- While the pair is split, a countdown in its last period in copy B ends there, whatever copy A's record of the cell says. -/
theorem refreshCountdownEnd_cpB {s : State} {b : Copy} {cell : Fin 4096} {n : Nat} (hb : s.cpB = some b)
    (hn : refreshLeft (b.grade cell.val) = some n) (h1 : n ≤ 1) :
    ∃ t, exec (.refreshCountdownEnd cell) s = .next t ∧ t.cpB = some (refreshEnd cell.val (viewB s b)).cp := by
  refine ⟨_, rfl, ?_⟩
  have hv : refreshLeft ((viewB s b).cp.grade cell.val) = some n := hn
  simp only [bothCopies, hb, hv, if_pos h1, keepB]

/-- With a countdown due in copy B the command does not leave the state as it was. -/
theorem refreshCountdownEnd_ne_of_cpB_due {s : State} {b : Copy} {cell : Fin 4096} {n : Nat} (hb : s.cpB = some b)
    (hn : refreshLeft (b.grade cell.val) = some n) (h1 : n ≤ 1) : exec (.refreshCountdownEnd cell) s ≠ .next s := by
  intro h
  obtain ⟨t, ht, hB⟩ := refreshCountdownEnd_cpB hb hn h1
  obtain rfl : s = t := Host.Outcome.next.inj (h.symm.trans ht)
  have hb' : b = (refreshEnd cell.val (viewB s b)).cp := Option.some.inj (hb.symm.trans hB)
  have hnone : refreshLeft (b.grade cell.val) = none :=
    refreshLeft_of_mustBypass (hb' ▸ refreshEnd_mustBypass cell.val (viewB s b))
  rw [hnone] at hn
  cases hn

/-- A split pair: cell 7 of arm 5 is must-bypass already in copy A, and in the last period of its countdown in copy B. -/
def refreshDueInCopyB : State :=
  { State.reset with
    ct := { live := [(7, { cfg := { uid := 3, arm := 5 } })] }
    cp := { grades := [(7, { present := true, refreshDue := true, refresh := .mustBypass })] }
    cpB := some { grades := [(7, { present := true, refreshDue := true, refresh := .pending 1 })] } }

/-- Refutes O26, at its third clause: with no countdown left in copy A the command is to change nothing, but while the pair is split it
also ends the countdown that copy B keeps of the same cell (R259), of which the clause's hypotheses say nothing (it lacks `s.cpB = none`). -/
theorem not_gradingQueuesCountdownsAndClears : ¬ Obligations.GradingQueuesCountdownsAndClears := by
  unfold Obligations.GradingQueuesCountdownsAndClears
  rintro ⟨-, -, idle, -⟩
  obtain ⟨t, ht, rfl, -⟩ := idle refreshDueInCopyB 7 (by decide) (by decide)
  exact refreshCountdownEnd_ne_of_cpB_due (n := 1) rfl (by decide) (Nat.le_refl 1) ht

/-! ## Selection from a list that names a cell twice (R166) -/

/-- A charging arm at half a cell: no whole cell, and one rising edge in the middle of the period. -/
def halfCellLevel : SelectIn :=
  { frac := true, charging := true, polNeg := false, level := 2 ^ 19, carry := 0, xPrev := none, t := 400, unit := 2, tc := 400
    band := 0, swapMax := 0 }

/-- Cell 9 under two keys. -/
def cellListedTwice : List Cand := [{ key := 5, cell := 9, pend := false }, { key := 6, cell := 9, pend := false }]

/-- The edge is given to a cell by its index, so both candidates of that index get it. -/
theorem selectArm_cellListedTwice :
    (selectArm halfCellLevel 2 cellListedTwice (fun _ => false)).edge = .rising ∧
    (selectArm halfCellLevel 2 cellListedTwice (fun _ => false)).cmds =
      [{ cell := 9, code := 3, toffs := 100 }, { cell := 9, code := 3, toffs := 100 }] := by decide

/-- Refutes O60, at its fifth clause: it speaks of every list of candidates, and where a list names one cell twice the remainder edge
gives two switching words, not one. The clause lacks the hypothesis that the cells of `elig` are distinct. -/
theorem not_gradingOrdersAndSelects : ¬ Obligations.GradingOrdersAndSelects := by
  unfold Obligations.GradingOrdersAndSelects
  rintro ⟨-, -, -, -, select, -⟩
  obtain ⟨-, -, oneSwitches, -⟩ := select halfCellLevel 2 cellListedTwice (fun _ => false) (by decide) (by decide) (by decide)
  obtain ⟨hedge, hcmds⟩ := selectArm_cellListedTwice
  rw [hedge, hcmds] at oneSwitches
  exact absurd oneSwitches (by decide)

end Sys2Proof.Machine
end

section
/-!
PROOFS. Acquisition (chapter 09). Both statements of the family fail as they are written: of the state's tables they ask only that the register
file is canonical, while the cores (R272) and the filter windows (R285) stand in tables too. Storing what an unlisted key reads takes the key out
of its table; in a table that is not canonical an older entry for the key may stand further on, and is then read in its place.
-/
namespace Sys2Proof.Machine

/-- A hub with its image applied; the converter is blocked, as reset leaves it. -/
def imageHub : State := (State.reset.setFld IMG.STAT.STATE 5).setFlag IMG.STAT.VALID true

/-! ## A core listed out of order (R272, R273) -/

/-- Where the first key lies above `k`, storing at `k` what an unlisted key reads leaves a later entry for `k` in force. -/
theorem tabGet_tabSet_default_of_lt {α : Type} [DecidableEq α] (d : Nat → α) (t : Tab α) {j k : Nat} (v : α) (h : k < j) :
    tabGet d (tabSet d ((j, v) :: t) k (d k)) k = tabGet d t k := by
  have hne : ¬ j = k := Nat.ne_of_gt h
  simp only [tabSet, if_pos h, if_true, tabGet, if_neg hne]

/-- A core whose window is dropped reads what its table gives once the mark of an incomplete window has been stored. -/
theorem core_dropWindow (c : Nat) (s : State) :
    (dropWindow c s).core c = tabGet noCore (tabSet noCore s.acq.cores c { s.core c with partial_ := true }) c := rfl

/-- Core 0 stands behind core 1 in the table, and delivers windows. -/
def coresOutOfOrder : State := { imageHub with acq := { cores := [(1, { q := 1 }), (0, { partial_ := false })] } }

/-- A write of SEQ_LEN 3 changes L of core 0 from 8 to 5, so its window is dropped. -/
theorem acqCoreCfgWrite_coresOutOfOrder :
    exec (.acqCoreCfgWrite .pcie 0 0 0x30#32 0) coresOutOfOrder =
      .next (dropWindow 0 (coresOutOfOrder.fresh.store ACQ.CORE_CFG.addr 0x30)) := rfl

/-- Core 0 with its mark set is as an unlisted core, so the mark is not stored, and the entry behind core 1 stays in force. -/
theorem dropWindow_coresOutOfOrder (w : Nat) :
    ((dropWindow 0 (coresOutOfOrder.fresh.store ACQ.CORE_CFG.addr w)).core 0).partial_ = false := by
  have hcores : (coresOutOfOrder.fresh.store ACQ.CORE_CFG.addr w).acq.cores = coresOutOfOrder.acq.cores := by rw [State.store_frame]; rfl
  have hmark : { (coresOutOfOrder.fresh.store ACQ.CORE_CFG.addr w).core 0 with partial_ := true } = noCore 0 := by
    rw [State.core, hcores]; rfl
  rw [core_dropWindow, hmark, hcores]
  exact congrArg Core.partial_ (tabGet_tabSet_default_of_lt noCore [(0, { partial_ := false })] { q := 1 } Nat.zero_lt_one)

/-- Refutes O31, at its first clause: a core that stands behind a later one in the table of cores stays a delivering one when its sequence
changes. The clause lacks the hypothesis that the table of cores is canonical. -/
theorem not_acquisitionSettingsAndCalibration : ¬ Obligations.AcquisitionSettingsAndCalibration := by
  unfold Obligations.AcquisitionSettingsAndCalibration
  rintro ⟨coreCfg, -⟩
  obtain ⟨t, ht, -, -, -, -, -, drops, -⟩ := coreCfg coresOutOfOrder .pcie 0 0x30#32 0 (by decide) (by decide) (by decide) (by decide)
  obtain rfl := Host.Outcome.next.inj (acqCoreCfgWrite_coresOutOfOrder.symm.trans ht)
  obtain ⟨marked, -⟩ := drops (by decide)
  exact Bool.false_ne_true ((dropWindow_coresOutOfOrder 0x30).symm.trans marked)

/-! ## A filter window listed out of order (R285, R290) -/

/-- Comparator 0, with its filtered output low, lists its window behind comparator 1's, with one asserted sample. -/
def windowsOutOfOrder : State :=
  { (imageHub.setFld CMP.CSTAT.PUP 0).setFld CMP.CSTAT.FILT 0 with acq := { window := [(1, 0), (0, 1)] } }

set_option maxRecDepth 1000 in
/-- Twelve samples of the test level fill the window; a full one is what an unlisted comparator reads, so the old one is back in force. -/
theorem cmpSample_fills_windowsOutOfOrder :
    ((List.replicate 12 0).foldl (cmpSample 0) (windowsOutOfOrder.fresh.store CMP.CCFG.addr 0xC4000000)).acq.window =
      windowsOutOfOrder.acq.window := by decide

/-- A write of TEST alone, CCFG otherwise at its reset word, stores it and lets the comparator take the test level. -/
theorem cmpTestSet_windowsOutOfOrder :
    exec (.cmpTestSet .pcie 0 0x84000000#32) windowsOutOfOrder =
      .next (cmpTest 0 (windowsOutOfOrder.fresh.store CMP.CCFG.addr 0xC4000000)) := rfl

set_option maxRecDepth 1000 in
/-- The last sample of the test level joins the old window, in which it makes two asserted samples of nine. -/
theorem cmpTest_windowsOutOfOrder :
    (cmpTest 0 (windowsOutOfOrder.fresh.store CMP.CCFG.addr 0xC4000000)).flag (CMP.CSTAT.FILT.at (cmpOff 0)) = false := by decide

/-- Refutes O32, at its seventh clause: with the windows listed out of order the filtered output is low at the end of the test level's
samples. The clause lacks the hypothesis that the table of windows is canonical. -/
theorem not_comparatorsLatchAndCount : ¬ Obligations.ComparatorsLatchAndCount := by
  unfold Obligations.ComparatorsLatchAndCount
  rintro ⟨-, -, -, -, -, -, test, -⟩
  obtain ⟨t, ht, -, -, asserted, -⟩ := test windowsOutOfOrder .pcie 0 0x84000000#32 (by decide) (by decide) (by decide) (by decide)
    (by decide) (by decide) (by decide) (by decide) (by decide) (by decide) (by decide)
  obtain rfl := Host.Outcome.next.inj (cmpTestSet_windowsOutOfOrder.symm.trans ht)
  exact Bool.false_ne_true (cmpTest_windowsOutOfOrder.symm.trans asserted)

end Sys2Proof.Machine
end

section
/-!
PROOFS. Converter block and deblock (chapter 10, R300, R301, R354, R359), with the laws of a write that its block accepts and of the fields
that such a write leaves alone.
-/
namespace Sys2Proof.Machine

theorem isCell_of_isHub {s : State} (h : s.isHub = true) : s.isCell = false := by
  simp only [State.isHub, beq_iff_eq] at h
  simp [State.isCell, h]

/-! ## A write that its block accepts -/

/-- A complete write that reaches its block, and that the block accepts, leaves what the block makes of the word. -/
theorem busWrite_of_ok {p : Path} {a : Nat} {w : W32} {dt ticks : Nat} {s s' : State} (hr : Reaches p a s) (ha : a < 0x420000)
    (hg : a ≠ PWM.GCTRL.addr) (hd : devWrite a w.toNat dt ticks s.fresh = .ok s') : busWrite p a w dt ticks s = s' := by
  obtain ⟨hp, hl⟩ := hr
  have hp' : pathOk p s.fresh = true := hp
  have hl' : answerAt a s.fresh = .live := hl
  have hc : commitBusy a w.toNat s.fresh = false := by simp [commitBusy, hg]
  have hm : ¬ 0x420000 ≤ a := by omega
  simp [busWrite, busWriteBytes, hp', hl', hd, hc, hm]

/-! ## Fields kept by a sequence of writes -/

theorem FieldsKept.refl (fs : List Fld) (s : State) : FieldsKept fs s s := fun _ _ _ => rfl

/-- A field of the list may be set once more. -/
theorem FieldsKept.setFld {fs : List Fld} {s t : State} (h : FieldsKept fs s t) (hwf : t.regsWf) {g : Fld} (hg : g ∈ fs)
    (hw : g.lo + g.width ≤ 32) (v : Nat) : FieldsKept fs s (t.setFld g v) := fun f hf ha =>
  (fld_setFld_apart hwf v hw (ha g hg)).trans (h f hf ha)

/-- A register whose whole word is in the list may be written. -/
theorem FieldsKept.store {fs : List Fld} {s t : State} (h : FieldsKept fs s t) {a : Nat} (hg : (⟨a, 0, 32⟩ : Fld) ∈ fs) (w : Nat) :
    FieldsKept fs s (t.store a w) := by
  intro f hf ha
  rw [← h f hf ha]
  obtain ⟨w', hw⟩ | hw := t.store_cases a w <;> rw [hw]
  by_cases hfa : f.addr = a
  · have hwidth : f.width = 0 := by
      have := ha _ hg
      simp only [Fld.apart, hfa, bne_self_eq_false, Bool.false_or, Bool.or_eq_true, decide_eq_true_eq] at this
      omega
    simp [State.fld, bitsAt, hwidth, Nat.mod_one]
  · simp only [State.fld, rd_wr_ne t w' hfa]

/-- A flag apart from the field set reads as before. -/
theorem flag_setFld_apart {s : State} (hwf : s.regsWf) {f g : Fld} (v : Nat) (hg : g.lo + g.width ≤ 32) (hfg : Fld.apart f g = true) :
    (s.setFld g v).flag f = s.flag f :=
  congrArg (· == 1) (fld_setFld_apart hwf v hg hfg)

/-! ## A register word after an accepted write (R3, R5) -/

theorem testBit_bitsAt (w lo n i : Nat) : (bitsAt w lo n).testBit i = (decide (i < n) && w.testBit (lo + i)) := by
  simp [bitsAt, Nat.testBit_mod_two_pow, Nat.testBit_div_two_pow, Nat.add_comm]

/-- A field of RW bits takes what the word written has there. -/
theorem bitsAt_writeMasked {r : RegRow} {lo n : Nat} (old w : Nat) (h32 : lo + n ≤ 32)
    (hrw : ∀ i < n, r.rw.testBit (lo + i) = true ∧ r.w1c.testBit (lo + i) = false) :
    bitsAt (writeMasked r old w) lo n = bitsAt w lo n := by
  refine Nat.eq_of_testBit_eq fun i => ?_
  rw [testBit_bitsAt, testBit_bitsAt]
  by_cases hi : i < n
  · obtain ⟨h1, h2⟩ := hrw i hi
    have h3 : lo + i < 32 := by omega
    have h4 : Nat.testBit (2 ^ 32 - 1) (lo + i) = true := by rw [Nat.testBit_two_pow_sub_one, decide_eq_true h3]
    simp only [writeMasked, maskBits, Nat.testBit_or, Nat.testBit_and, Nat.testBit_xor, h1, h2, h4]
    simp
  · simp [hi]

/-- A field within a register does not see what stands above the register's 32 bits. -/
theorem bitsAt_mod_word (w : Nat) {lo n : Nat} (h32 : lo + n ≤ 32) : bitsAt (w % 2 ^ 32) lo n = bitsAt w lo n := by
  refine Nat.eq_of_testBit_eq fun i => ?_
  rw [testBit_bitsAt, testBit_bitsAt, Nat.testBit_mod_two_pow]
  by_cases hi : i < n
  · simp [hi, show lo + i < 32 by omega]
  · simp [hi]

/-- What an accepted write leaves in a field of RW bits. -/
theorem fld_store {s : State} (hwf : s.regsWf) {r : RegRow} {f : Fld} (w : Nat) (hr : regRow? f.addr = some r) (h32 : f.lo + f.width ≤ 32)
    (hrw : ∀ i < f.width, r.rw.testBit (f.lo + i) = true ∧ r.w1c.testBit (f.lo + i) = false) :
    (s.store f.addr w).fld f = bitsAt w f.lo f.width := by
  have hs : s.store f.addr w = s.wr f.addr (writeMasked r (s.rd f.addr) w) := by simp [State.store, hr]
  rw [hs, State.fld, rd_wr_self hwf, bitsAt_mod_word _ h32, bitsAt_writeMasked _ _ h32 hrw]

/-! ## The writes of CONV_CTRL and DBLK_CFG -/

/-- What decides a deblock does not see what an earlier command sent. -/
theorem deblockRefusal_fresh (s : State) (now : Nat) : deblockRefusal s.fresh now = deblockRefusal s now := rfl

theorem exec_block {p : Path} {s : State} (hr : Reaches p EVR.CONV_CTRL.addr s) (hc : s.isCell = false) :
    exec (.block p) s = .next (blockRequest s.fresh) := by
  have hc' : s.fresh.isCell = false := hc
  have hd : devWrite EVR.CONV_CTRL.addr (2#32).toNat 0 0 s.fresh = .ok (blockRequest s.fresh) := by
    show wrEVR EVR.CONV_CTRL.addr 2 0 s.fresh = _
    simp [wrEVR, hc', show bitAt 2 1 = true from rfl]
  exact congrArg Host.Outcome.next (busWrite_of_ok hr (by decide) (by decide) hd)

theorem exec_deblock {p : Path} {s : State} (dt : Nat) (hr : Reaches p EVR.CONV_CTRL.addr s) (hc : s.isCell = false) :
    exec (.deblock p dt) s = .next (deblockRequest (s.baseNs + dt) s.fresh) := by
  have hc' : s.fresh.isCell = false := hc
  have hd : devWrite EVR.CONV_CTRL.addr (1#32).toNat dt 0 s.fresh = .ok (deblockRequest (s.baseNs + dt) s.fresh) := by
    show wrEVR EVR.CONV_CTRL.addr 1 dt s.fresh = .ok (deblockRequest (s.fresh.baseNs + dt) s.fresh)
    simp [wrEVR, hc', show bitAt 1 1 = false from rfl, show bitAt 1 0 = true from rfl]
  exact congrArg Host.Outcome.next (busWrite_of_ok hr (by decide) (by decide) hd)

theorem exec_dblkCfgWrite {p : Path} {s : State} (w : W32) (hr : Reaches p EVR.DBLK_CFG.addr s) (hb : s.blocked = true) :
    exec (.dblkCfgWrite p w) s = .next (s.fresh.store EVR.DBLK_CFG.addr w.toNat) := by
  have hdb : s.fresh.deblocked = false := by
    have : s.fresh.blocked = true := hb
    simp [State.deblocked, this]
  have hd : devWrite EVR.DBLK_CFG.addr w.toNat 0 0 s.fresh = .ok (s.fresh.store EVR.DBLK_CFG.addr w.toNat) := by
    show wrEVR EVR.DBLK_CFG.addr w.toNat 0 s.fresh = _
    simp [wrEVR, hdb, EVR.DBLK_CFG.addr, EVR.CONV_CTRL.addr, EVR.TRIP_CLR.addr, EVR.TRIP_CFG.addr, EVR.GCFG.addr, EVR.SOFT.addr,
      EVR.FIRED.addr, EVR.MAP.addr, EVR.FCNT.addr]
  exact congrArg Host.Outcome.next (busWrite_of_ok hr (by decide) (by decide) hd)

/-- A field of DBLK_CFG that its RW bits hold takes what the word written has there. -/
theorem fld_store_dblkCfg {s : State} (hwf : s.regsWf) (w : Nat) {f : Fld} (ha : f.addr = EVR.DBLK_CFG.addr) (h32 : f.lo + f.width ≤ 32)
    (hrw : ∀ i < f.width, (0xFFFFFF03).testBit (f.lo + i) = true ∧ (0).testBit (f.lo + i) = false) :
    (s.store EVR.DBLK_CFG.addr w).fld f = bitsAt w f.lo f.width := by
  rw [← ha]
  exact fld_store (r := ⟨0x70024, 4, 1, 0x399A6401, 0xFFFFFF03, 0, 0, 0⟩) hwf w (by rw [ha]; decide) h32 hrw

/-- With no condition against it, the deblock of a blocked converter pends. -/
theorem deblockRequest_of_none {s : State} {now : Nat} (hn : deblockRefusal s now = none) (hb : s.blocked = true) :
    deblockRequest now s = s.setFlag EVR.CONV_STAT.DEBLOCK_PEND true := by
  simp [deblockRequest, hn, hb]

/-- With one, its code stands in REFUSE and nothing pends. -/
theorem deblockRequest_of_some {s : State} {now code : Nat} (hn : deblockRefusal s now = some code) :
    deblockRequest now s = (s.setFld EVR.CONV_STAT.REFUSE code).setFlag EVR.CONV_STAT.DEBLOCK_PEND false := by
  simp [deblockRequest, hn]

/-- REFUSE codes have four bits (R300). -/
theorem deblockRefusal_lt {s : State} {now code : Nat} (h : deblockRefusal s now = some code) : code < 16 :=
  List.mem_range.mp (List.mem_of_find?_eq_some h)

/-! ## What a block and a deblock change (R157, R167, R177) -/

theorem settle_reg (i : Nat) (report : Bool) (s : State) : (settle i report s).reg = s.reg := by
  unfold settle bothCopies
  cases s.cpB <;> rfl

/-- The cells that leave recharge with a block are settled outside the register file: of the registers the block sets BLOCKED alone. -/
theorem blockTakes_reg (s : State) : (blockTakes s).reg = (s.setFlag EVR.CONV_STAT.BLOCKED true).reg := by
  unfold blockTakes
  exact List.foldlRecOn (motive := fun t : State => t.reg = (s.setFlag EVR.CONV_STAT.BLOCKED true).reg) _ _ rfl
    fun t ht i _ => (settle_reg i false t).trans ht

theorem blockTakes_blocked {s : State} (hwf : s.regsWf) : (blockTakes s).blocked = true := by
  have h : (s.setFlag EVR.CONV_STAT.BLOCKED true).flag EVR.CONV_STAT.BLOCKED = true := flag_setFlag_self hwf _ _ (by decide) (by decide)
  rwa [flag_eq, ← blockTakes_reg, ← flag_eq] at h

theorem blockTakes_wf {s : State} (hwf : s.regsWf) : (blockTakes s).regsWf := by
  rw [State.regsWf, blockTakes_reg]
  exact setFlag_wf hwf _ _

/-- Commands that count as block are noted in the cell table alone. -/
theorem cmdsBlocked_frame (s : State) : cmdsBlocked s = { s with ct := (cmdsBlocked s).ct } := by
  unfold cmdsBlocked
  refine List.foldlRecOn (motive := fun t : State => t = { s with ct := t.ct }) _ _ rfl fun t ht u _ => ?_
  split
  · exact congrArg (fun v : State => { v with ct := (t.setHub u.1 (fun h => { h with cmdState := .blocked })).ct }) ht
  · exact ht

theorem cmdsBlocked_reg (s : State) : (cmdsBlocked s).reg = s.reg := by rw [cmdsBlocked_frame]

theorem cmdsBlocked_evr (s : State) : (cmdsBlocked s).evr = s.evr := by rw [cmdsBlocked_frame]

/-- What holds of an unlisted entry and of every changed one holds of all entries of a changed table. -/
theorem tabGet_tabMap {α : Type} [DecidableEq α] (d : Nat → α) (t : Tab α) (f : Nat → α → α) (P : α → Prop) (hd : ∀ k, P (d k))
    (hf : ∀ k x, P (f k x)) (k : Nat) : P (tabGet d (tabMap d t f) k) := by
  induction t with
  | nil => exact hd k
  | cons e t ih =>
    unfold tabMap at ih ⊢
    rw [List.filterMap_cons]
    by_cases hdrop : f e.1 e.2 = d e.1
    · simpa [hdrop] using ih
    · simp only [if_neg hdrop, tabGet]
      split
      · exact hf e.1 e.2
      · exact ih

/-- A deblock starts from zero carries. -/
theorem copyDeblocked_carry (c : Copy) (a : Nat) : ((copyDeblocked c).arm a).carry = 0 :=
  tabGet_tabMap noArm c.arms (fun _ x => { x with carry := 0, xPrev := none, polNeg := false, charging := true })
    (fun x => x.carry = 0) (fun _ => rfl) (fun _ _ => rfl) a

/-! ## The boundary (R300, R301, R359) -/

/-- Before the first boundary REARM_MS does not run; that boundary starts it. -/
def startRearm (now : Nat) (s : State) : State :=
  if s.evr.rearmFrom.isNone then { s with evr := { s.evr with rearmFrom := some now } } else s

/-- A block takes effect at `now`: a deblocked converter goes to block, and REARM_MS counts afresh. -/
def blockTaken (now : Nat) (s : State) : State :=
  { (if s.blocked then s else blockTakes s) with evr := { s.evr with blockReq := false, rearmFrom := some now } }

/-- A pending deblock is evaluated for the second time; a block at the same boundary keeps it from acting. -/
def deblockEvaluated (held : Bool) (now : Nat) (s : State) : State :=
  let s2 := s.setFlag EVR.CONV_STAT.DEBLOCK_PEND false
  match deblockRefusal s2 now with
  | some c => s2.setFld EVR.CONV_STAT.REFUSE c
  | none => if held then s2 else ((cmdsBlocked s2).onCopies copyDeblocked).setFlag EVR.CONV_STAT.BLOCKED false

/-- A boundary starts REARM_MS, takes a block and evaluates a deblock, in this order. -/
theorem convBoundary_eq (now : Nat) (s : State) : convBoundary now s =
    (let s0 := startRearm now s
     let s1 := if s0.evr.blockReq || (mrlSafeBlock s0 && s0.deblocked) then blockTaken now s0 else s0
     if s1.flag EVR.CONV_STAT.DEBLOCK_PEND && s.fld LMP.STAT.STATE != 1 then
       deblockEvaluated (s0.evr.blockReq || mrlSafeBlock s0) now s1 else s1) := rfl

theorem startRearm_frame (now : Nat) (s : State) : startRearm now s = { s with evr := (startRearm now s).evr } := by
  unfold startRearm
  split <;> rfl

theorem startRearm_blockReq (now : Nat) (s : State) : (startRearm now s).evr.blockReq = s.evr.blockReq := by
  unfold startRearm
  split <;> rfl

/-- An evaluation that a block holds off leaves nothing pending, with or without a new REFUSE code. -/
theorem deblockEvaluated_held_cases (now : Nat) (s : State) :
    deblockEvaluated true now s = s.setFlag EVR.CONV_STAT.DEBLOCK_PEND false ∨
    ∃ c, deblockEvaluated true now s = (s.setFlag EVR.CONV_STAT.DEBLOCK_PEND false).setFld EVR.CONV_STAT.REFUSE c := by
  unfold deblockEvaluated
  dsimp only
  split
  · exact .inr ⟨_, rfl⟩
  · exact .inl rfl

/-- A requested block takes effect; a deblock that pends is then evaluated, and cannot undo it. -/
theorem convBoundary_of_blockReq {s : State} (now : Nat) (h : s.evr.blockReq = true) :
    convBoundary now s = blockTaken now (startRearm now s) ∨
    convBoundary now s = deblockEvaluated true now (blockTaken now (startRearm now s)) := by
  have h0 : (startRearm now s).evr.blockReq = true := (startRearm_blockReq now s).trans h
  simp only [convBoundary_eq, h0, Bool.true_or, if_true]
  split
  · exact .inr rfl
  · exact .inl rfl

theorem blockTaken_wf (now : Nat) {s : State} (hwf : s.regsWf) : (blockTaken now s).regsWf := by
  show tabWf regReset (if s.blocked then s else blockTakes s).reg = true
  split
  · exact hwf
  · exact blockTakes_wf hwf

theorem blockTaken_blocked (now : Nat) {s : State} (hwf : s.regsWf) : (blockTaken now s).blocked = true := by
  show (if s.blocked then s else blockTakes s).blocked = true
  split
  · assumption
  · exact blockTakes_blocked hwf

/-- An evaluation held off by a block leaves BLOCKED and everything beside the registers. -/
theorem deblockEvaluated_held (now : Nat) {s : State} (hwf : s.regsWf) :
    (deblockEvaluated true now s).blocked = s.blocked ∧ (deblockEvaluated true now s).evr = s.evr := by
  have hp : (s.setFlag EVR.CONV_STAT.DEBLOCK_PEND false).blocked = s.blocked := flag_setFld_apart hwf _ (by decide) (by decide)
  obtain h | ⟨c, h⟩ := deblockEvaluated_held_cases now s <;> rw [h]
  · exact ⟨hp, rfl⟩
  · exact ⟨(flag_setFld_apart (setFlag_wf hwf _ _) c (by decide) (by decide)).trans hp, rfl⟩

/-- A requested block is in force after the boundary, and REARM_MS counts from it (R301). -/
theorem convBoundary_blocks {s : State} (now : Nat) (hwf : s.regsWf) (h : s.evr.blockReq = true) :
    (convBoundary now s).blocked = true ∧ (convBoundary now s).evr.blockReq = false ∧ (convBoundary now s).evr.rearmFrom = some now := by
  have hwf0 : (startRearm now s).regsWf := by rw [startRearm_frame]; exact hwf
  have hb := blockTaken_blocked now hwf0
  obtain hc | hc := convBoundary_of_blockReq now h <;> rw [hc]
  · exact ⟨hb, rfl, rfl⟩
  · obtain ⟨hblocked, hevr⟩ := deblockEvaluated_held now (blockTaken_wf now hwf0)
    rw [hblocked, hevr]
    exact ⟨hb, rfl, rfl⟩

/-- A pending deblock falls to the boundary: no block asked for, and REARM_MS running. -/
structure DeblockDue (s : State) : Prop where
  noReq : s.evr.blockReq = false
  noSafeBlock : mrlSafeBlock s = false
  pends : s.flag EVR.CONV_STAT.DEBLOCK_PEND = true
  notRestoring : s.fld LMP.STAT.STATE ≠ 1
  rearmed : s.evr.rearmFrom.isSome = true

theorem DeblockDue.boundary {s : State} (now : Nat) (h : DeblockDue s) : convBoundary now s = deblockEvaluated false now s := by
  obtain ⟨hreq, hsafe, hpend, hlmp, hre⟩ := h
  have h0 : startRearm now s = s := by simp [startRearm, Option.isSome_iff_ne_none.mp hre]
  simp [convBoundary_eq, h0, hreq, hsafe, hpend, hlmp]

theorem deblockEvaluated_of_none {s : State} {now : Nat} (hn : deblockRefusal (s.setFlag EVR.CONV_STAT.DEBLOCK_PEND false) now = none) :
    deblockEvaluated false now s =
      ((cmdsBlocked (s.setFlag EVR.CONV_STAT.DEBLOCK_PEND false)).onCopies copyDeblocked).setFlag EVR.CONV_STAT.BLOCKED false := by
  simp [deblockEvaluated, hn]

theorem deblockEvaluated_of_some {s : State} {now code : Nat} (held : Bool)
    (hn : deblockRefusal (s.setFlag EVR.CONV_STAT.DEBLOCK_PEND false) now = some code) :
    deblockEvaluated held now s = (s.setFlag EVR.CONV_STAT.DEBLOCK_PEND false).setFld EVR.CONV_STAT.REFUSE code := by
  simp [deblockEvaluated, hn]

/-- The deblocked converter: nothing pends, the carries are zero, and the event router is as it was. -/
theorem DeblockDue.takes {s : State} {now : Nat} (h : DeblockDue s) (hwf : s.regsWf)
    (hn : deblockRefusal (s.setFlag EVR.CONV_STAT.DEBLOCK_PEND false) now = none) :
    (convBoundary now s).blocked = false ∧ (convBoundary now s).flag EVR.CONV_STAT.DEBLOCK_PEND = false ∧
      (∀ a, ((convBoundary now s).cp.arm a).carry = 0) ∧ (convBoundary now s).evr = s.evr := by
  have hu : ((cmdsBlocked (s.setFlag EVR.CONV_STAT.DEBLOCK_PEND false)).onCopies copyDeblocked).reg =
      (s.setFlag EVR.CONV_STAT.DEBLOCK_PEND false).reg := cmdsBlocked_reg _
  have hwfu : ((cmdsBlocked (s.setFlag EVR.CONV_STAT.DEBLOCK_PEND false)).onCopies copyDeblocked).regsWf := by
    rw [State.regsWf, hu]
    exact setFlag_wf hwf _ _
  rw [h.boundary, deblockEvaluated_of_none hn]
  refine ⟨flag_setFlag_self hwfu _ _ (by decide) (by decide), ?_, copyDeblocked_carry _, cmdsBlocked_evr _⟩
  calc _ = ((cmdsBlocked (s.setFlag EVR.CONV_STAT.DEBLOCK_PEND false)).onCopies copyDeblocked).flag EVR.CONV_STAT.DEBLOCK_PEND :=
        flag_setFld_apart hwfu _ (by decide) (by decide)
    _ = (s.setFlag EVR.CONV_STAT.DEBLOCK_PEND false).flag EVR.CONV_STAT.DEBLOCK_PEND := by rw [flag_eq, hu, ← flag_eq]
    _ = false := flag_setFlag_self hwf _ _ (by decide) (by decide)

/-- The refused deblock: its code stands in REFUSE, nothing pends, and the converter is as it was. -/
theorem DeblockDue.refused {s : State} {now code : Nat} (h : DeblockDue s) (hwf : s.regsWf)
    (hn : deblockRefusal (s.setFlag EVR.CONV_STAT.DEBLOCK_PEND false) now = some code) :
    (convBoundary now s).blocked = s.blocked ∧ (convBoundary now s).flag EVR.CONV_STAT.DEBLOCK_PEND = false ∧
      (convBoundary now s).fld EVR.CONV_STAT.REFUSE = code ∧ (convBoundary now s).cp = s.cp := by
  have hwf2 : (s.setFlag EVR.CONV_STAT.DEBLOCK_PEND false).regsWf := setFlag_wf hwf _ _
  have hlt : code < 2 ^ 8 := Nat.lt_trans (deblockRefusal_lt hn) (by decide)
  rw [h.boundary, deblockEvaluated_of_some false hn]
  refine ⟨?_, ?_, (fld_setFld_self hwf2 _ _ (by decide)).trans (Nat.mod_eq_of_lt hlt), rfl⟩
  · exact (flag_setFld_apart hwf2 _ (by decide) (by decide)).trans (flag_setFld_apart hwf _ (by decide) (by decide))
  · exact (flag_setFld_apart hwf2 _ (by decide) (by decide)).trans (flag_setFlag_self hwf _ _ (by decide) (by decide))

/-! ## O34 -/

/-- Settles O34: a BLOCK write is a request that the next boundary meets whatever pends; a deblock passes two evaluations, at the write and
at its boundary, and each takes the lowest code that holds. -/
theorem converterBlockAndDeblockRequests : Obligations.ConverterBlockAndDeblockRequests := by
  unfold Obligations.ConverterBlockAndDeblockRequests
  refine ⟨?block, ?pends, ?refused, ?config, fun s now hwf h => convBoundary_blocks now hwf h, ?takes, ?fails⟩
  case block =>
    intro s p _ hr hhub
    exact ⟨_, exec_block hr (isCell_of_isHub hhub), rfl, rfl, rfl⟩
  case pends =>
    intro s p dt hwf hr hc hb hn
    have hb' : s.fresh.blocked = true := hb
    refine ⟨_, exec_deblock dt hr hc, ?_⟩
    rw [deblockRequest_of_none ((deblockRefusal_fresh s _).trans hn) hb']
    exact ⟨flag_setFlag_self hwf _ _ (by decide) (by decide), rfl,
      (FieldsKept.refl _ s).setFld hwf (by simp) (by decide) _, rfl⟩
  case refused =>
    intro s p dt code hwf hr hc hn
    have hlt : code < 2 ^ 8 := Nat.lt_trans (deblockRefusal_lt hn) (by decide)
    have hwf1 : (s.fresh.setFld EVR.CONV_STAT.REFUSE code).regsWf := setFld_wf hwf _ _
    refine ⟨_, exec_deblock dt hr hc, ?_⟩
    rw [deblockRequest_of_some ((deblockRefusal_fresh s _).trans hn)]
    refine ⟨?_, flag_setFlag_self hwf1 _ _ (by decide) (by decide), rfl, ?_, rfl⟩
    · exact (fld_setFld_apart hwf1 _ (by decide) (by decide)).trans
        ((fld_setFld_self (s := s.fresh) hwf _ _ (by decide)).trans (Nat.mod_eq_of_lt hlt))
    · have h1 : FieldsKept [EVR.CONV_STAT.REFUSE, EVR.CONV_STAT.DEBLOCK_PEND] s (s.fresh.setFld EVR.CONV_STAT.REFUSE code) :=
        (FieldsKept.refl _ s).setFld (t := s.fresh) hwf (by simp) (by decide) _
      exact h1.setFld hwf1 (by simp) (by decide) _
  case config =>
    intro s p w hwf hr _ hb
    have hwf' : s.fresh.regsWf := hwf
    refine ⟨_, exec_dblkCfgWrite w hr hb, fld_store_dblkCfg hwf' _ rfl (by decide) (by decide),
      fld_store_dblkCfg hwf' _ rfl (by decide) (by decide), ?_, ?_, ?_, (FieldsKept.refl _ s).store (t := s.fresh) (by simp) _, ?_⟩
    · exact congrArg (· == 1) (fld_store_dblkCfg hwf' _ rfl (by decide) (by decide))
    · exact congrArg (· == 1) (fld_store_dblkCfg hwf' _ rfl (by decide) (by decide))
    · rw [State.store_frame]; rfl
    · rw [State.store_frame]; rfl
  case takes =>
    intro s now hwf hreq hsafe hpend hlmp hre hn
    exact DeblockDue.takes ⟨hreq, hsafe, hpend, hlmp, hre⟩ hwf hn
  case fails =>
    intro s now code hwf hreq hsafe hpend hlmp hre hn
    exact DeblockDue.refused ⟨hreq, hsafe, hpend, hlmp, hre⟩ hwf hn

end Sys2Proof.Machine
end

section
/-!
PROOFS. The event router and the PWM generator (chapter 10). Both statements fail as they are written, each at one clause: O33 asks of the
state's tables only that the register file is canonical, while the instants of the trip outputs (R299) stand in a table too; O35 leaves out
that the edge which an override makes opens blanking windows (R314).
-/
namespace Sys2Proof.Machine

/-! ## A trip output listed out of order (R299) -/

/-- In a hub that runs, the command fires its source and does nothing else. -/
theorem exec_eventFire_hub {s : State} (k : Fin 128) (dt : Nat) (hh : s.isHub = true) (hu : s.clodsUp = true) :
    exec (.eventFire k dt) s = .next (fireSource k.val (s.period.timeNs + dt) s.fresh) := by
  have hc : s.cellLive = false := by simp [State.cellLive, State.cellOn, isCell_of_isHub hh]
  show execEventFire k s dt = _
  simp [execEventFire, hu, hc]

/-- Source 127 is asserted and mapped to TRIP_OUT[0], whose entry stands behind that of TRIP_OUT[1] in the table of instants. -/
def tripsOutOfOrder : State :=
  { imageHub.setFld (EVR.MAP.ACTIONS.at (4 * 127)) 8 with evr := { soft := true, tripAt := [(1, 5), (0, 7)] } }

/-- Fired at instant 0, the source stores the instant that an unlisted output reads. -/
theorem fireSource_tripsOutOfOrder :
    (fireSource 127 0 tripsOutOfOrder.fresh).evr.tripAt = tabSet zeroNat [(1, 5), (0, 7)] 0 0 := by decide

/-- Refutes O33, at its sixth clause: an output that goes active at instant 0, and stands behind a later one in the table of instants, keeps
its old instant. The clause lacks the hypothesis that this table is canonical. -/
theorem not_eventsFireOnceAndAct : ¬ Obligations.EventsFireOnceAndAct := by
  unfold Obligations.EventsFireOnceAndAct
  rintro ⟨-, -, -, -, -, trip, -⟩
  obtain ⟨t, ht, -, -, wentActive, -⟩ := trip tripsOutOfOrder 127 0 0 (by decide) (by decide) (by decide) (by decide) (by decide) (by decide)
  obtain rfl := Host.Outcome.next.inj ((exec_eventFire_hub 127 0 (by decide) (by decide)).symm.trans ht)
  obtain ⟨-, instant⟩ := wentActive (by decide)
  have hold : tabGet zeroNat (fireSource 127 0 tripsOutOfOrder.fresh).evr.tripAt 0 = 7 := by
    rw [fireSource_tripsOutOfOrder]
    exact tabGet_tabSet_default_of_lt zeroNat [(0, 7)] 5 Nat.zero_lt_one
  exact absurd (hold.symm.trans instant) (by decide)

/-! ## The edge that an override makes (R312, R314) -/

/-- A deblocked hub whose pair 0 drives PWMH in a group that has started; fault input 0 is blanked for 40 ns from each edge of that group. -/
def pairDriving : State :=
  { ((((imageHub.setFlag EVR.CONV_STAT.BLOCKED false).setFlag (PWM.GRP_CFG.EN.at (grpOff 0)) true).setFld
      (PWM.FLT_CFG.BLANK_GRP.at (fltOff 0)) 1).setFld (PWM.FLT_CFG.BLANK.at (fltOff 0)) 5) with
    pwm := { pairs := [(0, { gen := .high })], grps := [(0, { lastS := some 0 })] } }

/-- A write of OVR_MODE 1 does to the pair what R312 says, and the edge it makes opens blanking. -/
theorem exec_pwmOverrideWrite_pairDriving :
    exec (.pwmOverrideWrite .pcie 0 8#32) pairDriving = .next (blankMoved 0 pairDriving.fresh (wrPairCfg 0 8 pairDriving.fresh)) := rfl

/-- The pair drove PWMH and drives nothing now, so the window of fault input 0 opens, for 5 times 8 ns from instant 0. -/
theorem blankTo_pairDriving : (blankMoved 0 pairDriving.fresh (wrPairCfg 0 8 pairDriving.fresh)).pwm.blankTo = [(0, 40)] := by decide

/-- Refutes O35, at its fourth clause: a pair that OVR_MODE 1 turns off while it drives makes an edge, which opens the blanking windows of its
group, while the clause has nothing of the PWM generator change but the pair. -/
theorem not_pwmGroupsPairsAndFaults : ¬ Obligations.PwmGroupsPairsAndFaults := by
  unfold Obligations.PwmGroupsPairsAndFaults
  rintro ⟨-, -, -, override, -⟩
  obtain ⟨t, ht, -, onlyPair, -⟩ := override pairDriving .pcie 0 8#32 (by decide) (by decide) (by decide) (by decide) (by decide) (by decide)
  obtain rfl := Host.Outcome.next.inj (exec_pwmOverrideWrite_pairDriving.symm.trans ht)
  have hsame : (blankMoved 0 pairDriving.fresh (wrPairCfg 0 8 pairDriving.fresh)).pwm.blankTo = [] := congrArg Pwm.blankTo onlyPair
  exact absurd (blankTo_pairDriving.symm.trans hsame) (by decide)

end Sys2Proof.Machine
end
